-- ==== Sys2Proof/Word.lean ====
section
/-! DEFINITION. The word types of the K16 and their plainest arithmetic. -/

namespace Sys2Proof

/-- A 32-bit register word. -/
abbrev Word := BitVec 32

/-- A byte. -/
abbrev Byte := BitVec 8

/-- A 16-bit half-word. -/
abbrev Half := BitVec 16

/-- A 48-bit encoder position or group time. -/
abbrev Pos := BitVec 48

/-- A 36-bit system address (R19). -/
abbrev SysAddr := BitVec 36

/-- A 128-column array plane: one bit in each of the 16,384 PEs. -/
abbrev Plane := BitVec 16384

end Sys2Proof
end

