-- ==== Sys2Proof/Syntax.lean ====
section
/-! DEFINITION. The commands of the K16: one constructor per row of spec/opcode_table.json, in the table's order.
Times are LCLK edges unless a docstring says otherwise; a register-write command carries the value written. -/

namespace Sys2Proof

/-- The three inputs of an encoder (R91). -/
inductive EncInput where
  | a | b | z
  deriving DecidableEq, Repr, Inhabited

/-- The presence registers whose writes act (R124, R137). -/
inductive PrsReg where
  | cfg | lag | thr
  deriving DecidableEq, Repr, Inhabited

/-- One LCLK of the pixel port (Table 7-1), with the lane faults that the sensor logic reports beside it (Table 7-2). -/
structure PixelWord where
  valid : Bool := true
  data : List Byte := []
  sol : Bool := false
  eol : Bool := false
  crcErr : Bool := false
  syncLost : Bool := false
  laneErr : Half := 0
  deriving DecidableEq, Repr, Inhabited

/-- The two Dynak ports (R398). -/
inductive DynPort where
  | up | dn
  deriving DecidableEq, Repr, Inhabited

/-- Ring and window response codes (Table 3-2). -/
inductive RespCode where
  | ok | refusedNotag | poweredDown | decode | poison | timeout
  deriving DecidableEq, Repr, Inhabited

/-- The parties that use SEQ_PEG_REQ (R344). -/
inductive PegParty where
  | host | jig | supv
  deriving DecidableEq, Repr, Inhabited

/-- The commands (log 1). -/
inductive Instr where
  /-- VAON_RISE (R35): VAON rises through its power-on threshold; the K16 leaves UNPOWERED for SUPERVISE, loads the rail table and scans the log. -/
  | vaonRise
  /-- VAON_FALL (R729): VAON falls below its threshold; the K16 becomes UNPOWERED and queued log records are lost. -/
  | vaonFall (writing : Option (Fin 4)) (held : Bool)
  /-- MODE_REQ (R45): A host write of MODE_REQ with GO set submits a mode request that is judged against the permitted transitions and preconditions; `caused` says that a caused transition falls on the same PCLK edge (R50). -/
  | modeReq (v : Byte) (caused : Bool := false)
  /-- PWR_MODE_REQ (R45): A Joist write of PWR_MODE_REQ with GO set submits a mode request with its own result register; `caused` as in MODE_REQ. -/
  | pwrModeReq (v : Word) (caused : Bool := false)
  /-- CAPTURE_ENTRY (R37): An accepted capture-mode request takes effect 16 LCLK after acceptance; HWM and ACC are loaded and capture begins. -/
  | captureEntry (t : Nat)
  /-- CAPTURE_EXIT (R39): A pending request for SETUP takes effect when the current frame ends, or at the next LCLK if no frame is open. -/
  | captureExit (t : Nat)
  /-- CP_TRANSFER (R62): A whole control-port transfer framed by CP_CS_N is shifted and its staged writes commit in address order at the rise of CP_CS_N. -/
  | cpTransfer (sent : List Byte) (partBit : Bool)
  /-- SESS_OPEN (R72): SESS_CTRL.OPEN starts a session at FIELD and increments EPOCH, or restarts the timer of an active session. -/
  | sessOpen
  /-- SESS_CLOSE (R72): SESS_CTRL.CLOSE ends the session with the effects of R74. -/
  | sessClose
  /-- SESS_KEEP (R72): SESS_CTRL.KEEP restarts the session timer only. -/
  | sessKeep
  /-- SESSION_EXPIRY (R73): The session timer reaches SESS_TMO x 10 ms with no good transfer and the session ends with EXPIRED set. -/
  | sessionExpiry
  /-- HOST_DOORBELL (R77): A write of PWR_HOST_DOORBELL places a code in DOORBELL_CODE and sets IRQ_STATUS.DOORBELL. -/
  | hostDoorbell (v : Byte)
  /-- DOORBELL_CODE_READ (R77): A read that shifts out DOORBELL_CODE completely returns the code and clears it. -/
  | doorbellCodeRead
  /-- WIN_GO (R78): A commit of WIN_CTRL with GO set starts a window access to the system address in WIN_ADDR. -/
  | winGo (v : Byte)
  /-- WIN_STREAM_WRITE (R82): With STREAM and DIR set, a commit of WIN_DATA's highest byte starts a window write as if GO had been written. -/
  | winStreamWrite (v : Word)
  /-- WIN_STREAM_READ (R82): With STREAM set and DIR clear, reading WIN_DATA's highest byte starts the next window read. -/
  | winStreamRead
  /-- WIN_COMPLETE (R84): A window access receives its response; DONE and CODE are set, WIN_DATA is updated and WIN_ADDR may advance. -/
  | winComplete
  /-- SVC_START (R671): SVC_CTRL.START issues a new challenge for the requested level, or is refused with LOCKOUT. -/
  | svcStart (factory : Bool)
  /-- SVC_DATA (R672): A write of SVC_DATA appends one response byte to the response buffer. -/
  | svcData (v : Byte)
  /-- SVC_SUBMIT (R673): SVC_CTRL.SUBMIT starts verification of the response with RESULT BUSY and discards the challenge. -/
  | svcSubmit
  /-- SVC_VERIFY_DONE (R673): Verification ends with GRANTED, STALE, SEALED, NO_KEY or BAD_SIG, and GRANTED raises the session level. -/
  | svcVerifyDone
  /-- SVC_DROP (R675): SVC_CTRL.DROP returns the session level to FIELD. -/
  | svcDrop
  /-- CHALLENGE_EXPIRY (R674): A challenge is discarded 60 s after its START. -/
  | challengeExpiry
  /-- LADDER_REQ (R627): A host write of LADDER_REQ with GO set requests a ladder state, a wake for S0 or an entry that waits for quiescence. -/
  | ladderReq (v : Byte)
  /-- PWR_LADDER_REQ (R627): A Joist write of PWR_LADDER_REQ with GO set requests a ladder state with its own result register. -/
  | pwrLadderReq (v : Word)
  /-- LADDER_QUIESCENT (R627): The quiescence conditions of an accepted ladder entry hold and the entry proceeds. -/
  | ladderQuiescent
  /-- LADDER_QTMO (R627): Quiescence is not reached within PWR_QTMO and the ladder request is refused with REFUSED_PRECOND. -/
  | ladderQtmo
  /-- LADDER_ENTRY_DONE (R625): A ladder entry completes its plane moves, save block and rail steps, and MODE.LADDER shows the target. -/
  | ladderEntryDone (ns : Nat)
  /-- WAKE_TIMER_EXPIRY (R628): PWR_WAKE_TIMER milliseconds pass in a ladder state and the device wakes to S0. -/
  | wakeTimerExpiry
  /-- LADDER_EXIT_DONE (R626): The exit completes with PLL lock, retraining and restores, and MODE.LADDER reads S0; `fails` says that the wake fails instead (R43). -/
  | ladderExitDone (ns : Nat) (image : Bool) (drifts : List (Option Int)) (fails : Bool := false)
  /-- PWR_DOM_OFF_WRITE (R617): A write of PWR_DOM_OFF switches permitted domains off or on and refuses bits not permitted in the mode. -/
  | pwrDomOffWrite (w : Fin 3) (v : Word)
  /-- TILE_ON (R618): A tile switched on reaches ON within 2 µs and starts cleared. -/
  | tileOn (t : Fin 64)
  /-- SILL_DRAINED (R758): After SILL is switched off, the last flit on the Sill ring reaches its NI and the domain goes OFF. -/
  | sillDrained
  /-- PWR_RESUME_BASE_WRITE (R624): A write of PWR_RESUME_BASE is accepted in SETUP within the usable capacity and outside the far store, and sets VALID. -/
  | pwrResumeBaseWrite (v : Word)
  /-- ENC_LEVEL_ACCEPT (R91): An encoder input level that stays stable for FILT LCLK is accepted; shorter changes add to ENCn_GLITCH. -/
  | encLevelAccept (n : Fin 3) (inp : EncInput) (level : Bool) (held : Nat)
  /-- ENC_COUNT (R92): A synchronised A/B transition changes the position by one count, or adds to QERR when both change together. -/
  | encCount (n : Fin 3) (t : Nat)
  /-- ENC_SPEED_SAMPLE (R96): Each AON millisecond the speed is stored and judged for IMPLAUS and STILL. -/
  | encSpeedSample
  /-- ENC_POS_PRESET (R97): A write of ENCn_POS_HI loads the position, and the HWM for the trigger encoder, unless it is refused during capture. -/
  | encPosPreset (n : Fin 3) (v : Word)
  /-- ENC_TRIG_CFG_WRITE (R756): A write of ENC_TRIG_CFG takes effect except for a change of SEL during capture, which is refused. -/
  | encTrigCfgWrite (v : Word)
  /-- ENC_DIV_M_WRITE (R106): A write of ENC_DIV_M commits the staged N with M, or is refused when either is zero or N < M. -/
  | encDivMWrite (v : Word)
  /-- LTIMER_WRITE (R102): A write of ENC_LTIMER in FREE-RUN reschedules the next timer trigger or stops the timer. -/
  | ltimerWrite (v : Word) (t : Nat)
  /-- LINE_TIMER_TRIGGER (R102): The line timer expires in FREE-RUN and issues a trigger. -/
  | lineTimerTrigger
  /-- EXPO_START (R107): EXPO asserts EXPO_DLY after a trigger, or at a LINE target time in LOCKSTEP. -/
  | expoStart
  /-- EXPO_END (R107): EXPO deasserts when its EXPO_W interval ends. -/
  | expoEnd
  /-- MARK_QUEUE_PUSH (R108): A write of MARKm_Q_HI pushes a mark entry, or is discarded into FULL_DROP when the queue is full. -/
  | markQueuePush (m : Fin 4) (v : Word)
  /-- MARK_QUEUE_FIRE (R109): The head mark entry fires when the source position reaches its target, starting a pulse and counting LATE when passed. -/
  | markQueueFire (m : Fin 4) (t : Nat)
  /-- MARK_NOW (R110): A write of MARKm_NOW starts a pulse 2 LCLK after it reaches LINEIO. -/
  | markNow (m : Fin 4) (v : Word) (t : Nat)
  /-- GOR_N_FALL (R112): The GOR_N ball crosses its threshold low and outputs with GOR_SRC = 1 start a mark pulse. -/
  | gorNFall (t : Nat)
  /-- MARK_PULSE_END (R111): A MARK pulse reaches the end of its width and the output deasserts. -/
  | markPulseEnd (m : Fin 4)
  /-- PRS_CODE_END (R124): At the end of each code period the correlation is classed and the presence state, hold and fail state are updated. -/
  | prsCodeEnd (prx : BitVec 496) (amb : List (BitVec 10)) (t : Nat)
  /-- PRS_CFG_WRITE (R137): Writes to PRS_CFG, PRS_LAG and PRS_THR commit at once and take effect at the next code period. -/
  | prsCfgWrite (r : PrsReg) (v : Word)
  /-- STROBE_PULSE_START (R144): A normal strobe pulse starts OFS LCLK after EXPO on a line selected by PAT, unless skipped. -/
  | strobePulseStart (n : Fin 8)
  /-- STROBE_JUDGE (R147): At the end of the measurement window a pulse is judged open, short or verified; the 80 samples of ISNS and VSNS are in microvolts at the balls (R738). -/
  | strobeJudge (n : Fin 8) (isns vsns : List Nat)
  /-- STROBE_PULSE_END (R148): A strobe gate turns off; a pulse too short to judge counts as unverified. -/
  | strobePulseEnd (n : Fin 8)
  /-- STUCK_ON_CHECK (R150): After a gate-off, ISNS is sampled over the window after SETTLE to detect a regulator stuck on; samples as in STROBE_JUDGE. -/
  | stuckOnCheck (n : Fin 8) (isns : List Nat)
  /-- STB_TEST (R145): STBn_TEST.GO in SETUP starts one test pulse; in other modes it sets TEST_REFUSED. -/
  | stbTest (n : Fin 8) (v : Word) (t : Nat)
  /-- GUARDED_WINDOW_END (R153): At the end of a guarded window a pending proof request tests the predicted gap and sets the ISET DAC for a proof pulse. -/
  | guardedWindowEnd
  /-- PROOF_PULSE_START (R153): The proof gate turns on 200 LCLK after the window end for SETTLE + 80 LCLK. -/
  | proofPulseStart (n : Fin 8)
  /-- ILK_ASSERT (R157): ILK_N goes low and every strobe gate turns off within 50 ns. -/
  | ilkAssert (t : Nat)
  /-- ILK_RELEASE (R157): ILK_N rises and the strobe channels await their next due pulse. -/
  | ilkRelease (t : Nat)
  /-- ONTIME_HI_WRITE (R158): A write of STBn_ONTIME_HI loads the staged 48-bit on-time count. -/
  | ontimeHiWrite (n : Fin 8) (v : Word)
  /-- PIXEL_WORD (R166): The packer takes one pixel-port word, pairing PX_SOL with a pending trigger and ending lines at PX_EOL. -/
  | pixelWord (w : PixelWord) (t : Nat)
  /-- SLOT_FILLED (R174): A line's header and pixels are written and its slot becomes FILLED. -/
  | slotFilled
  /-- LTMO_EXPIRY (R168): ING_LTMO expires after a trigger; an unpaired trigger is counted missing and a line still filling ends with CUT; `sol`: a PX_SOL arrives on that edge (R189). -/
  | ltmoExpiry (t : Nat) (sol : Bool := false)
  /-- ING_CFG_WRITE (R191): A write of ING_CFG applies EN and FILL and changes DEPTH16 or CMP_EN only in SETUP with every slot free. -/
  | ingCfgWrite (v : Word)
  /-- CMP_COMMIT (R178): ING_CMP_CTRL.COMMIT accepts the staged companding table or refuses it with ING_ERR.CMP. -/
  | cmpCommit (v : Word)
  /-- LDWAIT_EXPIRY (R181): ING_LDWAIT passes with a LOADL waiting at the head; the burst is completed with fill lines and STARVED is set; `filled`: a line becomes FILLED on that edge, and the event of R174 is part of this command (R189). -/
  | ldwaitExpiry (filled : Bool := false)
  /-- ARR_PUSH (R228): The ARR-prefixed instruction pushes one macro-op word into the Truss queue, stalling while the queue is full. -/
  | arrPush
  /-- MACROOP_COMPLETE (R222): A macro-op completes; flags and registers are updated and the next queued macro-op may start. -/
  | macroopComplete (t wait : Nat)
  /-- ARR_MOV (R229): Macro-op MOV copies an n-plane field. -/
  | arrMov
  /-- ARR_BOOL (R229): Macro-op BOOL applies truth-table code F bit by bit to two fields. -/
  | arrBool
  /-- ARR_SETC (R229): Macro-op SETC writes the constant W2 into a field. -/
  | arrSetc
  /-- ARR_SHL (R229): Macro-op SHL shifts a field up by X planes with zeros entering. -/
  | arrShl
  /-- ARR_SHR (R229): Macro-op SHR shifts a field down by X planes with zeros entering. -/
  | arrShr
  /-- ARR_SAR (R229): Macro-op SAR shifts a field down with copies of its top plane entering. -/
  | arrSar
  /-- ARR_NBR (R230): Macro-op NBR moves a field one step from a neighbour under the shape, direction and edge policies of OPT. -/
  | arrNbr
  /-- ARR_ACT_LD (R231): ACT subcode LD loads A from S1. -/
  | arrActLd
  /-- ARR_ACT_AND (R231): ACT subcode AND sets A to A AND S1. -/
  | arrActAnd
  /-- ARR_ACT_OR (R231): ACT subcode OR sets A to A OR S1. -/
  | arrActOr
  /-- ARR_ACT_ANDN (R231): ACT subcode ANDN sets A to A AND NOT S1. -/
  | arrActAndn
  /-- ARR_ACT_ALL (R231): ACT subcode ALL sets A to 1 in every PE. -/
  | arrActAll
  /-- ARR_ACT_ST (R231): ACT subcode ST writes A into plane D in every PE. -/
  | arrActSt
  /-- ARR_ACT_TILE (R231): ACT subcode TILE keeps A only in tiles within the range in X. -/
  | arrActTile
  /-- ARR_IDX (R229): Macro-op IDX writes each PE's chain position, row, column or tile. -/
  | arrIdx
  /-- ARR_ADD (R250): Macro-op ADD writes the modulo-2^n sum of two fields. -/
  | arrAdd
  /-- ARR_SUB (R250): Macro-op SUB writes the modulo-2^n difference of two fields. -/
  | arrSub
  /-- ARR_CMP (R250): Macro-op CMP writes 1 where the comparison named by its subcode holds. -/
  | arrCmp
  /-- ARR_MULU (R251): Macro-op MULU writes the exact unsigned product in a data-dependent time. -/
  | arrMulu
  /-- ARR_MULS (R251): Macro-op MULS writes the exact signed product. -/
  | arrMuls
  /-- ARR_MULA (R252): Macro-op MULA writes an approximate product with the low s columns shaved. -/
  | arrMula
  /-- ARR_DIVU (R253): Macro-op DIVU writes the unsigned quotient, with divide-by-zero results and DIVZ. -/
  | arrDivu
  /-- ARR_DIVS (R253): Macro-op DIVS writes the signed quotient truncated toward zero. -/
  | arrDivs
  /-- ARR_REMU (R253): Macro-op REMU writes the unsigned remainder. -/
  | arrRemu
  /-- ARR_REMS (R253): Macro-op REMS writes the signed remainder with the dividend's sign. -/
  | arrRems
  /-- ARR_GOR (R205): Macro-op GOR reduces a plane across active PEs and updates GOR_OUT, TRS_GOR and the tile bits at completion. -/
  | arrGor
  /-- ARR_POPC (R232): Macro-op POPC counts active PEs with S1 = 1 into a pending Joist register. -/
  | arrPopc
  /-- ARR_LOADL (R181): Macro-op LOADL claims FILLED lines of the oldest frame and transfers a burst into planes. -/
  | arrLoadl
  /-- ARR_STL (R233): Macro-op STL reads a chain segment into a store buffer for the Kerf coder. -/
  | arrStl
  /-- ARR_STT (R233): Macro-op STT reads one tile in mesh order into a store buffer for the Kerf coder. -/
  | arrStt
  /-- ARR_CVTF (R257): Macro-op CVTF converts binary32 planes to fixed point with rounding, saturation and NaN handling. -/
  | arrCvtf
  /-- ARR_STK_CLEAR (R229): STK subcode 0 clears the selected sticky flags in active PEs. -/
  | arrStkClear
  /-- ARR_STK_READ (R229): STK subcode 1 copies the selected sticky flag into a plane. -/
  | arrStkRead
  /-- ARR_TOKEN (R232): Macro-op TOKEN writes W2 into a pending Joist register, optionally after both store buffers drain. -/
  | arrToken
  /-- TRS_FLUSH (R241): TRS_CTRL.FLUSH discards every waiting queue entry. -/
  | trsFlush
  /-- FAR_MOVE_COMPLETE (R291): A far move between yard and far store ends, OK or aborting with POISON; `stall` is the page-in stall in ACLK since Tally last counted it, `before` the stall that fell before the last frame end (R274). -/
  | farMoveComplete (stall : Nat) (before : Nat := 0)
  /-- TLY_PIN_B (R279): Tally command PIN_B brings planes to BENCH and pins them there. -/
  | tlyPinB
  /-- TLY_PIN_Y (R279): Tally command PIN_Y brings FAR planes to YARD and pins them against the far store. -/
  | tlyPinY
  /-- TLY_UNPIN (R279): Tally command UNPIN removes both pins. -/
  | tlyUnpin
  /-- TLY_PREFETCH (R279): Tally command PREFETCH brings FAR planes to YARD. -/
  | tlyPrefetch
  /-- TLY_SPILL (R279): Tally command SPILL removes pins and moves BENCH or YARD planes to FAR. -/
  | tlySpill
  /-- TLY_ADOPT (R279): Tally command ADOPT makes planes FAR without write-back and clears POISON. -/
  | tlyAdopt
  /-- TLY_DISCARD (R279): Tally command DISCARD makes planes ZERO and clears pins and POISON. -/
  | tlyDiscard
  /-- TLY_STAGE (R282): Tally command STAGE stages the working set and sets STAGED, or ends LIMIT or BAD. -/
  | tlyStage
  /-- TLY_CMD_BOUNDARY (R280): A written Tally command acts on the map at the first macro-op boundary. -/
  | tlyCmdBoundary
  /-- TLY_CFG_WRITE (R283): A write of TLY_CFG changes MODE or FAR_EN only when the Truss and Tally are idle and the conditions hold. -/
  | tlyCfgWrite (v : Word)
  /-- TLY_FAR_BASE_WRITE (R267): A write of TLY_FAR_BASE is accepted only in SETUP with FAR_EN clear and within capacity. -/
  | tlyFarBaseWrite (v : Word)
  /-- TLY_WS_WRITE (R282): A write to a TLY_WSi register changes the working set and clears STAGED. -/
  | tlyWsWrite (k : Fin 16) (b : Bool) (v : Word)
  /-- NOP (R303): Instruction NOP does nothing. -/
  | nop
  /-- END (R330): Instruction END makes the task OFF, or aborts it with PEG_HELD when it holds a peg. -/
  | endTask
  /-- WAIT (R332): Instruction WAIT returns pending events in its mask or holds the task until one sets. -/
  | wait
  /-- RSYNC (R311): Instruction RSYNC waits for the task's ring responses and returns the first non-OK code. -/
  | rsync
  /-- PEG_ACQ (R345): Instruction PEG.ACQ tries to acquire a peg and writes the result word. -/
  | pegAcq
  /-- PEG_REL (R347): Instruction PEG.REL releases a peg held by the task. -/
  | pegRel
  /-- PEG_MEND (R346): Instruction PEG.MEND makes a BROKEN peg owned by the task HELD. -/
  | pegMend
  /-- ADD (R303): Instruction ADD writes the modulo-2^32 sum of two registers. -/
  | add
  /-- SUB (R303): Instruction SUB writes the modulo-2^32 difference of two registers. -/
  | sub
  /-- AND (R303): Instruction AND writes the bitwise AND. -/
  | and
  /-- OR (R303): Instruction OR writes the bitwise OR. -/
  | or
  /-- XOR (R303): Instruction XOR writes the bitwise XOR. -/
  | xor
  /-- ANDN (R303): Instruction ANDN writes rs1 AND NOT rs2. -/
  | andn
  /-- SHL (R303): Instruction SHL shifts left by g[rs2] mod 32. -/
  | shl
  /-- SHR (R303): Instruction SHR shifts right logically by g[rs2] mod 32. -/
  | shr
  /-- SAR (R303): Instruction SAR shifts right arithmetically by g[rs2] mod 32. -/
  | sar
  /-- MUL (R303): Instruction MUL writes the low 32 bits of the product. -/
  | mul
  /-- MULHU (R303): Instruction MULHU writes the high 32 bits of the unsigned product. -/
  | mulhu
  /-- MULHS (R303): Instruction MULHS writes the high 32 bits of the signed product. -/
  | mulhs
  /-- DIVU (R305): Instruction DIVU writes the unsigned quotient, with DIVZ on a zero divisor; `cut`: the number of internal steps after which it stands at a preemption point (R303). -/
  | divu (cut : Option Nat := none)
  /-- REMU (R305): Instruction REMU writes the unsigned remainder; `cut` as in DIVU. -/
  | remu (cut : Option Nat := none)
  /-- DIVS (R305): Instruction DIVS writes the signed quotient truncated toward zero, with OVF on overflow; `cut` as in DIVU. -/
  | divs (cut : Option Nat := none)
  /-- REMS (R305): Instruction REMS writes the signed remainder with the dividend's sign; `cut` as in DIVU. -/
  | rems (cut : Option Nat := none)
  /-- SEQ (R303): Instruction SEQ writes 1 if the registers are equal. -/
  | seq
  /-- SNE (R303): Instruction SNE writes 1 if the registers differ. -/
  | sne
  /-- SLTU (R303): Instruction SLTU writes 1 if rs1 is below rs2 unsigned. -/
  | sltu
  /-- SGEU (R303): Instruction SGEU writes 1 if rs1 is at least rs2 unsigned. -/
  | sgeu
  /-- SLT (R303): Instruction SLT writes 1 if rs1 is below rs2 signed. -/
  | slt
  /-- SGE (R303): Instruction SGE writes 1 if rs1 is at least rs2 signed. -/
  | sge
  /-- CLZ (R303): Instruction CLZ writes the count of leading zeros. -/
  | clz
  /-- BITC (R303): Instruction BITC writes the count of 1 bits. -/
  | bitc
  /-- ADDI (R303): Instruction ADDI adds a sign-extended immediate. -/
  | addi
  /-- ANDI (R303): Instruction ANDI ANDs a zero-extended immediate. -/
  | andi
  /-- ORI (R303): Instruction ORI ORs a zero-extended immediate. -/
  | ori
  /-- XORI (R303): Instruction XORI XORs a zero-extended immediate. -/
  | xori
  /-- SHLI (R303): Instruction SHLI shifts left by an immediate. -/
  | shli
  /-- SHRI (R303): Instruction SHRI shifts right logically by an immediate. -/
  | shri
  /-- SARI (R303): Instruction SARI shifts right arithmetically by an immediate. -/
  | sari
  /-- SEQI (R303): Instruction SEQI compares equal with a sign-extended immediate. -/
  | seqi
  /-- SNEI (R303): Instruction SNEI compares not equal with a sign-extended immediate. -/
  | snei
  /-- SLTI (R303): Instruction SLTI compares signed less than a sign-extended immediate. -/
  | slti
  /-- SLTIU (R303): Instruction SLTIU compares unsigned less than a zero-extended immediate. -/
  | sltiu
  /-- LI (R303): Instruction LI loads a 32-bit immediate. -/
  | li
  /-- LUI (R303): Instruction LUI loads imm16 shifted left by 16. -/
  | lui
  /-- BZ (R304): Instruction BZ branches if the register is zero. -/
  | bz
  /-- BNZ (R304): Instruction BNZ branches if the register is non-zero. -/
  | bnz
  /-- DBNZ (R304): Instruction DBNZ decrements a register and branches if the result is non-zero. -/
  | dbnz
  /-- J (R304): Instruction J jumps by a 24-bit displacement. -/
  | j
  /-- CALL (R304): Instruction CALL writes the return address and jumps. -/
  | call
  /-- JR (R303): Instruction JR jumps to the address in a register. -/
  | jr
  /-- JALR (R303): Instruction JALR writes the return address and jumps to a register. -/
  | jalr
  /-- LD_B (R306): Instruction LD.B loads a zero-extended byte, locally or over the rings. -/
  | ldB
  /-- LD_H (R306): Instruction LD.H loads a zero-extended half-word. -/
  | ldH
  /-- LD_W (R306): Instruction LD.W loads a word. -/
  | ldW
  /-- LD_BS (R306): Instruction LD.BS loads a sign-extended byte. -/
  | ldBs
  /-- LD_HS (R306): Instruction LD.HS loads a sign-extended half-word. -/
  | ldHs
  /-- ST_B (R310): Instruction ST.B stores the low byte of a register as a posted store. -/
  | stB
  /-- ST_H (R310): Instruction ST.H stores the low half-word of a register. -/
  | stH
  /-- ST_W (R310): Instruction ST.W stores a register word. -/
  | stW
  /-- SWAP (R312): AMO SWAP writes g[rv] and returns the old word. -/
  | swap
  /-- AADD (R312): AMO AADD adds g[rv] to the word and returns the old word. -/
  | aadd
  /-- AAND (R312): AMO AAND ANDs g[rv] into the word and returns the old word. -/
  | aand
  /-- AOR (R312): AMO AOR ORs g[rv] into the word and returns the old word. -/
  | aor
  /-- AXOR (R312): AMO AXOR XORs g[rv] into the word and returns the old word. -/
  | axor
  /-- CAS (R312): AMO CAS writes g[rv] only if the old word equals g[rd], and returns the old word. -/
  | cas
  /-- PADD (R319): Instruction PADD adds two packed-decimal words. -/
  | padd
  /-- PSUB (R319): Instruction PSUB subtracts two packed-decimal words. -/
  | psub
  /-- PCY_A (R319): Instruction PCY.A writes the final decimal carry of PADD. -/
  | pcyA
  /-- PCY_S (R319): Instruction PCY.S writes the final decimal borrow of PSUB. -/
  | pcyS
  /-- NCY (R320): Instruction NCY writes the nibble-carry word of a binary sum. -/
  | ncy
  /-- DADJ (R320): Instruction DADJ decimal-adjusts a binary sum using its nibble carries. -/
  | dadj
  /-- P2B (R322): Instruction P2B converts packed decimal to binary; `cut` as in DIVU. -/
  | p2b (cut : Option Nat := none)
  /-- B2P (R322): Instruction B2P converts binary to packed decimal, with BCD_OVR above 10^8; `cut` as in DIVU. -/
  | b2p (cut : Option Nat := none)
  /-- JOIST_RING_RESPONSE (R308): The response to a Joist ring load, AMO or store arrives, writing a pending register or recording a non-OK code. -/
  | joistRingResponse
  /-- CONTEXT_SWITCH (R337): A scheduling decision switches to another task in 12 SCLK at a preemption point. -/
  | contextSwitch (took : Nat)
  /-- QUANTUM_EXPIRY (R336): A RUN task exhausts QUANTUM x 16 SCLK with an equal-priority task READY and is preempted. -/
  | quantumExpiry
  /-- TASK_TIMER_EXPIRY (R334): A task's timer expires and sets its TIMER event, restarting when PERIODIC. -/
  | taskTimerExpiry (n : Fin 8)
  /-- TASK_TIMER_WRITE (R334): A write of SEQ_Tn_TIMER starts, replaces or stops a task's countdown. -/
  | taskTimerWrite (n : Fin 8) (v : Word)
  /-- TASK_START (R329): SEQ_Tn_CTRL.START makes an OFF task READY at its entry address. -/
  | taskStart (n : Fin 8)
  /-- TASK_ABORT (R341): SEQ_Tn_CTRL.ABORT aborts a task, discarding its work and breaking its pegs. -/
  | taskAbort (n : Fin 8)
  /-- EV_POST (R331): A write of SEQ_EV_POST sets the SOFT event in the named tasks. -/
  | evPost (v : Word)
  /-- TASK_PRI_WRITE (R340): A write of SEQ_Tn_PRI changes a task's priority and may cause a preemption. -/
  | taskPriWrite (n : Fin 8) (v : Word)
  /-- PEG_REQ_ACQ (R344): SEQ_PEG_REQ with OP ACQ acquires a peg for HOST, JIG or SUPV. -/
  | pegReqAcq (q : PegParty) (p : Fin 32)
  /-- PEG_REQ_REL (R344): SEQ_PEG_REQ with OP REL releases a peg for HOST, JIG or SUPV; `abandon`: SUPV abandons the operation that holds its pegs (R348, log 65). -/
  | pegReqRel (q : PegParty) (p : Fin 32) (abandon : Bool := false)
  /-- PEG_REQ_MEND (R344): SEQ_PEG_REQ with OP MEND mends a broken peg for HOST, JIG or SUPV. -/
  | pegReqMend (q : PegParty) (p : Fin 32)
  /-- KERF_BLOCK_START (R366): A block of a store starts coding in the lowest free lane. -/
  | kerfBlockStart
  /-- KERF_BLOCK_DONE (R366): A lane finishes coding a block, which waits for the egress link. -/
  | kerfBlockDone (lane : Fin 4) (held : Nat)
  /-- EGR_ENQ_GO (R383): A read of EGR_ENQ_GO enqueues the staged payload as a frame, coalescing or refusing it. -/
  | egrEnqGo
  /-- EGR_FRAME_SEND (R389): At a frame boundary the first eligible frame is sent from SOF to EOF. -/
  | egrFrameSend (idle : Nat)
  /-- EGR_CREDIT (R386): A CREDIT return message sets EGR_SEQ.LIMIT. -/
  | egrCredit (limit : Half)
  /-- EGR_ACK (R386): An ACK return message frees the buffer of that frame. -/
  | egrAck (seq : Half)
  /-- EGR_NAK (R388): A NAK return message schedules the frame for resending or abandons it. -/
  | egrNak (seq : Half)
  /-- ACK_TIMEOUT (R388): No ACK arrives within ACK_TMO of a frame's EOF and it is resent or abandoned. -/
  | ackTimeout (buf : Fin 64)
  /-- IMG_WAIT_EXPIRY (R391): A finished IMAGE block waits IMG_WAIT with no buffer and is dropped into the DROP notice. -/
  | imgWaitExpiry (lane : Fin 4)
  /-- EGR_RX_LOST (R393): No valid return character for 256 character times clears RX_SYNC and LINK_UP. -/
  | egrRxLost
  /-- EGR_CFG_WRITE (R394): A write of EGR_CFG starts the link with EN set or frees every buffer with EN cleared. -/
  | egrCfgWrite (v : Word)
  /-- EGR_BUF_CFG_WRITE (R384): A write of EGR_BUF_CFG sets the reserves only while EN is clear and the sum fits. -/
  | egrBufCfgWrite (v : Word)
  /-- DYN_PORT_TRAINED (R400): A Dynak receiver trains after 128 valid aligned characters. -/
  | dynPortTrained (p : DynPort) (t : Nat)
  /-- DYN_PORT_TRAINING_LOST (R400): A Dynak receiver loses training, which may cause failover or link loss. -/
  | dynPortTrainingLost (p : DynPort) (t : Nat)
  /-- DYN_MSG_LINE (R412): A received LINE message is resolved to a target, number and frame, or is late, and is forwarded. -/
  | dynMsgLine (p : DynPort) (fopen flast noexpo : Bool) (tgt lnum : BitVec 24) (t : Nat)
  /-- DYN_MSG_POS (R414): A received POS message updates DYN_MPOS or the position of a line. -/
  | dynMsgPos (p : DynPort) (linepos : Bool) (pos : Pos)
  /-- DYN_MSG_GOR (R420): A received GOR message sets DYN_GOR_MASK and is forwarded away from its originator. -/
  | dynMsgGor (p : DynPort) (hop : BitVec 5) (lnum : BitVec 24)
  /-- DYN_MSG_SYNC_TIME (R408): A received SYNC TIME sets the follower's group time through the hop delay. -/
  | dynMsgSyncTime (p : DynPort) (time : Pos) (t frac : Nat)
  /-- DYN_MSG_SYNC_CFG (R415): A received SYNC CFG gives GWIN and FRAME_NUM. -/
  | dynMsgSyncCfg (p : DynPort) (gwin : Half) (frameNum : Word)
  /-- DYN_MSG_PROBE (R407): A received PROBE is answered with an ECHO carrying TURN. -/
  | dynMsgProbe (p : DynPort) (idx : Byte) (turn : BitVec 24)
  /-- DYN_MSG_ECHO (R407): A received ECHO gives one round-trip measurement for the hop delay. -/
  | dynMsgEcho (p : DynPort) (idx : Byte) (turn : BitVec 24) (r : Nat)
  /-- DYN_MSG_ENUM (R406): A received CMD ENUM sets the head's HOP. -/
  | dynMsgEnum (p : DynPort) (hop : BitVec 5)
  /-- DYN_MSG_USER (R404): A received CMD USER is recorded and forwarded. -/
  | dynMsgUser (p : DynPort) (payload : Pos)
  /-- DYN_MESSAGE_SEND (R405): At a message boundary a port sends the oldest message of the highest priority queued. -/
  | dynMessageSend (p : DynPort) (t : Nat)
  /-- SYNC_PERIOD (R406): Every 65,536 LCLK a head sends SYNC TIME, SYNC CFG and CMD ENUM. -/
  | syncPeriod (t : Nat)
  /-- POS_PERIOD (R414): Every POS_PER LCLK the master sends a periodic POS when its position changed. -/
  | posPeriod
  /-- DYN_CAL_GO (R407): DYN_CAL.GO starts hop-delay calibration. -/
  | dynCalGo (v : Word) (t : Nat)
  /-- CAL_PROBE_TICK (R407): Each microsecond of calibration the follower sends a PROBE. -/
  | calProbeTick
  /-- CAL_WINDOW_END (R407): 100 µs after GO calibration succeeds with at least 48 echoes or sets CAL_FAIL. -/
  | calWindowEnd
  /-- TRACK_PROBE (R410): With TRACK_EN, a capturing follower sends a PROBE every 2^18 LCLK to track the hop delay. -/
  | trackProbe
  /-- DYN_SOURCE_LOSS (R423): No SYNC TIME for 4 periods with no failover marks the source link lost. -/
  | dynSourceLoss
  /-- FREEWHEEL_LINE (R424): After a loss a follower issues an extrapolated line at each free-wheel target, stopping after FW_MAX. -/
  | freewheelLine
  /-- DYN_CMD_TX_HI_WRITE (R428): A write of DYN_CMD_TX_HI sends CMD USER on each trained port. -/
  | dynCmdTxHiWrite (v : Word)
  /-- RING_REQUEST_ARRIVAL (R453): A request packet reaches its destination NI and client, which performs it in class order and answers. -/
  | ringRequestArrival (n : Fin 16) (tag : Byte) (bad : Option (Fin 16))
  /-- RING_RESPONSE_ARRIVAL (R449): A response reaches the issuing NI, which delivers it and retires the tag 2 SCLK later. -/
  | ringResponseArrival (n : Fin 16) (tag : Byte) (bad : Option (Fin 16))
  /-- RING_REQUEST_ISSUE (R449): An NI moves a request from its client bridge, takes a tag and injects it, or refuses it with REFUSED_NOTAG. -/
  | ringRequestIssue (n : Fin 16) (tag : Byte) (waited : Nat)
  /-- TAG_TIMEOUT (R452): A request outstanding for TMO x 1,024 SCLK receives TIMEOUT from its own NI and may cause failover. -/
  | tagTimeout (n : Fin 16) (tag : Byte)
  /-- NI_ROUTE_WRITE (R438): A write of an NI route entry is checked against ring distances and clears USE_ALT. -/
  | niRouteWrite (n : Fin 16) (k : Fin 64) (v : Word)
  /-- MEMC_REQUEST (R466): MEMC performs a READ, WRITE or AMO with ECC checking and merge reads. -/
  | memcRequest (n : Fin 16) (tag : Byte) (flips : List (Nat × Nat))
  /-- MEMC_RETRAIN (R473): Every PERIOD_MS a retraining pass measures drift on each channel and rank. -/
  | memcRetrain (a0 a1 b0 b1 : Byte) (held : Nat)
  /-- MEMC_MR4_POLL (R474): Every MR4_MS MEMC reads MR4 and sets the refresh rate, raising HOT when needed. -/
  | memcMr4Poll (hot : Bool)
  /-- MEMC_REFRESH (R474): A per-bank refresh falls due and is performed. -/
  | memcRefresh
  /-- MEMC_SCRUB (R480): Every PER microseconds MEMC reads, corrects and writes back one 256-byte block. -/
  | memcScrub
  /-- JIG_RECFG (R501): JIG_CTRL.RECFG parks the pins and reloads the fabric from the image address. -/
  | jigRecfg (t : Nat)
  /-- JIG_RELEASE (R500): JIG_CTRL.RELEASE moves the fabric from INIT to RUN on one LCLK edge. -/
  | jigRelease (t : Nat)
  /-- JIG_LOAD_DONE (R499): A fabric image finishes loading and is checked; the fabric enters INIT or UNCONF. -/
  | jigLoadDone (t : Nat)
  /-- JIG_RT_REQUEST (R495): A ring request to fabric user space is presented as beats on the ring target port. -/
  | jigRtRequest
  /-- JIG_RT_ACK (R495): The fabric acknowledges a beat with RT_ACK, and RT_ERR ends the request DECODE. -/
  | jigRtAck (err : Bool) (rdata : Word)
  /-- JIG_RT_TIMEOUT (R495): No RT_ACK within RT_TMO LCLK ends the request DECODE and counts the timeout. -/
  | jigRtTimeout
  /-- JIG_RM_ISSUE (R497): The fabric issues a single-word ring access through the ring master port. -/
  | jigRmIssue (addr : SysAddr) (write : Bool) (data : Word) (urg : Bool)
  /-- LANE_SLIP (R490): A pulse on SLIP_j delays lane j's byte boundary by one bit. -/
  | laneSlip (j : Fin 16) (other : Bool)
  /-- LANE_TAPUP (R490): A pulse on TAPUP_j moves lane j's delay line up one tap. -/
  | laneTapup (j : Fin 16) (other : Bool)
  /-- LANE_TAPDN (R490): A pulse on TAPDN_j moves lane j's delay line down one tap. -/
  | laneTapdn (j : Fin 16) (other : Bool)
  /-- JIG_CLK_SRC_SWITCH (R509): A write changing JIG_CLKr.SRC holds the tree low and starts a source switch. -/
  | jigClkSrcSwitch (r : Fin 4) (v : Word) (fall : Option Nat) (dead : Bool)
  /-- JIG_CLK_SWITCH_DONE (R509): After two new-source falling edges the divider restarts and the tree output is released. -/
  | jigClkSwitchDone (r : Fin 4)
  /-- JIG_CLK_SWITCH_FORCE (R510): With no old falling edge in 64 LCLK the output is held low at once and FORCED set. -/
  | jigClkSwitchForce (r : Fin 4) (dead : Bool)
  /-- JIG_CLK_DIV_CHANGE (R508): A write changing DIV alone takes effect at the end of the output period. -/
  | jigClkDivChange (r : Fin 4) (v : Word)
  /-- JIG_CLK_ENABLE (R511): A write of JIG_CLKr.EN starts or stops the tree at its next edge. -/
  | jigClkEnable (r : Fin 4) (v : Word)
  /-- JIG_PIN_WRITE (R521): A write of JIG_PINj changes a ball's options or function and runs PARK, or is refused. -/
  | jigPinWrite (j : Fin 40) (v : Word) (t : Nat)
  /-- UART_START_BIT (R533): A falling edge after idle is taken as a start bit, or discarded as a false start. -/
  | uartStartBit (n : Fin 2) (smp : BitVec 3)
  /-- UART_RX_CHAR (R535): A received character completes and is stored as a tagged entry, or lost on overrun. -/
  | uartRxChar (n : Fin 2) (smp : List (BitVec 3))
  /-- UART_TX_CHAR_START (R539): The transmitter starts the next character, asserting DE LEAD sixteenths of a bit earlier. -/
  | uartTxCharStart (n : Fin 2)
  /-- UART_TX_CHAR_END (R545): A transmitted character's last stop bit ends, possibly completing a transmit descriptor. -/
  | uartTxCharEnd (n : Fin 2)
  /-- UART_DE_TAIL (R539): TAIL sixteenths after the last stop bit with an empty FIFO, DE deasserts. -/
  | uartDeTail (n : Fin 2)
  /-- UART_TXD_WRITE (R541): A write of UAn_TXD appends an entry to the transmit FIFO, or is discarded when full. -/
  | uartTxdWrite (n : Fin 2) (v : Word)
  /-- UART_RXD_READ (R541): A read of UAn_RXD removes and returns the oldest receive entry when no receive descriptor is in use. -/
  | uartRxdRead (n : Fin 2)
  /-- UART_DESC_GO (R542): UAn_Dd_CTRL.GO queues a FREE descriptor whose buffer is valid. -/
  | uartDescGo (n : Fin 2) (d : Fin 16) (v : Word)
  /-- UART_DESC_RETIRE (R547): UAn_Dd_CTRL.RETIRE makes a DONE descriptor FREE. -/
  | uartDescRetire (n : Fin 2) (d : Fin 16)
  /-- UART_RX_IDLE (R543): One character time of idle line makes the receive engine write the entries it holds. -/
  | uartRxIdle (n : Fin 2)
  /-- UART_RX_FLUSH (R544): RTO x t_c of idle flushes an ACTIVE receive descriptor holding entries. -/
  | uartRxFlush (n : Fin 2)
  /-- UART_DMA_RESPONSE (R545): A DMA request's response arrives, completing or failing its descriptor. -/
  | uartDmaResponse (n : Fin 2)
  /-- UART_CFG_APPLY (R540): Staged UART configuration applies at the first edge with no character in progress and DE deasserted. -/
  | uartCfgApply (n : Fin 2)
  /-- UART0_CLOCK_CHANGE (R534): UART0 changes between PCLK and the AON oscillator when idle. -/
  | uart0ClockChange
  /-- BOOT_ATTEMPT (R562): A start attempt runs the start steps from power good through sections, checks and the INIT script. -/
  | bootAttempt (t ms trainUs : Nat) (trainFail : BitVec 6) (drifts : List (Option Int))
  /-- START_WATCHDOG_EXPIRY (R566): The start watchdog expires 2,000 ms after BOOT entry and fails the start with reason 0x04. -/
  | startWatchdogExpiry
  /-- BOOT_RETRY_TIMER (R568): 100 ms after rails 0 to 5 are down, with the trigger standing, the next attempt starts. -/
  | bootRetryTimer
  /-- FL_READ (R573): PWR_FL_CMD READ copies flash bytes into PWR_FL_BUF. -/
  | flRead (len : Byte)
  /-- FL_PROGRAM (R573): PWR_FL_CMD PROGRAM writes PWR_FL_BUF into one flash page, unless LOCKED or misaligned. -/
  | flProgram (len : Byte)
  /-- FL_ERASE (R573): PWR_FL_CMD ERASE erases a 64 KiB sector, unless LOCKED or misaligned. -/
  | flErase (len : Byte)
  /-- FL_OP_DONE (R573): The flash status poll shows the operation complete and DONE sets with its CODE. -/
  | flOpDone
  /-- FL_OP_TIMEOUT (R573): A flash operation not complete within 4 s ends with TIMEOUT. -/
  | flOpTimeout
  /-- CONSOLE_S (R571): Console command S replies with FB_REASON, counter and slot results. -/
  | consoleS
  /-- CONSOLE_L (R571): Console command L n replies with the newest n log records. -/
  | consoleL (n : Nat)
  /-- CONSOLE_B (R572): Console command B requests BOOT from FALLBACK. -/
  | consoleB
  /-- CONSOLE_B_SLOT (R571): Console command B A or B B sets BOOT_NEXT and then requests BOOT. -/
  | consoleBSlot (slotB : Bool)
  /-- CONSOLE_UNKNOWN (R571): Any other console line is answered with ?. -/
  | consoleUnknown
  /-- RAIL_ON_DELAY (R583): A rail's ON_DLY expires after its parents are GOOD and its PEN asserts. -/
  | railOnDelay (r : Fin 24)
  /-- RAIL_GOOD (R583): A ramping rail stays within its window for DEGLITCH and becomes GOOD. -/
  | railGood (r : Fin 24)
  /-- RAIL_PG_TIMEOUT (R584): A rail not GOOD within PG_TMO fails to come up and its cone is BLOCKED. -/
  | railPgTimeout (r : Fin 24)
  /-- RAIL_FAULT_CONDITION (R590): A UV or OV condition persists for DEGLITCH and the rail's reaction or down-cut is applied. -/
  | railFaultCondition (r : Fin 24) (ov par : Bool)
  /-- RAIL_OFF_DELAY (R586): In a down sequence a rail's OFF_DLY expires and its PEN deasserts. -/
  | railOffDelay (r : Fin 24)
  /-- RAIL_DISCHARGE_TIMEOUT (R586): 10 ms after PEN deasserts a rail counts off and a DISCHARGE fault is logged. -/
  | railDischargeTimeout (r : Fin 24)
  /-- RAIL_RETRY_ON (R591): A RETRY off time ends and the rail's PEN asserts again. -/
  | railRetryOn (r : Fin 24)
  /-- RETRIES_CLEAR (R591): 10 s with no fault on a rail clears its RETRIES. -/
  | retriesClear (r : Fin 24)
  /-- RAIL_SAR_READING (R596): Each 48 µs SAR conversion updates MV and may raise a rail warning. -/
  | railSarReading (ch : Fin 25) (mv : BitVec 12)
  /-- EPISODE_CLOSE (R601): 1,000 ms with no fault closes a fault episode and writes EPISODE_END. -/
  | episodeClose
  /-- SEQ_IN_ASSERT (R597): SEQ_IN asserted with SEQ_IN_EN makes the start trigger stand. -/
  | seqInAssert
  /-- SEQ_IN_WITHDRAW (R597): SEQ_IN held deasserted for 10 ms withdraws the trigger and acts as a DOWN. -/
  | seqInWithdraw
  /-- SUP_RESTORE (R612): SUP_CMD RESTORE starts an up sequence for cleared rails. -/
  | supRestore
  /-- SUP_DOWN (R587): SUP_CMD DOWN runs a full down. -/
  | supDown
  /-- SUP_CLEAR (R612): SUP_CMD CLEAR clears latched rail faults and SYS_HALT. -/
  | supClear
  /-- SUP_SAVE (R612): SUP_CMD SAVE saves the live rail table with its CRC. -/
  | supSave
  /-- SUP_LOAD (R613): SUP_CMD LOAD loads the saved rail table while every rail is OFF. -/
  | supLoad
  /-- SUP_LOG_CLEAR (R609): SUP_CMD LOG_CLEAR erases the log and writes a LOG_CLEAR record when permitted. -/
  | supLogClear
  /-- SUP_BUS_SEND (R600): SUP_CMD BUS_SEND makes a master send BUS_OP to BUS_DST on the supervisor bus. -/
  | supBusSend
  /-- BUS_UP (R599): A received bus UP makes the start trigger stand in SUPERVISE, or is ignored above it. -/
  | busUp (dst src tag : Byte)
  /-- BUS_DOWN (R599): A received bus DOWN is answered and then runs a full down. -/
  | busDown (dst src tag : Byte)
  /-- BUS_STATUS (R599): A received bus STATUS is answered with 12 status bytes. -/
  | busStatus (dst src tag : Byte)
  /-- BUS_LOG_READ (R599): A received bus LOG_READ is answered with the record of the given SEQ. -/
  | busLogRead (dst src tag : Byte) (seq : Word)
  /-- BUS_CLEAR (R599): A received bus CLEAR acts as SUP_CMD CLEAR. -/
  | busClear (dst src tag : Byte)
  /-- BUS_REPLY (R600): A master receives a reply to its request. -/
  | busReply (src tag : Byte) (payload : List Byte)
  /-- BUS_REPLY_TIMEOUT (R600): A master waits 1 ms without reply, resends up to twice, then reports NO_REPLY. -/
  | busReplyTimeout
  /-- LOG_RECORD_WRITE (R603): The supervisor writes the next queued log record in four steps to its slot. -/
  | logRecordWrite
  /-- LOG_RSEQ_COMMIT (R608): A commit of LOG_RSEQ reads a log slot into LOG_REC with result OK, TORN or GONE. -/
  | logRseqCommit (v : Word)
  /-- RT_ENTRY_COMMIT (R613): A commit of RT_ENTRY checks and applies a rail entry. -/
  | rtEntryCommit (bytes : BitVec 136)
  /-- RT_SEL_WRITE (R612): A write of RT_SEL selects a rail and discards uncommitted entry bytes. -/
  | rtSelWrite (v : Byte)
  /-- PLL_LOCK (R638): The root PLL locks and the derived clocks start together. -/
  | pllLock (ns : Nat)
  /-- CLK_CFG_WRITE (R639): A write of CLK_CFG selects XTAL or AUTO reference, ignored while SWITCHING. -/
  | clkCfgWrite (v : Word)
  /-- REF_SWITCH (R640): The PLL starts slewing to a new reference, or refuses it with REF_BAD. -/
  | refSwitch (ppm : Int)
  /-- REF_SWITCH_DONE (R640): The PLL sets LOCKED on the new reference. -/
  | refSwitchDone
  /-- REF_LOSS (R641): The reference shows no edge for 160 ns and the PLL enters holdover. -/
  | refLoss
  /-- HOLD_MAX_EXPIRY (R642): HOLD_MAX ms of holdover with AUTO_FB set switches the PLL to the crystal. -/
  | holdMaxExpiry
  /-- AON_XTAL_FAIL (R643): 2,048 oscillator periods with no crystal edge move the AON counter to the RC oscillator. -/
  | aonXtalFail
  /-- AON_XTAL_RETURN (R643): 1,024 good crystal periods return the AON counter to the crystal. -/
  | aonXtalReturn
  /-- AON_MS_TICK (R643): The AON millisecond counter advances by one. -/
  | aonMsTick
  /-- WEAR_HOUR (R648): WR_HOURS increments, a wear sample is taken and lamp on-times are copied. -/
  | wearHour (drifts : List (Option Int))
  /-- THERMAL_READING (R653): Each millisecond the sensors are read and the thermal step is updated. -/
  | thermalReading (temps : List (Option Int))
  /-- OTP_HEAD_WRITE (R664): A write of OTP_HEAD programs a slot with HEAD_ID and role. -/
  | otpHeadWrite (v : Word)
  /-- OTP_BOOT_POLICY_WRITE (R664): A write of OTP_BOOT_POLICY programs a slot, refusing a clear of SIG_REQ. -/
  | otpBootPolicyWrite (v : Word)
  /-- OTP_KEY_HASH_WRITE (R667): A write of OTP_KEY_HASHk programs a key-hash slot. -/
  | otpKeyHashWrite (k : Fin 4) (hash : BitVec 256)
  /-- OTP_KEY_REVOKE_WRITE (R668): A write of OTP_KEY_REVOKE revokes keys, refused if it leaves none enrolled. -/
  | otpKeyRevokeWrite (v : Word)
  /-- OTP_LOG_POLICY_WRITE (R664): A write of OTP_LOG_POLICY programs a slot. -/
  | otpLogPolicyWrite (v : Word)
  /-- OTP_DEBUG_LOCK_WRITE (R669): A write of OTP_DEBUG_LOCK steps DEBUG_LOCK forward one state. -/
  | otpDebugLockWrite (v : Word)
  /-- OTP_PROGRAM_DONE (R664): An OTP slot finishes programming; BUSY clears and DONE is shown. -/
  | otpProgramDone
  /-- WEAR_CLEAR (R652): OTP_FACT_CMD.WEAR_CLEAR at FACTORY clears the wear area. -/
  | wearClear
  /-- SCRIBE_READ (R685): Scribe READ reads a register through the domain's node, not the rings. -/
  | scribeRead (joist : Bool) (addr : SysAddr)
  /-- SCRIBE_BYPASS_ON (R686): Scribe BYPASS_ON places a stop in bypass. -/
  | scribeBypassOn (joist : Bool) (node : BitVec 7)
  /-- SCRIBE_BYPASS_OFF (R686): Scribe BYPASS_OFF ends a stop's bypass. -/
  | scribeBypassOff (joist : Bool) (node : BitVec 7)
  /-- SCRIBE_DRAIN (R687): Scribe DRAIN retires stale tags for held or bypassed destinations. -/
  | scribeDrain (joist : Bool) (node : BitVec 7) (arg : Half)
  /-- SCRIBE_POISON (R687): Scribe POISON answers POISON to outstanding requests for held destinations and retires their tags. -/
  | scribePoison (joist : Bool) (node : BitVec 7) (arg : Half)
  /-- SCRIBE_RESET_HOLD (R688): Scribe RESET_HOLD holds a domain or stop in reset. -/
  | scribeResetHold (joist : Bool) (node : BitVec 7)
  /-- SCRIBE_RESET_RELEASE (R688): Scribe RESET_RELEASE ends a hold and the domain returns to ON. -/
  | scribeResetRelease (joist : Bool) (node : BitVec 7)
  /-- SCRIBE_COMPLETE (R684): A scribe command completes its node action and writes its RESULT. -/
  | scribeComplete (fails : Bool) (lost : List (Fin 16 × Byte))
  /-- TAP_EXTEST (R722): TAP instruction EXTEST gives the boundary cells control of the powered balls in SETUP or FALLBACK. -/
  | tapExtest
  /-- TAP_CLAMP (R722): TAP instruction CLAMP holds the balls from the boundary register. -/
  | tapClamp
  /-- TAP_HIGHZ (R722): TAP instruction HIGHZ places the balls in high impedance. -/
  | tapHighz
  /-- TAP_BYPASS (R721): TAP instruction BYPASS selects the bypass register and returns balls to functional control. -/
  | tapBypass
  /-- TAP_SAMPLE_PRELOAD (R721): TAP instruction SAMPLE/PRELOAD samples or preloads the boundary register. -/
  | tapSamplePreload (bits : List Bool)
  /-- REGISTER_WRITE (R9): A write to a register with no row of its own acts on its fields under their access codes. -/
  | registerWrite (addr : SysAddr) (v : Word)
  /-- EGR_RX_SYNC (R393): Four consecutive valid characters on ERX set EGR_STAT.RX_SYNC, after which a CREDIT can bring the link up. -/
  | egrRxSync
  /-- DYN_MSG_DISCARD (R403): A Dynak message that fails its CRC, carries a character error or has a reserved TYPE or SUB is discarded, counted in DYN_CRC_ERR or DYN_RSV_MSG and not forwarded. -/
  | dynMsgDiscard (p : DynPort) (msg : List Byte) (charErr : Bool)
  /-- EGR_RX_BAD_MESSAGE (R386): A return-lane message with a reserved type or a character error is ignored and adds one to EGR_RX_ERR. -/
  | egrRxBadMessage
  /-- BUS_RESERVED_CMD (R599): A supervisor-bus request frame with a reserved command code is ignored and answered with RESULT BAD. -/
  | busReservedCmd (dst src tag : Byte) (cmd : BitVec 3)
  deriving DecidableEq, Repr, Inhabited

end Sys2Proof
end

