-- ==== Sys2Proof/Machine/Design.lean ====
section
/-! DEFINITION. A fabric design (R483 to R494, R515): what the BAY and ROUTE sections of an image say, as plain data. How FORMAT
0x0001 encodes it is the compiler's (R498): the decoding is Config.jigDesign (log 11). -/

namespace Sys2Proof.Machine

/-- A hard input of Table 19-2. -/
inductive HardIn where
  | laneByte (j bit : Nat)
  | laneValid (j : Nat)
  | rtValid | rtWrite
  | rtAddr (bit : Nat)
  | rtBe (i : Nat)
  | rtWdata (bit : Nat)
  | rmDone
  | rmRdata (bit : Nat)
  | rmCode (bit : Nat)
  | line | expo
  | stb (n : Nat)
  | jio (j : Nat)
  | memRead (m : Nat) (portB : Bool) (bit : Nat)
  deriving DecidableEq, Repr, Inhabited

/-- A hard output of Table 19-2; `pxRouted` is a bit of a routed byte of the pixel crossbar (R494). -/
inductive HardOut where
  | slip (j : Nat) | tapUp (j : Nat) | tapDn (j : Nat)
  | pxValid
  | pxNb (bit : Nat)
  | pxSol | pxEol | pxCrcErr | pxSyncLost
  | pxRouted (k bit : Nat)
  | rtAck | rtErr
  | rtRdata (bit : Nat)
  | jioOut (j : Nat) | jioEn (j : Nat)
  | memAddr (m : Nat) (portB : Bool) (bit : Nat)
  | memData (m : Nat) (portB : Bool) (bit : Nat)
  | memEn (m : Nat) (portB : Bool) | memWe (m : Nat) (portB : Bool)
  deriving DecidableEq, Repr, Inhabited

/-- What a bay input selects (R487). -/
inductive Source where
  | local (i : Nat) | cluster (l : Nat) | global (l : Nat)
  | hard (h : HardIn)
  deriving DecidableEq, Repr, Inhabited

/-- What a hard output takes (R487): a constant, or macrocell i of bay b. -/
inductive OutSel where
  | const (v : Bool)
  | cell (b i : Nat)
  deriving DecidableEq, Repr, Inhabited

/-- The modes of a macrocell (R485). -/
inductive MacMode where
  | d | t | latch | comb
  deriving DecidableEq, Repr, Inhabited

/-- A macrocell's clock: a regional tree, or an input of its bay (R515). -/
inductive MacClock where
  | tree (r : Fin 4)
  | input (i : Nat)
  deriving DecidableEq, Repr, Inhabited

/-- One macrocell (R484 to R486, R515). A clock enable of none is 1, and a set or reset of none is off. -/
structure Macrocell where
  /-- Product terms of its five slots. -/
  slots : List Nat := []
  cascade : Bool := false
  /-- The XOR gate's second input: a product term, or the constant POL. -/
  xorTerm : Option Nat := none
  pol : Bool := false
  mode : MacMode := .comb
  ce : Option Nat := none
  /-- Control terms, counted from PT88. -/
  set : Option (Fin 8) := none
  reset : Option (Fin 8) := none
  clock : MacClock := .tree 0
  inv : Bool := false
  deriving DecidableEq, Repr, Inhabited

/-- One bay (R483): its 54 inputs, its 96 product terms as literals (input, complement), and its 32 macrocells. -/
structure Bay where
  inputs : List Source := []
  terms : List (List (Nat × Bool)) := []
  cells : List Macrocell := []
  deriving DecidableEq, Repr, Inhabited

/-- A memory port's clock: a regional tree, or a global line (R515). -/
inductive PortClock where
  | tree (r : Fin 4)
  | global (l : Nat)
  deriving DecidableEq, Repr, Inhabited

/-- One port of a memory (R491, R492, R494, R496): its width is 2 ^ aspect bits. -/
structure MemPort where
  aspect : Fin 6 := 0
  outReg : Bool := false
  writeFirst : Bool := false
  clock : PortClock := .tree 0
  /-- Port A: its write data are the lane's byte. Port B: it is in RING mode. -/
  lane : Bool := false
  ring : Bool := false
  deriving DecidableEq, Repr, Inhabited

/-- A fabric design: bays; for each cluster the macrocells (bay, index) on its lines; the cluster lines (cluster, index) on the
global lines; the hard outputs; and the memory ports, 2m for port A and 2m + 1 for port B of memory m. -/
structure Design where
  bays : List Bay := []
  cluster : List (List (Nat × Nat)) := []
  global : List (Nat × Nat) := []
  hard : List (HardOut × OutSel) := []
  ports : List MemPort := []
  deriving DecidableEq, Repr, Inhabited

end Sys2Proof.Machine
end

