-- ==== Sys2Proof/Config.lean ====
section
/-! DEFINITION. What an implementation fixes and the free values: constants without a body. Nothing in Lean can evaluate
them, so a statement about a free value holds whatever it is (log 5). -/

namespace Sys2Proof.Config

/-- The n-th free 32-bit value the model draws (log 5). -/
opaque freeWord : Nat → Word

/-- The n-th free byte the model draws (log 5). -/
opaque freeByte : Nat → Byte

/-- The n-th free bit the model draws (log 5). -/
opaque freeBit : Nat → Bool

/-- The design that the BAY and ROUTE bodies of a fabric image hold: their encoding is the compiler's (R498, log 11). -/
opaque jigDesign : List (Nat × List Nat) → Machine.Design

/-- SHA-256 of the Stavwiken factory key, fixed in the device; its value is not in the manual (R673, log 32). -/
opaque factoryKeyHash : List Byte

end Sys2Proof.Config
end

