-- ==== Sys2Proof/Machine/RegMap.lean ====
section
/-! DEFINITION. The register map of the ring-mapped blocks: one address definition per register, one field definition
per named field, and one table row per register with its access masks and its reset value, written from the register
tables of the spec's chapters (the table and the rule stand beside each block). Control-port page registers and the
SUP_ block are named fields of State (ControlPort, Supervisor). -/

namespace Sys2Proof.Machine

/-- A field of a ring register: the register's system address, the field's lowest bit and its width. -/
structure Fld where
  addr : Nat
  lo : Nat
  w : Nat
  deriving DecidableEq, Repr

/-- One register (or a one- or two-dimensional array of registers) of a register table: its base address, the strides
and counts of the array, its reset value, and the bits of each access code of Table 0-3 (R9). Bits in no mask are RO or
reserved (R10). -/
structure RegRow where
  base : Nat
  s1 : Nat
  c1 : Nat
  s2 : Nat
  c2 : Nat
  reset : Nat
  rw : Nat
  rc : Nat
  w1c : Nat
  rs : Nat
  wo : Nat
  deriving DecidableEq, Repr

/-! Table 1-7 (R29, spec/01_system_at_a_glance.md) -/

def Reg.NI_STOP_ID (s : Nat) : Nat := 0x1000000 + s * 0x10000
def F.NI_STOP_ID_STOP (s : Nat) : Fld := ⟨(Reg.NI_STOP_ID s), 0, 4⟩
def F.NI_STOP_ID_CLIENT_ON (s : Nat) : Fld := ⟨(Reg.NI_STOP_ID s), 4, 1⟩

/-! Table 4-4 (R119, spec/04_encoder_and_line_trigger.md) -/

def Reg.ENC_TRIG_CFG : Nat := 0x700000000
def F.ENC_TRIG_CFG_SEL : Fld := ⟨Reg.ENC_TRIG_CFG, 0, 2⟩
def F.ENC_TRIG_CFG_EXPO_POL : Fld := ⟨Reg.ENC_TRIG_CFG, 2, 1⟩
def Reg.ENC_DIV_N : Nat := 0x700000004
def F.ENC_DIV_N_N : Fld := ⟨Reg.ENC_DIV_N, 0, 24⟩
def Reg.ENC_DIV_M : Nat := 0x700000008
def F.ENC_DIV_M_M : Fld := ⟨Reg.ENC_DIV_M, 0, 24⟩
def Reg.ENC_DIV_PHASE : Nat := 0x70000000c
def F.ENC_DIV_PHASE_PHASE : Fld := ⟨Reg.ENC_DIV_PHASE, 0, 24⟩
def Reg.ENC_TMIN : Nat := 0x700000010
def F.ENC_TMIN_TMIN : Fld := ⟨Reg.ENC_TMIN, 0, 24⟩
def Reg.ENC_LTIMER : Nat := 0x700000014
def F.ENC_LTIMER_LTIMER : Fld := ⟨Reg.ENC_LTIMER, 0, 24⟩
def Reg.ENC_EXPO_DLY : Nat := 0x700000018
def F.ENC_EXPO_DLY_DLY : Fld := ⟨Reg.ENC_EXPO_DLY, 0, 24⟩
def Reg.ENC_EXPO_W : Nat := 0x70000001c
def F.ENC_EXPO_W_W : Fld := ⟨Reg.ENC_EXPO_W, 0, 24⟩
def Reg.ENC_LINE_NUM : Nat := 0x700000020
def F.ENC_LINE_NUM_NUM : Fld := ⟨Reg.ENC_LINE_NUM, 0, 32⟩
def Reg.ENC_SKIP : Nat := 0x700000024
def F.ENC_SKIP_CNT : Fld := ⟨Reg.ENC_SKIP, 0, 32⟩
def Reg.ENC_STAT : Nat := 0x700000028
def F.ENC_STAT_REV : Fld := ⟨Reg.ENC_STAT, 0, 1⟩
def F.ENC_STAT_SKIPPED : Fld := ⟨Reg.ENC_STAT, 1, 1⟩
def Reg.ENC_ERR : Nat := 0x70000002c
def F.ENC_ERR_DIV : Fld := ⟨Reg.ENC_ERR, 0, 1⟩
def F.ENC_ERR_PHASE : Fld := ⟨Reg.ENC_ERR, 1, 1⟩
def F.ENC_ERR_PRESET : Fld := ⟨Reg.ENC_ERR, 2, 1⟩
def F.ENC_ERR_SEL : Fld := ⟨Reg.ENC_ERR, 3, 1⟩

/-! Table 4-5 (R120, spec/04_encoder_and_line_trigger.md) -/

def Reg.ENCn_CFG (i : Nat) : Nat := 0x700000100 + i * 0x40
def F.ENCn_CFG_DECODE (i : Nat) : Fld := ⟨(Reg.ENCn_CFG i), 0, 2⟩
def F.ENCn_CFG_INV_DIR (i : Nat) : Fld := ⟨(Reg.ENCn_CFG i), 2, 1⟩
def F.ENCn_CFG_Z_EN (i : Nat) : Fld := ⟨(Reg.ENCn_CFG i), 3, 1⟩
def F.ENCn_CFG_FILT (i : Nat) : Fld := ⟨(Reg.ENCn_CFG i), 8, 10⟩
def Reg.ENCn_POS_LO (i : Nat) : Nat := 0x700000104 + i * 0x40
def F.ENCn_POS_LO (i : Nat) : Fld := ⟨(Reg.ENCn_POS_LO i), 0, 32⟩
def Reg.ENCn_POS_HI (i : Nat) : Nat := 0x700000108 + i * 0x40
def F.ENCn_POS_HI (i : Nat) : Fld := ⟨(Reg.ENCn_POS_HI i), 0, 16⟩
def Reg.ENCn_SPEED (i : Nat) : Nat := 0x70000010c + i * 0x40
def F.ENCn_SPEED (i : Nat) : Fld := ⟨(Reg.ENCn_SPEED i), 0, 24⟩
def Reg.ENCn_ACC_LIM (i : Nat) : Nat := 0x700000110 + i * 0x40
def F.ENCn_ACC_LIM (i : Nat) : Fld := ⟨(Reg.ENCn_ACC_LIM i), 0, 16⟩
def Reg.ENCn_STILL_MS (i : Nat) : Nat := 0x700000114 + i * 0x40
def F.ENCn_STILL_MS (i : Nat) : Fld := ⟨(Reg.ENCn_STILL_MS i), 0, 16⟩
def Reg.ENCn_ZPOS (i : Nat) : Nat := 0x700000118 + i * 0x40
def F.ENCn_ZPOS (i : Nat) : Fld := ⟨(Reg.ENCn_ZPOS i), 0, 32⟩
def Reg.ENCn_ZCPR (i : Nat) : Nat := 0x70000011c + i * 0x40
def F.ENCn_ZCPR (i : Nat) : Fld := ⟨(Reg.ENCn_ZCPR i), 0, 24⟩
def Reg.ENCn_GLITCH (i : Nat) : Nat := 0x700000120 + i * 0x40
def F.ENCn_GLITCH (i : Nat) : Fld := ⟨(Reg.ENCn_GLITCH i), 0, 32⟩
def Reg.ENCn_QERR (i : Nat) : Nat := 0x700000124 + i * 0x40
def F.ENCn_QERR (i : Nat) : Fld := ⟨(Reg.ENCn_QERR i), 0, 32⟩
def Reg.ENCn_IMPLAUS_CNT (i : Nat) : Nat := 0x700000128 + i * 0x40
def F.ENCn_IMPLAUS_CNT (i : Nat) : Fld := ⟨(Reg.ENCn_IMPLAUS_CNT i), 0, 32⟩
def Reg.ENCn_STAT (i : Nat) : Nat := 0x70000012c + i * 0x40
def F.ENCn_STAT_IMPLAUS (i : Nat) : Fld := ⟨(Reg.ENCn_STAT i), 0, 1⟩
def F.ENCn_STAT_ZERR (i : Nat) : Fld := ⟨(Reg.ENCn_STAT i), 1, 1⟩
def F.ENCn_STAT_STILL (i : Nat) : Fld := ⟨(Reg.ENCn_STAT i), 2, 1⟩

/-! Table 4-6 (R121, spec/04_encoder_and_line_trigger.md) -/

def Reg.MARKm_CFG (i : Nat) : Nat := 0x700000400 + i * 0x40
def F.MARKm_CFG_SRC (i : Nat) : Fld := ⟨(Reg.MARKm_CFG i), 0, 2⟩
def F.MARKm_CFG_TICK (i : Nat) : Fld := ⟨(Reg.MARKm_CFG i), 2, 2⟩
def F.MARKm_CFG_POL (i : Nat) : Fld := ⟨(Reg.MARKm_CFG i), 4, 1⟩
def F.MARKm_CFG_GOR_EN (i : Nat) : Fld := ⟨(Reg.MARKm_CFG i), 5, 1⟩
def F.MARKm_CFG_GOR_SRC (i : Nat) : Fld := ⟨(Reg.MARKm_CFG i), 6, 1⟩
def F.MARKm_CFG_GOR_W (i : Nat) : Fld := ⟨(Reg.MARKm_CFG i), 16, 16⟩
def Reg.MARKm_Q_LO (i : Nat) : Nat := 0x700000404 + i * 0x40
def F.MARKm_Q_LO (i : Nat) : Fld := ⟨(Reg.MARKm_Q_LO i), 0, 32⟩
def Reg.MARKm_Q_HI (i : Nat) : Nat := 0x700000408 + i * 0x40
def F.MARKm_Q_HI_TARGET (i : Nat) : Fld := ⟨(Reg.MARKm_Q_HI i), 0, 16⟩
def F.MARKm_Q_HI_WIDTH (i : Nat) : Fld := ⟨(Reg.MARKm_Q_HI i), 16, 16⟩
def Reg.MARKm_NOW (i : Nat) : Nat := 0x70000040c + i * 0x40
def F.MARKm_NOW_WIDTH (i : Nat) : Fld := ⟨(Reg.MARKm_NOW i), 0, 16⟩
def Reg.MARKm_STAT (i : Nat) : Nat := 0x700000410 + i * 0x40
def F.MARKm_STAT_FREE (i : Nat) : Fld := ⟨(Reg.MARKm_STAT i), 0, 7⟩
def F.MARKm_STAT_QUEUED (i : Nat) : Fld := ⟨(Reg.MARKm_STAT i), 8, 7⟩
def F.MARKm_STAT_PIN_OFF (i : Nat) : Fld := ⟨(Reg.MARKm_STAT i), 16, 1⟩
def Reg.MARKm_FULL_DROP (i : Nat) : Nat := 0x700000414 + i * 0x40
def F.MARKm_FULL_DROP (i : Nat) : Fld := ⟨(Reg.MARKm_FULL_DROP i), 0, 32⟩
def Reg.MARKm_LATE (i : Nat) : Nat := 0x700000418 + i * 0x40
def F.MARKm_LATE (i : Nat) : Fld := ⟨(Reg.MARKm_LATE i), 0, 32⟩
def Reg.MARKm_DISCARD (i : Nat) : Nat := 0x70000041c + i * 0x40
def F.MARKm_DISCARD (i : Nat) : Fld := ⟨(Reg.MARKm_DISCARD i), 0, 32⟩
def Reg.MARKm_FIRED (i : Nat) : Nat := 0x700000420 + i * 0x40
def F.MARKm_FIRED (i : Nat) : Fld := ⟨(Reg.MARKm_FIRED i), 0, 32⟩

/-! Table 5-5 (R143, spec/05_presence_receiver.md) -/

def Reg.PRS_CFG : Nat := 0x700020000
def F.PRS_CFG_EN : Fld := ⟨Reg.PRS_CFG, 0, 1⟩
def F.PRS_CFG_SENSE : Fld := ⟨Reg.PRS_CFG, 1, 1⟩
def F.PRS_CFG_GATE_EN : Fld := ⟨Reg.PRS_CFG, 2, 1⟩
def F.PRS_CFG_FAIL : Fld := ⟨Reg.PRS_CFG, 3, 2⟩
def F.PRS_CFG_HOLD : Fld := ⟨Reg.PRS_CFG, 5, 4⟩
def F.PRS_CFG_DEB : Fld := ⟨Reg.PRS_CFG, 9, 4⟩
def F.PRS_CFG_SEED : Fld := ⟨Reg.PRS_CFG, 13, 5⟩
def F.PRS_CFG_SAT_EN : Fld := ⟨Reg.PRS_CFG, 18, 1⟩
def F.PRS_CFG_STUCK_EN : Fld := ⟨Reg.PRS_CFG, 19, 1⟩
def F.PRS_CFG_BAL_EN : Fld := ⟨Reg.PRS_CFG, 20, 1⟩
def F.PRS_CFG_MAINS_EN : Fld := ⟨Reg.PRS_CFG, 21, 1⟩
def F.PRS_CFG_PTX_POL : Fld := ⟨Reg.PRS_CFG, 22, 1⟩
def Reg.PRS_LAG : Nat := 0x700020004
def F.PRS_LAG_LAG : Fld := ⟨Reg.PRS_LAG, 0, 12⟩
def Reg.PRS_THR : Nat := 0x700020008
def F.PRS_THR_SEEN_THR : Fld := ⟨Reg.PRS_THR, 0, 6⟩
def F.PRS_THR_GONE_THR : Fld := ⟨Reg.PRS_THR, 8, 6⟩
def Reg.PRS_SAT_THR : Nat := 0x70002000c
def F.PRS_SAT_THR : Fld := ⟨Reg.PRS_SAT_THR, 0, 10⟩
def Reg.PRS_BAL_THR : Nat := 0x700020010
def F.PRS_BAL_THR : Fld := ⟨Reg.PRS_BAL_THR, 0, 16⟩
def Reg.PRS_MAINS_THR : Nat := 0x700020014
def F.PRS_MAINS_THR : Fld := ⟨Reg.PRS_MAINS_THR, 0, 10⟩
def Reg.PRS_STAT : Nat := 0x700020018
def F.PRS_STAT_STATE : Fld := ⟨Reg.PRS_STAT, 0, 2⟩
def F.PRS_STAT_BLINDED : Fld := ⟨Reg.PRS_STAT, 2, 1⟩
def F.PRS_STAT_FORCED : Fld := ⟨Reg.PRS_STAT, 3, 1⟩
def F.PRS_STAT_PTX_OFF : Fld := ⟨Reg.PRS_STAT, 4, 1⟩
def F.PRS_STAT_GATE_IGN : Fld := ⟨Reg.PRS_STAT, 5, 1⟩
def F.PRS_STAT_INVALID : Fld := ⟨Reg.PRS_STAT, 8, 4⟩
def F.PRS_STAT_BLIND_EV : Fld := ⟨Reg.PRS_STAT, 12, 1⟩
def F.PRS_STAT_EDGE_EV : Fld := ⟨Reg.PRS_STAT, 13, 1⟩
def Reg.PRS_CORR : Nat := 0x70002001c
def F.PRS_CORR_C : Fld := ⟨Reg.PRS_CORR, 0, 6⟩
def F.PRS_CORR_CAUSE : Fld := ⟨Reg.PRS_CORR, 8, 4⟩
def Reg.PRS_EDGE_POS_LO : Nat := 0x700020020
def F.PRS_EDGE_POS_LO : Fld := ⟨Reg.PRS_EDGE_POS_LO, 0, 32⟩
def Reg.PRS_EDGE_POS_HI : Nat := 0x700020024
def F.PRS_EDGE_POS_HI_POSITION : Fld := ⟨Reg.PRS_EDGE_POS_HI, 0, 16⟩
def F.PRS_EDGE_POS_HI_TO_PRESENT : Fld := ⟨Reg.PRS_EDGE_POS_HI, 16, 1⟩
def F.PRS_EDGE_POS_HI_FORCED : Fld := ⟨Reg.PRS_EDGE_POS_HI, 17, 1⟩
def Reg.PRS_FS_OFS : Nat := 0x700020028
def F.PRS_FS_OFS : Fld := ⟨Reg.PRS_FS_OFS, 0, 24⟩
def Reg.PRS_FE_OFS : Nat := 0x70002002c
def F.PRS_FE_OFS : Fld := ⟨Reg.PRS_FE_OFS, 0, 24⟩
def Reg.PRS_BLIND_CNT : Nat := 0x700020030
def F.PRS_BLIND_CNT : Fld := ⟨Reg.PRS_BLIND_CNT, 0, 32⟩
def Reg.PRS_WEAK_CNT : Nat := 0x700020034
def F.PRS_WEAK_CNT : Fld := ⟨Reg.PRS_WEAK_CNT, 0, 32⟩
def Reg.PRS_GATED_CNT : Nat := 0x700020038
def F.PRS_GATED_CNT : Fld := ⟨Reg.PRS_GATED_CNT, 0, 32⟩
def Reg.PRS_LATE_CNT : Nat := 0x70002003c
def F.PRS_LATE_CNT : Fld := ⟨Reg.PRS_LATE_CNT, 0, 32⟩
def Reg.PRS_MERGE_CNT : Nat := 0x700020040
def F.PRS_MERGE_CNT : Fld := ⟨Reg.PRS_MERGE_CNT, 0, 32⟩
def Reg.PRS_SHORT_RUN : Nat := 0x700020044
def F.PRS_SHORT_RUN : Fld := ⟨Reg.PRS_SHORT_RUN, 0, 32⟩
def Reg.PRS_ERR : Nat := 0x700020048
def F.PRS_ERR_THR : Fld := ⟨Reg.PRS_ERR, 0, 1⟩
def F.PRS_ERR_LAG : Fld := ⟨Reg.PRS_ERR, 1, 1⟩
def Reg.PRS_EQ_STAT : Nat := 0x70002004c
def F.PRS_EQ_STAT_QUEUED : Fld := ⟨Reg.PRS_EQ_STAT, 0, 5⟩

/-! Table 6-4 (R164, spec/06_strobe_channels.md) -/

def Reg.STB_GSTAT : Nat := 0x700010000
def F.STB_GSTAT_ILK : Fld := ⟨Reg.STB_GSTAT, 0, 1⟩
def F.STB_GSTAT_ILK_EV : Fld := ⟨Reg.STB_GSTAT, 1, 1⟩
def F.STB_GSTAT_NOTICE_SHORT : Fld := ⟨Reg.STB_GSTAT, 2, 1⟩
def Reg.STB_ILK_CNT : Nat := 0x700010004
def F.STB_ILK_CNT : Fld := ⟨Reg.STB_ILK_CNT, 0, 32⟩

/-! Table 6-5 (R164, spec/06_strobe_channels.md) -/

def Reg.STBn_CFG (i : Nat) : Nat := 0x700010100 + i * 0x40
def F.STBn_CFG_EN (i : Nat) : Fld := ⟨(Reg.STBn_CFG i), 0, 1⟩
def F.STBn_CFG_POL (i : Nat) : Fld := ⟨(Reg.STBn_CFG i), 1, 1⟩
def F.STBn_CFG_FAULT_ACT (i : Nat) : Fld := ⟨(Reg.STBn_CFG i), 2, 1⟩
def F.STBn_CFG_UNV_FAULT (i : Nat) : Fld := ⟨(Reg.STBn_CFG i), 3, 1⟩
def F.STBn_CFG_PROOF_EN (i : Nat) : Fld := ⟨(Reg.STBn_CFG i), 4, 1⟩
def F.STBn_CFG_PAT (i : Nat) : Fld := ⟨(Reg.STBn_CFG i), 8, 8⟩
def F.STBn_CFG_FLT_CNT (i : Nat) : Fld := ⟨(Reg.STBn_CFG i), 16, 4⟩
def F.STBn_CFG_IFRAC (i : Nat) : Fld := ⟨(Reg.STBn_CFG i), 20, 4⟩
def Reg.STBn_OFS (i : Nat) : Nat := 0x700010104 + i * 0x40
def F.STBn_OFS (i : Nat) : Fld := ⟨(Reg.STBn_OFS i), 0, 22⟩
def Reg.STBn_W (i : Nat) : Nat := 0x700010108 + i * 0x40
def F.STBn_W (i : Nat) : Fld := ⟨(Reg.STBn_W i), 0, 22⟩
def Reg.STBn_ISET (i : Nat) : Nat := 0x70001010c + i * 0x40
def F.STBn_ISET (i : Nat) : Fld := ⟨(Reg.STBn_ISET i), 0, 10⟩
def Reg.STBn_SETTLE (i : Nat) : Nat := 0x700010110 + i * 0x40
def F.STBn_SETTLE (i : Nat) : Fld := ⟨(Reg.STBn_SETTLE i), 0, 10⟩
def Reg.STBn_LIM (i : Nat) : Nat := 0x700010114 + i * 0x40
def F.STBn_LIM_NUNV (i : Nat) : Fld := ⟨(Reg.STBn_LIM i), 0, 8⟩
def F.STBn_LIM_NWAIT (i : Nat) : Fld := ⟨(Reg.STBn_LIM i), 8, 8⟩
def F.STBn_LIM_VSHORT (i : Nat) : Fld := ⟨(Reg.STBn_LIM i), 16, 8⟩
def Reg.STBn_STAT (i : Nat) : Nat := 0x700010118 + i * 0x40
def F.STBn_STAT_OPEN (i : Nat) : Fld := ⟨(Reg.STBn_STAT i), 0, 1⟩
def F.STBn_STAT_SHORT (i : Nat) : Fld := ⟨(Reg.STBn_STAT i), 1, 1⟩
def F.STBn_STAT_STUCK_ON (i : Nat) : Fld := ⟨(Reg.STBn_STAT i), 2, 1⟩
def F.STBn_STAT_OVERLAP (i : Nat) : Fld := ⟨(Reg.STBn_STAT i), 3, 1⟩
def F.STBn_STAT_TEST_REFUSED (i : Nat) : Fld := ⟨(Reg.STBn_STAT i), 4, 1⟩
def F.STBn_STAT_LAMP_UNVERIFIED (i : Nat) : Fld := ⟨(Reg.STBn_STAT i), 5, 1⟩
def F.STBn_STAT_PROOF_PEND (i : Nat) : Fld := ⟨(Reg.STBn_STAT i), 6, 1⟩
def F.STBn_STAT_DISABLED (i : Nat) : Fld := ⟨(Reg.STBn_STAT i), 7, 1⟩
def F.STBn_STAT_PIN_OFF (i : Nat) : Fld := ⟨(Reg.STBn_STAT i), 8, 1⟩
def F.STBn_STAT_UNV (i : Nat) : Fld := ⟨(Reg.STBn_STAT i), 16, 8⟩
def F.STBn_STAT_WAIT (i : Nat) : Fld := ⟨(Reg.STBn_STAT i), 24, 8⟩
def Reg.STBn_ONTIME_LO (i : Nat) : Nat := 0x70001011c + i * 0x40
def F.STBn_ONTIME_LO (i : Nat) : Fld := ⟨(Reg.STBn_ONTIME_LO i), 0, 32⟩
def Reg.STBn_ONTIME_HI (i : Nat) : Nat := 0x700010120 + i * 0x40
def F.STBn_ONTIME_HI (i : Nat) : Fld := ⟨(Reg.STBn_ONTIME_HI i), 0, 16⟩
def Reg.STBn_PULSES (i : Nat) : Nat := 0x700010124 + i * 0x40
def F.STBn_PULSES (i : Nat) : Fld := ⟨(Reg.STBn_PULSES i), 0, 32⟩
def Reg.STBn_PROOF_DONE (i : Nat) : Nat := 0x700010128 + i * 0x40
def F.STBn_PROOF_DONE (i : Nat) : Fld := ⟨(Reg.STBn_PROOF_DONE i), 0, 32⟩
def Reg.STBn_PROOF_ABORT (i : Nat) : Nat := 0x70001012c + i * 0x40
def F.STBn_PROOF_ABORT (i : Nat) : Fld := ⟨(Reg.STBn_PROOF_ABORT i), 0, 32⟩
def Reg.STBn_UNV_EV (i : Nat) : Nat := 0x700010130 + i * 0x40
def F.STBn_UNV_EV (i : Nat) : Fld := ⟨(Reg.STBn_UNV_EV i), 0, 32⟩
def Reg.STBn_SKIP (i : Nat) : Nat := 0x700010134 + i * 0x40
def F.STBn_SKIP (i : Nat) : Fld := ⟨(Reg.STBn_SKIP i), 0, 32⟩
def Reg.STBn_TEST (i : Nat) : Nat := 0x700010138 + i * 0x40
def F.STBn_TEST_GO (i : Nat) : Fld := ⟨(Reg.STBn_TEST i), 0, 1⟩

/-! Table 7-9 (R192, spec/07_line_ingest.md) -/

def Reg.ING_CFG : Nat := 0x400000000
def F.ING_CFG_EN : Fld := ⟨Reg.ING_CFG, 0, 1⟩
def F.ING_CFG_DEPTH16 : Fld := ⟨Reg.ING_CFG, 1, 1⟩
def F.ING_CFG_CMP_EN : Fld := ⟨Reg.ING_CFG, 2, 1⟩
def F.ING_CFG_FILL : Fld := ⟨Reg.ING_CFG, 16, 16⟩
def Reg.ING_LANES : Nat := 0x400000004
def F.ING_LANES : Fld := ⟨Reg.ING_LANES, 0, 16⟩
def Reg.ING_FRAME_LEN : Nat := 0x400000008
def F.ING_FRAME_LEN : Fld := ⟨Reg.ING_FRAME_LEN, 0, 17⟩
def Reg.ING_LTMO : Nat := 0x40000000c
def F.ING_LTMO : Fld := ⟨Reg.ING_LTMO, 0, 22⟩
def Reg.ING_LDWAIT : Nat := 0x400000010
def F.ING_LDWAIT : Fld := ⟨Reg.ING_LDWAIT, 0, 10⟩
def Reg.ING_QMASK : Nat := 0x400000014
def F.ING_QMASK : Fld := ⟨Reg.ING_QMASK, 0, 16⟩
def Reg.ING_DIST_THR : Nat := 0x400000018
def F.ING_DIST_THR : Fld := ⟨Reg.ING_DIST_THR, 0, 17⟩
def Reg.ING_SLOTS : Nat := 0x40000001c
def F.ING_SLOTS_FREE : Fld := ⟨Reg.ING_SLOTS, 0, 8⟩
def F.ING_SLOTS_FILLING : Fld := ⟨Reg.ING_SLOTS, 8, 8⟩
def F.ING_SLOTS_FILLED : Fld := ⟨Reg.ING_SLOTS, 16, 8⟩
def F.ING_SLOTS_LOADING : Fld := ⟨Reg.ING_SLOTS, 24, 8⟩
def Reg.ING_STAT : Nat := 0x400000020
def F.ING_STAT_STARVED : Fld := ⟨Reg.ING_STAT, 0, 1⟩
def F.ING_STAT_FREC_EV : Fld := ⟨Reg.ING_STAT, 1, 1⟩
def F.ING_STAT_FRAME_OPEN : Fld := ⟨Reg.ING_STAT, 8, 1⟩
def Reg.ING_ERR : Nat := 0x400000024
def F.ING_ERR_CMP : Fld := ⟨Reg.ING_ERR, 0, 1⟩
def F.ING_ERR_CFG : Fld := ⟨Reg.ING_ERR, 1, 1⟩
def Reg.ING_DISCARD_FULL : Nat := 0x400000028
def F.ING_DISCARD_FULL : Fld := ⟨Reg.ING_DISCARD_FULL, 0, 32⟩
def Reg.ING_ORPHAN : Nat := 0x40000002c
def F.ING_ORPHAN : Fld := ⟨Reg.ING_ORPHAN, 0, 32⟩
def Reg.ING_MISSING : Nat := 0x400000030
def F.ING_MISSING : Fld := ⟨Reg.ING_MISSING, 0, 32⟩
def Reg.ING_CRC_CNT : Nat := 0x400000034
def F.ING_CRC_CNT : Fld := ⟨Reg.ING_CRC_CNT, 0, 32⟩
def Reg.ING_SYNC_CNT : Nat := 0x400000038
def F.ING_SYNC_CNT : Fld := ⟨Reg.ING_SYNC_CNT, 0, 32⟩
def Reg.ING_STARVE_CNT : Nat := 0x40000003c
def F.ING_STARVE_CNT : Fld := ⟨Reg.ING_STARVE_CNT, 0, 32⟩
def Reg.ING_CMP_CTRL : Nat := 0x400000040
def F.ING_CMP_CTRL_COMMIT : Fld := ⟨Reg.ING_CMP_CTRL, 0, 1⟩
def Reg.ING_CMP_MAXERR : Nat := 0x400000044
def F.ING_CMP_MAXERR : Fld := ⟨Reg.ING_CMP_MAXERR, 0, 7⟩
def Reg.ING_CMP_SEGj (i : Nat) : Nat := 0x400000080 + i * 0x4
def F.ING_CMP_SEGj_B (i : Nat) : Fld := ⟨(Reg.ING_CMP_SEGj i), 0, 13⟩
def F.ING_CMP_SEGj_S (i : Nat) : Fld := ⟨(Reg.ING_CMP_SEGj i), 13, 3⟩
def Reg.ING_FREC (i : Nat) : Nat := 0x400000100 + i * 0x4
def F.ING_FREC (i : Nat) : Fld := ⟨(Reg.ING_FREC i), 0, 32⟩

/-! Table 8-10 (R220, spec/08_processing_array.md) -/

def Reg.TRS_ARR_CFG : Nat := 0x110010100
def F.TRS_ARR_CFG_CHAIN_LEN : Fld := ⟨Reg.TRS_ARR_CFG, 0, 15⟩
def F.TRS_ARR_CFG_GOR_RTZ : Fld := ⟨Reg.TRS_ARR_CFG, 16, 1⟩
def Reg.TRS_GOR : Nat := 0x110010104
def F.TRS_GOR_VALUE : Fld := ⟨Reg.TRS_GOR, 0, 1⟩
def F.TRS_GOR_HIT : Fld := ⟨Reg.TRS_GOR, 1, 1⟩
def F.TRS_GOR_OUT : Fld := ⟨Reg.TRS_GOR, 2, 1⟩
def F.TRS_GOR_SEQ : Fld := ⟨Reg.TRS_GOR, 8, 24⟩
def Reg.TRS_GOR_TILES_LO : Nat := 0x110010108
def F.TRS_GOR_TILES_LO : Fld := ⟨Reg.TRS_GOR_TILES_LO, 0, 32⟩
def Reg.TRS_GOR_TILES_HI : Nat := 0x11001010c
def F.TRS_GOR_TILES_HI : Fld := ⟨Reg.TRS_GOR_TILES_HI, 0, 32⟩
def Reg.TRS_STICKY : Nat := 0x110010110
def F.TRS_STICKY_OVF : Fld := ⟨Reg.TRS_STICKY, 0, 1⟩
def F.TRS_STICKY_DIVZ : Fld := ⟨Reg.TRS_STICKY, 1, 1⟩
def F.TRS_STICKY_INV : Fld := ⟨Reg.TRS_STICKY, 2, 1⟩
def F.TRS_STICKY_QNAN : Fld := ⟨Reg.TRS_STICKY, 3, 1⟩
def F.TRS_STICKY_MISS_DET : Fld := ⟨Reg.TRS_STICKY, 4, 1⟩
def F.TRS_STICKY_POISON : Fld := ⟨Reg.TRS_STICKY, 5, 1⟩
def Reg.TRS_TILE_ON_LO : Nat := 0x110010114
def F.TRS_TILE_ON_LO : Fld := ⟨Reg.TRS_TILE_ON_LO, 0, 32⟩
def Reg.TRS_TILE_ON_HI : Nat := 0x110010118
def F.TRS_TILE_ON_HI : Fld := ⟨Reg.TRS_TILE_ON_HI, 0, 32⟩

/-! Table 8-11 (R221, spec/08_processing_array.md) -/

def Reg.TILE_ID (b k : Nat) : Nat := 0x800000000 + b * 0x100000000 + k * 0x1000
def F.TILE_ID_TILE (b k : Nat) : Fld := ⟨(Reg.TILE_ID b k), 0, 6⟩
def F.TILE_ID_BENT (b k : Nat) : Fld := ⟨(Reg.TILE_ID b k), 8, 3⟩
def F.TILE_ID_ON (b k : Nat) : Fld := ⟨(Reg.TILE_ID b k), 16, 1⟩
def Reg.TILE_STICKY (b k : Nat) : Nat := 0x800000004 + b * 0x100000000 + k * 0x1000
def F.TILE_STICKY_OVF (b k : Nat) : Fld := ⟨(Reg.TILE_STICKY b k), 0, 1⟩
def F.TILE_STICKY_DIVZ (b k : Nat) : Fld := ⟨(Reg.TILE_STICKY b k), 1, 1⟩
def F.TILE_STICKY_INV (b k : Nat) : Fld := ⟨(Reg.TILE_STICKY b k), 2, 1⟩
def Reg.TILE_GOR (b k : Nat) : Nat := 0x800000008 + b * 0x100000000 + k * 0x1000
def F.TILE_GOR (b k : Nat) : Fld := ⟨(Reg.TILE_GOR b k), 0, 1⟩
def Reg.BENT_GOR (b : Nat) : Nat := 0x80000f000 + b * 0x100000000
def F.BENT_GOR (b : Nat) : Fld := ⟨(Reg.BENT_GOR b), 0, 8⟩

/-! Table 9-12 (R245, spec/09_array_operations.md) -/

def Reg.TRS_QSTAT : Nat := 0x110010000
def F.TRS_QSTAT_COUNT : Fld := ⟨Reg.TRS_QSTAT, 0, 7⟩
def F.TRS_QSTAT_EXEC : Fld := ⟨Reg.TRS_QSTAT, 8, 1⟩
def F.TRS_QSTAT_LOADL_WAIT : Fld := ⟨Reg.TRS_QSTAT, 9, 1⟩
def F.TRS_QSTAT_STORE_WAIT : Fld := ⟨Reg.TRS_QSTAT, 10, 1⟩
def F.TRS_QSTAT_BUF_BUSY : Fld := ⟨Reg.TRS_QSTAT, 12, 2⟩
def Reg.TRS_CTRL : Nat := 0x110010004
def F.TRS_CTRL_FLUSH : Fld := ⟨Reg.TRS_CTRL, 0, 1⟩
def Reg.TRS_ERR : Nat := 0x110010008
def F.TRS_ERR_CODE : Fld := ⟨Reg.TRS_ERR, 0, 3⟩
def F.TRS_ERR_VALID : Fld := ⟨Reg.TRS_ERR, 3, 1⟩
def F.TRS_ERR_MORE : Fld := ⟨Reg.TRS_ERR, 4, 1⟩
def F.TRS_ERR_TASK : Fld := ⟨Reg.TRS_ERR, 8, 3⟩
def Reg.TRS_BADOP0 : Nat := 0x11001000c
def F.TRS_BADOP0 : Fld := ⟨Reg.TRS_BADOP0, 0, 32⟩
def Reg.TRS_BADOP1 : Nat := 0x110010010
def F.TRS_BADOP1 : Fld := ⟨Reg.TRS_BADOP1, 0, 32⟩
def Reg.TRS_BADOP2 : Nat := 0x110010014
def F.TRS_BADOP2 : Fld := ⟨Reg.TRS_BADOP2, 0, 32⟩
def Reg.TRS_REFUSE_CNT : Nat := 0x110010018
def F.TRS_REFUSE_CNT : Fld := ⟨Reg.TRS_REFUSE_CNT, 0, 32⟩
def Reg.TRS_DISCARD_CNT : Nat := 0x11001001c
def F.TRS_DISCARD_CNT : Fld := ⟨Reg.TRS_DISCARD_CNT, 0, 32⟩
def Reg.TRS_DONE_CNT : Nat := 0x110010020
def F.TRS_DONE_CNT : Fld := ⟨Reg.TRS_DONE_CNT, 0, 32⟩
def Reg.TRS_UCODE_ID : Nat := 0x110010024
def F.TRS_UCODE_ID : Fld := ⟨Reg.TRS_UCODE_ID, 0, 16⟩

/-! Table 10-9 (R264, spec/10_bit_serial_arithmetic.md) -/

def Reg.TRS_SCAN : Nat := 0x110010200
def F.TRS_SCAN_VALUE : Fld := ⟨Reg.TRS_SCAN, 0, 7⟩
def F.TRS_SCAN_KIND : Fld := ⟨Reg.TRS_SCAN, 7, 1⟩
def F.TRS_SCAN_OP : Fld := ⟨Reg.TRS_SCAN, 8, 8⟩
def Reg.TRS_LAST_CYC : Nat := 0x110010204
def F.TRS_LAST_CYC_CYC : Fld := ⟨Reg.TRS_LAST_CYC, 0, 24⟩
def F.TRS_LAST_CYC_OP : Fld := ⟨Reg.TRS_LAST_CYC, 24, 8⟩
def Reg.TRS_BUSY_CYC : Nat := 0x110010208
def F.TRS_BUSY_CYC : Fld := ⟨Reg.TRS_BUSY_CYC, 0, 32⟩

/-! Table 11-6 (R293, spec/11_plane_memory.md) -/

def Reg.TLY_CFG : Nat := 0x200000000
def F.TLY_CFG_MODE : Fld := ⟨Reg.TLY_CFG, 0, 1⟩
def F.TLY_CFG_FAR_EN : Fld := ⟨Reg.TLY_CFG, 1, 1⟩
def F.TLY_CFG_LOOKAHEAD : Fld := ⟨Reg.TLY_CFG, 4, 3⟩
def Reg.TLY_FAR_BASE : Nat := 0x200000004
def F.TLY_FAR_BASE_BASE : Fld := ⟨Reg.TLY_FAR_BASE, 27, 5⟩
def Reg.TLY_STAT : Nat := 0x200000008
def F.TLY_STAT_STAGED : Fld := ⟨Reg.TLY_STAT, 0, 1⟩
def F.TLY_STAT_CMD_BUSY : Fld := ⟨Reg.TLY_STAT, 1, 1⟩
def F.TLY_STAT_CMD_DONE : Fld := ⟨Reg.TLY_STAT, 2, 1⟩
def F.TLY_STAT_PIN_OVR : Fld := ⟨Reg.TLY_STAT, 3, 1⟩
def Reg.TLY_ERR : Nat := 0x20000000c
def F.TLY_ERR_CFG : Fld := ⟨Reg.TLY_ERR, 0, 1⟩
def F.TLY_ERR_CMD_BUSY : Fld := ⟨Reg.TLY_ERR, 1, 1⟩
def F.TLY_ERR_WS : Fld := ⟨Reg.TLY_ERR, 2, 1⟩
def F.TLY_ERR_FAR_RANGE : Fld := ⟨Reg.TLY_ERR, 3, 1⟩
def Reg.TLY_CMD_ARG : Nat := 0x200000010
def F.TLY_CMD_ARG_START : Fld := ⟨Reg.TLY_CMD_ARG, 0, 16⟩
def F.TLY_CMD_ARG_COUNTM1 : Fld := ⟨Reg.TLY_CMD_ARG, 16, 16⟩
def Reg.TLY_CMD : Nat := 0x200000014
def F.TLY_CMD_OP : Fld := ⟨Reg.TLY_CMD, 0, 4⟩
def Reg.TLY_CMD_RESULT : Nat := 0x200000018
def F.TLY_CMD_RESULT_RESULT : Fld := ⟨Reg.TLY_CMD_RESULT, 0, 3⟩
def F.TLY_CMD_RESULT_DONE_PLANES : Fld := ⟨Reg.TLY_CMD_RESULT, 16, 16⟩
def Reg.TLY_BAL_BENCH : Nat := 0x200000020
def F.TLY_BAL_BENCH_FREE : Fld := ⟨Reg.TLY_BAL_BENCH, 0, 9⟩
def F.TLY_BAL_BENCH_HELD : Fld := ⟨Reg.TLY_BAL_BENCH, 10, 9⟩
def F.TLY_BAL_BENCH_MOVING : Fld := ⟨Reg.TLY_BAL_BENCH, 20, 9⟩
def Reg.TLY_BAL_YARD_LO : Nat := 0x200000024
def F.TLY_BAL_YARD_LO_FREE : Fld := ⟨Reg.TLY_BAL_YARD_LO, 0, 13⟩
def F.TLY_BAL_YARD_LO_HELD : Fld := ⟨Reg.TLY_BAL_YARD_LO, 16, 13⟩
def Reg.TLY_BAL_YARD_HI : Nat := 0x200000028
def F.TLY_BAL_YARD_HI_MOVING : Fld := ⟨Reg.TLY_BAL_YARD_HI, 0, 13⟩
def Reg.TLY_BAL_FAR_FREE : Nat := 0x20000002c
def F.TLY_BAL_FAR_FREE : Fld := ⟨Reg.TLY_BAL_FAR_FREE, 0, 17⟩
def Reg.TLY_BAL_FAR_HELD : Nat := 0x200000030
def F.TLY_BAL_FAR_HELD : Fld := ⟨Reg.TLY_BAL_FAR_HELD, 0, 17⟩
def Reg.TLY_BAL_FAR_MOVING : Nat := 0x200000034
def F.TLY_BAL_FAR_MOVING : Fld := ⟨Reg.TLY_BAL_FAR_MOVING, 0, 7⟩
def Reg.TLY_BAL_FAR_POISON : Nat := 0x200000038
def F.TLY_BAL_FAR_POISON : Fld := ⟨Reg.TLY_BAL_FAR_POISON, 0, 17⟩
def Reg.TLY_INFLIGHT : Nat := 0x200000040
def F.TLY_INFLIGHT : Fld := ⟨Reg.TLY_INFLIGHT, 0, 7⟩
def Reg.TLY_STALL_FRAME : Nat := 0x200000044
def F.TLY_STALL_FRAME : Fld := ⟨Reg.TLY_STALL_FRAME, 0, 32⟩
def Reg.TLY_STALL_LAST : Nat := 0x200000048
def F.TLY_STALL_LAST : Fld := ⟨Reg.TLY_STALL_LAST, 0, 32⟩
def Reg.TLY_STALL_TOTAL : Nat := 0x20000004c
def F.TLY_STALL_TOTAL : Fld := ⟨Reg.TLY_STALL_TOTAL, 0, 32⟩
def Reg.TLY_MISS_CNT : Nat := 0x200000050
def F.TLY_MISS_CNT : Fld := ⟨Reg.TLY_MISS_CNT, 0, 32⟩
def Reg.TLY_MISS_PLANE : Nat := 0x200000054
def F.TLY_MISS_PLANE_PLANE : Fld := ⟨Reg.TLY_MISS_PLANE, 0, 16⟩
def F.TLY_MISS_PLANE_VALID : Fld := ⟨Reg.TLY_MISS_PLANE, 16, 1⟩
def Reg.TLY_POISON_CNT : Nat := 0x200000058
def F.TLY_POISON_CNT : Fld := ⟨Reg.TLY_POISON_CNT, 0, 32⟩
def Reg.TLY_POISON_PLANE : Nat := 0x20000005c
def F.TLY_POISON_PLANE_PLANE : Fld := ⟨Reg.TLY_POISON_PLANE, 0, 16⟩
def F.TLY_POISON_PLANE_CAUSE : Fld := ⟨Reg.TLY_POISON_PLANE, 16, 3⟩
def F.TLY_POISON_PLANE_VALID : Fld := ⟨Reg.TLY_POISON_PLANE, 20, 1⟩
def Reg.TLY_PIN_CNT : Nat := 0x200000060
def F.TLY_PIN_CNT_PIN_B : Fld := ⟨Reg.TLY_PIN_CNT, 0, 9⟩
def F.TLY_PIN_CNT_PIN_BY : Fld := ⟨Reg.TLY_PIN_CNT, 16, 12⟩
def Reg.TLY_MAP_SEL : Nat := 0x200000070
def F.TLY_MAP_SEL : Fld := ⟨Reg.TLY_MAP_SEL, 0, 16⟩
def Reg.TLY_MAP_ENT : Nat := 0x200000074
def F.TLY_MAP_ENT_LEVEL : Fld := ⟨Reg.TLY_MAP_ENT, 0, 2⟩
def F.TLY_MAP_ENT_MOVING : Fld := ⟨Reg.TLY_MAP_ENT, 2, 1⟩
def F.TLY_MAP_ENT_POISON : Fld := ⟨Reg.TLY_MAP_ENT, 3, 1⟩
def F.TLY_MAP_ENT_PIN_B : Fld := ⟨Reg.TLY_MAP_ENT, 4, 1⟩
def F.TLY_MAP_ENT_PIN_Y : Fld := ⟨Reg.TLY_MAP_ENT, 5, 1⟩
def F.TLY_MAP_ENT_WS : Fld := ⟨Reg.TLY_MAP_ENT, 6, 1⟩
def F.TLY_MAP_ENT_SLOT : Fld := ⟨Reg.TLY_MAP_ENT, 8, 12⟩
def Reg.TLY_WSi_A (i : Nat) : Nat := 0x200000100 + i * 0x8
def F.TLY_WSi_A_START (i : Nat) : Fld := ⟨(Reg.TLY_WSi_A i), 0, 16⟩
def F.TLY_WSi_A_LEVEL (i : Nat) : Fld := ⟨(Reg.TLY_WSi_A i), 16, 1⟩
def F.TLY_WSi_A_EN (i : Nat) : Fld := ⟨(Reg.TLY_WSi_A i), 31, 1⟩
def Reg.TLY_WSi_B (i : Nat) : Nat := 0x200000104 + i * 0x8
def F.TLY_WSi_B_COUNT (i : Nat) : Fld := ⟨(Reg.TLY_WSi_B i), 0, 13⟩

/-! Table 12-8 (R326, spec/12_joist_instruction_set.md) -/

def Reg.SEQ_Tn_PC (i : Nat) : Nat := 0x110000400 + i * 0x40
def F.SEQ_Tn_PC (i : Nat) : Fld := ⟨(Reg.SEQ_Tn_PC i), 0, 18⟩
def Reg.SEQ_Tn_REP (i : Nat) : Nat := 0x110000404 + i * 0x40
def F.SEQ_Tn_REP (i : Nat) : Fld := ⟨(Reg.SEQ_Tn_REP i), 0, 32⟩
def Reg.SEQ_Tn_PEND (i : Nat) : Nat := 0x110000408 + i * 0x40
def F.SEQ_Tn_PEND (i : Nat) : Fld := ⟨(Reg.SEQ_Tn_PEND i), 0, 32⟩
def Reg.SEQ_Tn_WARN (i : Nat) : Nat := 0x11000040c + i * 0x40
def F.SEQ_Tn_WARN_REPN_DEMOTED (i : Nat) : Fld := ⟨(Reg.SEQ_Tn_WARN i), 0, 1⟩
def F.SEQ_Tn_WARN_DIVZ (i : Nat) : Fld := ⟨(Reg.SEQ_Tn_WARN i), 1, 1⟩
def F.SEQ_Tn_WARN_OVF (i : Nat) : Fld := ⟨(Reg.SEQ_Tn_WARN i), 2, 1⟩
def F.SEQ_Tn_WARN_BCD_INV (i : Nat) : Fld := ⟨(Reg.SEQ_Tn_WARN i), 3, 1⟩
def F.SEQ_Tn_WARN_BCD_OVR (i : Nat) : Fld := ⟨(Reg.SEQ_Tn_WARN i), 4, 1⟩
def Reg.SEQ_Tn_FAULT (i : Nat) : Nat := 0x110000410 + i * 0x40
def F.SEQ_Tn_FAULT_CAUSE (i : Nat) : Fld := ⟨(Reg.SEQ_Tn_FAULT i), 0, 3⟩
def F.SEQ_Tn_FAULT_VALID (i : Nat) : Fld := ⟨(Reg.SEQ_Tn_FAULT i), 3, 1⟩
def Reg.SEQ_Tn_FAULT_PC (i : Nat) : Nat := 0x110000414 + i * 0x40
def F.SEQ_Tn_FAULT_PC (i : Nat) : Fld := ⟨(Reg.SEQ_Tn_FAULT_PC i), 0, 18⟩
def Reg.SEQ_Tn_RCODE (i : Nat) : Nat := 0x110000418 + i * 0x40
def F.SEQ_Tn_RCODE_CODE (i : Nat) : Fld := ⟨(Reg.SEQ_Tn_RCODE i), 0, 3⟩
def F.SEQ_Tn_RCODE_STOP (i : Nat) : Fld := ⟨(Reg.SEQ_Tn_RCODE i), 4, 4⟩
def Reg.SEQ_Tn_RFAIL_OFS (i : Nat) : Nat := 0x11000041c + i * 0x40
def F.SEQ_Tn_RFAIL_OFS (i : Nat) : Fld := ⟨(Reg.SEQ_Tn_RFAIL_OFS i), 0, 32⟩
def Reg.SEQ_Tn_OUTST (i : Nat) : Nat := 0x110000420 + i * 0x40
def F.SEQ_Tn_OUTST (i : Nat) : Fld := ⟨(Reg.SEQ_Tn_OUTST i), 0, 9⟩

/-! Table 13-9 (R352, spec/13_tasks_and_pegs.md) -/

def Reg.SEQ_SCHED : Nat := 0x110000000
def F.SEQ_SCHED_QUANTUM : Fld := ⟨Reg.SEQ_SCHED, 0, 16⟩
def Reg.SEQ_SCHED_STAT : Nat := 0x110000004
def F.SEQ_SCHED_STAT_CUR : Fld := ⟨Reg.SEQ_SCHED_STAT, 0, 3⟩
def F.SEQ_SCHED_STAT_IDLE : Fld := ⟨Reg.SEQ_SCHED_STAT, 3, 1⟩
def Reg.SEQ_EV_POST : Nat := 0x110000008
def F.SEQ_EV_POST : Fld := ⟨Reg.SEQ_EV_POST, 0, 8⟩
def Reg.SEQ_SCHED_ERR : Nat := 0x11000000c
def F.SEQ_SCHED_ERR_START_BUSY : Fld := ⟨Reg.SEQ_SCHED_ERR, 0, 1⟩
def Reg.SEQ_SWITCH_CNT : Nat := 0x110000010
def F.SEQ_SWITCH_CNT : Fld := ⟨Reg.SEQ_SWITCH_CNT, 0, 32⟩
def Reg.SEQ_PREEMPT_MAX : Nat := 0x110000014
def F.SEQ_PREEMPT_MAX : Fld := ⟨Reg.SEQ_PREEMPT_MAX, 0, 8⟩
def Reg.SEQ_PEG_REQ : Nat := 0x110000020
def F.SEQ_PEG_REQ_PEG : Fld := ⟨Reg.SEQ_PEG_REQ, 0, 5⟩
def F.SEQ_PEG_REQ_OP : Fld := ⟨Reg.SEQ_PEG_REQ, 8, 2⟩
def Reg.SEQ_PEG_RES_HOST : Nat := 0x110000024
def F.SEQ_PEG_RES_HOST_GOT : Fld := ⟨Reg.SEQ_PEG_RES_HOST, 0, 1⟩
def F.SEQ_PEG_RES_HOST_BROKEN : Fld := ⟨Reg.SEQ_PEG_RES_HOST, 1, 1⟩
def F.SEQ_PEG_RES_HOST_EPOCH : Fld := ⟨Reg.SEQ_PEG_RES_HOST, 8, 16⟩
def F.SEQ_PEG_RES_HOST_PEG : Fld := ⟨Reg.SEQ_PEG_RES_HOST, 24, 5⟩
def F.SEQ_PEG_RES_HOST_OP : Fld := ⟨Reg.SEQ_PEG_RES_HOST, 29, 2⟩
def Reg.SEQ_PEG_RES_JIG : Nat := 0x110000028
def F.SEQ_PEG_RES_JIG_GOT : Fld := ⟨Reg.SEQ_PEG_RES_JIG, 0, 1⟩
def F.SEQ_PEG_RES_JIG_BROKEN : Fld := ⟨Reg.SEQ_PEG_RES_JIG, 1, 1⟩
def F.SEQ_PEG_RES_JIG_EPOCH : Fld := ⟨Reg.SEQ_PEG_RES_JIG, 8, 16⟩
def F.SEQ_PEG_RES_JIG_PEG : Fld := ⟨Reg.SEQ_PEG_RES_JIG, 24, 5⟩
def F.SEQ_PEG_RES_JIG_OP : Fld := ⟨Reg.SEQ_PEG_RES_JIG, 29, 2⟩
def Reg.SEQ_PEG_RES_SUPV : Nat := 0x11000002c
def F.SEQ_PEG_RES_SUPV_GOT : Fld := ⟨Reg.SEQ_PEG_RES_SUPV, 0, 1⟩
def F.SEQ_PEG_RES_SUPV_BROKEN : Fld := ⟨Reg.SEQ_PEG_RES_SUPV, 1, 1⟩
def F.SEQ_PEG_RES_SUPV_EPOCH : Fld := ⟨Reg.SEQ_PEG_RES_SUPV, 8, 16⟩
def F.SEQ_PEG_RES_SUPV_PEG : Fld := ⟨Reg.SEQ_PEG_RES_SUPV, 24, 5⟩
def F.SEQ_PEG_RES_SUPV_OP : Fld := ⟨Reg.SEQ_PEG_RES_SUPV, 29, 2⟩
def Reg.SEQ_PEG_BAL : Nat := 0x110000030
def F.SEQ_PEG_BAL_FREE : Fld := ⟨Reg.SEQ_PEG_BAL, 0, 6⟩
def F.SEQ_PEG_BAL_HELD : Fld := ⟨Reg.SEQ_PEG_BAL, 8, 6⟩
def F.SEQ_PEG_BAL_BROKEN : Fld := ⟨Reg.SEQ_PEG_BAL, 16, 6⟩
def Reg.SEQ_PEG_ERR : Nat := 0x110000034
def F.SEQ_PEG_ERR_NOT_HOLDER : Fld := ⟨Reg.SEQ_PEG_ERR, 0, 1⟩
def F.SEQ_PEG_ERR_SELF : Fld := ⟨Reg.SEQ_PEG_ERR, 1, 1⟩
def F.SEQ_PEG_ERR_REL_UNMENDED : Fld := ⟨Reg.SEQ_PEG_ERR, 2, 1⟩
def F.SEQ_PEG_ERR_PEG : Fld := ⟨Reg.SEQ_PEG_ERR, 8, 5⟩
def F.SEQ_PEG_ERR_REQ : Fld := ⟨Reg.SEQ_PEG_ERR, 16, 4⟩
def Reg.SEQ_PEG_BREAK_CNT : Nat := 0x110000038
def F.SEQ_PEG_BREAK_CNT : Fld := ⟨Reg.SEQ_PEG_BREAK_CNT, 0, 32⟩
def Reg.SEQ_PEGp (i : Nat) : Nat := 0x110000100 + i * 0x4
def F.SEQ_PEGp_STATE (i : Nat) : Fld := ⟨(Reg.SEQ_PEGp i), 0, 2⟩
def F.SEQ_PEGp_OWNER (i : Nat) : Fld := ⟨(Reg.SEQ_PEGp i), 4, 4⟩
def F.SEQ_PEGp_EPOCH (i : Nat) : Fld := ⟨(Reg.SEQ_PEGp i), 16, 16⟩

/-! Table 13-10 (R353, spec/13_tasks_and_pegs.md) -/

def Reg.SEQ_Tn_CTRL (i : Nat) : Nat := 0x110000200 + i * 0x20
def F.SEQ_Tn_CTRL_START (i : Nat) : Fld := ⟨(Reg.SEQ_Tn_CTRL i), 0, 1⟩
def F.SEQ_Tn_CTRL_ABORT (i : Nat) : Fld := ⟨(Reg.SEQ_Tn_CTRL i), 1, 1⟩
def Reg.SEQ_Tn_ENTRY (i : Nat) : Nat := 0x110000204 + i * 0x20
def F.SEQ_Tn_ENTRY (i : Nat) : Fld := ⟨(Reg.SEQ_Tn_ENTRY i), 0, 18⟩
def Reg.SEQ_Tn_PRI (i : Nat) : Nat := 0x110000208 + i * 0x20
def F.SEQ_Tn_PRI (i : Nat) : Fld := ⟨(Reg.SEQ_Tn_PRI i), 0, 3⟩
def Reg.SEQ_Tn_STAT (i : Nat) : Nat := 0x11000020c + i * 0x20
def F.SEQ_Tn_STAT_STATE (i : Nat) : Fld := ⟨(Reg.SEQ_Tn_STAT i), 0, 2⟩
def F.SEQ_Tn_STAT_ABORT_CAUSE (i : Nat) : Fld := ⟨(Reg.SEQ_Tn_STAT i), 4, 3⟩
def F.SEQ_Tn_STAT_ABORTED (i : Nat) : Fld := ⟨(Reg.SEQ_Tn_STAT i), 7, 1⟩
def Reg.SEQ_Tn_EV (i : Nat) : Nat := 0x110000210 + i * 0x20
def F.SEQ_Tn_EV (i : Nat) : Fld := ⟨(Reg.SEQ_Tn_EV i), 0, 10⟩
def Reg.SEQ_Tn_WMASK (i : Nat) : Nat := 0x110000214 + i * 0x20
def F.SEQ_Tn_WMASK (i : Nat) : Fld := ⟨(Reg.SEQ_Tn_WMASK i), 0, 10⟩
def Reg.SEQ_Tn_TIMER (i : Nat) : Nat := 0x110000218 + i * 0x20
def F.SEQ_Tn_TIMER_PERIOD (i : Nat) : Fld := ⟨(Reg.SEQ_Tn_TIMER i), 0, 24⟩
def F.SEQ_Tn_TIMER_PERIODIC (i : Nat) : Fld := ⟨(Reg.SEQ_Tn_TIMER i), 31, 1⟩
def Reg.SEQ_Tn_PEGWATCH (i : Nat) : Nat := 0x11000021c + i * 0x20
def F.SEQ_Tn_PEGWATCH (i : Nat) : Fld := ⟨(Reg.SEQ_Tn_PEGWATCH i), 0, 32⟩

/-! Table 14-7 (R374, spec/14_kerf_coder.md) -/

def Reg.KRF_STAT : Nat := 0x500000000
def F.KRF_STAT_LANE_BUSY : Fld := ⟨Reg.KRF_STAT, 0, 4⟩
def F.KRF_STAT_OUT_WAIT : Fld := ⟨Reg.KRF_STAT, 5, 1⟩
def F.KRF_STAT_CLAMP : Fld := ⟨Reg.KRF_STAT, 4, 1⟩
def F.KRF_STAT_DIS_EV : Fld := ⟨Reg.KRF_STAT, 6, 1⟩
def Reg.KRF_BLOCKS : Nat := 0x500000004
def F.KRF_BLOCKS : Fld := ⟨Reg.KRF_BLOCKS, 0, 32⟩
def Reg.KRF_RAW_CNT : Nat := 0x500000008
def F.KRF_RAW_CNT : Fld := ⟨Reg.KRF_RAW_CNT, 0, 32⟩
def Reg.KRF_DIS_CNT : Nat := 0x50000000c
def F.KRF_DIS_CNT : Fld := ⟨Reg.KRF_DIS_CNT, 0, 32⟩
def Reg.KRF_MAXCERT : Nat := 0x500000010
def F.KRF_MAXCERT : Fld := ⟨Reg.KRF_MAXCERT, 0, 4⟩
def Reg.KRF_OUT_BYTES : Nat := 0x500000014
def F.KRF_OUT_BYTES : Fld := ⟨Reg.KRF_OUT_BYTES, 0, 32⟩
def Reg.KRF_OUT_WAIT_CYC : Nat := 0x500000018
def F.KRF_OUT_WAIT_CYC : Fld := ⟨Reg.KRF_OUT_WAIT_CYC, 0, 32⟩
def Reg.KRF_CTXc_CFG (i : Nat) : Nat := 0x500000100 + i * 0x4
def F.KRF_CTXc_CFG_EN (i : Nat) : Fld := ⟨(Reg.KRF_CTXc_CFG i), 0, 1⟩
def F.KRF_CTXc_CFG_CLASS (i : Nat) : Fld := ⟨(Reg.KRF_CTXc_CFG i), 1, 1⟩
def F.KRF_CTXc_CFG_BLKLEN (i : Nat) : Fld := ⟨(Reg.KRF_CTXc_CFG i), 2, 2⟩
def F.KRF_CTXc_CFG_NEAR (i : Nat) : Fld := ⟨(Reg.KRF_CTXc_CFG i), 4, 4⟩
def F.KRF_CTXc_CFG_ABOUND (i : Nat) : Fld := ⟨(Reg.KRF_CTXc_CFG i), 8, 8⟩

/-! Table 15-9 (R397, spec/15_egress_link.md) -/

def Reg.EGR_CFG : Nat := 0x500010000
def F.EGR_CFG_EN : Fld := ⟨Reg.EGR_CFG, 0, 1⟩
def F.EGR_CFG_HEAD_ID : Fld := ⟨Reg.EGR_CFG, 1, 5⟩
def F.EGR_CFG_RETRY_MAX : Fld := ⟨Reg.EGR_CFG, 8, 3⟩
def F.EGR_CFG_ACK_TMO : Fld := ⟨Reg.EGR_CFG, 16, 8⟩
def Reg.EGR_BUF_CFG : Nat := 0x500010004
def F.EGR_BUF_CFG_RESV_REC : Fld := ⟨Reg.EGR_BUF_CFG, 0, 6⟩
def F.EGR_BUF_CFG_RESV_STAT : Fld := ⟨Reg.EGR_BUF_CFG, 8, 6⟩
def Reg.EGR_IMG_WAIT : Nat := 0x500010008
def F.EGR_IMG_WAIT : Fld := ⟨Reg.EGR_IMG_WAIT, 0, 10⟩
def Reg.EGR_STAT : Nat := 0x50001000c
def F.EGR_STAT_LINK_UP : Fld := ⟨Reg.EGR_STAT, 0, 1⟩
def F.EGR_STAT_RX_SYNC : Fld := ⟨Reg.EGR_STAT, 1, 1⟩
def F.EGR_STAT_RX_LOST : Fld := ⟨Reg.EGR_STAT, 4, 1⟩
def Reg.EGR_ERR : Nat := 0x500010010
def F.EGR_ERR_CFG : Fld := ⟨Reg.EGR_ERR, 0, 1⟩
def Reg.EGR_BUF_BAL : Nat := 0x500010014
def F.EGR_BUF_BAL_FREE : Fld := ⟨Reg.EGR_BUF_BAL, 0, 7⟩
def F.EGR_BUF_BAL_QUEUED : Fld := ⟨Reg.EGR_BUF_BAL, 8, 7⟩
def F.EGR_BUF_BAL_INFLIGHT : Fld := ⟨Reg.EGR_BUF_BAL, 16, 7⟩
def Reg.EGR_SEQ : Nat := 0x500010018
def F.EGR_SEQ_NEXT_SEQ : Fld := ⟨Reg.EGR_SEQ, 0, 16⟩
def F.EGR_SEQ_LIMIT : Fld := ⟨Reg.EGR_SEQ, 16, 16⟩
def Reg.EGR_FRAMES : Nat := 0x50001001c
def F.EGR_FRAMES : Fld := ⟨Reg.EGR_FRAMES, 0, 32⟩
def Reg.EGR_RETX_CNT : Nat := 0x500010020
def F.EGR_RETX_CNT : Fld := ⟨Reg.EGR_RETX_CNT, 0, 32⟩
def Reg.EGR_ABANDON : Nat := 0x500010024
def F.EGR_ABANDON : Fld := ⟨Reg.EGR_ABANDON, 0, 32⟩
def Reg.EGR_DROP_CNT : Nat := 0x500010028
def F.EGR_DROP_CNT : Fld := ⟨Reg.EGR_DROP_CNT, 0, 32⟩
def Reg.EGR_COAL_CNT : Nat := 0x50001002c
def F.EGR_COAL_CNT : Fld := ⟨Reg.EGR_COAL_CNT, 0, 32⟩
def Reg.EGR_REFUSE_CNT : Nat := 0x500010030
def F.EGR_REFUSE_CNT : Fld := ⟨Reg.EGR_REFUSE_CNT, 0, 32⟩
def Reg.EGR_RX_ERR : Nat := 0x500010034
def F.EGR_RX_ERR : Fld := ⟨Reg.EGR_RX_ERR, 0, 32⟩
def Reg.EGR_SUMACC : Nat := 0x500010038
def F.EGR_SUMACC : Fld := ⟨Reg.EGR_SUMACC, 0, 32⟩
def Reg.EGR_DROPACC : Nat := 0x50001003c
def F.EGR_DROPACC : Fld := ⟨Reg.EGR_DROPACC, 0, 32⟩
def Reg.EGR_ENQ_D0 : Nat := 0x500010040
def F.EGR_ENQ_D0_LEN : Fld := ⟨Reg.EGR_ENQ_D0, 0, 13⟩
def F.EGR_ENQ_D0_TYPE : Fld := ⟨Reg.EGR_ENQ_D0, 16, 4⟩
def Reg.EGR_ENQ_D1 : Nat := 0x500010044
def F.EGR_ENQ_D1_FIRST_LINE : Fld := ⟨Reg.EGR_ENQ_D1, 0, 32⟩
def Reg.EGR_ENQ_D2 : Nat := 0x500010048
def F.EGR_ENQ_D2_LINE_SPAN : Fld := ⟨Reg.EGR_ENQ_D2, 0, 16⟩
def F.EGR_ENQ_D2_FRAME_NUM : Fld := ⟨Reg.EGR_ENQ_D2, 16, 16⟩
def Reg.EGR_ENQ_D3 : Nat := 0x50001004c
def F.EGR_ENQ_D3_POS : Fld := ⟨Reg.EGR_ENQ_D3, 0, 32⟩
def Reg.EGR_ENQ_D4 : Nat := 0x500010050
def F.EGR_ENQ_D4_POS : Fld := ⟨Reg.EGR_ENQ_D4, 0, 16⟩
def Reg.EGR_ENQ_GO : Nat := 0x500010054
def F.EGR_ENQ_GO_RESULT : Fld := ⟨Reg.EGR_ENQ_GO, 0, 3⟩
def Reg.EGR_STAGE (i : Nat) : Nat := 0x500011000 + i * 0x4
def F.EGR_STAGE (i : Nat) : Fld := ⟨(Reg.EGR_STAGE i), 0, 32⟩

/-! Table 16-5 (R428, spec/16_dynak_lockstep.md) -/

def Reg.DYN_CFG : Nat := 0x700030000
def F.DYN_CFG_EN : Fld := ⟨Reg.DYN_CFG, 0, 1⟩
def F.DYN_CFG_RING : Fld := ⟨Reg.DYN_CFG, 1, 1⟩
def F.DYN_CFG_GORN_OUT : Fld := ⟨Reg.DYN_CFG, 2, 1⟩
def F.DYN_CFG_TRACK_EN : Fld := ⟨Reg.DYN_CFG, 3, 1⟩
def F.DYN_CFG_AUTOCAL : Fld := ⟨Reg.DYN_CFG, 4, 1⟩
def Reg.DYN_LEAD : Nat := 0x700030004
def F.DYN_LEAD : Fld := ⟨Reg.DYN_LEAD, 0, 14⟩
def Reg.DYN_GWIN : Nat := 0x700030008
def F.DYN_GWIN : Fld := ⟨Reg.DYN_GWIN, 0, 16⟩
def Reg.DYN_FW_MAX : Nat := 0x70003000c
def F.DYN_FW_MAX : Fld := ⟨Reg.DYN_FW_MAX, 0, 11⟩
def Reg.DYN_POS_PER : Nat := 0x700030010
def F.DYN_POS_PER : Fld := ⟨Reg.DYN_POS_PER, 0, 16⟩
def Reg.DYN_STAT : Nat := 0x700030014
def F.DYN_STAT_UP_TRN : Fld := ⟨Reg.DYN_STAT, 0, 1⟩
def F.DYN_STAT_DN_TRN : Fld := ⟨Reg.DYN_STAT, 1, 1⟩
def F.DYN_STAT_CAL_DONE : Fld := ⟨Reg.DYN_STAT, 2, 1⟩
def F.DYN_STAT_SRC : Fld := ⟨Reg.DYN_STAT, 3, 1⟩
def F.DYN_STAT_FREEWHEEL : Fld := ⟨Reg.DYN_STAT, 4, 1⟩
def F.DYN_STAT_STOPPED : Fld := ⟨Reg.DYN_STAT, 5, 1⟩
def F.DYN_STAT_HOP : Fld := ⟨Reg.DYN_STAT, 8, 5⟩
def F.DYN_STAT_LOST_EV : Fld := ⟨Reg.DYN_STAT, 16, 1⟩
def F.DYN_STAT_TIME_ERR : Fld := ⟨Reg.DYN_STAT, 17, 1⟩
def F.DYN_STAT_FAILOVER_EV : Fld := ⟨Reg.DYN_STAT, 18, 1⟩
def F.DYN_STAT_CMD_EV : Fld := ⟨Reg.DYN_STAT, 19, 1⟩
def F.DYN_STAT_ALIEN : Fld := ⟨Reg.DYN_STAT, 20, 1⟩
def Reg.DYN_ERR : Nat := 0x700030018
def F.DYN_ERR_TOO_LONG : Fld := ⟨Reg.DYN_ERR, 0, 1⟩
def F.DYN_ERR_CAL_FAIL : Fld := ⟨Reg.DYN_ERR, 1, 1⟩
def Reg.DYN_CAL : Nat := 0x70003001c
def F.DYN_CAL_GO : Fld := ⟨Reg.DYN_CAL, 0, 1⟩
def F.DYN_CAL_BUSY : Fld := ⟨Reg.DYN_CAL, 1, 1⟩
def Reg.DYN_HOPDLY : Nat := 0x700030020
def F.DYN_HOPDLY_UP : Fld := ⟨Reg.DYN_HOPDLY, 0, 16⟩
def F.DYN_HOPDLY_DN : Fld := ⟨Reg.DYN_HOPDLY, 16, 16⟩
def Reg.DYN_FINE : Nat := 0x700030024
def F.DYN_FINE : Fld := ⟨Reg.DYN_FINE, 0, 6⟩
def Reg.DYN_GTIME_LO : Nat := 0x700030028
def F.DYN_GTIME_LO : Fld := ⟨Reg.DYN_GTIME_LO, 0, 32⟩
def Reg.DYN_GTIME_HI : Nat := 0x70003002c
def F.DYN_GTIME_HI : Fld := ⟨Reg.DYN_GTIME_HI, 0, 16⟩
def Reg.DYN_MPOS_LO : Nat := 0x700030030
def F.DYN_MPOS_LO : Fld := ⟨Reg.DYN_MPOS_LO, 0, 32⟩
def Reg.DYN_MPOS_HI : Nat := 0x700030034
def F.DYN_MPOS_HI : Fld := ⟨Reg.DYN_MPOS_HI, 0, 16⟩
def Reg.DYN_GOR_MASK : Nat := 0x700030038
def F.DYN_GOR_MASK : Fld := ⟨Reg.DYN_GOR_MASK, 0, 32⟩
def Reg.DYN_GOR_LAST : Nat := 0x70003003c
def F.DYN_GOR_LAST_LNUM : Fld := ⟨Reg.DYN_GOR_LAST, 0, 24⟩
def F.DYN_GOR_LAST_HOP : Fld := ⟨Reg.DYN_GOR_LAST, 24, 5⟩
def Reg.DYN_CMD_TX_LO : Nat := 0x700030040
def F.DYN_CMD_TX_LO : Fld := ⟨Reg.DYN_CMD_TX_LO, 0, 32⟩
def Reg.DYN_CMD_TX_HI : Nat := 0x700030044
def F.DYN_CMD_TX_HI : Fld := ⟨Reg.DYN_CMD_TX_HI, 0, 16⟩
def Reg.DYN_CMD_RX_LO : Nat := 0x700030048
def F.DYN_CMD_RX_LO : Fld := ⟨Reg.DYN_CMD_RX_LO, 0, 32⟩
def Reg.DYN_CMD_RX_HI : Nat := 0x70003004c
def F.DYN_CMD_RX_HI : Fld := ⟨Reg.DYN_CMD_RX_HI, 0, 16⟩
def Reg.DYN_CRC_ERR : Nat := 0x700030050
def F.DYN_CRC_ERR : Fld := ⟨Reg.DYN_CRC_ERR, 0, 32⟩
def Reg.DYN_LOST_LINE : Nat := 0x700030054
def F.DYN_LOST_LINE : Fld := ⟨Reg.DYN_LOST_LINE, 0, 32⟩
def Reg.DYN_LATE_LINE : Nat := 0x700030058
def F.DYN_LATE_LINE : Fld := ⟨Reg.DYN_LATE_LINE, 0, 32⟩
def Reg.DYN_XTRAP_CNT : Nat := 0x70003005c
def F.DYN_XTRAP_CNT : Fld := ⟨Reg.DYN_XTRAP_CNT, 0, 32⟩
def Reg.DYN_FWD_DROP : Nat := 0x700030060
def F.DYN_FWD_DROP : Fld := ⟨Reg.DYN_FWD_DROP, 0, 32⟩
def Reg.DYN_DUP : Nat := 0x700030064
def F.DYN_DUP : Fld := ⟨Reg.DYN_DUP, 0, 32⟩
def Reg.DYN_RSV_MSG : Nat := 0x700030068
def F.DYN_RSV_MSG : Fld := ⟨Reg.DYN_RSV_MSG, 0, 32⟩
def Reg.DYN_LOSS_CNT : Nat := 0x70003006c
def F.DYN_LOSS_CNT : Fld := ⟨Reg.DYN_LOSS_CNT, 0, 32⟩

/-! Table 17-7 (R460, spec/17_rings.md) -/

def Reg.NI_CFG (s : Nat) : Nat := 0x1000004 + s * 0x10000
def F.NI_CFG_WEIGHT (s : Nat) : Fld := ⟨(Reg.NI_CFG s), 0, 4⟩
def F.NI_CFG_TMO (s : Nat) : Fld := ⟨(Reg.NI_CFG s), 4, 8⟩
def F.NI_CFG_FO_CNT (s : Nat) : Fld := ⟨(Reg.NI_CFG s), 12, 4⟩
def Reg.NI_STAT (s : Nat) : Nat := 0x1000008 + s * 0x10000
def F.NI_STAT_PLATE_UP (s : Nat) : Fld := ⟨(Reg.NI_STAT s), 0, 1⟩
def F.NI_STAT_SILL_UP (s : Nat) : Fld := ⟨(Reg.NI_STAT s), 1, 1⟩
def F.NI_STAT_BYPASS (s : Nat) : Fld := ⟨(Reg.NI_STAT s), 2, 1⟩
def F.NI_STAT_FAILOVER (s : Nat) : Fld := ⟨(Reg.NI_STAT s), 8, 1⟩
def F.NI_STAT_ROUTE_ERR (s : Nat) : Fld := ⟨(Reg.NI_STAT s), 9, 1⟩
def F.NI_STAT_URG_DEMOTE (s : Nat) : Fld := ⟨(Reg.NI_STAT s), 10, 1⟩
def Reg.NI_TAG_BAL (s : Nat) : Nat := 0x100000c + s * 0x10000
def F.NI_TAG_BAL_FREE (s : Nat) : Fld := ⟨(Reg.NI_TAG_BAL s), 0, 9⟩
def F.NI_TAG_BAL_OUT (s : Nat) : Fld := ⟨(Reg.NI_TAG_BAL s), 16, 9⟩
def F.NI_TAG_BAL_RETIRING (s : Nat) : Fld := ⟨(Reg.NI_TAG_BAL s), 28, 3⟩
def Reg.NI_TAG_STALE (s : Nat) : Nat := 0x1000010 + s * 0x10000
def F.NI_TAG_STALE (s : Nat) : Fld := ⟨(Reg.NI_TAG_STALE s), 0, 9⟩
def Reg.NI_DELAY_CYCLES (s : Nat) : Nat := 0x1000014 + s * 0x10000
def F.NI_DELAY_CYCLES (s : Nat) : Fld := ⟨(Reg.NI_DELAY_CYCLES s), 0, 32⟩
def Reg.NI_REFUSE_COUNT (s : Nat) : Nat := 0x1000018 + s * 0x10000
def F.NI_REFUSE_COUNT (s : Nat) : Fld := ⟨(Reg.NI_REFUSE_COUNT s), 0, 32⟩
def Reg.NI_TIMEOUT_CNT (s : Nat) : Nat := 0x100001c + s * 0x10000
def F.NI_TIMEOUT_CNT (s : Nat) : Fld := ⟨(Reg.NI_TIMEOUT_CNT s), 0, 32⟩
def Reg.NI_LATE_RESP (s : Nat) : Nat := 0x1000020 + s * 0x10000
def F.NI_LATE_RESP (s : Nat) : Fld := ⟨(Reg.NI_LATE_RESP s), 0, 32⟩
def Reg.NI_HDR_ERR (s : Nat) : Nat := 0x1000024 + s * 0x10000
def F.NI_HDR_ERR (s : Nat) : Fld := ⟨(Reg.NI_HDR_ERR s), 0, 32⟩
def Reg.NI_BYPASS_DROP (s : Nat) : Nat := 0x1000028 + s * 0x10000
def F.NI_BYPASS_DROP (s : Nat) : Fld := ⟨(Reg.NI_BYPASS_DROP s), 0, 32⟩
def Reg.NI_URG_DEMOTE (s : Nat) : Nat := 0x100002c + s * 0x10000
def F.NI_URG_DEMOTE (s : Nat) : Fld := ⟨(Reg.NI_URG_DEMOTE s), 0, 32⟩
def Reg.NI_CRED_P_LO (s : Nat) : Nat := 0x1000030 + s * 0x10000
def F.NI_CRED_P_LO_URGENT (s : Nat) : Fld := ⟨(Reg.NI_CRED_P_LO s), 0, 12⟩
def F.NI_CRED_P_LO_CONTROL (s : Nat) : Fld := ⟨(Reg.NI_CRED_P_LO s), 16, 12⟩
def Reg.NI_CRED_P_HI (s : Nat) : Nat := 0x1000034 + s * 0x10000
def F.NI_CRED_P_HI_BULK (s : Nat) : Fld := ⟨(Reg.NI_CRED_P_HI s), 0, 12⟩
def Reg.NI_CRED_S_LO (s : Nat) : Nat := 0x1000038 + s * 0x10000
def F.NI_CRED_S_LO_URGENT (s : Nat) : Fld := ⟨(Reg.NI_CRED_S_LO s), 0, 12⟩
def F.NI_CRED_S_LO_CONTROL (s : Nat) : Fld := ⟨(Reg.NI_CRED_S_LO s), 16, 12⟩
def Reg.NI_CRED_S_HI (s : Nat) : Nat := 0x100003c + s * 0x10000
def F.NI_CRED_S_HI_BULK (s : Nat) : Fld := ⟨(Reg.NI_CRED_S_HI s), 0, 12⟩
def Reg.NI_ROUTEi (s i : Nat) : Nat := 0x1000100 + s * 0x10000 + i * 0x4
def F.NI_ROUTEi_RING (s i : Nat) : Fld := ⟨(Reg.NI_ROUTEi s i), 0, 1⟩
def F.NI_ROUTEi_HOPS (s i : Nat) : Fld := ⟨(Reg.NI_ROUTEi s i), 1, 4⟩
def F.NI_ROUTEi_ALT_RING (s i : Nat) : Fld := ⟨(Reg.NI_ROUTEi s i), 8, 1⟩
def F.NI_ROUTEi_ALT_HOPS (s i : Nat) : Fld := ⟨(Reg.NI_ROUTEi s i), 9, 4⟩
def F.NI_ROUTEi_ALT_EN (s i : Nat) : Fld := ⟨(Reg.NI_ROUTEi s i), 15, 1⟩
def F.NI_ROUTEi_VALID (s i : Nat) : Fld := ⟨(Reg.NI_ROUTEi s i), 31, 1⟩
def F.NI_ROUTEi_USE_ALT (s i : Nat) : Fld := ⟨(Reg.NI_ROUTEi s i), 16, 1⟩

/-! Table 18-8 (R481, spec/18_far_memory.md) -/

def Reg.MEMC_CFG : Nat := 0x60000
def F.MEMC_CFG_RANKS : Fld := ⟨Reg.MEMC_CFG, 0, 1⟩
def F.MEMC_CFG_DENS : Fld := ⟨Reg.MEMC_CFG, 1, 3⟩
def F.MEMC_CFG_ECC_EN : Fld := ⟨Reg.MEMC_CFG, 4, 1⟩
def F.MEMC_CFG_SCRUB_WB : Fld := ⟨Reg.MEMC_CFG, 5, 1⟩
def F.MEMC_CFG_DQ_ODT : Fld := ⟨Reg.MEMC_CFG, 8, 2⟩
def F.MEMC_CFG_CA_ODT : Fld := ⟨Reg.MEMC_CFG, 10, 2⟩
def Reg.MEMC_CAP : Nat := 0x60004
def F.MEMC_CAP : Fld := ⟨Reg.MEMC_CAP, 0, 13⟩
def Reg.MEMC_STAT : Nat := 0x60008
def F.MEMC_STAT_TRAINED : Fld := ⟨Reg.MEMC_STAT, 0, 1⟩
def F.MEMC_STAT_HOT : Fld := ⟨Reg.MEMC_STAT, 1, 1⟩
def F.MEMC_STAT_PSTATE : Fld := ⟨Reg.MEMC_STAT, 2, 2⟩
def F.MEMC_STAT_RETRAINING : Fld := ⟨Reg.MEMC_STAT, 4, 1⟩
def F.MEMC_STAT_CE_EV : Fld := ⟨Reg.MEMC_STAT, 8, 1⟩
def F.MEMC_STAT_UE_EV : Fld := ⟨Reg.MEMC_STAT, 9, 1⟩
def Reg.MEMC_ERR : Nat := 0x6000c
def F.MEMC_ERR_CFG : Fld := ⟨Reg.MEMC_ERR, 0, 1⟩
def F.MEMC_ERR_DRIFT : Fld := ⟨Reg.MEMC_ERR, 1, 1⟩
def Reg.MEMC_TRAIN_STAT : Nat := 0x60010
def F.MEMC_TRAIN_STAT_FAIL : Fld := ⟨Reg.MEMC_TRAIN_STAT, 0, 3⟩
def F.MEMC_TRAIN_STAT_CH : Fld := ⟨Reg.MEMC_TRAIN_STAT, 4, 1⟩
def F.MEMC_TRAIN_STAT_RANK : Fld := ⟨Reg.MEMC_TRAIN_STAT, 5, 1⟩
def F.MEMC_TRAIN_STAT_TIME_US : Fld := ⟨Reg.MEMC_TRAIN_STAT, 16, 16⟩
def Reg.MEMC_RETRAIN : Nat := 0x60014
def F.MEMC_RETRAIN_PERIOD_MS : Fld := ⟨Reg.MEMC_RETRAIN, 0, 8⟩
def F.MEMC_RETRAIN_DRIFT_THR : Fld := ⟨Reg.MEMC_RETRAIN, 8, 8⟩
def F.MEMC_RETRAIN_MR4_MS : Fld := ⟨Reg.MEMC_RETRAIN, 16, 8⟩
def Reg.MEMC_ARB : Nat := 0x60018
def F.MEMC_ARB_WEIGHT : Fld := ⟨Reg.MEMC_ARB, 0, 4⟩
def Reg.MEMC_SCRUB : Nat := 0x6001c
def F.MEMC_SCRUB_PER : Fld := ⟨Reg.MEMC_SCRUB, 0, 16⟩
def Reg.MEMC_CE_CNT : Nat := 0x60020
def F.MEMC_CE_CNT : Fld := ⟨Reg.MEMC_CE_CNT, 0, 32⟩
def Reg.MEMC_CE_ADDR : Nat := 0x60024
def F.MEMC_CE_ADDR_ADDR : Fld := ⟨Reg.MEMC_CE_ADDR, 3, 29⟩
def F.MEMC_CE_ADDR_VALID : Fld := ⟨Reg.MEMC_CE_ADDR, 0, 1⟩
def Reg.MEMC_UE_CNT : Nat := 0x60028
def F.MEMC_UE_CNT : Fld := ⟨Reg.MEMC_UE_CNT, 0, 32⟩
def Reg.MEMC_UE_ADDR : Nat := 0x6002c
def F.MEMC_UE_ADDR_ADDR : Fld := ⟨Reg.MEMC_UE_ADDR, 3, 29⟩
def F.MEMC_UE_ADDR_VALID : Fld := ⟨Reg.MEMC_UE_ADDR, 0, 1⟩
def Reg.MEMC_RMW_CNT : Nat := 0x60030
def F.MEMC_RMW_CNT : Fld := ⟨Reg.MEMC_RMW_CNT, 0, 32⟩
def Reg.MEMC_HOLD_CYC : Nat := 0x60034
def F.MEMC_HOLD_CYC : Fld := ⟨Reg.MEMC_HOLD_CYC, 0, 32⟩
def Reg.MEMC_RD_BYTES : Nat := 0x60038
def F.MEMC_RD_BYTES : Fld := ⟨Reg.MEMC_RD_BYTES, 0, 32⟩
def Reg.MEMC_WR_BYTES : Nat := 0x6003c
def F.MEMC_WR_BYTES : Fld := ⟨Reg.MEMC_WR_BYTES, 0, 32⟩
def Reg.MEMC_DRIFT : Nat := 0x60040
def F.MEMC_DRIFT_CH_A : Fld := ⟨Reg.MEMC_DRIFT, 0, 8⟩
def F.MEMC_DRIFT_CH_B : Fld := ⟨Reg.MEMC_DRIFT, 8, 8⟩

/-! Table 19-9 (R505, spec/19_jig_fabric_logic.md) -/

def Reg.JIG_ID : Nat := 0x600000000
def F.JIG_ID_FORMAT : Fld := ⟨Reg.JIG_ID, 0, 16⟩
def F.JIG_ID_BAYS : Fld := ⟨Reg.JIG_ID, 16, 8⟩
def Reg.JIG_CTRL : Nat := 0x600000004
def F.JIG_CTRL_RECFG : Fld := ⟨Reg.JIG_CTRL, 0, 1⟩
def F.JIG_CTRL_RELEASE : Fld := ⟨Reg.JIG_CTRL, 1, 1⟩
def Reg.JIG_CFG : Nat := 0x600000008
def F.JIG_CFG_RT_TMO : Fld := ⟨Reg.JIG_CFG, 0, 12⟩
def Reg.JIG_STAT : Nat := 0x60000000c
def F.JIG_STAT_STATE : Fld := ⟨Reg.JIG_STAT, 0, 2⟩
def F.JIG_STAT_USE_W : Fld := ⟨Reg.JIG_STAT, 2, 1⟩
def F.JIG_STAT_USE_E : Fld := ⟨Reg.JIG_STAT, 3, 1⟩
def F.JIG_STAT_LOADS : Fld := ⟨Reg.JIG_STAT, 16, 16⟩
def Reg.JIG_LOAD_STAT : Nat := 0x600000010
def F.JIG_LOAD_STAT_CODE : Fld := ⟨Reg.JIG_LOAD_STAT, 0, 4⟩
def F.JIG_LOAD_STAT_OFFSET : Fld := ⟨Reg.JIG_LOAD_STAT, 8, 24⟩
def Reg.JIG_ERR : Nat := 0x600000014
def F.JIG_ERR_LOAD : Fld := ⟨Reg.JIG_ERR, 0, 1⟩
def F.JIG_ERR_BUSY : Fld := ⟨Reg.JIG_ERR, 1, 1⟩
def F.JIG_ERR_HALF : Fld := ⟨Reg.JIG_ERR, 2, 1⟩
def F.JIG_ERR_RT_TMO : Fld := ⟨Reg.JIG_ERR, 3, 1⟩
def Reg.JIG_RECFG_ADDR_LO : Nat := 0x600000018
def F.JIG_RECFG_ADDR_LO : Fld := ⟨Reg.JIG_RECFG_ADDR_LO, 0, 32⟩
def Reg.JIG_RECFG_ADDR_HI : Nat := 0x60000001c
def F.JIG_RECFG_ADDR_HI : Fld := ⟨Reg.JIG_RECFG_ADDR_HI, 0, 4⟩
def Reg.JIG_USER_ID : Nat := 0x600000020
def F.JIG_USER_ID : Fld := ⟨Reg.JIG_USER_ID, 0, 32⟩
def Reg.JIG_RT_TMO_CNT : Nat := 0x600000024
def F.JIG_RT_TMO_CNT : Fld := ⟨Reg.JIG_RT_TMO_CNT, 0, 32⟩
def Reg.JIG_RM_STAT : Nat := 0x600000028
def F.JIG_RM_STAT_OUTST : Fld := ⟨Reg.JIG_RM_STAT, 0, 3⟩
def Reg.JIG_TAPj (i : Nat) : Nat := 0x600000100 + i * 0x4
def F.JIG_TAPj (i : Nat) : Fld := ⟨(Reg.JIG_TAPj i), 0, 6⟩
def Reg.JIG_XBARk (i : Nat) : Nat := 0x600000200 + i * 0x4
def F.JIG_XBARk_MEM (i : Nat) : Fld := ⟨(Reg.JIG_XBARk i), 0, 4⟩
def F.JIG_XBARk_BYTE (i : Nat) : Fld := ⟨(Reg.JIG_XBARk i), 4, 2⟩
def F.JIG_XBARk_ROUTED (i : Nat) : Fld := ⟨(Reg.JIG_XBARk i), 7, 1⟩

/-! Table 20-3 (R530, spec/20_jig_clocks_and_pins.md) -/

def Reg.JIG_CLKr (i : Nat) : Nat := 0x600000040 + i * 0x4
def F.JIG_CLKr_DIV (i : Nat) : Fld := ⟨(Reg.JIG_CLKr i), 0, 8⟩
def F.JIG_CLKr_SRC (i : Nat) : Fld := ⟨(Reg.JIG_CLKr i), 8, 2⟩
def F.JIG_CLKr_EN (i : Nat) : Fld := ⟨(Reg.JIG_CLKr i), 12, 1⟩
def Reg.JIG_CLK_STAT : Nat := 0x600000050
def F.JIG_CLK_STAT_SWITCHING : Fld := ⟨Reg.JIG_CLK_STAT, 0, 4⟩
def F.JIG_CLK_STAT_WAIT_NEW : Fld := ⟨Reg.JIG_CLK_STAT, 4, 4⟩
def F.JIG_CLK_STAT_FORCED : Fld := ⟨Reg.JIG_CLK_STAT, 8, 4⟩
def F.JIG_CLK_STAT_CLK_BUSY : Fld := ⟨Reg.JIG_CLK_STAT, 12, 4⟩
def Reg.JIG_PIN_ERR : Nat := 0x600000054
def F.JIG_PIN_ERR_BUSY : Fld := ⟨Reg.JIG_PIN_ERR, 0, 1⟩
def F.JIG_PIN_ERR_CAPTURE : Fld := ⟨Reg.JIG_PIN_ERR, 1, 1⟩
def F.JIG_PIN_ERR_PIN : Fld := ⟨Reg.JIG_PIN_ERR, 8, 6⟩
def Reg.JIG_PINj (i : Nat) : Nat := 0x600000300 + i * 0x4
def F.JIG_PINj_FUNC (i : Nat) : Fld := ⟨(Reg.JIG_PINj i), 0, 1⟩
def F.JIG_PINj_PULL (i : Nat) : Fld := ⟨(Reg.JIG_PINj i), 1, 2⟩
def F.JIG_PINj_SLEW (i : Nat) : Fld := ⟨(Reg.JIG_PINj i), 3, 1⟩
def F.JIG_PINj_DRIVE (i : Nat) : Fld := ⟨(Reg.JIG_PINj i), 4, 1⟩
def F.JIG_PINj_SYNC (i : Nat) : Fld := ⟨(Reg.JIG_PINj i), 5, 1⟩
def F.JIG_PINj_IDLE (i : Nat) : Fld := ⟨(Reg.JIG_PINj i), 6, 1⟩
def F.JIG_PINj_PARKING (i : Nat) : Fld := ⟨(Reg.JIG_PINj i), 16, 1⟩
def F.JIG_PINj_LEVEL (i : Nat) : Fld := ⟨(Reg.JIG_PINj i), 17, 1⟩

/-! Table 21-5 (R553, spec/21_serial_ports.md) -/

def Reg.UAn_CFG (i : Nat) : Nat := 0x50000 + i * 0x6ffff0000
def F.UAn_CFG_DBITS (i : Nat) : Fld := ⟨(Reg.UAn_CFG i), 0, 2⟩
def F.UAn_CFG_PARITY (i : Nat) : Fld := ⟨(Reg.UAn_CFG i), 2, 2⟩
def F.UAn_CFG_STOP2 (i : Nat) : Fld := ⟨(Reg.UAn_CFG i), 4, 1⟩
def F.UAn_CFG_OS16 (i : Nat) : Fld := ⟨(Reg.UAn_CFG i), 5, 1⟩
def F.UAn_CFG_ECHO (i : Nat) : Fld := ⟨(Reg.UAn_CFG i), 6, 1⟩
def F.UAn_CFG_RX_EN (i : Nat) : Fld := ⟨(Reg.UAn_CFG i), 7, 1⟩
def F.UAn_CFG_TX_EN (i : Nat) : Fld := ⟨(Reg.UAn_CFG i), 8, 1⟩
def F.UAn_CFG_DE_POL (i : Nat) : Fld := ⟨(Reg.UAn_CFG i), 9, 1⟩
def F.UAn_CFG_TX_OWNER (i : Nat) : Fld := ⟨(Reg.UAn_CFG i), 10, 1⟩
def F.UAn_CFG_RTO (i : Nat) : Fld := ⟨(Reg.UAn_CFG i), 16, 8⟩
def Reg.UAn_BAUD (i : Nat) : Nat := 0x50004 + i * 0x6ffff0000
def F.UAn_BAUD_DIV (i : Nat) : Fld := ⟨(Reg.UAn_BAUD i), 0, 16⟩
def F.UAn_BAUD_FRAC (i : Nat) : Fld := ⟨(Reg.UAn_BAUD i), 16, 4⟩
def Reg.UAn_DE (i : Nat) : Nat := 0x50008 + i * 0x6ffff0000
def F.UAn_DE_LEAD (i : Nat) : Fld := ⟨(Reg.UAn_DE i), 0, 8⟩
def F.UAn_DE_TAIL (i : Nat) : Fld := ⟨(Reg.UAn_DE i), 8, 8⟩
def Reg.UAn_STAT (i : Nat) : Nat := 0x5000c + i * 0x6ffff0000
def F.UAn_STAT_RX_BUSY (i : Nat) : Fld := ⟨(Reg.UAn_STAT i), 0, 1⟩
def F.UAn_STAT_TX_BUSY (i : Nat) : Fld := ⟨(Reg.UAn_STAT i), 1, 1⟩
def F.UAn_STAT_DE (i : Nat) : Fld := ⟨(Reg.UAn_STAT i), 2, 1⟩
def F.UAn_STAT_CFG_PEND (i : Nat) : Fld := ⟨(Reg.UAn_STAT i), 3, 1⟩
def F.UAn_STAT_PIN_OFF (i : Nat) : Fld := ⟨(Reg.UAn_STAT i), 4, 1⟩
def F.UAn_STAT_CLK_AON (i : Nat) : Fld := ⟨(Reg.UAn_STAT i), 5, 1⟩
def F.UAn_STAT_RXF (i : Nat) : Fld := ⟨(Reg.UAn_STAT i), 8, 7⟩
def F.UAn_STAT_TXF (i : Nat) : Fld := ⟨(Reg.UAn_STAT i), 16, 7⟩
def F.UAn_STAT_OVR_EV (i : Nat) : Fld := ⟨(Reg.UAn_STAT i), 24, 1⟩
def F.UAn_STAT_FLUSH_EV (i : Nat) : Fld := ⟨(Reg.UAn_STAT i), 25, 1⟩
def F.UAn_STAT_DONE_EV (i : Nat) : Fld := ⟨(Reg.UAn_STAT i), 26, 1⟩
def F.UAn_STAT_DESC_ERR (i : Nat) : Fld := ⟨(Reg.UAn_STAT i), 27, 1⟩
def F.UAn_STAT_TX_FULL (i : Nat) : Fld := ⟨(Reg.UAn_STAT i), 28, 1⟩
def Reg.UAn_RXD (i : Nat) : Nat := 0x50010 + i * 0x6ffff0000
def F.UAn_RXD_ENTRY (i : Nat) : Fld := ⟨(Reg.UAn_RXD i), 0, 16⟩
def F.UAn_RXD_VALID (i : Nat) : Fld := ⟨(Reg.UAn_RXD i), 16, 1⟩
def Reg.UAn_TXD (i : Nat) : Nat := 0x50014 + i * 0x6ffff0000
def F.UAn_TXD_DATA (i : Nat) : Fld := ⟨(Reg.UAn_TXD i), 0, 9⟩
def F.UAn_TXD_BREAK (i : Nat) : Fld := ⟨(Reg.UAn_TXD i), 15, 1⟩
def Reg.UAn_DESC_BAL (i : Nat) : Nat := 0x50018 + i * 0x6ffff0000
def F.UAn_DESC_BAL_FREE (i : Nat) : Fld := ⟨(Reg.UAn_DESC_BAL i), 0, 5⟩
def F.UAn_DESC_BAL_QUEUED (i : Nat) : Fld := ⟨(Reg.UAn_DESC_BAL i), 8, 5⟩
def F.UAn_DESC_BAL_ACTIVE (i : Nat) : Fld := ⟨(Reg.UAn_DESC_BAL i), 16, 5⟩
def F.UAn_DESC_BAL_DONE (i : Nat) : Fld := ⟨(Reg.UAn_DESC_BAL i), 24, 5⟩
def Reg.UAn_OVR_CNT (i : Nat) : Nat := 0x5001c + i * 0x6ffff0000
def F.UAn_OVR_CNT (i : Nat) : Fld := ⟨(Reg.UAn_OVR_CNT i), 0, 32⟩
def Reg.UAn_FALSE_START (i : Nat) : Nat := 0x50020 + i * 0x6ffff0000
def F.UAn_FALSE_START (i : Nat) : Fld := ⟨(Reg.UAn_FALSE_START i), 0, 32⟩
def Reg.UAn_TX_CUT (i : Nat) : Nat := 0x50024 + i * 0x6ffff0000
def F.UAn_TX_CUT (i : Nat) : Fld := ⟨(Reg.UAn_TX_CUT i), 0, 32⟩
def Reg.UA0_BAUD_AON (i : Nat) : Nat := 0x50028 + i * 0x6ffff0000
def F.UA0_BAUD_AON_DIV (i : Nat) : Fld := ⟨(Reg.UA0_BAUD_AON i), 0, 16⟩
def F.UA0_BAUD_AON_FRAC (i : Nat) : Fld := ⟨(Reg.UA0_BAUD_AON i), 16, 4⟩

/-! Table 21-6 (R554, spec/21_serial_ports.md) -/

def Reg.UAn_Dd_ADDR_LO (n d : Nat) : Nat := 0x50100 + n * 0x6ffff0000 + d * 0x10
def F.UAn_Dd_ADDR_LO (n d : Nat) : Fld := ⟨(Reg.UAn_Dd_ADDR_LO n d), 0, 32⟩
def Reg.UAn_Dd_ADDR_HI (n d : Nat) : Nat := 0x50104 + n * 0x6ffff0000 + d * 0x10
def F.UAn_Dd_ADDR_HI (n d : Nat) : Fld := ⟨(Reg.UAn_Dd_ADDR_HI n d), 0, 4⟩
def Reg.UAn_Dd_CTRL (n d : Nat) : Nat := 0x50108 + n * 0x6ffff0000 + d * 0x10
def F.UAn_Dd_CTRL_LEN (n d : Nat) : Fld := ⟨(Reg.UAn_Dd_CTRL n d), 0, 13⟩
def F.UAn_Dd_CTRL_DIR (n d : Nat) : Fld := ⟨(Reg.UAn_Dd_CTRL n d), 16, 1⟩
def F.UAn_Dd_CTRL_GO (n d : Nat) : Fld := ⟨(Reg.UAn_Dd_CTRL n d), 24, 1⟩
def F.UAn_Dd_CTRL_RETIRE (n d : Nat) : Fld := ⟨(Reg.UAn_Dd_CTRL n d), 25, 1⟩
def Reg.UAn_Dd_STAT (n d : Nat) : Nat := 0x5010c + n * 0x6ffff0000 + d * 0x10
def F.UAn_Dd_STAT_STATE (n d : Nat) : Fld := ⟨(Reg.UAn_Dd_STAT n d), 0, 2⟩
def F.UAn_Dd_STAT_FLUSHED (n d : Nat) : Fld := ⟨(Reg.UAn_Dd_STAT n d), 4, 1⟩
def F.UAn_Dd_STAT_CODE (n d : Nat) : Fld := ⟨(Reg.UAn_Dd_STAT n d), 5, 3⟩
def F.UAn_Dd_STAT_COUNT (n d : Nat) : Fld := ⟨(Reg.UAn_Dd_STAT n d), 16, 13⟩

/-! Table 22-11 (R578, spec/22_start_and_fallback.md) -/

def Reg.PWR_BOOT_STAT : Nat := 0x10100
def F.PWR_BOOT_STAT_PHASE : Fld := ⟨Reg.PWR_BOOT_STAT, 0, 4⟩
def F.PWR_BOOT_STAT_SLOT : Fld := ⟨Reg.PWR_BOOT_STAT, 4, 1⟩
def F.PWR_BOOT_STAT_FLMODE : Fld := ⟨Reg.PWR_BOOT_STAT, 5, 2⟩
def F.PWR_BOOT_STAT_TIME_MS : Fld := ⟨Reg.PWR_BOOT_STAT, 16, 16⟩
def Reg.PWR_BOOT_RES : Nat := 0x10104
def F.PWR_BOOT_RES_A : Fld := ⟨Reg.PWR_BOOT_RES, 0, 3⟩
def F.PWR_BOOT_RES_B : Fld := ⟨Reg.PWR_BOOT_RES, 4, 3⟩
def Reg.PWR_BOOT_SEQA : Nat := 0x10108
def F.PWR_BOOT_SEQA : Fld := ⟨Reg.PWR_BOOT_SEQA, 0, 32⟩
def Reg.PWR_BOOT_SEQB : Nat := 0x1010c
def F.PWR_BOOT_SEQB : Fld := ⟨Reg.PWR_BOOT_SEQB, 0, 32⟩
def Reg.PWR_BOOT_INIT : Nat := 0x10110
def F.PWR_BOOT_INIT_DONE : Fld := ⟨Reg.PWR_BOOT_INIT, 0, 16⟩
def F.PWR_BOOT_INIT_ERRS : Fld := ⟨Reg.PWR_BOOT_INIT, 16, 8⟩
def F.PWR_BOOT_INIT_BAD_OP : Fld := ⟨Reg.PWR_BOOT_INIT, 24, 1⟩
def Reg.PWR_FL_ADDR : Nat := 0x10200
def F.PWR_FL_ADDR : Fld := ⟨Reg.PWR_FL_ADDR, 0, 32⟩
def Reg.PWR_FL_CMD : Nat := 0x10204
def F.PWR_FL_CMD_OP : Fld := ⟨Reg.PWR_FL_CMD, 0, 2⟩
def F.PWR_FL_CMD_LEN : Fld := ⟨Reg.PWR_FL_CMD, 8, 8⟩
def Reg.PWR_FL_STAT : Nat := 0x10208
def F.PWR_FL_STAT_BUSY : Fld := ⟨Reg.PWR_FL_STAT, 0, 1⟩
def F.PWR_FL_STAT_CODE : Fld := ⟨Reg.PWR_FL_STAT, 1, 3⟩
def F.PWR_FL_STAT_DONE : Fld := ⟨Reg.PWR_FL_STAT, 8, 1⟩
def Reg.PWR_FL_BUF (i : Nat) : Nat := 0x10400 + i * 0x4
def F.PWR_FL_BUF (i : Nat) : Fld := ⟨(Reg.PWR_FL_BUF i), 0, 32⟩

/-! Table 24-11 (R635, spec/24_power_domains_and_ladder.md) -/

def Reg.PWR_LADDER_REQ : Nat := 0x10020
def F.PWR_LADDER_REQ_TARGET : Fld := ⟨Reg.PWR_LADDER_REQ, 0, 3⟩
def F.PWR_LADDER_REQ_GO : Fld := ⟨Reg.PWR_LADDER_REQ, 7, 1⟩
def Reg.PWR_LADDER_RESULT : Nat := 0x10024
def F.PWR_LADDER_RESULT_RESULT : Fld := ⟨Reg.PWR_LADDER_RESULT, 0, 4⟩
def F.PWR_LADDER_RESULT_DETAIL : Fld := ⟨Reg.PWR_LADDER_RESULT, 4, 4⟩
def Reg.PWR_LADDER_STAT : Nat := 0x10028
def F.PWR_LADDER_STAT_STATE : Fld := ⟨Reg.PWR_LADDER_STAT, 0, 3⟩
def F.PWR_LADDER_STAT_ENTERING : Fld := ⟨Reg.PWR_LADDER_STAT, 3, 1⟩
def F.PWR_LADDER_STAT_EXITING : Fld := ⟨Reg.PWR_LADDER_STAT, 4, 1⟩
def Reg.PWR_DOM_OFF_A : Nat := 0x10030
def F.PWR_DOM_OFF_A : Fld := ⟨Reg.PWR_DOM_OFF_A, 0, 32⟩
def Reg.PWR_DOM_OFF_B : Nat := 0x10034
def F.PWR_DOM_OFF_B : Fld := ⟨Reg.PWR_DOM_OFF_B, 0, 32⟩
def Reg.PWR_DOM_OFF_C : Nat := 0x10038
def F.PWR_DOM_OFF_C : Fld := ⟨Reg.PWR_DOM_OFF_C, 0, 32⟩
def Reg.PWR_KEEP : Nat := 0x1003c
def F.PWR_KEEP_CODES_64_TO_75 : Fld := ⟨Reg.PWR_KEEP, 0, 12⟩
def Reg.PWR_DOM_ON_A : Nat := 0x10040
def F.PWR_DOM_ON_A : Fld := ⟨Reg.PWR_DOM_ON_A, 0, 32⟩
def Reg.PWR_DOM_ON_B : Nat := 0x10044
def F.PWR_DOM_ON_B : Fld := ⟨Reg.PWR_DOM_ON_B, 0, 32⟩
def Reg.PWR_DOM_ON_C : Nat := 0x10048
def F.PWR_DOM_ON_C : Fld := ⟨Reg.PWR_DOM_ON_C, 0, 32⟩
def Reg.PWR_PD_HIT_A : Nat := 0x1004c
def F.PWR_PD_HIT_A : Fld := ⟨Reg.PWR_PD_HIT_A, 0, 32⟩
def Reg.PWR_PD_HIT_B : Nat := 0x10050
def F.PWR_PD_HIT_B : Fld := ⟨Reg.PWR_PD_HIT_B, 0, 32⟩
def Reg.PWR_PD_HIT_C : Nat := 0x10054
def F.PWR_PD_HIT_C : Fld := ⟨Reg.PWR_PD_HIT_C, 0, 32⟩
def Reg.PWR_WAKE_EN : Nat := 0x10058
def F.PWR_WAKE_EN_HOST : Fld := ⟨Reg.PWR_WAKE_EN, 0, 1⟩
def F.PWR_WAKE_EN_TIMER : Fld := ⟨Reg.PWR_WAKE_EN, 1, 1⟩
def F.PWR_WAKE_EN_UA0 : Fld := ⟨Reg.PWR_WAKE_EN, 2, 1⟩
def F.PWR_WAKE_EN_EVENT : Fld := ⟨Reg.PWR_WAKE_EN, 3, 1⟩
def Reg.PWR_WAKE_SRC : Nat := 0x1005c
def F.PWR_WAKE_SRC : Fld := ⟨Reg.PWR_WAKE_SRC, 0, 4⟩
def Reg.PWR_WAKE_TIMER : Nat := 0x10060
def F.PWR_WAKE_TIMER : Fld := ⟨Reg.PWR_WAKE_TIMER, 0, 24⟩
def Reg.PWR_QTMO : Nat := 0x10064
def F.PWR_QTMO : Fld := ⟨Reg.PWR_QTMO, 0, 16⟩
def Reg.PWR_RESUME_BASE : Nat := 0x10068
def F.PWR_RESUME_BASE_BASE : Fld := ⟨Reg.PWR_RESUME_BASE, 21, 11⟩
def F.PWR_RESUME_BASE_VALID : Fld := ⟨Reg.PWR_RESUME_BASE, 0, 1⟩
def Reg.PWR_ENTRY_NS : Nat := 0x1006c
def F.PWR_ENTRY_NS : Fld := ⟨Reg.PWR_ENTRY_NS, 0, 32⟩
def Reg.PWR_EXIT_NS : Nat := 0x10070
def F.PWR_EXIT_NS : Fld := ⟨Reg.PWR_EXIT_NS, 0, 32⟩
def Reg.PWR_S5_DLY : Nat := 0x10074
def F.PWR_S5_DLY : Fld := ⟨Reg.PWR_S5_DLY, 0, 8⟩
def Reg.PWR_ERR : Nat := 0x10078
def F.PWR_ERR_DOM_REFUSED : Fld := ⟨Reg.PWR_ERR, 0, 1⟩
def F.PWR_ERR_BUSY : Fld := ⟨Reg.PWR_ERR, 1, 1⟩
def F.PWR_ERR_RESUME : Fld := ⟨Reg.PWR_ERR, 2, 1⟩

/-! Table 25-5 (R647, spec/25_clock_tree.md) -/

def Reg.CLK_CFG : Nat := 0x0
def F.CLK_CFG_REF_SEL : Fld := ⟨Reg.CLK_CFG, 0, 1⟩
def F.CLK_CFG_AUTO_FB : Fld := ⟨Reg.CLK_CFG, 1, 1⟩
def F.CLK_CFG_HOLD_MAX : Fld := ⟨Reg.CLK_CFG, 8, 8⟩
def Reg.CLK_STAT : Nat := 0x4
def F.CLK_STAT_REF : Fld := ⟨Reg.CLK_STAT, 0, 2⟩
def F.CLK_STAT_LOCKED : Fld := ⟨Reg.CLK_STAT, 2, 1⟩
def F.CLK_STAT_HOLDOVER : Fld := ⟨Reg.CLK_STAT, 3, 1⟩
def F.CLK_STAT_SWITCHING : Fld := ⟨Reg.CLK_STAT, 4, 1⟩
def F.CLK_STAT_LOST_EV : Fld := ⟨Reg.CLK_STAT, 8, 1⟩
def F.CLK_STAT_FB_EV : Fld := ⟨Reg.CLK_STAT, 9, 1⟩
def F.CLK_STAT_REF_BAD : Fld := ⟨Reg.CLK_STAT, 10, 1⟩
def Reg.CLK_PPM : Nat := 0x8
def F.CLK_PPM : Fld := ⟨Reg.CLK_PPM, 0, 16⟩
def Reg.CLK_LOSS_CNT : Nat := 0xc
def F.CLK_LOSS_CNT : Fld := ⟨Reg.CLK_LOSS_CNT, 0, 32⟩
def Reg.CLK_LOCK_NS : Nat := 0x10
def F.CLK_LOCK_NS : Fld := ⟨Reg.CLK_LOCK_NS, 0, 32⟩
def Reg.CLK_ERR : Nat := 0x14
def F.CLK_ERR_BUSY : Fld := ⟨Reg.CLK_ERR, 0, 1⟩
def Reg.CLK_AON_STAT : Nat := 0x20
def F.CLK_AON_STAT_SRC : Fld := ⟨Reg.CLK_AON_STAT, 0, 1⟩
def F.CLK_AON_STAT_XTAL_OK : Fld := ⟨Reg.CLK_AON_STAT, 1, 1⟩
def F.CLK_AON_STAT_XTAL_FAIL_EV : Fld := ⟨Reg.CLK_AON_STAT, 8, 1⟩
def Reg.CLK_AON_MS_LO : Nat := 0x24
def F.CLK_AON_MS_LO : Fld := ⟨Reg.CLK_AON_MS_LO, 0, 32⟩
def Reg.CLK_AON_MS_HI : Nat := 0x28
def F.CLK_AON_MS_HI : Fld := ⟨Reg.CLK_AON_MS_HI, 0, 16⟩

/-! Table 26-6 (R661, spec/26_wear_and_health.md) -/

def Reg.WR_CFG : Nat := 0x30000
def F.WR_CFG_WARN_MARGIN : Fld := ⟨Reg.WR_CFG, 0, 4⟩
def F.WR_CFG_RESTART_MARGIN : Fld := ⟨Reg.WR_CFG, 8, 5⟩
def Reg.WR_STAT : Nat := 0x30004
def F.WR_STAT_STEP : Fld := ⟨Reg.WR_STAT, 0, 3⟩
def F.WR_STAT_EOL : Fld := ⟨Reg.WR_STAT, 3, 1⟩
def F.WR_STAT_HOT : Fld := ⟨Reg.WR_STAT, 4, 3⟩
def F.WR_STAT_STEP_EV : Fld := ⟨Reg.WR_STAT, 8, 1⟩
def F.WR_STAT_SAMPLE_EV : Fld := ⟨Reg.WR_STAT, 9, 1⟩
def F.WR_STAT_SKIP : Fld := ⟨Reg.WR_STAT, 10, 1⟩
def Reg.WR_HOURS : Nat := 0x30008
def F.WR_HOURS : Fld := ⟨Reg.WR_HOURS, 0, 32⟩
def Reg.WR_EOL_HOURS : Nat := 0x3000c
def F.WR_EOL_HOURS : Fld := ⟨Reg.WR_EOL_HOURS, 0, 32⟩
def Reg.WR_EOL_INFO : Nat := 0x30010
def F.WR_EOL_INFO_CONF : Fld := ⟨Reg.WR_EOL_INFO, 0, 2⟩
def F.WR_EOL_INFO_WORST : Fld := ⟨Reg.WR_EOL_INFO, 8, 7⟩
def F.WR_EOL_INFO_DOMAIN : Fld := ⟨Reg.WR_EOL_INFO, 16, 7⟩
def Reg.WR_THROTTLE_CYC : Nat := 0x30014
def F.WR_THROTTLE_CYC : Fld := ⟨Reg.WR_THROTTLE_CYC, 0, 32⟩
def Reg.WR_LAMP_EOL : Nat := 0x30018
def F.WR_LAMP_EOL : Fld := ⟨Reg.WR_LAMP_EOL, 0, 8⟩
def Reg.WR_TSs (i : Nat) : Nat := 0x30020 + i * 0x4
def F.WR_TSs_TEMP (i : Nat) : Fld := ⟨(Reg.WR_TSs i), 0, 8⟩
def F.WR_TSs_VALID (i : Nat) : Fld := ⟨(Reg.WR_TSs i), 8, 1⟩
def Reg.WR_CMi (i : Nat) : Nat := 0x30100 + i * 0x4
def F.WR_CMi_DRIFT (i : Nat) : Fld := ⟨(Reg.WR_CMi i), 0, 16⟩
def F.WR_CMi_N (i : Nat) : Fld := ⟨(Reg.WR_CMi i), 16, 16⟩
def Reg.WR_LAMPn_RATED (i : Nat) : Nat := 0x30300 + i * 0x4
def F.WR_LAMPn_RATED (i : Nat) : Fld := ⟨(Reg.WR_LAMPn_RATED i), 0, 24⟩

/-! Table 27-11 (R680, spec/27_counted_settings_and_access.md) -/

def Reg.OTP_STAT : Nat := 0x40000
def F.OTP_STAT_INTEGRITY_OK : Fld := ⟨Reg.OTP_STAT, 0, 1⟩
def F.OTP_STAT_BUSY : Fld := ⟨Reg.OTP_STAT, 1, 1⟩
def Reg.OTP_REMAIN : Nat := 0x40004
def F.OTP_REMAIN_HEAD : Fld := ⟨Reg.OTP_REMAIN, 0, 4⟩
def F.OTP_REMAIN_BOOT : Fld := ⟨Reg.OTP_REMAIN, 4, 4⟩
def F.OTP_REMAIN_LOG : Fld := ⟨Reg.OTP_REMAIN, 8, 4⟩
def F.OTP_REMAIN_DEBUG : Fld := ⟨Reg.OTP_REMAIN, 12, 2⟩
def F.OTP_REMAIN_KEY_FREE : Fld := ⟨Reg.OTP_REMAIN, 16, 4⟩
def Reg.OTP_HEAD : Nat := 0x40008
def F.OTP_HEAD_HEAD_ID : Fld := ⟨Reg.OTP_HEAD, 0, 5⟩
def F.OTP_HEAD_ROLE : Fld := ⟨Reg.OTP_HEAD, 8, 1⟩
def Reg.OTP_BOOT_POLICY : Nat := 0x4000c
def F.OTP_BOOT_POLICY_THRESH : Fld := ⟨Reg.OTP_BOOT_POLICY, 0, 3⟩
def F.OTP_BOOT_POLICY_SIG_REQ : Fld := ⟨Reg.OTP_BOOT_POLICY, 3, 1⟩
def F.OTP_BOOT_POLICY_SLOT_SEL : Fld := ⟨Reg.OTP_BOOT_POLICY, 4, 2⟩
def Reg.OTP_LOG_POLICY : Nat := 0x40010
def F.OTP_LOG_POLICY_CLEAR_EN : Fld := ⟨Reg.OTP_LOG_POLICY, 0, 1⟩
def Reg.OTP_DEBUG_LOCK : Nat := 0x40014
def F.OTP_DEBUG_LOCK_STATE : Fld := ⟨Reg.OTP_DEBUG_LOCK, 0, 2⟩
def Reg.OTP_KEY_STAT : Nat := 0x40018
def F.OTP_KEY_STAT_WRITTEN : Fld := ⟨Reg.OTP_KEY_STAT, 0, 4⟩
def Reg.OTP_KEY_REVOKE : Nat := 0x4001c
def F.OTP_KEY_REVOKE : Fld := ⟨Reg.OTP_KEY_REVOKE, 0, 4⟩
def Reg.OTP_KEY_HASH (k j : Nat) : Nat := 0x40020 + k * 0x20 + j * 0x4
def F.OTP_KEY_HASH (k j : Nat) : Fld := ⟨(Reg.OTP_KEY_HASH k j), 0, 32⟩
def Reg.OTP_SERIAL (i : Nat) : Nat := 0x400a0 + i * 0x4
def F.OTP_SERIAL (i : Nat) : Fld := ⟨(Reg.OTP_SERIAL i), 0, 32⟩
def Reg.OTP_RESULT : Nat := 0x400b0
def F.OTP_RESULT_CODE : Fld := ⟨Reg.OTP_RESULT, 0, 4⟩
def F.OTP_RESULT_SETTING : Fld := ⟨Reg.OTP_RESULT, 4, 4⟩
def Reg.OTP_FACT_CMD : Nat := 0x400b4
def F.OTP_FACT_CMD_WEAR_CLEAR : Fld := ⟨Reg.OTP_FACT_CMD, 0, 1⟩

/-! R711 (spec/29_budgets_and_balances.md) -/

def Reg.PWR_BAL_FAULT : Nat := 0x10900
def F.PWR_BAL_FAULT : Fld := ⟨Reg.PWR_BAL_FAULT, 0, 11⟩

/-! Table 28-10 (R698, spec/28_faults_and_recovery.md) -/

def Reg.PWR_SCR_CMD : Nat := 0x10800
def F.PWR_SCR_CMD_NODE : Fld := ⟨Reg.PWR_SCR_CMD, 0, 7⟩
def F.PWR_SCR_CMD_OP : Fld := ⟨Reg.PWR_SCR_CMD, 8, 4⟩
def F.PWR_SCR_CMD_GO : Fld := ⟨Reg.PWR_SCR_CMD, 31, 1⟩
def Reg.PWR_SCR_ADDR_LO : Nat := 0x10804
def F.PWR_SCR_ADDR_LO : Fld := ⟨Reg.PWR_SCR_ADDR_LO, 0, 32⟩
def Reg.PWR_SCR_ADDR_HI : Nat := 0x10808
def F.PWR_SCR_ADDR_HI : Fld := ⟨Reg.PWR_SCR_ADDR_HI, 0, 4⟩
def Reg.PWR_SCR_ARG : Nat := 0x1080c
def F.PWR_SCR_ARG : Fld := ⟨Reg.PWR_SCR_ARG, 0, 16⟩
def Reg.PWR_SCR_STAT : Nat := 0x10810
def F.PWR_SCR_STAT_BUSY : Fld := ⟨Reg.PWR_SCR_STAT, 0, 1⟩
def F.PWR_SCR_STAT_RESULT : Fld := ⟨Reg.PWR_SCR_STAT, 4, 4⟩
def Reg.PWR_SCR_DATA : Nat := 0x10814
def F.PWR_SCR_DATA : Fld := ⟨Reg.PWR_SCR_DATA, 0, 32⟩
def Reg.PWR_SCR_COUNT : Nat := 0x10818
def F.PWR_SCR_COUNT : Fld := ⟨Reg.PWR_SCR_COUNT, 0, 16⟩

/-! Table 30-9 (R725, spec/30_pins_and_package.md) -/

def Reg.PWR_PAD_CFG : Nat := 0x10a00
def F.PWR_PAD_CFG_LIO_DRIVE : Fld := ⟨Reg.PWR_PAD_CFG, 0, 2⟩
def F.PWR_PAD_CFG_LIO_SLEW : Fld := ⟨Reg.PWR_PAD_CFG, 2, 1⟩
def F.PWR_PAD_CFG_CP_DRIVE : Fld := ⟨Reg.PWR_PAD_CFG, 4, 1⟩
def F.PWR_PAD_CFG_FL_DRIVE : Fld := ⟨Reg.PWR_PAD_CFG, 8, 1⟩
def F.PWR_PAD_CFG_U0_DRIVE : Fld := ⟨Reg.PWR_PAD_CFG, 9, 1⟩

/-! Table 31-12 (R751, spec/31_electrical_characteristics.md) -/

def Reg.PWR_AON_STAT : Nat := 0x10a04
def F.PWR_AON_STAT_VAON_MV : Fld := ⟨Reg.PWR_AON_STAT, 0, 12⟩
def F.PWR_AON_STAT_VAON_LOW : Fld := ⟨Reg.PWR_AON_STAT, 16, 1⟩

/-! The table rows: base, stride, count, stride, count, reset, RW, RC, W1C, RS, WO. -/

/-- The rows of Table 1-7 (R29). -/
def Reg.rows1_7 : List RegRow := [
  ⟨0x1000000, 0x10000, 16, 0x0, 1, 0x0, 0x0, 0x0, 0x0, 0x0, 0x0⟩ /- NI_STOP_ID -/]

/-- The rows of Table 4-4 (R119). -/
def Reg.rows4_4 : List RegRow := [
  ⟨0x700000000, 0x0, 1, 0x0, 1, 0x3, 0x7, 0x0, 0x0, 0x0, 0x0⟩ /- ENC_TRIG_CFG -/,
  ⟨0x700000004, 0x0, 1, 0x0, 1, 0x0, 0xffffff, 0x0, 0x0, 0x0, 0x0⟩ /- ENC_DIV_N -/,
  ⟨0x700000008, 0x0, 1, 0x0, 1, 0x0, 0xffffff, 0x0, 0x0, 0x0, 0x0⟩ /- ENC_DIV_M -/,
  ⟨0x70000000c, 0x0, 1, 0x0, 1, 0x0, 0xffffff, 0x0, 0x0, 0x0, 0x0⟩ /- ENC_DIV_PHASE -/,
  ⟨0x700000010, 0x0, 1, 0x0, 1, 0xc35, 0xffffff, 0x0, 0x0, 0x0, 0x0⟩ /- ENC_TMIN -/,
  ⟨0x700000014, 0x0, 1, 0x0, 1, 0x0, 0xffffff, 0x0, 0x0, 0x0, 0x0⟩ /- ENC_LTIMER -/,
  ⟨0x700000018, 0x0, 1, 0x0, 1, 0x0, 0xffffff, 0x0, 0x0, 0x0, 0x0⟩ /- ENC_EXPO_DLY -/,
  ⟨0x70000001c, 0x0, 1, 0x0, 1, 0x190, 0xffffff, 0x0, 0x0, 0x0, 0x0⟩ /- ENC_EXPO_W -/,
  ⟨0x700000020, 0x0, 1, 0x0, 1, 0x0, 0x0, 0x0, 0x0, 0x0, 0x0⟩ /- ENC_LINE_NUM -/,
  ⟨0x700000024, 0x0, 1, 0x0, 1, 0x0, 0x0, 0xffffffff, 0x0, 0x0, 0x0⟩ /- ENC_SKIP -/,
  ⟨0x700000028, 0x0, 1, 0x0, 1, 0x0, 0x0, 0x0, 0x2, 0x0, 0x0⟩ /- ENC_STAT -/,
  ⟨0x70000002c, 0x0, 1, 0x0, 1, 0x0, 0x0, 0x0, 0xf, 0x0, 0x0⟩ /- ENC_ERR -/]

/-- The rows of Table 4-5 (R120). -/
def Reg.rows4_5 : List RegRow := [
  ⟨0x700000100, 0x40, 3, 0x0, 1, 0x402, 0x3ff0f, 0x0, 0x0, 0x0, 0x0⟩ /- ENCn_CFG -/,
  ⟨0x700000104, 0x40, 3, 0x0, 1, 0x0, 0xffffffff, 0x0, 0x0, 0x0, 0x0⟩ /- ENCn_POS_LO -/,
  ⟨0x700000108, 0x40, 3, 0x0, 1, 0x0, 0x0, 0x0, 0x0, 0xffff, 0x0⟩ /- ENCn_POS_HI -/,
  ⟨0x70000010c, 0x40, 3, 0x0, 1, 0x0, 0x0, 0x0, 0x0, 0x0, 0x0⟩ /- ENCn_SPEED -/,
  ⟨0x700000110, 0x40, 3, 0x0, 1, 0x0, 0xffff, 0x0, 0x0, 0x0, 0x0⟩ /- ENCn_ACC_LIM -/,
  ⟨0x700000114, 0x40, 3, 0x0, 1, 0x64, 0xffff, 0x0, 0x0, 0x0, 0x0⟩ /- ENCn_STILL_MS -/,
  ⟨0x700000118, 0x40, 3, 0x0, 1, 0x0, 0x0, 0x0, 0x0, 0x0, 0x0⟩ /- ENCn_ZPOS -/,
  ⟨0x70000011c, 0x40, 3, 0x0, 1, 0x0, 0xffffff, 0x0, 0x0, 0x0, 0x0⟩ /- ENCn_ZCPR -/,
  ⟨0x700000120, 0x40, 3, 0x0, 1, 0x0, 0x0, 0xffffffff, 0x0, 0x0, 0x0⟩ /- ENCn_GLITCH -/,
  ⟨0x700000124, 0x40, 3, 0x0, 1, 0x0, 0x0, 0xffffffff, 0x0, 0x0, 0x0⟩ /- ENCn_QERR -/,
  ⟨0x700000128, 0x40, 3, 0x0, 1, 0x0, 0x0, 0xffffffff, 0x0, 0x0, 0x0⟩ /- ENCn_IMPLAUS_CNT -/,
  ⟨0x70000012c, 0x40, 3, 0x0, 1, 0x0, 0x0, 0x0, 0x3, 0x0, 0x0⟩ /- ENCn_STAT -/]

/-- The rows of Table 4-6 (R121). -/
def Reg.rows4_6 : List RegRow := [
  ⟨0x700000400, 0x40, 4, 0x0, 1, 0x0, 0xffff007f, 0x0, 0x0, 0x0, 0x0⟩ /- MARKm_CFG -/,
  ⟨0x700000404, 0x40, 4, 0x0, 1, 0x0, 0xffffffff, 0x0, 0x0, 0x0, 0x0⟩ /- MARKm_Q_LO -/,
  ⟨0x700000408, 0x40, 4, 0x0, 1, 0x0, 0x0, 0x0, 0x0, 0x0, 0xffffffff⟩ /- MARKm_Q_HI -/,
  ⟨0x70000040c, 0x40, 4, 0x0, 1, 0x0, 0x0, 0x0, 0x0, 0x0, 0xffff⟩ /- MARKm_NOW -/,
  ⟨0x700000410, 0x40, 4, 0x0, 1, 0x40, 0x0, 0x0, 0x0, 0x0, 0x0⟩ /- MARKm_STAT -/,
  ⟨0x700000414, 0x40, 4, 0x0, 1, 0x0, 0x0, 0xffffffff, 0x0, 0x0, 0x0⟩ /- MARKm_FULL_DROP -/,
  ⟨0x700000418, 0x40, 4, 0x0, 1, 0x0, 0x0, 0xffffffff, 0x0, 0x0, 0x0⟩ /- MARKm_LATE -/,
  ⟨0x70000041c, 0x40, 4, 0x0, 1, 0x0, 0x0, 0xffffffff, 0x0, 0x0, 0x0⟩ /- MARKm_DISCARD -/,
  ⟨0x700000420, 0x40, 4, 0x0, 1, 0x0, 0x0, 0x0, 0x0, 0x0, 0x0⟩ /- MARKm_FIRED -/]

/-- The rows of Table 5-5 (R143). -/
def Reg.rows5_5 : List RegRow := [
  ⟨0x700020000, 0x0, 1, 0x0, 1, 0x3c2490, 0x7fffff, 0x0, 0x0, 0x0, 0x0⟩ /- PRS_CFG -/,
  ⟨0x700020004, 0x0, 1, 0x0, 1, 0x0, 0xfff, 0x0, 0x0, 0x0, 0x0⟩ /- PRS_LAG -/,
  ⟨0x700020008, 0x0, 1, 0x0, 1, 0x717, 0x3f3f, 0x0, 0x0, 0x0, 0x0⟩ /- PRS_THR -/,
  ⟨0x70002000c, 0x0, 1, 0x0, 1, 0x3c0, 0x3ff, 0x0, 0x0, 0x0, 0x0⟩ /- PRS_SAT_THR -/,
  ⟨0x700020010, 0x0, 1, 0x0, 1, 0x7d0, 0xffff, 0x0, 0x0, 0x0, 0x0⟩ /- PRS_BAL_THR -/,
  ⟨0x700020014, 0x0, 1, 0x0, 1, 0x80, 0x3ff, 0x0, 0x0, 0x0, 0x0⟩ /- PRS_MAINS_THR -/,
  ⟨0x700020018, 0x0, 1, 0x0, 1, 0x0, 0x0, 0x0, 0x3000, 0x0, 0x0⟩ /- PRS_STAT -/,
  ⟨0x70002001c, 0x0, 1, 0x0, 1, 0x0, 0x0, 0x0, 0x0, 0x0, 0x0⟩ /- PRS_CORR -/,
  ⟨0x700020020, 0x0, 1, 0x0, 1, 0x0, 0x0, 0x0, 0x0, 0x0, 0x0⟩ /- PRS_EDGE_POS_LO -/,
  ⟨0x700020024, 0x0, 1, 0x0, 1, 0x0, 0x0, 0x0, 0x0, 0x3ffff, 0x0⟩ /- PRS_EDGE_POS_HI -/,
  ⟨0x700020028, 0x0, 1, 0x0, 1, 0x0, 0xffffff, 0x0, 0x0, 0x0, 0x0⟩ /- PRS_FS_OFS -/,
  ⟨0x70002002c, 0x0, 1, 0x0, 1, 0x0, 0xffffff, 0x0, 0x0, 0x0, 0x0⟩ /- PRS_FE_OFS -/,
  ⟨0x700020030, 0x0, 1, 0x0, 1, 0x0, 0x0, 0xffffffff, 0x0, 0x0, 0x0⟩ /- PRS_BLIND_CNT -/,
  ⟨0x700020034, 0x0, 1, 0x0, 1, 0x0, 0x0, 0xffffffff, 0x0, 0x0, 0x0⟩ /- PRS_WEAK_CNT -/,
  ⟨0x700020038, 0x0, 1, 0x0, 1, 0x0, 0x0, 0xffffffff, 0x0, 0x0, 0x0⟩ /- PRS_GATED_CNT -/,
  ⟨0x70002003c, 0x0, 1, 0x0, 1, 0x0, 0x0, 0xffffffff, 0x0, 0x0, 0x0⟩ /- PRS_LATE_CNT -/,
  ⟨0x700020040, 0x0, 1, 0x0, 1, 0x0, 0x0, 0xffffffff, 0x0, 0x0, 0x0⟩ /- PRS_MERGE_CNT -/,
  ⟨0x700020044, 0x0, 1, 0x0, 1, 0x0, 0x0, 0xffffffff, 0x0, 0x0, 0x0⟩ /- PRS_SHORT_RUN -/,
  ⟨0x700020048, 0x0, 1, 0x0, 1, 0x0, 0x0, 0x0, 0x3, 0x0, 0x0⟩ /- PRS_ERR -/,
  ⟨0x70002004c, 0x0, 1, 0x0, 1, 0x0, 0x0, 0x0, 0x0, 0x0, 0x0⟩ /- PRS_EQ_STAT -/]

/-- The rows of Table 6-4 (R164). -/
def Reg.rows6_4 : List RegRow := [
  ⟨0x700010000, 0x0, 1, 0x0, 1, 0x0, 0x0, 0x0, 0x2, 0x0, 0x0⟩ /- STB_GSTAT -/,
  ⟨0x700010004, 0x0, 1, 0x0, 1, 0x0, 0x0, 0xffffffff, 0x0, 0x0, 0x0⟩ /- STB_ILK_CNT -/]

/-- The rows of Table 6-5 (R164). -/
def Reg.rows6_5 : List RegRow := [
  ⟨0x700010100, 0x40, 8, 0x0, 1, 0x83ff10, 0xffff1f, 0x0, 0x0, 0x0, 0x0⟩ /- STBn_CFG -/,
  ⟨0x700010104, 0x40, 8, 0x0, 1, 0x0, 0x3fffff, 0x0, 0x0, 0x0, 0x0⟩ /- STBn_OFS -/,
  ⟨0x700010108, 0x40, 8, 0x0, 1, 0x190, 0x3fffff, 0x0, 0x0, 0x0, 0x0⟩ /- STBn_W -/,
  ⟨0x70001010c, 0x40, 8, 0x0, 1, 0x0, 0x3ff, 0x0, 0x0, 0x0, 0x0⟩ /- STBn_ISET -/,
  ⟨0x700010110, 0x40, 8, 0x0, 1, 0x1e0, 0x3ff, 0x0, 0x0, 0x0, 0x0⟩ /- STBn_SETTLE -/,
  ⟨0x700010114, 0x40, 8, 0x0, 1, 0x204010, 0xffffff, 0x0, 0x0, 0x0, 0x0⟩ /- STBn_LIM -/,
  ⟨0x700010118, 0x40, 8, 0x0, 1, 0x0, 0x0, 0x0, 0x1f, 0x0, 0x0⟩ /- STBn_STAT -/,
  ⟨0x70001011c, 0x40, 8, 0x0, 1, 0x0, 0xffffffff, 0x0, 0x0, 0x0, 0x0⟩ /- STBn_ONTIME_LO -/,
  ⟨0x700010120, 0x40, 8, 0x0, 1, 0x0, 0x0, 0x0, 0x0, 0xffff, 0x0⟩ /- STBn_ONTIME_HI -/,
  ⟨0x700010124, 0x40, 8, 0x0, 1, 0x0, 0x0, 0x0, 0x0, 0x0, 0x0⟩ /- STBn_PULSES -/,
  ⟨0x700010128, 0x40, 8, 0x0, 1, 0x0, 0x0, 0xffffffff, 0x0, 0x0, 0x0⟩ /- STBn_PROOF_DONE -/,
  ⟨0x70001012c, 0x40, 8, 0x0, 1, 0x0, 0x0, 0xffffffff, 0x0, 0x0, 0x0⟩ /- STBn_PROOF_ABORT -/,
  ⟨0x700010130, 0x40, 8, 0x0, 1, 0x0, 0x0, 0xffffffff, 0x0, 0x0, 0x0⟩ /- STBn_UNV_EV -/,
  ⟨0x700010134, 0x40, 8, 0x0, 1, 0x0, 0x0, 0xffffffff, 0x0, 0x0, 0x0⟩ /- STBn_SKIP -/,
  ⟨0x700010138, 0x40, 8, 0x0, 1, 0x0, 0x0, 0x0, 0x0, 0x0, 0x1⟩ /- STBn_TEST -/]

/-- The rows of Table 7-9 (R192). -/
def Reg.rows7_9 : List RegRow := [
  ⟨0x400000000, 0x0, 1, 0x0, 1, 0x0, 0xffff0007, 0x0, 0x0, 0x0, 0x0⟩ /- ING_CFG -/,
  ⟨0x400000004, 0x0, 1, 0x0, 1, 0x0, 0xffff, 0x0, 0x0, 0x0, 0x0⟩ /- ING_LANES -/,
  ⟨0x400000008, 0x0, 1, 0x0, 1, 0x1000, 0x1ffff, 0x0, 0x0, 0x0, 0x0⟩ /- ING_FRAME_LEN -/,
  ⟨0x40000000c, 0x0, 1, 0x0, 1, 0x61a80, 0x3fffff, 0x0, 0x0, 0x0, 0x0⟩ /- ING_LTMO -/,
  ⟨0x400000010, 0x0, 1, 0x0, 1, 0x64, 0x3ff, 0x0, 0x0, 0x0, 0x0⟩ /- ING_LDWAIT -/,
  ⟨0x400000014, 0x0, 1, 0x0, 1, 0x18bf, 0xffff, 0x0, 0x0, 0x0, 0x0⟩ /- ING_QMASK -/,
  ⟨0x400000018, 0x0, 1, 0x0, 1, 0x10, 0x1ffff, 0x0, 0x0, 0x0, 0x0⟩ /- ING_DIST_THR -/,
  ⟨0x40000001c, 0x0, 1, 0x0, 1, 0x80, 0x0, 0x0, 0x0, 0x0, 0x0⟩ /- ING_SLOTS -/,
  ⟨0x400000020, 0x0, 1, 0x0, 1, 0x0, 0x0, 0x0, 0x3, 0x0, 0x0⟩ /- ING_STAT -/,
  ⟨0x400000024, 0x0, 1, 0x0, 1, 0x0, 0x0, 0x0, 0x3, 0x0, 0x0⟩ /- ING_ERR -/,
  ⟨0x400000028, 0x0, 1, 0x0, 1, 0x0, 0x0, 0xffffffff, 0x0, 0x0, 0x0⟩ /- ING_DISCARD_FULL -/,
  ⟨0x40000002c, 0x0, 1, 0x0, 1, 0x0, 0x0, 0xffffffff, 0x0, 0x0, 0x0⟩ /- ING_ORPHAN -/,
  ⟨0x400000030, 0x0, 1, 0x0, 1, 0x0, 0x0, 0xffffffff, 0x0, 0x0, 0x0⟩ /- ING_MISSING -/,
  ⟨0x400000034, 0x0, 1, 0x0, 1, 0x0, 0x0, 0xffffffff, 0x0, 0x0, 0x0⟩ /- ING_CRC_CNT -/,
  ⟨0x400000038, 0x0, 1, 0x0, 1, 0x0, 0x0, 0xffffffff, 0x0, 0x0, 0x0⟩ /- ING_SYNC_CNT -/,
  ⟨0x40000003c, 0x0, 1, 0x0, 1, 0x0, 0x0, 0xffffffff, 0x0, 0x0, 0x0⟩ /- ING_STARVE_CNT -/,
  ⟨0x400000040, 0x0, 1, 0x0, 1, 0x0, 0x0, 0x0, 0x0, 0x0, 0x1⟩ /- ING_CMP_CTRL -/,
  ⟨0x400000044, 0x0, 1, 0x0, 1, 0x0, 0x0, 0x0, 0x0, 0x0, 0x0⟩ /- ING_CMP_MAXERR -/,
  ⟨0x400000080, 0x4, 16, 0x0, 1, 0x0, 0xffff, 0x0, 0x0, 0x0, 0x0⟩ /- ING_CMP_SEGj -/,
  ⟨0x400000100, 0x4, 8, 0x0, 1, 0x0, 0x0, 0x0, 0x0, 0x0, 0x0⟩ /- ING_FREC -/]

/-- The rows of Table 8-10 (R220). -/
def Reg.rows8_10 : List RegRow := [
  ⟨0x110010100, 0x0, 1, 0x0, 1, 0x14000, 0x17fff, 0x0, 0x0, 0x0, 0x0⟩ /- TRS_ARR_CFG -/,
  ⟨0x110010104, 0x0, 1, 0x0, 1, 0x0, 0x0, 0x0, 0x2, 0x0, 0x0⟩ /- TRS_GOR -/,
  ⟨0x110010108, 0x0, 1, 0x0, 1, 0x0, 0x0, 0x0, 0x0, 0x0, 0x0⟩ /- TRS_GOR_TILES_LO -/,
  ⟨0x11001010c, 0x0, 1, 0x0, 1, 0x0, 0x0, 0x0, 0x0, 0xffffffff, 0x0⟩ /- TRS_GOR_TILES_HI -/,
  ⟨0x110010110, 0x0, 1, 0x0, 1, 0x0, 0x0, 0x0, 0x3f, 0x0, 0x0⟩ /- TRS_STICKY -/,
  ⟨0x110010114, 0x0, 1, 0x0, 1, 0x0, 0x0, 0x0, 0x0, 0x0, 0x0⟩ /- TRS_TILE_ON_LO -/,
  ⟨0x110010118, 0x0, 1, 0x0, 1, 0x0, 0x0, 0x0, 0x0, 0xffffffff, 0x0⟩ /- TRS_TILE_ON_HI -/]

/-- The rows of Table 8-11 (R221). -/
def Reg.rows8_11 : List RegRow := [
  ⟨0x800000000, 0x100000000, 8, 0x1000, 8, 0x0, 0x0, 0x0, 0x0, 0x0, 0x0⟩ /- TILE_ID -/,
  ⟨0x800000004, 0x100000000, 8, 0x1000, 8, 0x0, 0x0, 0x0, 0x0, 0x0, 0x0⟩ /- TILE_STICKY -/,
  ⟨0x800000008, 0x100000000, 8, 0x1000, 8, 0x0, 0x0, 0x0, 0x0, 0x0, 0x0⟩ /- TILE_GOR -/,
  ⟨0x80000f000, 0x100000000, 8, 0x0, 1, 0x0, 0x0, 0x0, 0x0, 0x0, 0x0⟩ /- BENT_GOR -/]

/-- The rows of Table 9-12 (R245). -/
def Reg.rows9_12 : List RegRow := [
  ⟨0x110010000, 0x0, 1, 0x0, 1, 0x0, 0x0, 0x0, 0x0, 0x0, 0x0⟩ /- TRS_QSTAT -/,
  ⟨0x110010004, 0x0, 1, 0x0, 1, 0x0, 0x0, 0x0, 0x0, 0x0, 0x1⟩ /- TRS_CTRL -/,
  ⟨0x110010008, 0x0, 1, 0x0, 1, 0x0, 0x0, 0x0, 0x18, 0x0, 0x0⟩ /- TRS_ERR -/,
  ⟨0x11001000c, 0x0, 1, 0x0, 1, 0x0, 0x0, 0x0, 0x0, 0x0, 0x0⟩ /- TRS_BADOP0 -/,
  ⟨0x110010010, 0x0, 1, 0x0, 1, 0x0, 0x0, 0x0, 0x0, 0x0, 0x0⟩ /- TRS_BADOP1 -/,
  ⟨0x110010014, 0x0, 1, 0x0, 1, 0x0, 0x0, 0x0, 0x0, 0x0, 0x0⟩ /- TRS_BADOP2 -/,
  ⟨0x110010018, 0x0, 1, 0x0, 1, 0x0, 0x0, 0xffffffff, 0x0, 0x0, 0x0⟩ /- TRS_REFUSE_CNT -/,
  ⟨0x11001001c, 0x0, 1, 0x0, 1, 0x0, 0x0, 0xffffffff, 0x0, 0x0, 0x0⟩ /- TRS_DISCARD_CNT -/,
  ⟨0x110010020, 0x0, 1, 0x0, 1, 0x0, 0x0, 0x0, 0x0, 0x0, 0x0⟩ /- TRS_DONE_CNT -/,
  ⟨0x110010024, 0x0, 1, 0x0, 1, 0x0, 0x0, 0x0, 0x0, 0x0, 0x0⟩ /- TRS_UCODE_ID -/]

/-- The rows of Table 10-9 (R264). -/
def Reg.rows10_9 : List RegRow := [
  ⟨0x110010200, 0x0, 1, 0x0, 1, 0x0, 0x0, 0x0, 0x0, 0x0, 0x0⟩ /- TRS_SCAN -/,
  ⟨0x110010204, 0x0, 1, 0x0, 1, 0x0, 0x0, 0x0, 0x0, 0x0, 0x0⟩ /- TRS_LAST_CYC -/,
  ⟨0x110010208, 0x0, 1, 0x0, 1, 0x0, 0x0, 0xffffffff, 0x0, 0x0, 0x0⟩ /- TRS_BUSY_CYC -/]

/-- The rows of Table 11-6 (R293). -/
def Reg.rows11_6 : List RegRow := [
  ⟨0x200000000, 0x0, 1, 0x0, 1, 0x0, 0x73, 0x0, 0x0, 0x0, 0x0⟩ /- TLY_CFG -/,
  ⟨0x200000004, 0x0, 1, 0x0, 1, 0x0, 0xf8000000, 0x0, 0x0, 0x0, 0x0⟩ /- TLY_FAR_BASE -/,
  ⟨0x200000008, 0x0, 1, 0x0, 1, 0x0, 0x0, 0x0, 0xc, 0x0, 0x0⟩ /- TLY_STAT -/,
  ⟨0x20000000c, 0x0, 1, 0x0, 1, 0x0, 0x0, 0x0, 0xf, 0x0, 0x0⟩ /- TLY_ERR -/,
  ⟨0x200000010, 0x0, 1, 0x0, 1, 0x0, 0xffffffff, 0x0, 0x0, 0x0, 0x0⟩ /- TLY_CMD_ARG -/,
  ⟨0x200000014, 0x0, 1, 0x0, 1, 0x0, 0x0, 0x0, 0x0, 0x0, 0xf⟩ /- TLY_CMD -/,
  ⟨0x200000018, 0x0, 1, 0x0, 1, 0x0, 0x0, 0x0, 0x0, 0x0, 0x0⟩ /- TLY_CMD_RESULT -/,
  ⟨0x200000020, 0x0, 1, 0x0, 1, 0x100, 0x0, 0x0, 0x0, 0x0, 0x0⟩ /- TLY_BAL_BENCH -/,
  ⟨0x200000024, 0x0, 1, 0x0, 1, 0x1000, 0x0, 0x0, 0x0, 0x0, 0x0⟩ /- TLY_BAL_YARD_LO -/,
  ⟨0x200000028, 0x0, 1, 0x0, 1, 0x0, 0x0, 0x0, 0x0, 0x1fff, 0x0⟩ /- TLY_BAL_YARD_HI -/,
  ⟨0x20000002c, 0x0, 1, 0x0, 1, 0x10000, 0x0, 0x0, 0x0, 0x0, 0x0⟩ /- TLY_BAL_FAR_FREE -/,
  ⟨0x200000030, 0x0, 1, 0x0, 1, 0x0, 0x0, 0x0, 0x0, 0x1ffff, 0x0⟩ /- TLY_BAL_FAR_HELD -/,
  ⟨0x200000034, 0x0, 1, 0x0, 1, 0x0, 0x0, 0x0, 0x0, 0x7f, 0x0⟩ /- TLY_BAL_FAR_MOVING -/,
  ⟨0x200000038, 0x0, 1, 0x0, 1, 0x0, 0x0, 0x0, 0x0, 0x1ffff, 0x0⟩ /- TLY_BAL_FAR_POISON -/,
  ⟨0x200000040, 0x0, 1, 0x0, 1, 0x0, 0x0, 0x0, 0x0, 0x0, 0x0⟩ /- TLY_INFLIGHT -/,
  ⟨0x200000044, 0x0, 1, 0x0, 1, 0x0, 0x0, 0x0, 0x0, 0x0, 0x0⟩ /- TLY_STALL_FRAME -/,
  ⟨0x200000048, 0x0, 1, 0x0, 1, 0x0, 0x0, 0x0, 0x0, 0x0, 0x0⟩ /- TLY_STALL_LAST -/,
  ⟨0x20000004c, 0x0, 1, 0x0, 1, 0x0, 0x0, 0xffffffff, 0x0, 0x0, 0x0⟩ /- TLY_STALL_TOTAL -/,
  ⟨0x200000050, 0x0, 1, 0x0, 1, 0x0, 0x0, 0xffffffff, 0x0, 0x0, 0x0⟩ /- TLY_MISS_CNT -/,
  ⟨0x200000054, 0x0, 1, 0x0, 1, 0x0, 0x0, 0x0, 0x10000, 0x0, 0x0⟩ /- TLY_MISS_PLANE -/,
  ⟨0x200000058, 0x0, 1, 0x0, 1, 0x0, 0x0, 0xffffffff, 0x0, 0x0, 0x0⟩ /- TLY_POISON_CNT -/,
  ⟨0x20000005c, 0x0, 1, 0x0, 1, 0x0, 0x0, 0x0, 0x100000, 0x0, 0x0⟩ /- TLY_POISON_PLANE -/,
  ⟨0x200000060, 0x0, 1, 0x0, 1, 0x0, 0x0, 0x0, 0x0, 0x0, 0x0⟩ /- TLY_PIN_CNT -/,
  ⟨0x200000070, 0x0, 1, 0x0, 1, 0x0, 0xffff, 0x0, 0x0, 0x0, 0x0⟩ /- TLY_MAP_SEL -/,
  ⟨0x200000074, 0x0, 1, 0x0, 1, 0x0, 0x0, 0x0, 0x0, 0x0, 0x0⟩ /- TLY_MAP_ENT -/,
  ⟨0x200000100, 0x8, 16, 0x0, 1, 0x0, 0x8001ffff, 0x0, 0x0, 0x0, 0x0⟩ /- TLY_WSi_A -/,
  ⟨0x200000104, 0x8, 16, 0x0, 1, 0x1, 0x1fff, 0x0, 0x0, 0x0, 0x0⟩ /- TLY_WSi_B -/]

/-- The rows of Table 12-8 (R326). -/
def Reg.rows12_8 : List RegRow := [
  ⟨0x110000400, 0x40, 8, 0x0, 1, 0x0, 0x0, 0x0, 0x0, 0x0, 0x0⟩ /- SEQ_Tn_PC -/,
  ⟨0x110000404, 0x40, 8, 0x0, 1, 0x0, 0x0, 0x0, 0x0, 0x0, 0x0⟩ /- SEQ_Tn_REP -/,
  ⟨0x110000408, 0x40, 8, 0x0, 1, 0x0, 0x0, 0x0, 0x0, 0x0, 0x0⟩ /- SEQ_Tn_PEND -/,
  ⟨0x11000040c, 0x40, 8, 0x0, 1, 0x0, 0x0, 0x0, 0x1f, 0x0, 0x0⟩ /- SEQ_Tn_WARN -/,
  ⟨0x110000410, 0x40, 8, 0x0, 1, 0x0, 0x0, 0x0, 0x8, 0x0, 0x0⟩ /- SEQ_Tn_FAULT -/,
  ⟨0x110000414, 0x40, 8, 0x0, 1, 0x0, 0x0, 0x0, 0x0, 0x0, 0x0⟩ /- SEQ_Tn_FAULT_PC -/,
  ⟨0x110000418, 0x40, 8, 0x0, 1, 0x0, 0x0, 0x0, 0x0, 0x0, 0x0⟩ /- SEQ_Tn_RCODE -/,
  ⟨0x11000041c, 0x40, 8, 0x0, 1, 0x0, 0x0, 0x0, 0x0, 0x0, 0x0⟩ /- SEQ_Tn_RFAIL_OFS -/,
  ⟨0x110000420, 0x40, 8, 0x0, 1, 0x0, 0x0, 0x0, 0x0, 0x0, 0x0⟩ /- SEQ_Tn_OUTST -/]

/-- The row of R327: register gk of task n. -/
def Reg.rows12_g : List RegRow := [
  ⟨0x110001000, 0x80, 8, 0x4, 32, 0x0, 0x0, 0x0, 0x0, 0x0, 0x0⟩ /- SEQ_Tn_gk -/]

/-- The rows of Table 13-9 (R352). -/
def Reg.rows13_9 : List RegRow := [
  ⟨0x110000000, 0x0, 1, 0x0, 1, 0x0, 0xffff, 0x0, 0x0, 0x0, 0x0⟩ /- SEQ_SCHED -/,
  ⟨0x110000004, 0x0, 1, 0x0, 1, 0x8, 0x0, 0x0, 0x0, 0x0, 0x0⟩ /- SEQ_SCHED_STAT -/,
  ⟨0x110000008, 0x0, 1, 0x0, 1, 0x0, 0x0, 0x0, 0x0, 0x0, 0xff⟩ /- SEQ_EV_POST -/,
  ⟨0x11000000c, 0x0, 1, 0x0, 1, 0x0, 0x0, 0x0, 0x1, 0x0, 0x0⟩ /- SEQ_SCHED_ERR -/,
  ⟨0x110000010, 0x0, 1, 0x0, 1, 0x0, 0x0, 0xffffffff, 0x0, 0x0, 0x0⟩ /- SEQ_SWITCH_CNT -/,
  ⟨0x110000014, 0x0, 1, 0x0, 1, 0x0, 0x0, 0xff, 0x0, 0x0, 0x0⟩ /- SEQ_PREEMPT_MAX -/,
  ⟨0x110000020, 0x0, 1, 0x0, 1, 0x0, 0x0, 0x0, 0x0, 0x0, 0x31f⟩ /- SEQ_PEG_REQ -/,
  ⟨0x110000024, 0x0, 1, 0x0, 1, 0x0, 0x0, 0x0, 0x0, 0x0, 0x0⟩ /- SEQ_PEG_RES_HOST -/,
  ⟨0x110000028, 0x0, 1, 0x0, 1, 0x0, 0x0, 0x0, 0x0, 0x0, 0x0⟩ /- SEQ_PEG_RES_JIG -/,
  ⟨0x11000002c, 0x0, 1, 0x0, 1, 0x0, 0x0, 0x0, 0x0, 0x0, 0x0⟩ /- SEQ_PEG_RES_SUPV -/,
  ⟨0x110000030, 0x0, 1, 0x0, 1, 0x20, 0x0, 0x0, 0x0, 0x0, 0x0⟩ /- SEQ_PEG_BAL -/,
  ⟨0x110000034, 0x0, 1, 0x0, 1, 0xf0000, 0x0, 0x0, 0x7, 0x0, 0x0⟩ /- SEQ_PEG_ERR -/,
  ⟨0x110000038, 0x0, 1, 0x0, 1, 0x0, 0x0, 0xffffffff, 0x0, 0x0, 0x0⟩ /- SEQ_PEG_BREAK_CNT -/,
  ⟨0x110000100, 0x4, 32, 0x0, 1, 0xf0, 0x0, 0x0, 0x0, 0x0, 0x0⟩ /- SEQ_PEGp -/]

/-- The rows of Table 13-10 (R353). -/
def Reg.rows13_10 : List RegRow := [
  ⟨0x110000200, 0x20, 8, 0x0, 1, 0x0, 0x0, 0x0, 0x0, 0x0, 0x3⟩ /- SEQ_Tn_CTRL -/,
  ⟨0x110000204, 0x20, 8, 0x0, 1, 0x0, 0x3ffff, 0x0, 0x0, 0x0, 0x0⟩ /- SEQ_Tn_ENTRY -/,
  ⟨0x110000208, 0x20, 8, 0x0, 1, 0x0, 0x7, 0x0, 0x0, 0x0, 0x0⟩ /- SEQ_Tn_PRI -/,
  ⟨0x11000020c, 0x20, 8, 0x0, 1, 0x0, 0x0, 0x0, 0x80, 0x0, 0x0⟩ /- SEQ_Tn_STAT -/,
  ⟨0x110000210, 0x20, 8, 0x0, 1, 0x0, 0x0, 0x0, 0x3ff, 0x0, 0x0⟩ /- SEQ_Tn_EV -/,
  ⟨0x110000214, 0x20, 8, 0x0, 1, 0x0, 0x0, 0x0, 0x0, 0x0, 0x0⟩ /- SEQ_Tn_WMASK -/,
  ⟨0x110000218, 0x20, 8, 0x0, 1, 0x0, 0x80ffffff, 0x0, 0x0, 0x0, 0x0⟩ /- SEQ_Tn_TIMER -/,
  ⟨0x11000021c, 0x20, 8, 0x0, 1, 0x0, 0xffffffff, 0x0, 0x0, 0x0, 0x0⟩ /- SEQ_Tn_PEGWATCH -/]

/-- The rows of Table 14-7 (R374). -/
def Reg.rows14_7 : List RegRow := [
  ⟨0x500000000, 0x0, 1, 0x0, 1, 0x0, 0x0, 0x0, 0x50, 0x0, 0x0⟩ /- KRF_STAT -/,
  ⟨0x500000004, 0x0, 1, 0x0, 1, 0x0, 0x0, 0xffffffff, 0x0, 0x0, 0x0⟩ /- KRF_BLOCKS -/,
  ⟨0x500000008, 0x0, 1, 0x0, 1, 0x0, 0x0, 0xffffffff, 0x0, 0x0, 0x0⟩ /- KRF_RAW_CNT -/,
  ⟨0x50000000c, 0x0, 1, 0x0, 1, 0x0, 0x0, 0xffffffff, 0x0, 0x0, 0x0⟩ /- KRF_DIS_CNT -/,
  ⟨0x500000010, 0x0, 1, 0x0, 1, 0x0, 0x0, 0xf, 0x0, 0x0, 0x0⟩ /- KRF_MAXCERT -/,
  ⟨0x500000014, 0x0, 1, 0x0, 1, 0x0, 0x0, 0xffffffff, 0x0, 0x0, 0x0⟩ /- KRF_OUT_BYTES -/,
  ⟨0x500000018, 0x0, 1, 0x0, 1, 0x0, 0x0, 0xffffffff, 0x0, 0x0, 0x0⟩ /- KRF_OUT_WAIT_CYC -/,
  ⟨0x500000100, 0x4, 16, 0x0, 1, 0xc, 0xffff, 0x0, 0x0, 0x0, 0x0⟩ /- KRF_CTXc_CFG -/]

/-- The rows of Table 15-9 (R397). -/
def Reg.rows15_9 : List RegRow := [
  ⟨0x500010000, 0x0, 1, 0x0, 1, 0x140300, 0xff073f, 0x0, 0x0, 0x0, 0x0⟩ /- EGR_CFG -/,
  ⟨0x500010004, 0x0, 1, 0x0, 1, 0x408, 0x3f3f, 0x0, 0x0, 0x0, 0x0⟩ /- EGR_BUF_CFG -/,
  ⟨0x500010008, 0x0, 1, 0x0, 1, 0x32, 0x3ff, 0x0, 0x0, 0x0, 0x0⟩ /- EGR_IMG_WAIT -/,
  ⟨0x50001000c, 0x0, 1, 0x0, 1, 0x0, 0x0, 0x0, 0x10, 0x0, 0x0⟩ /- EGR_STAT -/,
  ⟨0x500010010, 0x0, 1, 0x0, 1, 0x0, 0x0, 0x0, 0x1, 0x0, 0x0⟩ /- EGR_ERR -/,
  ⟨0x500010014, 0x0, 1, 0x0, 1, 0x40, 0x0, 0x0, 0x0, 0x0, 0x0⟩ /- EGR_BUF_BAL -/,
  ⟨0x500010018, 0x0, 1, 0x0, 1, 0x0, 0x0, 0x0, 0x0, 0x0, 0x0⟩ /- EGR_SEQ -/,
  ⟨0x50001001c, 0x0, 1, 0x0, 1, 0x0, 0x0, 0xffffffff, 0x0, 0x0, 0x0⟩ /- EGR_FRAMES -/,
  ⟨0x500010020, 0x0, 1, 0x0, 1, 0x0, 0x0, 0xffffffff, 0x0, 0x0, 0x0⟩ /- EGR_RETX_CNT -/,
  ⟨0x500010024, 0x0, 1, 0x0, 1, 0x0, 0x0, 0xffffffff, 0x0, 0x0, 0x0⟩ /- EGR_ABANDON -/,
  ⟨0x500010028, 0x0, 1, 0x0, 1, 0x0, 0x0, 0xffffffff, 0x0, 0x0, 0x0⟩ /- EGR_DROP_CNT -/,
  ⟨0x50001002c, 0x0, 1, 0x0, 1, 0x0, 0x0, 0xffffffff, 0x0, 0x0, 0x0⟩ /- EGR_COAL_CNT -/,
  ⟨0x500010030, 0x0, 1, 0x0, 1, 0x0, 0x0, 0xffffffff, 0x0, 0x0, 0x0⟩ /- EGR_REFUSE_CNT -/,
  ⟨0x500010034, 0x0, 1, 0x0, 1, 0x0, 0x0, 0xffffffff, 0x0, 0x0, 0x0⟩ /- EGR_RX_ERR -/,
  ⟨0x500010038, 0x0, 1, 0x0, 1, 0x0, 0x0, 0x0, 0x0, 0x0, 0x0⟩ /- EGR_SUMACC -/,
  ⟨0x50001003c, 0x0, 1, 0x0, 1, 0x0, 0x0, 0x0, 0x0, 0x0, 0x0⟩ /- EGR_DROPACC -/,
  ⟨0x500010040, 0x0, 1, 0x0, 1, 0x0, 0xf1fff, 0x0, 0x0, 0x0, 0x0⟩ /- EGR_ENQ_D0 -/,
  ⟨0x500010044, 0x0, 1, 0x0, 1, 0x0, 0xffffffff, 0x0, 0x0, 0x0, 0x0⟩ /- EGR_ENQ_D1 -/,
  ⟨0x500010048, 0x0, 1, 0x0, 1, 0x0, 0xffffffff, 0x0, 0x0, 0x0, 0x0⟩ /- EGR_ENQ_D2 -/,
  ⟨0x50001004c, 0x0, 1, 0x0, 1, 0x0, 0xffffffff, 0x0, 0x0, 0x0, 0x0⟩ /- EGR_ENQ_D3 -/,
  ⟨0x500010050, 0x0, 1, 0x0, 1, 0x0, 0xffff, 0x0, 0x0, 0x0, 0x0⟩ /- EGR_ENQ_D4 -/,
  ⟨0x500010054, 0x0, 1, 0x0, 1, 0x0, 0x0, 0x0, 0x0, 0x0, 0x0⟩ /- EGR_ENQ_GO -/,
  ⟨0x500011000, 0x4, 1024, 0x0, 1, 0x0, 0xffffffff, 0x0, 0x0, 0x0, 0x0⟩ /- EGR_STAGE -/]

/-- The rows of Table 16-5 (R428). -/
def Reg.rows16_5 : List RegRow := [
  ⟨0x700030000, 0x0, 1, 0x0, 1, 0x18, 0x1f, 0x0, 0x0, 0x0, 0x0⟩ /- DYN_CFG -/,
  ⟨0x700030004, 0x0, 1, 0x0, 1, 0x320, 0x3fff, 0x0, 0x0, 0x0, 0x0⟩ /- DYN_LEAD -/,
  ⟨0x700030008, 0x0, 1, 0x0, 1, 0x19, 0xffff, 0x0, 0x0, 0x0, 0x0⟩ /- DYN_GWIN -/,
  ⟨0x70003000c, 0x0, 1, 0x0, 1, 0x40, 0x7ff, 0x0, 0x0, 0x0, 0x0⟩ /- DYN_FW_MAX -/,
  ⟨0x700030010, 0x0, 1, 0x0, 1, 0x190, 0xffff, 0x0, 0x0, 0x0, 0x0⟩ /- DYN_POS_PER -/,
  ⟨0x700030014, 0x0, 1, 0x0, 1, 0x0, 0x0, 0x0, 0x1f0000, 0x0, 0x0⟩ /- DYN_STAT -/,
  ⟨0x700030018, 0x0, 1, 0x0, 1, 0x0, 0x0, 0x0, 0x3, 0x0, 0x0⟩ /- DYN_ERR -/,
  ⟨0x70003001c, 0x0, 1, 0x0, 1, 0x0, 0x0, 0x0, 0x0, 0x0, 0x1⟩ /- DYN_CAL -/,
  ⟨0x700030020, 0x0, 1, 0x0, 1, 0x0, 0x0, 0x0, 0x0, 0x0, 0x0⟩ /- DYN_HOPDLY -/,
  ⟨0x700030024, 0x0, 1, 0x0, 1, 0x0, 0x0, 0x0, 0x0, 0x0, 0x0⟩ /- DYN_FINE -/,
  ⟨0x700030028, 0x0, 1, 0x0, 1, 0x0, 0x0, 0x0, 0x0, 0x0, 0x0⟩ /- DYN_GTIME_LO -/,
  ⟨0x70003002c, 0x0, 1, 0x0, 1, 0x0, 0x0, 0x0, 0x0, 0xffff, 0x0⟩ /- DYN_GTIME_HI -/,
  ⟨0x700030030, 0x0, 1, 0x0, 1, 0x0, 0x0, 0x0, 0x0, 0x0, 0x0⟩ /- DYN_MPOS_LO -/,
  ⟨0x700030034, 0x0, 1, 0x0, 1, 0x0, 0x0, 0x0, 0x0, 0xffff, 0x0⟩ /- DYN_MPOS_HI -/,
  ⟨0x700030038, 0x0, 1, 0x0, 1, 0x0, 0x0, 0x0, 0xffffffff, 0x0, 0x0⟩ /- DYN_GOR_MASK -/,
  ⟨0x70003003c, 0x0, 1, 0x0, 1, 0x0, 0x0, 0x0, 0x0, 0x0, 0x0⟩ /- DYN_GOR_LAST -/,
  ⟨0x700030040, 0x0, 1, 0x0, 1, 0x0, 0xffffffff, 0x0, 0x0, 0x0, 0x0⟩ /- DYN_CMD_TX_LO -/,
  ⟨0x700030044, 0x0, 1, 0x0, 1, 0x0, 0x0, 0x0, 0x0, 0x0, 0xffff⟩ /- DYN_CMD_TX_HI -/,
  ⟨0x700030048, 0x0, 1, 0x0, 1, 0x0, 0x0, 0x0, 0x0, 0x0, 0x0⟩ /- DYN_CMD_RX_LO -/,
  ⟨0x70003004c, 0x0, 1, 0x0, 1, 0x0, 0x0, 0x0, 0x0, 0xffff, 0x0⟩ /- DYN_CMD_RX_HI -/,
  ⟨0x700030050, 0x0, 1, 0x0, 1, 0x0, 0x0, 0xffffffff, 0x0, 0x0, 0x0⟩ /- DYN_CRC_ERR -/,
  ⟨0x700030054, 0x0, 1, 0x0, 1, 0x0, 0x0, 0xffffffff, 0x0, 0x0, 0x0⟩ /- DYN_LOST_LINE -/,
  ⟨0x700030058, 0x0, 1, 0x0, 1, 0x0, 0x0, 0xffffffff, 0x0, 0x0, 0x0⟩ /- DYN_LATE_LINE -/,
  ⟨0x70003005c, 0x0, 1, 0x0, 1, 0x0, 0x0, 0xffffffff, 0x0, 0x0, 0x0⟩ /- DYN_XTRAP_CNT -/,
  ⟨0x700030060, 0x0, 1, 0x0, 1, 0x0, 0x0, 0xffffffff, 0x0, 0x0, 0x0⟩ /- DYN_FWD_DROP -/,
  ⟨0x700030064, 0x0, 1, 0x0, 1, 0x0, 0x0, 0xffffffff, 0x0, 0x0, 0x0⟩ /- DYN_DUP -/,
  ⟨0x700030068, 0x0, 1, 0x0, 1, 0x0, 0x0, 0xffffffff, 0x0, 0x0, 0x0⟩ /- DYN_RSV_MSG -/,
  ⟨0x70003006c, 0x0, 1, 0x0, 1, 0x0, 0x0, 0xffffffff, 0x0, 0x0, 0x0⟩ /- DYN_LOSS_CNT -/]

/-- The rows of Table 17-7 (R460). -/
def Reg.rows17_7 : List RegRow := [
  ⟨0x1000004, 0x10000, 16, 0x0, 1, 0x2104, 0xffff, 0x0, 0x0, 0x0, 0x0⟩ /- NI_CFG -/,
  ⟨0x1000008, 0x10000, 16, 0x0, 1, 0x0, 0x0, 0x0, 0x700, 0x0, 0x0⟩ /- NI_STAT -/,
  ⟨0x100000c, 0x10000, 16, 0x0, 1, 0x100, 0x0, 0x0, 0x0, 0x0, 0x0⟩ /- NI_TAG_BAL -/,
  ⟨0x1000010, 0x10000, 16, 0x0, 1, 0x0, 0x0, 0x0, 0x0, 0x0, 0x0⟩ /- NI_TAG_STALE -/,
  ⟨0x1000014, 0x10000, 16, 0x0, 1, 0x0, 0x0, 0xffffffff, 0x0, 0x0, 0x0⟩ /- NI_DELAY_CYCLES -/,
  ⟨0x1000018, 0x10000, 16, 0x0, 1, 0x0, 0x0, 0xffffffff, 0x0, 0x0, 0x0⟩ /- NI_REFUSE_COUNT -/,
  ⟨0x100001c, 0x10000, 16, 0x0, 1, 0x0, 0x0, 0xffffffff, 0x0, 0x0, 0x0⟩ /- NI_TIMEOUT_CNT -/,
  ⟨0x1000020, 0x10000, 16, 0x0, 1, 0x0, 0x0, 0xffffffff, 0x0, 0x0, 0x0⟩ /- NI_LATE_RESP -/,
  ⟨0x1000024, 0x10000, 16, 0x0, 1, 0x0, 0x0, 0xffffffff, 0x0, 0x0, 0x0⟩ /- NI_HDR_ERR -/,
  ⟨0x1000028, 0x10000, 16, 0x0, 1, 0x0, 0x0, 0xffffffff, 0x0, 0x0, 0x0⟩ /- NI_BYPASS_DROP -/,
  ⟨0x100002c, 0x10000, 16, 0x0, 1, 0x0, 0x0, 0xffffffff, 0x0, 0x0, 0x0⟩ /- NI_URG_DEMOTE -/,
  ⟨0x1000030, 0x10000, 16, 0x0, 1, 0xc000c, 0x0, 0x0, 0x0, 0x0, 0x0⟩ /- NI_CRED_P_LO -/,
  ⟨0x1000034, 0x10000, 16, 0x0, 1, 0xc, 0x0, 0x0, 0x0, 0xfff, 0x0⟩ /- NI_CRED_P_HI -/,
  ⟨0x1000038, 0x10000, 16, 0x0, 1, 0xc000c, 0x0, 0x0, 0x0, 0x0, 0x0⟩ /- NI_CRED_S_LO -/,
  ⟨0x100003c, 0x10000, 16, 0x0, 1, 0xc, 0x0, 0x0, 0x0, 0xfff, 0x0⟩ /- NI_CRED_S_HI -/,
  ⟨0x1000100, 0x10000, 16, 0x4, 64, 0x0, 0x80009f1f, 0x0, 0x0, 0x0, 0x0⟩ /- NI_ROUTEi -/]

/-- The rows of Table 18-8 (R481). -/
def Reg.rows18_8 : List RegRow := [
  ⟨0x60000, 0x0, 1, 0x0, 1, 0x0, 0x0, 0x0, 0x0, 0x0, 0x0⟩ /- MEMC_CFG -/,
  ⟨0x60004, 0x0, 1, 0x0, 1, 0x0, 0x0, 0x0, 0x0, 0x0, 0x0⟩ /- MEMC_CAP -/,
  ⟨0x60008, 0x0, 1, 0x0, 1, 0x0, 0x0, 0x0, 0x300, 0x0, 0x0⟩ /- MEMC_STAT -/,
  ⟨0x6000c, 0x0, 1, 0x0, 1, 0x0, 0x0, 0x0, 0x3, 0x0, 0x0⟩ /- MEMC_ERR -/,
  ⟨0x60010, 0x0, 1, 0x0, 1, 0x0, 0x0, 0x0, 0x0, 0x0, 0x0⟩ /- MEMC_TRAIN_STAT -/,
  ⟨0x60014, 0x0, 1, 0x0, 1, 0x100864, 0xffffff, 0x0, 0x0, 0x0, 0x0⟩ /- MEMC_RETRAIN -/,
  ⟨0x60018, 0x0, 1, 0x0, 1, 0x4, 0xf, 0x0, 0x0, 0x0, 0x0⟩ /- MEMC_ARB -/,
  ⟨0x6001c, 0x0, 1, 0x0, 1, 0x0, 0xffff, 0x0, 0x0, 0x0, 0x0⟩ /- MEMC_SCRUB -/,
  ⟨0x60020, 0x0, 1, 0x0, 1, 0x0, 0x0, 0xffffffff, 0x0, 0x0, 0x0⟩ /- MEMC_CE_CNT -/,
  ⟨0x60024, 0x0, 1, 0x0, 1, 0x0, 0x0, 0x0, 0x1, 0x0, 0x0⟩ /- MEMC_CE_ADDR -/,
  ⟨0x60028, 0x0, 1, 0x0, 1, 0x0, 0x0, 0xffffffff, 0x0, 0x0, 0x0⟩ /- MEMC_UE_CNT -/,
  ⟨0x6002c, 0x0, 1, 0x0, 1, 0x0, 0x0, 0x0, 0x1, 0x0, 0x0⟩ /- MEMC_UE_ADDR -/,
  ⟨0x60030, 0x0, 1, 0x0, 1, 0x0, 0x0, 0xffffffff, 0x0, 0x0, 0x0⟩ /- MEMC_RMW_CNT -/,
  ⟨0x60034, 0x0, 1, 0x0, 1, 0x0, 0x0, 0xffffffff, 0x0, 0x0, 0x0⟩ /- MEMC_HOLD_CYC -/,
  ⟨0x60038, 0x0, 1, 0x0, 1, 0x0, 0x0, 0xffffffff, 0x0, 0x0, 0x0⟩ /- MEMC_RD_BYTES -/,
  ⟨0x6003c, 0x0, 1, 0x0, 1, 0x0, 0x0, 0xffffffff, 0x0, 0x0, 0x0⟩ /- MEMC_WR_BYTES -/,
  ⟨0x60040, 0x0, 1, 0x0, 1, 0x0, 0x0, 0x0, 0x0, 0x0, 0x0⟩ /- MEMC_DRIFT -/]

/-- The rows of Table 19-9 (R505). -/
def Reg.rows19_9 : List RegRow := [
  ⟨0x600000000, 0x0, 1, 0x0, 1, 0x100001, 0x0, 0x0, 0x0, 0x0, 0x0⟩ /- JIG_ID -/,
  ⟨0x600000004, 0x0, 1, 0x0, 1, 0x0, 0x0, 0x0, 0x0, 0x0, 0x3⟩ /- JIG_CTRL -/,
  ⟨0x600000008, 0x0, 1, 0x0, 1, 0x100, 0xfff, 0x0, 0x0, 0x0, 0x0⟩ /- JIG_CFG -/,
  ⟨0x60000000c, 0x0, 1, 0x0, 1, 0x0, 0x0, 0x0, 0x0, 0x0, 0x0⟩ /- JIG_STAT -/,
  ⟨0x600000010, 0x0, 1, 0x0, 1, 0x0, 0x0, 0x0, 0x0, 0x0, 0x0⟩ /- JIG_LOAD_STAT -/,
  ⟨0x600000014, 0x0, 1, 0x0, 1, 0x0, 0x0, 0x0, 0xf, 0x0, 0x0⟩ /- JIG_ERR -/,
  ⟨0x600000018, 0x0, 1, 0x0, 1, 0x0, 0xffffffff, 0x0, 0x0, 0x0, 0x0⟩ /- JIG_RECFG_ADDR_LO -/,
  ⟨0x60000001c, 0x0, 1, 0x0, 1, 0x0, 0xf, 0x0, 0x0, 0x0, 0x0⟩ /- JIG_RECFG_ADDR_HI -/,
  ⟨0x600000020, 0x0, 1, 0x0, 1, 0x0, 0x0, 0x0, 0x0, 0x0, 0x0⟩ /- JIG_USER_ID -/,
  ⟨0x600000024, 0x0, 1, 0x0, 1, 0x0, 0x0, 0xffffffff, 0x0, 0x0, 0x0⟩ /- JIG_RT_TMO_CNT -/,
  ⟨0x600000028, 0x0, 1, 0x0, 1, 0x0, 0x0, 0x0, 0x0, 0x0, 0x0⟩ /- JIG_RM_STAT -/,
  ⟨0x600000100, 0x4, 16, 0x0, 1, 0x0, 0x0, 0x0, 0x0, 0x0, 0x0⟩ /- JIG_TAPj -/,
  ⟨0x600000200, 0x4, 32, 0x0, 1, 0x0, 0x0, 0x0, 0x0, 0x0, 0x0⟩ /- JIG_XBARk -/]

/-- The rows of Table 20-3 (R530). -/
def Reg.rows20_3 : List RegRow := [
  ⟨0x600000040, 0x4, 4, 0x0, 1, 0x0, 0x13ff, 0x0, 0x0, 0x0, 0x0⟩ /- JIG_CLKr -/,
  ⟨0x600000050, 0x0, 1, 0x0, 1, 0x0, 0x0, 0x0, 0xff00, 0x0, 0x0⟩ /- JIG_CLK_STAT -/,
  ⟨0x600000054, 0x0, 1, 0x0, 1, 0x0, 0x0, 0x0, 0x3, 0x0, 0x0⟩ /- JIG_PIN_ERR -/,
  ⟨0x600000300, 0x4, 40, 0x0, 1, 0x22, 0x7f, 0x0, 0x0, 0x0, 0x0⟩ /- JIG_PINj -/]

/-- The rows of Table 21-5 (R553). -/
def Reg.rows21_5 : List RegRow := [
  ⟨0x50000, 0x6ffff0000, 2, 0x0, 1, 0x30021, 0xff07ff, 0x0, 0x0, 0x0, 0x0⟩ /- UAn_CFG -/,
  ⟨0x50004, 0x6ffff0000, 2, 0x0, 1, 0x0, 0xfffff, 0x0, 0x0, 0x0, 0x0⟩ /- UAn_BAUD -/,
  ⟨0x50008, 0x6ffff0000, 2, 0x0, 1, 0x0, 0xffff, 0x0, 0x0, 0x0, 0x0⟩ /- UAn_DE -/,
  ⟨0x5000c, 0x6ffff0000, 2, 0x0, 1, 0x0, 0x0, 0x0, 0x1f000000, 0x0, 0x0⟩ /- UAn_STAT -/,
  ⟨0x50010, 0x6ffff0000, 2, 0x0, 1, 0x0, 0x0, 0x0, 0x0, 0x0, 0x0⟩ /- UAn_RXD -/,
  ⟨0x50014, 0x6ffff0000, 2, 0x0, 1, 0x0, 0x0, 0x0, 0x0, 0x0, 0x81ff⟩ /- UAn_TXD -/,
  ⟨0x50018, 0x6ffff0000, 2, 0x0, 1, 0x10, 0x0, 0x0, 0x0, 0x0, 0x0⟩ /- UAn_DESC_BAL -/,
  ⟨0x5001c, 0x6ffff0000, 2, 0x0, 1, 0x0, 0x0, 0xffffffff, 0x0, 0x0, 0x0⟩ /- UAn_OVR_CNT -/,
  ⟨0x50020, 0x6ffff0000, 2, 0x0, 1, 0x0, 0x0, 0xffffffff, 0x0, 0x0, 0x0⟩ /- UAn_FALSE_START -/,
  ⟨0x50024, 0x6ffff0000, 2, 0x0, 1, 0x0, 0x0, 0xffffffff, 0x0, 0x0, 0x0⟩ /- UAn_TX_CUT -/,
  ⟨0x50028, 0x6ffff0000, 2, 0x0, 1, 0x1, 0xfffff, 0x0, 0x0, 0x0, 0x0⟩ /- UA0_BAUD_AON -/]

/-- The rows of Table 21-6 (R554). -/
def Reg.rows21_6 : List RegRow := [
  ⟨0x50100, 0x6ffff0000, 2, 0x10, 16, 0x0, 0xffffffff, 0x0, 0x0, 0x0, 0x0⟩ /- UAn_Dd_ADDR_LO -/,
  ⟨0x50104, 0x6ffff0000, 2, 0x10, 16, 0x0, 0xf, 0x0, 0x0, 0x0, 0x0⟩ /- UAn_Dd_ADDR_HI -/,
  ⟨0x50108, 0x6ffff0000, 2, 0x10, 16, 0x0, 0x11fff, 0x0, 0x0, 0x0, 0x3000000⟩ /- UAn_Dd_CTRL -/,
  ⟨0x5010c, 0x6ffff0000, 2, 0x10, 16, 0x0, 0x0, 0x0, 0x0, 0x0, 0x0⟩ /- UAn_Dd_STAT -/]

/-- The rows of Table 22-11 (R578). -/
def Reg.rows22_11 : List RegRow := [
  ⟨0x10100, 0x0, 1, 0x0, 1, 0x0, 0x0, 0x0, 0x0, 0x0, 0x0⟩ /- PWR_BOOT_STAT -/,
  ⟨0x10104, 0x0, 1, 0x0, 1, 0x0, 0x0, 0x0, 0x0, 0x0, 0x0⟩ /- PWR_BOOT_RES -/,
  ⟨0x10108, 0x0, 1, 0x0, 1, 0x0, 0x0, 0x0, 0x0, 0x0, 0x0⟩ /- PWR_BOOT_SEQA -/,
  ⟨0x1010c, 0x0, 1, 0x0, 1, 0x0, 0x0, 0x0, 0x0, 0x0, 0x0⟩ /- PWR_BOOT_SEQB -/,
  ⟨0x10110, 0x0, 1, 0x0, 1, 0x0, 0x0, 0x0, 0x0, 0x0, 0x0⟩ /- PWR_BOOT_INIT -/,
  ⟨0x10200, 0x0, 1, 0x0, 1, 0x0, 0xffffffff, 0x0, 0x0, 0x0, 0x0⟩ /- PWR_FL_ADDR -/,
  ⟨0x10204, 0x0, 1, 0x0, 1, 0x0, 0x0, 0x0, 0x0, 0x0, 0xff03⟩ /- PWR_FL_CMD -/,
  ⟨0x10208, 0x0, 1, 0x0, 1, 0x0, 0x0, 0x0, 0x100, 0x0, 0x0⟩ /- PWR_FL_STAT -/,
  ⟨0x10400, 0x4, 64, 0x0, 1, 0x0, 0xffffffff, 0x0, 0x0, 0x0, 0x0⟩ /- PWR_FL_BUF -/]

/-- The rows of Table 24-11 (R635). -/
def Reg.rows24_11 : List RegRow := [
  ⟨0x10020, 0x0, 1, 0x0, 1, 0x0, 0x7, 0x0, 0x0, 0x0, 0x80⟩ /- PWR_LADDER_REQ -/,
  ⟨0x10024, 0x0, 1, 0x0, 1, 0x0, 0x0, 0x0, 0x0, 0x0, 0x0⟩ /- PWR_LADDER_RESULT -/,
  ⟨0x10028, 0x0, 1, 0x0, 1, 0x0, 0x0, 0x0, 0x0, 0x0, 0x0⟩ /- PWR_LADDER_STAT -/,
  ⟨0x10030, 0x0, 1, 0x0, 1, 0x0, 0xffffffff, 0x0, 0x0, 0x0, 0x0⟩ /- PWR_DOM_OFF_A -/,
  ⟨0x10034, 0x0, 1, 0x0, 1, 0x0, 0xffffffff, 0x0, 0x0, 0x0, 0x0⟩ /- PWR_DOM_OFF_B -/,
  ⟨0x10038, 0x0, 1, 0x0, 1, 0x0, 0xffffffff, 0x0, 0x0, 0x0, 0x0⟩ /- PWR_DOM_OFF_C -/,
  ⟨0x1003c, 0x0, 1, 0x0, 1, 0x0, 0xfff, 0x0, 0x0, 0x0, 0x0⟩ /- PWR_KEEP -/,
  ⟨0x10040, 0x0, 1, 0x0, 1, 0x0, 0x0, 0x0, 0x0, 0x0, 0x0⟩ /- PWR_DOM_ON_A -/,
  ⟨0x10044, 0x0, 1, 0x0, 1, 0x0, 0x0, 0x0, 0x0, 0x0, 0x0⟩ /- PWR_DOM_ON_B -/,
  ⟨0x10048, 0x0, 1, 0x0, 1, 0x0, 0x0, 0x0, 0x0, 0x0, 0x0⟩ /- PWR_DOM_ON_C -/,
  ⟨0x1004c, 0x0, 1, 0x0, 1, 0x0, 0x0, 0x0, 0xffffffff, 0x0, 0x0⟩ /- PWR_PD_HIT_A -/,
  ⟨0x10050, 0x0, 1, 0x0, 1, 0x0, 0x0, 0x0, 0xffffffff, 0x0, 0x0⟩ /- PWR_PD_HIT_B -/,
  ⟨0x10054, 0x0, 1, 0x0, 1, 0x0, 0x0, 0x0, 0xffffffff, 0x0, 0x0⟩ /- PWR_PD_HIT_C -/,
  ⟨0x10058, 0x0, 1, 0x0, 1, 0x9, 0xe, 0x0, 0x0, 0x0, 0x0⟩ /- PWR_WAKE_EN -/,
  ⟨0x1005c, 0x0, 1, 0x0, 1, 0x0, 0x0, 0x0, 0xf, 0x0, 0x0⟩ /- PWR_WAKE_SRC -/,
  ⟨0x10060, 0x0, 1, 0x0, 1, 0x0, 0xffffff, 0x0, 0x0, 0x0, 0x0⟩ /- PWR_WAKE_TIMER -/,
  ⟨0x10064, 0x0, 1, 0x0, 1, 0x64, 0xffff, 0x0, 0x0, 0x0, 0x0⟩ /- PWR_QTMO -/,
  ⟨0x10068, 0x0, 1, 0x0, 1, 0x0, 0xffe00000, 0x0, 0x0, 0x0, 0x0⟩ /- PWR_RESUME_BASE -/,
  ⟨0x1006c, 0x0, 1, 0x0, 1, 0x0, 0x0, 0x0, 0x0, 0x0, 0x0⟩ /- PWR_ENTRY_NS -/,
  ⟨0x10070, 0x0, 1, 0x0, 1, 0x0, 0x0, 0x0, 0x0, 0x0, 0x0⟩ /- PWR_EXIT_NS -/,
  ⟨0x10074, 0x0, 1, 0x0, 1, 0x0, 0xff, 0x0, 0x0, 0x0, 0x0⟩ /- PWR_S5_DLY -/,
  ⟨0x10078, 0x0, 1, 0x0, 1, 0x0, 0x0, 0x0, 0x7, 0x0, 0x0⟩ /- PWR_ERR -/]

/-- The rows of Table 25-5 (R647). -/
def Reg.rows25_5 : List RegRow := [
  ⟨0x0, 0x0, 1, 0x0, 1, 0xa02, 0xff03, 0x0, 0x0, 0x0, 0x0⟩ /- CLK_CFG -/,
  ⟨0x4, 0x0, 1, 0x0, 1, 0x0, 0x0, 0x0, 0x700, 0x0, 0x0⟩ /- CLK_STAT -/,
  ⟨0x8, 0x0, 1, 0x0, 1, 0x0, 0x0, 0x0, 0x0, 0x0, 0x0⟩ /- CLK_PPM -/,
  ⟨0xc, 0x0, 1, 0x0, 1, 0x0, 0x0, 0xffffffff, 0x0, 0x0, 0x0⟩ /- CLK_LOSS_CNT -/,
  ⟨0x10, 0x0, 1, 0x0, 1, 0x0, 0x0, 0x0, 0x0, 0x0, 0x0⟩ /- CLK_LOCK_NS -/,
  ⟨0x14, 0x0, 1, 0x0, 1, 0x0, 0x0, 0x0, 0x1, 0x0, 0x0⟩ /- CLK_ERR -/,
  ⟨0x20, 0x0, 1, 0x0, 1, 0x1, 0x0, 0x0, 0x100, 0x0, 0x0⟩ /- CLK_AON_STAT -/,
  ⟨0x24, 0x0, 1, 0x0, 1, 0x0, 0x0, 0x0, 0x0, 0x0, 0x0⟩ /- CLK_AON_MS_LO -/,
  ⟨0x28, 0x0, 1, 0x0, 1, 0x0, 0x0, 0x0, 0x0, 0xffff, 0x0⟩ /- CLK_AON_MS_HI -/]

/-- The rows of Table 26-6 (R661). -/
def Reg.rows26_6 : List RegRow := [
  ⟨0x30000, 0x0, 1, 0x0, 1, 0x140a, 0x1f0f, 0x0, 0x0, 0x0, 0x0⟩ /- WR_CFG -/,
  ⟨0x30004, 0x0, 1, 0x0, 1, 0x0, 0x0, 0x0, 0x700, 0x0, 0x0⟩ /- WR_STAT -/,
  ⟨0x30008, 0x0, 1, 0x0, 1, 0x0, 0x0, 0x0, 0x0, 0x0, 0x0⟩ /- WR_HOURS -/,
  ⟨0x3000c, 0x0, 1, 0x0, 1, 0xffffffff, 0x0, 0x0, 0x0, 0x0, 0x0⟩ /- WR_EOL_HOURS -/,
  ⟨0x30010, 0x0, 1, 0x0, 1, 0x0, 0x0, 0x0, 0x0, 0x0, 0x0⟩ /- WR_EOL_INFO -/,
  ⟨0x30014, 0x0, 1, 0x0, 1, 0x0, 0x0, 0xffffffff, 0x0, 0x0, 0x0⟩ /- WR_THROTTLE_CYC -/,
  ⟨0x30018, 0x0, 1, 0x0, 1, 0x0, 0x0, 0x0, 0x0, 0x0, 0x0⟩ /- WR_LAMP_EOL -/,
  ⟨0x30020, 0x4, 8, 0x0, 1, 0x0, 0x0, 0x0, 0x0, 0x0, 0x0⟩ /- WR_TSs -/,
  ⟨0x30100, 0x4, 96, 0x0, 1, 0x0, 0x0, 0x0, 0x0, 0x0, 0x0⟩ /- WR_CMi -/,
  ⟨0x30300, 0x4, 8, 0x0, 1, 0x0, 0xffffff, 0x0, 0x0, 0x0, 0x0⟩ /- WR_LAMPn_RATED -/]

/-- The rows of Table 27-11 (R680). -/
def Reg.rows27_11 : List RegRow := [
  ⟨0x40000, 0x0, 1, 0x0, 1, 0x0, 0x0, 0x0, 0x0, 0x0, 0x0⟩ /- OTP_STAT -/,
  ⟨0x40004, 0x0, 1, 0x0, 1, 0x0, 0x0, 0x0, 0x0, 0x0, 0x0⟩ /- OTP_REMAIN -/,
  ⟨0x40008, 0x0, 1, 0x0, 1, 0x0, 0x0, 0x0, 0x0, 0x0, 0x0⟩ /- OTP_HEAD -/,
  ⟨0x4000c, 0x0, 1, 0x0, 1, 0x0, 0x0, 0x0, 0x0, 0x0, 0x0⟩ /- OTP_BOOT_POLICY -/,
  ⟨0x40010, 0x0, 1, 0x0, 1, 0x0, 0x0, 0x0, 0x0, 0x0, 0x0⟩ /- OTP_LOG_POLICY -/,
  ⟨0x40014, 0x0, 1, 0x0, 1, 0x0, 0x0, 0x0, 0x0, 0x0, 0x0⟩ /- OTP_DEBUG_LOCK -/,
  ⟨0x40018, 0x0, 1, 0x0, 1, 0x0, 0x0, 0x0, 0x0, 0x0, 0x0⟩ /- OTP_KEY_STAT -/,
  ⟨0x4001c, 0x0, 1, 0x0, 1, 0x0, 0x0, 0x0, 0x0, 0x0, 0x0⟩ /- OTP_KEY_REVOKE -/,
  ⟨0x40020, 0x20, 4, 0x4, 8, 0x0, 0x0, 0x0, 0x0, 0x0, 0x0⟩ /- OTP_KEY_HASH -/,
  ⟨0x400a0, 0x4, 2, 0x0, 1, 0x0, 0x0, 0x0, 0x0, 0x0, 0x0⟩ /- OTP_SERIAL -/,
  ⟨0x400b0, 0x0, 1, 0x0, 1, 0x0, 0x0, 0x0, 0x0, 0x0, 0x0⟩ /- OTP_RESULT -/,
  ⟨0x400b4, 0x0, 1, 0x0, 1, 0x0, 0x0, 0x0, 0x0, 0x0, 0x1⟩ /- OTP_FACT_CMD -/]

/-- The row of R711. -/
def Reg.rows29 : List RegRow := [
  ⟨0x10900, 0x0, 1, 0x0, 1, 0x0, 0x0, 0x0, 0x7ff, 0x0, 0x0⟩ /- PWR_BAL_FAULT -/]

/-- The rows of Table 28-10 (R698). -/
def Reg.rows28_10 : List RegRow := [
  ⟨0x10800, 0x0, 1, 0x0, 1, 0x0, 0xf7f, 0x0, 0x0, 0x0, 0x80000000⟩ /- PWR_SCR_CMD -/,
  ⟨0x10804, 0x0, 1, 0x0, 1, 0x0, 0xffffffff, 0x0, 0x0, 0x0, 0x0⟩ /- PWR_SCR_ADDR_LO -/,
  ⟨0x10808, 0x0, 1, 0x0, 1, 0x0, 0xf, 0x0, 0x0, 0x0, 0x0⟩ /- PWR_SCR_ADDR_HI -/,
  ⟨0x1080c, 0x0, 1, 0x0, 1, 0x0, 0xffff, 0x0, 0x0, 0x0, 0x0⟩ /- PWR_SCR_ARG -/,
  ⟨0x10810, 0x0, 1, 0x0, 1, 0x0, 0x0, 0x0, 0x0, 0x0, 0x0⟩ /- PWR_SCR_STAT -/,
  ⟨0x10814, 0x0, 1, 0x0, 1, 0x0, 0x0, 0x0, 0x0, 0x0, 0x0⟩ /- PWR_SCR_DATA -/,
  ⟨0x10818, 0x0, 1, 0x0, 1, 0x0, 0x0, 0x0, 0x0, 0x0, 0x0⟩ /- PWR_SCR_COUNT -/]

/-- The rows of Table 30-9 (R725). -/
def Reg.rows30_9 : List RegRow := [
  ⟨0x10a00, 0x0, 1, 0x0, 1, 0x315, 0x317, 0x0, 0x0, 0x0, 0x0⟩ /- PWR_PAD_CFG -/]

/-- The rows of Table 31-12 (R751). -/
def Reg.rows31_12 : List RegRow := [
  ⟨0x10a04, 0x0, 1, 0x0, 1, 0x0, 0x0, 0x0, 0x10000, 0x0, 0x0⟩ /- PWR_AON_STAT -/]

/-- The rows of the block an address lies in (Table 1-6); an address outside every block has none. -/
def Reg.blockRows (a : Nat) : List RegRow :=
  if a < 0x10000 then Reg.rows25_5
  else
  if a < 0x20000 then Reg.rows22_11 ++ Reg.rows24_11 ++ Reg.rows28_10 ++ Reg.rows29 ++ Reg.rows30_9 ++ Reg.rows31_12
  else
  if a < 0x30000 then []
  else
  if a < 0x40000 then Reg.rows26_6
  else
  if a < 0x50000 then Reg.rows27_11
  else
  if a < 0x60000 then Reg.rows21_5 ++ Reg.rows21_6
  else
  if a < 0x70000 then Reg.rows18_8
  else
  if a < 0x2000000 then Reg.rows1_7 ++ Reg.rows17_7
  else
  if a < 0x110010000 then Reg.rows12_8 ++ Reg.rows12_g ++ Reg.rows13_9 ++ Reg.rows13_10
  else
  if a < 0x110020000 then Reg.rows8_10 ++ Reg.rows9_12 ++ Reg.rows10_9
  else
  if a < 0x300000000 then Reg.rows11_6
  else
  if a < 0x500000000 then Reg.rows7_9
  else
  if a < 0x500010000 then Reg.rows14_7
  else
  if a < 0x600000000 then Reg.rows15_9
  else
  if a < 0x700000000 then Reg.rows19_9 ++ Reg.rows20_3
  else
  if a < 0x700010000 then Reg.rows4_4 ++ Reg.rows4_5 ++ Reg.rows4_6
  else
  if a < 0x700020000 then Reg.rows6_4 ++ Reg.rows6_5
  else
  if a < 0x700030000 then Reg.rows5_5
  else
  if a < 0x700040000 then Reg.rows16_5
  else
  if a < 0x800000000 then Reg.rows21_5 ++ Reg.rows21_6
  else
  Reg.rows8_11

end Sys2Proof.Machine
end

