-- ==== Sys2Proof/Machine/State.lean ====
section
/-! DEFINITION. The state of the K16 as plain data: the ring registers as one register file in canonical form, the
control-port registers as named fields, and for every block the queues, buffers, counters and engines that its chapter
gives it. Every field's default is its value at reset; State.reset is the device right after VAON has risen. -/

namespace Sys2Proof.Machine

/-! ### Always-on logic: modes, ladder, log -/

/-- The major modes of Table 2-1 (R30). -/
inductive Mode where
  | unpowered | supervise | boot | fallback | setup | freeRun | track | lockstep
  deriving DecidableEq, Repr, Inhabited

/-- A ladder state, S0 to S5 (R42, R620). -/
inductive Ladder where
  | s0 | s1 | s2 | s3 | s4 | s5
  deriving DecidableEq, Repr, Inhabited

/-- State of a switched domain (R616). -/
inductive DomState where
  | on | hold | ret | off
  deriving DecidableEq, Repr, Inhabited

/-- Who submits a mode, ladder or scribe request (R45, R627, R684), or that the transition is a caused one (R50). -/
inductive Requester where
  | host | joist | console | bus | seqIn | caused
  deriving DecidableEq, Repr, Inhabited

/-- A transition in progress (R48): its target, the role asked for, NOW, and who asked. -/
structure Transit where
  target : Mode
  role : Bool := false
  now : Bool := false
  by_ : Requester
  /-- A second requester of the same transition (R51). -/
  also : Option Requester := none
  /-- The frame whose end a request for SETUP waits for (R39). -/
  frame : Option Word := none
  deriving DecidableEq, Repr, Inhabited

/-- A result register of Table 2-5: RESULT and DETAIL. -/
structure ReqResult where
  result : BitVec 4 := 0
  detail : BitVec 4 := 0
  deriving DecidableEq, Repr, Inhabited

/-- A ladder entry or exit in progress (R627, R628). -/
inductive LadderPhase where
  | stable
  | waiting (target : Ladder) (by_ : Requester)
  | entering (target : Ladder) (by_ : Requester)
  | exiting (origin : Ladder) (by_ : Requester)
  deriving DecidableEq, Repr, Inhabited

/-- A log record waiting to be written or held in a slot (R603 to R606): its type, AON time and payload. -/
structure LogRec where
  typ : Byte := 0
  ms : Pos := 0
  sev : BitVec 2 := 0
  payload : List Byte := []
  deriving DecidableEq, Repr, Inhabited

/-- The event log (R602 to R609): the queue in AON, the non-volatile slots, and the read-out registers. -/
structure LogSt where
  queue : List LogRec := []
  lost : Half := 0
  /-- A record has been lost since the last one written (R605). -/
  lostPend : Bool := false
  /-- The 32 KiB log store; an unlisted byte is erased and reads 0xFF. -/
  store : List (Nat × Byte) := []
  newest : Word := 0
  boots : Half := 0
  vaonRises : Half := 0
  thr : BitVec 2 := 0b11
  ack : Word := 0
  /-- LOG_REC, LOG_RSEQ and LOG_RSTAT.RESULT (R608). -/
  lrec : List Byte := []
  rseq : Word := 0
  rstat : BitVec 2 := 0
  deriving DecidableEq, Repr, Inhabited

/-! ### Joist tasks and pegs (Chapters 12 and 13) -/

/-- Task states (R328). -/
inductive TaskSt where
  | off | ready | run | wait
  deriving DecidableEq, Repr, Inhabited

/-- Peg states (R343). -/
inductive PegSt where
  | free | held | broken
  deriving DecidableEq, Repr, Inhabited

/-- Peg owners (R343), with the OWNER codes of R352. -/
inductive PegOwner where
  | task (n : Fin 8) | host | jig | supv
  deriving DecidableEq, Repr, Inhabited

/-- One peg (R343). -/
structure Peg where
  st : PegSt := .free
  owner : Option PegOwner := none
  epoch : Half := 0
  deriving DecidableEq, Repr, Inhabited

/-! ### Encoders, triggers and marks (Chapter 4) -/

/-- One encoder (R91 to R97): accepted and synchronised levels, position, Z latch, and the speed measurement. -/
structure Encoder where
  accA : Bool := false
  accB : Bool := false
  accZ : Bool := false
  synA : Bool := false
  synB : Bool := false
  pos : Pos := 0
  /-- A Z edge has been latched since reset or the last preset (R95). -/
  zSeen : Bool := false
  zLatch : Pos := 0
  /-- The position before the last count, and that count's LCLK edge (R24). -/
  prevPos : Pos := 0
  countT : Nat := 0
  /-- Signed counts since the last AON millisecond (R96). -/
  msCount : Int := 0
  /-- Speed of the previous millisecond; none in the first millisecond of counting (R96). -/
  prevSpeed : Option Int := none
  stillRun : Nat := 0
  /-- ENCn_GLITCH advanced since the previous trigger (Table 7-3 bit 5). -/
  glitchSince : Bool := false
  /-- IMPLAUS set since the previous trigger (Table 7-3 bit 6). -/
  implausSince : Bool := false
  deriving DecidableEq, Repr, Inhabited

/-- One entry of a mark queue (R108). -/
structure MarkEntry where
  target : Pos := 0
  width : Half := 0
  deriving DecidableEq, Repr, Inhabited

/-- One MARK output (R108 to R113). -/
structure Mark where
  queue : List MarkEntry := []
  /-- The head entry had passed its target when it reached the head (R109). -/
  headPassed : Bool := false
  out : Bool := false
  endT : Nat := 0
  /-- MARKm_CFG.POL as read on the edge on which the last pulse started (R112). -/
  pol : Bool := false
  deriving DecidableEq, Repr, Inhabited

/-- One scheduled EXPO interval (R107): its line, start and end LCLK edge. -/
structure Expo where
  line : Word := 0
  start : Nat := 0
  stop : Nat := 0
  deriving DecidableEq, Repr, Inhabited

/-! ### Presence receiver (Chapter 5) -/

/-- PRS_STAT.STATE (R126, R127). -/
inductive PrsState where
  | unknown | absent | present
  deriving DecidableEq, Repr, Inhabited

/-- An edge waiting in the edge queue (R132). -/
structure PrsEdge where
  toPresent : Bool := false
  forced : Bool := false
  pos : Pos := 0
  deriving DecidableEq, Repr, Inhabited

/-- A run of valid codes of one raw state (R126): the state, its length, and the position at its first code end. -/
structure PrsRun where
  present : Bool := false
  len : Nat := 0
  pos : Pos := 0
  deriving DecidableEq, Repr, Inhabited

/-- The presence receiver (R122 to R142). -/
structure Presence where
  running : Bool := false
  st : PrsState := .unknown
  run : PrsRun := {}
  /-- PRS_CFG, PRS_LAG and PRS_THR as taken at the last code-period start (R137). -/
  cfg : Word := 0x3C2490#32
  lag : Word := 0
  thr : Word := 0x717#32
  /-- LCLK edge on which the code period in progress started (R122). -/
  perT : Nat := 0
  /-- PRS_CFG, PRS_LAG and PRS_THR as a later period took them, while the code end of this one is still to come (R137). -/
  next : Option (Word × Word × Word) := none
  /-- Consecutive invalid codes, not stopped at 15 (R130). -/
  invRun : Nat := 0
  /-- The code period in progress is the first under a new SEED or LAG and is discarded (R137). -/
  discard : Bool := false
  /-- Last PRX_AMB sample of the previous period (Table 5-1). -/
  ambLast : Option (BitVec 10) := none
  /-- Minimum and maximum PRX_AMB of up to 41 periods, newest first (Table 5-1). -/
  mains : List (BitVec 10 × BitVec 10) := []
  queue : List PrsEdge := []
  /-- The next PRESENT edge is discarded (R140). -/
  dropPresent : Bool := false
  /-- GATE_EN was taken at entry to capture (R135). -/
  gateOn : Bool := false
  /-- The output was PRESENT at entry: the first trigger opens a frame (R135). -/
  gateFirst : Bool := false
  /-- Inside a gated frame run (R133). -/
  gateOpen : Bool := false
  deriving DecidableEq, Repr, Inhabited

/-! ### Strobe channels (Chapter 6) -/

/-- The kinds of strobe pulse (R144, R145, R153). -/
inductive PulseKind where
  | normal | test | proof
  deriving DecidableEq, Repr, Inhabited

/-- A pulse whose gate is on. -/
structure Pulse where
  kind : PulseKind := .normal
  line : Word := 0
  start : Nat := 0
  /-- Gate time in LCLK, and SETTLE as it stood at the start. -/
  len : Nat := 0
  settle : Nat := 0
  /-- Edge up to which the gate's time has been added to the on-time (R158). -/
  cnt : Nat := 0
  judged : Bool := false
  verified : Bool := false
  deriving DecidableEq, Repr, Inhabited

/-- One strobe channel (R144 to R163). -/
structure Strobe where
  /-- ISET, OFS and W as last committed (R146). -/
  iset : BitVec 10 := 0
  ofs : Nat := 0
  w : Nat := 400
  /-- Output of the ISET DAC (R146, R153). -/
  dac : BitVec 10 := 0
  /-- Normal pulses due: line number and start edge. -/
  due : List (Word × Nat) := []
  gate : Option Pulse := none
  /-- Edge at which a proof gate turns on (R153). -/
  proofAt : Option Nat := none
  openRun : Nat := 0
  shortRun : Nat := 0
  /-- Reference of the last pulse: the commanded DAC code times IFRAC (R147, R150). -/
  ref : Nat := 0
  /-- Edge of a gate-off whose stuck-on window has not been judged (R150). -/
  stuckDue : Option Nat := none
  /-- Live on-time in microseconds, and its remainder in LCLK (R158). -/
  ontime : Pos := 0
  rem : Nat := 0
  /-- A WARN has been written for the standing fault bits (R681). -/
  warned : Bool := false
  deriving DecidableEq, Repr, Inhabited

/-- The LINEIO block (Chapters 4 to 6) beyond its registers. -/
structure LineIo where
  /-- The encoders count (R96). -/
  counting : Bool := false
  enc : Vector Encoder 3 := Vector.replicate 3 {}
  /-- High-water mark and accumulator of the divider (R99). -/
  hwm : Pos := 0
  acc : Nat := 0
  /-- The N/M pair in force (R106). -/
  divN : Nat := 0
  divM : Nat := 0
  /-- A pair committed during capture that waits for the next trigger (R106). -/
  divPend : Option (Nat × Nat) := none
  /-- LCLK of the last trigger and of the one before it (R153). -/
  lastTrig : Option Nat := none
  prevTrig : Option Nat := none
  /-- LCLK of the last trigger that produced EXPO (R103). -/
  lastExpoTrig : Option Nat := none
  /-- LCLK of the last timer trigger, or of entry to FREE-RUN, and of the next timer trigger (R102). -/
  ltBase : Nat := 0
  ltNext : Option Nat := none
  expos : List Expo := []
  expoOn : Bool := false
  expoEnd : Nat := 0
  /-- Guarded windows that have not ended, by start (R152), and start and end of the last one that ended (R153). -/
  wins : List (Nat × Nat) := []
  winStart : Nat := 0
  winEnd : Nat := 0
  /-- The notice of the last announced window in LCLK (R153). -/
  notice : Nat := 0
  marks : Vector Mark 4 := Vector.replicate 4 {}
  prs : Presence := {}
  stb : Vector Strobe 8 := Vector.replicate 8 {}
  /-- ILK_N is low at the ball (R157). -/
  ilkLow : Bool := false
  deriving DecidableEq, Repr, Inhabited

/-! ### Ingest (Chapter 7) -/

/-- An issued trigger that waits for its line, or the trigger of a line being received (R167, R176). -/
structure Trig where
  num : Word := 0
  pos : Pos := 0
  time : Pos := 0
  /-- LCLK of the trigger, and ING_LTMO as read when it issued (R168). -/
  t : Nat := 0
  ltmo : Nat := 0
  frame : Word := 0
  prs : BitVec 2 := 0
  blinded : Bool := false
  glitch : Bool := false
  implaus : Bool := false
  extrap : Bool := false
  strbSkip : Bool := false
  supw : Bool := false
  deriving DecidableEq, Repr, Inhabited

/-- A line being received, or received and not yet FILLED (R169, R172). -/
structure Filling where
  trig : Trig := {}
  slot : Nat := 0
  /-- Bytes received so far, in line order. -/
  bytes : List Byte := []
  wide : Bool := false
  companded : Bool := false
  crcErr : Bool := false
  syncLost : Bool := false
  cut : Bool := false
  laneErr : Half := 0
  ended : Bool := false
  deriving DecidableEq, Repr, Inhabited

/-- A line header (Table 7-2, R176). -/
structure LineHeader where
  num : Word := 0
  pos : Pos := 0
  time : Pos := 0
  frame : Word := 0
  npix : BitVec 15 := 0
  depth16 : Bool := false
  qual : Half := 0
  laneErr : Half := 0
  cmpErr : BitVec 7 := 0
  first : Bool := false
  last : Bool := false
  rxLen : Word := 0
  deriving DecidableEq, Repr, Inhabited

/-- The four states of a line-store slot (R172). -/
inductive SlotSt where
  | free | filling | filled | loading
  deriving DecidableEq, Repr, Inhabited

/-- A frame whose record is not yet written (R182, R185, R187). -/
structure Frame where
  num : Word := 0
  first : Word := 0
  len : Nat := 4096
  /-- A follower's frame: its length is the master's, and ING_FRAME_LEN counts only in free-wheel (R415, R424). -/
  group : Bool := false
  /-- Line numbers of the frame issued so far, and those resolved. -/
  issued : Nat := 0
  resolved : Nat := 0
  /-- No further number joins the frame. -/
  closed : Bool := false
  delivered : Nat := 0
  flagged : Nat := 0
  missing : Nat := 0
  disturbed : Bool := false
  endedEarly : Bool := false
  gatedEnd : Bool := false
  starved : Bool := false
  extrap : Bool := false
  supwTime : Pos := 0
  supwCnt : Nat := 0
  /-- Position of the first delivered line (Table 15-3). -/
  firstPos : Option Pos := none
  /-- Slot of the last delivered line (R185). -/
  lastSlot : Option Nat := none
  deriving DecidableEq, Repr, Inhabited

/-- The ingest block (Chapter 7) beyond its registers. -/
structure Ingest where
  pend : List Trig := []
  filling : List Filling := []
  slots : Vector SlotSt 128 := Vector.replicate 128 .free
  hdr : Vector LineHeader 128 := Vector.replicate 128 {}
  /-- Line-store bytes, offset s × 16 KiB for slot s. -/
  store : List (Nat × Byte) := []
  lastSlot : Nat := 127
  /-- Frames not yet recorded, oldest first. -/
  frames : List Frame := []
  frameNum : Word := 0
  /-- The companding table in force: sixteen pairs (B, S) (R178). -/
  cmp : Option (List (Nat × Nat)) := none
  /-- Low bits of the last line number that LOADL delivered (R419). -/
  lastLoaded : Word := 0
  deriving DecidableEq, Repr, Inhabited

/-! ### Egress link (Chapter 15) -/

/-- Frame classes (Table 15-1). -/
inductive EgrClass where
  | record | image | stat
  deriving DecidableEq, Repr, Inhabited

/-- A frame body: header fields and padded payload (R380, R382). -/
structure EgrFrame where
  typ : BitVec 4 := 0
  padlen : BitVec 4 := 0
  coalesced : Bool := false
  frameNum : Half := 0
  firstLine : Word := 0
  span : Half := 0
  pos : Pos := 0
  payload : List Byte := []
  cls : EgrClass := .record
  deriving DecidableEq, Repr, Inhabited

/-- Buffer states (R385). -/
inductive BufSt where
  | free | queued | inflight
  deriving DecidableEq, Repr, Inhabited

/-- Which share of the pool a used buffer counts against (R384). -/
inductive BufShare where
  | resvRec | resvStat | shared
  deriving DecidableEq, Repr, Inhabited

/-- One frame buffer. -/
structure EgrBuf where
  st : BufSt := .free
  frame : EgrFrame := {}
  share : BufShare := .shared
  /-- Sequence number of the first sending, sendings so far, and whether a resend is scheduled (R387, R388). -/
  seq : Half := 0
  sends : Nat := 0
  resend : Bool := false
  /-- Order of enqueue, and order of first sending. -/
  order : Nat := 0
  /-- Egress.started when the frame was queued (R389). -/
  mark : Nat := 0
  deriving DecidableEq, Repr, Inhabited

/-- One word on the four transmit lanes (Table 15-1). -/
inductive EgrWord where
  | idle | align | eof
  | sof (seq : Half) (cls : Byte)
  | body (b0 b1 b2 b3 : Byte)
  deriving DecidableEq, Repr, Inhabited

/-- Records folded into one summary (R390). -/
structure Summary where
  count : Nat := 0
  first : Word := 0
  last : Word := 0
  orw : Word := 0
  frameNum : Half := 0
  pos : Pos := 0
  deriving DecidableEq, Repr, Inhabited

/-- Drops gathered into one DROP notice (R392). -/
structure Notice where
  count : Nat := 0
  first : Word := 0
  last : Word := 0
  cause : BitVec 3 := 0
  frameNum : Half := 0
  firstLine : Word := 0
  span : Half := 0
  pos : Pos := 0
  deriving DecidableEq, Repr, Inhabited

/-- The egress link (Chapter 15) beyond its registers. -/
structure Egress where
  bufs : Vector EgrBuf 64 := Vector.replicate 64 {}
  /-- The open summary in buffer 62, and the records that wait for it (R390). -/
  sumOpen : Option Summary := none
  sumAcc : Option Summary := none
  /-- The notice held in buffer 63, and the drops that wait for it (R392). -/
  notice : Option Notice := none
  dropAcc : Option Notice := none
  nextSeq : Half := 0
  limit : Half := 0
  orderCtr : Nat := 0
  /-- Frames of the other classes started so far (R389). -/
  started : Nat := 0
  /-- ALIGN words that the link sends first after EN was set (R393). -/
  preamble : Nat := 0
  /-- Words sent since the last ALIGN (R379). -/
  sinceAlign : Nat := 0
  /-- The words of the last frame sent, SOF to EOF (R375 to R377). -/
  lastSent : List EgrWord := []
  deriving DecidableEq, Repr, Inhabited

/-! ### Dynak (Chapter 16) -/

/-- A Dynak message (Table 16-1). -/
inductive DynMsg where
  | line (fopen flast noexpo : Bool) (tgt lnum : BitVec 24)
  | pos (linepos : Bool) (p : Pos)
  | gor (hop : BitVec 5) (lnum : BitVec 24)
  | time (t : Pos)
  | cfg (gwin : Half) (frameNum : Word)
  | probe (idx : Byte)
  | echo (idx : Byte) (turn : BitVec 24)
  | enum (hop : BitVec 5)
  | user (payload : Pos)
  deriving DecidableEq, Repr, Inhabited

/-- One Dynak port (R400, R405, R407). -/
structure DynPortSt where
  trained : Bool := false
  txq : List DynMsg := []
  /-- The last message sent (R405). -/
  sent : Option DynMsg := none
  /-- Sum of R − TURN and number of echoes of the calibration in progress (R407). -/
  calSum : Int := 0
  calEchoes : Nat := 0
  calProbes : Nat := 0
  calDone : Bool := false
  deriving DecidableEq, Repr, Inhabited

/-- The DYNAK block (Chapter 16) beyond its registers. -/
structure Dyn where
  up : DynPortSt := {}
  dn : DynPortSt := {}
  /-- SRC: false DYN_UP, true DYN_DN (R422). -/
  srcDn : Bool := false
  freewheel : Bool := false
  stopped : Bool := false
  hop : BitVec 5 := 0
  tooLong : Bool := false
  calBusy : Bool := false
  /-- Calibration has succeeded; CAL_DONE follows at the next SYNC TIME (R407). -/
  calOk : Bool := false
  calDone : Bool := false
  /-- Group time less the local LCLK count, and a change waiting for R408. -/
  gOffset : Int := 0
  gPending : Option Int := none
  fine : BitVec 6 := 0
  finePending : BitVec 6 := 0
  mpos : Pos := 0
  /-- Last master position received, for a line whose POS is lost (R412); on the master the last one sent (R414). -/
  lastPos : Pos := 0
  prevLinePos : Option Pos := none
  lastLinePos : Option Pos := none
  /-- Targets of the last two LINEs accepted (R424), in local LCLK. -/
  prevTarget : Option Nat := none
  lastTarget : Option Nat := none
  /-- Targets, in local LCLK, of the accepted LINEs that await them (R413). -/
  awaiting : List Nat := []
  /-- Number of the last LINE accepted (R422). -/
  lastNum : Option Word := none
  /-- Number of the last LINE, whose POS with LINEPOS may still arrive. -/
  posFor : Option Word := none
  /-- The source link is lost (R423). -/
  lost : Bool := false
  fwLines : Nat := 0
  frameNum : Word := 0
  gwin : Half := 25
  cmdRx : Pos := 0
  deriving DecidableEq, Repr, Inhabited

/-! ### Control port (Chapters 2, 3, 24, 27, 28) -/

/-- Access levels (R72, R431). -/
inductive Level where
  | field | service | factory
  deriving DecidableEq, Repr, Inhabited

/-- The window registers and the access in flight (R78 to R85, R89). -/
structure Window where
  addr : SysAddr := 0
  dir : Bool := false
  size : BitVec 2 := 0b10
  autoinc : Bool := false
  wait : Bool := false
  stream : Bool := false
  done : Bool := false
  busy : Bool := false
  code : BitVec 3 := 0
  align : Bool := false
  overrun : Bool := false
  data : Word := 0
  /-- Access in flight: direction, size, and whether the host has committed WIN_ADDR since GO (R81, R84). -/
  fDir : Bool := false
  fSize : BitVec 2 := 0
  fAuto : Bool := false
  addrHit : Bool := false
  deriving DecidableEq, Repr, Inhabited

/-- The host session (R71 to R74). -/
structure Session where
  active : Bool := false
  level : Level := .field
  expired : Bool := false
  epoch : BitVec 4 := 0
  tmo : Byte := 0x64
  deriving DecidableEq, Repr, Inhabited

/-- The page 0, page 2 and page 3 registers of the control port that no other block owns (R55, R88, R89, R634, R697).
Staging copies and snapshots are keyed by page × 128 + byte address; an unlisted byte of a staging copy holds the reset value
of its register (R67, R68). -/
structure ControlPort where
  page : BitVec 2 := 0
  mrTarget : BitVec 3 := 0b001
  mrRole : Bool := false
  mrNow : Bool := false
  modeResult : ReqResult := {}
  lrTarget : BitVec 3 := 0
  ladderResult : ReqResult := {}
  fbReason : Byte := 0
  irqStatus : BitVec 9 := 0
  irqEnable : BitVec 9 := 0x011
  crcEn : Bool := false
  aincOff : Bool := false
  cpErr : BitVec 4 := 0
  sess : Session := {}
  doorbell : Byte := 0
  /-- The doorbell code has been read and cleared since the last write, or none was written (R77). -/
  doorbellRead : Bool := true
  win : Window := {}
  staged : List (Nat × Byte) := []
  snaps : List (Nat × Byte) := []
  /-- Bytes that CP_SDO carried in the last transfer (R61). -/
  sdo : List Byte := []
  scrNode : BitVec 7 := 0
  scrOp : BitVec 4 := 0
  scrAddr : SysAddr := 0
  scrArg : Half := 0
  scrResult : BitVec 4 := 0
  scrData : Word := 0
  scrCount : Half := 0
  /-- BOOT_NEXT, BOOT_INFO, BOOT_LAST and the boot counter (R577). -/
  bootNext : BitVec 2 := 0
  bootInfo : BitVec 3 := 0
  bootLast : Byte := 0
  bootCnt : BitVec 3 := 0
  /-- SVC_STAT.RESULT, SVC_FAILS, the challenge held (empty: none) with its level, and the response bytes (R671 to R674). -/
  svcResult : BitVec 4 := 0
  svcFails : Byte := 0
  svcFailMs : Option Pos := none
  svcChal : List Byte := []
  svcLevel : Level := .field
  svcResp : List Byte := []
  /-- A verification in progress: level, challenge and response. -/
  svcRun : Option (Level × List Byte × List Byte) := none
  /-- Key slot that granted the session's level: 0xFE factory, 0xFF none (Table 27-4). -/
  svcKey : Byte := 0xFF
  /-- BAL_FAULT (R706). -/
  balFault : BitVec 11 := 0
  deriving DecidableEq, Repr, Inhabited

/-! ### Kerf coder and store buffers (Chapters 9 and 14) -/

/-- The stamp a store carries (R355). -/
structure Stamp where
  stamped : Bool := false
  frameNum : Word := 0
  first : Word := 0xFFFFFFFF
  pos : Pos := 0
  last : Word := 0xFFFFFFFF
  cmpErr : BitVec 7 := 0
  deriving DecidableEq, Repr, Inhabited

/-- The settings of a Kerf context as a store samples them (R371). -/
structure KrfCfg where
  near : Nat := 0
  record : Bool := false
  blklen : Nat := 2048
  abound : Nat := 0
  deriving DecidableEq, Repr, Inhabited

/-- A store buffer in use (R237, R354): the pixels in store order, n bits each. -/
structure StoreBuf where
  pixels : List Nat := []
  n : Nat := 8
  /-- STT: one tile in mesh order. -/
  tile : Bool := false
  start : Nat := 0
  ctx : Nat := 0
  stamp : Stamp := {}
  /-- The read into the buffer has completed (R366). -/
  ready : Bool := false
  cfg : Option KrfCfg := none
  /-- Order of the store, next block to start, and blocks coded so far. -/
  order : Nat := 0
  nextBlk : Nat := 0
  coded : Nat := 0
  deriving DecidableEq, Repr, Inhabited

/-- A block in a lane (R363, R366). -/
structure KrfBlock where
  order : Nat := 0
  idx : Nat := 0
  buf : Fin 2 := 0
  pixels : List Nat := []
  n : Nat := 8
  tile : Bool := false
  start : Nat := 0
  ctx : Nat := 0
  cfg : KrfCfg := {}
  stamp : Stamp := {}
  /-- The payload once the block has been coded (R368). -/
  payload : Option (List Byte) := none
  deriving DecidableEq, Repr, Inhabited


/-! ### Rails (Chapter 23) -/

/-- Rail states (Table 23-14). -/
inductive RailSt where
  | off | waitParent | delay | ramp | good | retryOff | failed | blocked | discharge
  deriving DecidableEq, Repr, Inhabited

/-- The writable part of a rail entry (Table 23-14). -/
structure RailEntry where
  en : Bool := false
  od : Bool := false
  pol : Bool := false
  react : BitVec 2 := 0
  onDly : Byte := 0
  offDly : Byte := 0
  pgTmo : Byte := 10
  parent : BitVec 24 := 0
  group : Byte := 0
  nom : BitVec 12 := 0
  uv : BitVec 12 := 0
  ov : BitVec 12 := 0
  warn : BitVec 12 := 0
  deglitch : Byte := 0
  deriving DecidableEq, Repr, Inhabited

/-- One rail (R579 to R596). -/
structure Rail where
  entry : RailEntry := {}
  /-- The entry as the last sequence that reached the rail took it: PARENT and NOM_MV act from it (R613). -/
  act : RailEntry := entry
  st : RailSt := .off
  mv : BitVec 12 := 0
  retries : Nat := 0
  cause : BitVec 3 := 0
  latched : Bool := false
  /-- The rail is in RAMP, or off, under RETRY; the off time is in ms (R591). -/
  retrying : Bool := false
  offMs : Nat := 0
  /-- The rail is in the down set of the down sequence in progress (R586). -/
  inDown : Bool := false
  /-- A warning is armed, and the AON time of the last WARN record (R596). -/
  armed : Bool := true
  warnMs : Option Pos := none
  deriving DecidableEq, Repr, Inhabited

/-- A default entry of Table 23-1 (R579). -/
def RailEntry.core (parent nom uv ov warn : Nat) : RailEntry :=
  { en := true, react := 3, onDly := 10, pgTmo := 10, parent := BitVec.ofNat 24 parent, nom := BitVec.ofNat 12 nom,
    uv := BitVec.ofNat 12 uv, ov := BitVec.ofNat 12 ov, warn := BitVec.ofNat 12 warn, deglitch := 20 }

/-- The default table (R579, Table 23-1): rails 0 to 5; rails 6 to 23 have EN clear. -/
def RailEntry.defaults : List RailEntry :=
  [.core 0x02 750 712 788 20, .core 0x10 800 760 840 20, .core 0x10 1100 1045 1155 30, .core 0x04 600 570 630 15,
   .core 0x20 1800 1710 1890 50, .core 0 3300 3135 3465 90]

/-- The default entry of a rail. -/
def RailEntry.default (r : Nat) : RailEntry := RailEntry.defaults.getD r {}

/-- The rails as the default table leaves them. -/
def Rail.resetAll : Vector Rail 24 := Vector.ofFn fun r => { entry := RailEntry.default r.val }

/-! ### The array, the Truss and Tally (Chapters 8 to 11) -/

/-- The four levels of a virtual plane (R265). -/
inductive PlaneLevel where
  | zero | bench | yard | far
  deriving DecidableEq, Repr, Inhabited

/-- The map entry of a virtual plane (R265, R275, R276, R287): its level, slot, pins, and the recency of its last use. -/
structure PlaneEnt where
  level : PlaneLevel := .zero
  slot : Nat := 0
  moving : Bool := false
  poison : Bool := false
  pinB : Bool := false
  pinY : Bool := false
  used : Nat := 0
  deriving DecidableEq, Repr, Inhabited

/-- A far move in flight (R272, R273, R281): its number, the yard slot it holds, the packets not answered, the first
response other than OK, and the packets read. -/
structure FarMove where
  id : Nat := 0
  plane : Nat := 0
  toFar : Bool := false
  slot : Nat := 0
  left : Nat := 16
  code : RespCode := .ok
  data : List (Nat × List Byte) := []
  deriving DecidableEq, Repr, Inhabited

/-- A Tally command between its write and its end (R279, R280). -/
structure TallyCmd where
  op : Nat := 0
  start : Nat := 0
  count : Nat := 1
  /-- The command has reached its boundary (R280). -/
  acted : Bool := false
  /-- Planes still to be processed, and the number processed. -/
  todo : List Nat := []
  done : Nat := 0
  result : Nat := 0
  deriving DecidableEq, Repr, Inhabited

/-- Tally (Chapter 11) beyond its registers. -/
structure Tally where
  /-- The plane map: unlisted planes are ZERO. -/
  map : List (Nat × PlaneEnt) := []
  /-- Contents of the planes at BENCH and YARD: unlisted planes are all zeros. -/
  data : List (Nat × Plane) := []
  /-- Far moves in flight, in issue order. -/
  moves : List FarMove := []
  /-- Number of the next far move. -/
  moveId : Nat := 0
  /-- Counter behind the recency of R275. -/
  clock : Nat := 1
  cmd : Option TallyCmd := none
  staged : Bool := false
  /-- PIN_B planes that gave way to the last macro-op's footprint and return before the next one starts (R277). -/
  overridden : List Nat := []
  /-- PIN_B planes that give way to the footprint now being paged in. -/
  ovrNext : List Nat := []
  /-- The current footprint: planes that no eviction chooses (R275). -/
  fp : List Nat := []
  /-- Yard slots for which the head's page-in and the command wait (R275). -/
  headWaits : Nat := 0
  cmdWaits : Nat := 0
  /-- The bench move of the head's page-in that was issued last: its plane, the level that it leaves and its slot there. It
  shows as MOVING until the next event of the Truss or Tally (R287, log 61). -/
  mv : Option (Nat × PlaneLevel × Nat) := none
  /-- Planes that were at BENCH and at YARD at a ladder entry, with their slots (R622, R623). -/
  savedBench : List (Nat × Nat) := []
  savedYard : List (Nat × Nat) := []
  deriving DecidableEq, Repr, Inhabited

/-- A macro-op word in the queue (R223, R227), with its pushing task and that task's run (R242). -/
structure MacroWord where
  w0 : Word := 0
  w1 : Word := 0
  w2 : Word := 0
  task : Fin 8 := 0
  gen : Nat := 0
  deriving DecidableEq, Repr, Inhabited

/-- What stands at the head of the queue: not looked at, paging in, or ready to start (R238, R271). -/
inductive HeadSt where
  | fresh | paging | ready
  deriving DecidableEq, Repr, Inhabited

/-- The burst of a LOADL at the head or in transfer (R181, R278). -/
structure Loadl where
  b : Nat := 1
  index : Bool := false
  /-- The frame whose lines it takes, once known. -/
  frame : Option Word := none
  /-- Header slots of the claimed lines, in order, with their width. -/
  claimed : List (Nat × Bool) := []
  /-- The burst is complete: its claimed lines and fill lines are settled (R181). -/
  complete : Bool := false
  deriving DecidableEq, Repr, Inhabited

/-- The executing macro-op and what its completion will show (R208, R211, R222, R232, R247, R260). -/
structure Exec where
  word : MacroWord := {}
  cyc : Nat := 0
  /-- w of a LOADL, sampled at its start (R234, R236). -/
  w : Nat := 8
  /-- The burst of a LOADL in transfer, its lines already written, and its recency (R184, R275, R278). -/
  burst : Option Loadl := none
  lines : Nat := 0
  used : Nat := 0
  ovf : Bool := false
  divz : Bool := false
  inv : Bool := false
  qnan : Bool := false
  /-- KIND and VALUE of TRS_SCAN. -/
  scan : Option (Bool × Nat) := none
  deliver : Option (Nat × Word) := none
  gor : Option (Bool × BitVec 64) := none
  drain : Bool := false
  deriving DecidableEq, Repr, Inhabited

/-- The Truss and the array (Chapters 8 to 10) beyond their registers. -/
structure Truss where
  queue : List MacroWord := []
  head : HeadSt := .fresh
  /-- The burst of the LOADL at the head. -/
  loadl : Option Loadl := none
  exec : Option Exec := none
  /-- The stamp of the earlier LOADL, for a store that starts on the edge of a LOADL's completion (R371). -/
  edgeStamp : Option Stamp := none
  a : Plane := 0
  ovf : Plane := 0
  divz : Plane := 0
  inv : Plane := 0
  gorOut : Bool := false
  tileGor : BitVec 64 := 0
  deriving DecidableEq, Repr, Inhabited

/-! ### Joist tasks (Chapters 12 and 13) -/

/-- Why a task that is in WAIT, or selected with Joist idle, does not issue (R332, R338). -/
inductive JWait where
  | none | event | yield | pending | rsync | truss | tag | internal
  deriving DecidableEq, Repr, Inhabited

/-- One task context beyond its registers in the SEQ_ block (R294, R328). -/
structure Task where
  g : Vector Word 32 := Vector.replicate 32 0
  pc : BitVec 18 := 0
  /-- Number of the task's run, and the first run whose deliveries still write: those of a run that was aborted, or of one
  before it, write nothing (R342). -/
  gen : Nat := 0
  live : Nat := 0
  /-- Registers with deliveries due, one entry for each (R232, R308). -/
  pend : List Nat := []
  /-- Iterations left of a repetition in progress (R313). -/
  rep : Option Nat := none
  wait : JWait := .none
  /-- The task was made READY out of a WAIT instruction that has still to return (R332, R337). -/
  woken : Bool := false
  /-- Internal steps that an instruction in progress has made (R303). -/
  steps : Nat := 0
  /-- While an instruction issues: PC and registers at the task's last preemption point (R326, R327). -/
  snap : Option (BitVec 18 × Vector Word 32) := none
  /-- An ABORT waits for the task's next preemption point (R341). -/
  abortDue : Bool := false
  /-- Ring accesses in flight of runs that RSYNC waits for, and of all runs (R311, R342). -/
  inflight : Nat := 0
  outst : Nat := 0
  /-- The task timer counts down (R334). -/
  timerOn : Bool := false
  deriving DecidableEq, Repr, Inhabited


/-! ### Rings and far memory (Chapters 17 and 18) -/

/-- Packet classes (Table 17-1). -/
inductive RingClass where
  | urgent | control | bulk
  deriving DecidableEq, Repr, Inhabited

/-- Request types (Table 17-2), with the AMO operation of Table 17-1. -/
inductive ReqKind where
  | read | write
  | amo (op : BitVec 3)
  deriving DecidableEq, Repr, Inhabited

/-- How a Joist access uses its response (R308, R310, R312). -/
inductive JoistUse where
  | store | byte | half | word | byteS | halfS | amo
  deriving DecidableEq, Repr, Inhabited

/-- Who issued a request and what its response is for. -/
inductive ReqClient where
  | window
  | task (n : Fin 8) (gen : Nat) (reg : Nat) (use : JoistUse)
  | tally (move packet : Nat)
  | jig (id : Nat)
  | uart (n : Fin 2) (d : Fin 16) (order : Nat)
  | supv
  deriving DecidableEq, Repr, Inhabited

/-- One request (R431, R432). -/
structure RingReq where
  src : Fin 16 := 0
  dst : Fin 16 := 0
  cls : RingClass := .control
  kind : ReqKind := .read
  off : Nat := 0
  len : Nat := 4
  data : List Byte := []
  cmp : Word := 0
  level : Level := .field
  /-- Issued non-blocking (R450). -/
  nb : Bool := false
  client : ReqClient := .window
  deriving DecidableEq, Repr, Inhabited

/-- One response (R434). -/
structure RingResp where
  code : RespCode := .ok
  data : List Byte := []
  deriving DecidableEq, Repr, Inhabited

/-- Where a request with a tag stands (R449, R452): on its way, performed with its response on the way, or lost. -/
inductive TagSt where
  | sent
  | answered (r : RingResp)
  | lost
  deriving DecidableEq, Repr, Inhabited

/-- One outstanding request of an NI. -/
structure TagEnt where
  tag : Byte := 0
  req : RingReq := {}
  st : TagSt := .sent
  /-- Its own NI has answered TIMEOUT, or the chain POISON (R452, R687). -/
  stale : Bool := false
  /-- Sent under the primary route, now on Sill, and sent under an earlier value of its route entry (R439, R441, R758). -/
  primary : Bool := true
  sill : Bool := false
  old : Bool := false
  deriving DecidableEq, Repr, Inhabited

/-- One network interface beyond its registers (R430, R442, R449). -/
structure Ni where
  /-- Requests in the client bridge, in order. -/
  bridge : List RingReq := []
  /-- Outstanding requests, oldest first. -/
  tags : List TagEnt := []
  /-- Answers that stand at the client bridge for their clients, oldest first. -/
  inbox : List (RingReq × RingResp) := []
  /-- Consecutive timeouts under the primary route, by route entry (R441). -/
  fo : List (Nat × Nat) := []
  bypass : Bool := false
  deriving DecidableEq, Repr, Inhabited

/-- Flits of one packet, which a stop and its tag name, that stand together in a queue: their number, the packet's length,
and its destination (R431, R448). -/
structure FlitRun where
  stop : Fin 16 := 0
  tag : Byte := 0
  dst : Fin 16 := 0
  n : Nat := 0
  tot : Nat := 0
  deriving DecidableEq, Repr, Inhabited

/-- One router input of a ring for a class and a kind, with the output that serves it (R446, R448). -/
structure RPort where
  /-- The input buffer, oldest first; the credits that the stop before it holds, and those on their way back to it. -/
  buf : List FlitRun := []
  avail : Nat := 6
  back : Nat := 0
  /-- The injection queue; the packet that the output is sending, with the flits it has still to send; and the starts that
  ring traffic took while the injector waited. -/
  inj : List FlitRun := []
  cur : Option FlitRun := none
  starts : Nat := 0
  deriving DecidableEq, Repr, Inhabited

/-- Far memory beyond the MEMC registers (Chapter 18). -/
structure Memc where
  /-- Bytes by physical location (R465); an unlisted byte reads 0, or a free value in a span whose contents are not known:
  first and last location, exclusive, and index of the first byte's free value, latest span first (R623, R688). -/
  store : List (Nat × Byte) := []
  lost : List (Nat × Nat × Nat) := []
  /-- Words (by the physical location of byte 0) with bits in error: 1 one bit, 2 two or more (R479, R480). -/
  errs : List (Nat × Nat) := []
  /-- Next block of the scrub (R480). -/
  scrub : Nat := 0
  /-- CONTROL requests performed in turn while a BULK one waited (R466). -/
  turn : Nat := 0
  deriving DecidableEq, Repr, Inhabited


/-! ### The Jig fabric (Chapters 19 and 20) -/

/-- JIG_STAT.STATE (Table 19-9). -/
inductive JigSt where
  | unconf | loading | init | run
  deriving DecidableEq, Repr, Inhabited

/-- One regional clock tree beyond JIG_CLKr (R506 to R512). -/
structure JigTree where
  /-- The tree delivers edges. -/
  run : Bool := false
  /-- The source switch in progress: the SRC and DIV written. -/
  sw : Option (Nat × Nat) := none
  /-- The output is held low for the switch; it was held before a falling edge; the new source has shown no edge. -/
  held : Bool := false
  waitNew : Bool := false
  /-- DIV in force, source periods since the output's last rising edge, and the source's level (R507, R508). -/
  div : Nat := 0
  cnt : Nat := 0
  src : Bool := false
  deriving DecidableEq, Repr, Inhabited

/-- Read data of a memory port: after its clock, and in its output register (R492). -/
structure JigPort where
  lat : Nat := 0
  out : Nat := 0
  deriving DecidableEq, Repr, Inhabited

/-- The last LCLK edge on which a port A was clocked: what it wrote, as first bit and width, and the memories before (R493). -/
structure JigEdge where
  t : Nat := 0
  spans : List (Nat × Nat) := []
  mem : List (Nat × Byte) := []
  deriving DecidableEq, Repr, Inhabited

/-- A request on the ring target port: its issuing stop and tag, the request, the words still to be presented, and the read
data of the words acknowledged (R495). -/
structure JigRt where
  stop : Fin 16 := 0
  tag : Byte := 0
  req : RingReq := {}
  words : List Nat := []
  data : List Byte := []
  deriving DecidableEq, Repr, Inhabited

/-- An access of the ring master port (R497). -/
structure RmEnt where
  req : RingReq := {}
  issued : Bool := false
  resp : Option RingResp := none
  /-- Issued before a reconfiguration: its response is discarded (R501). -/
  discard : Bool := false
  deriving DecidableEq, Repr, Inhabited

/-- The Jig fabric beyond its registers. -/
structure Jig where
  st : JigSt := .unconf
  useW : Bool := false
  useE : Bool := false
  /-- Bodies of the BAY and ROUTE sections in force, by TYPE × 256 + INDEX, as the image gives them. -/
  bodies : List (Nat × List Byte) := []
  /-- AUTO_REL of the image, and its INIT and MEM values, which S4 keeps (R500, R626). -/
  autoRel : Bool := false
  cells0 : BitVec 512 := 0
  mem0 : List (Nat × Byte) := []
  /-- The design that those bodies hold. -/
  design : Design := {}
  /-- Macrocell registers, macrocell outputs, and the level of each macrocell's clock at the last edge: 32b + i for macrocell i of
  bay b (R485, R515). -/
  cells : BitVec 512 := 0
  outs : BitVec 512 := 0
  cellClk : BitVec 512 := 0
  /-- Memory ports, 2m for port A and 2m + 1 for port B of memory m, and the level of each port's clock at the last edge. -/
  ports : Vector JigPort 32 := Vector.replicate 32 {}
  portClk : BitVec 32 := 0
  /-- Half period of LCLK of the last rising edge of each routed clock: a macrocell, or 512 + port (R516). -/
  rises : List (Nat × Nat) := []
  aEdge : Option JigEdge := none
  /-- Index of the free values that balls and lanes now show the fabric (log 5). -/
  inK : Nat := 0
  /-- Memory m at offset m × 0x800: unlisted bytes read 0. -/
  mem : List (Nat × Byte) := []
  /-- Lane byte boundaries: bits of delay, modulo 8 (R490). -/
  slip : Vector Nat 16 := Vector.replicate 16 0
  trees : Vector JigTree 4 := Vector.replicate 4 {}
  /-- E0 of the last PARK of each ball (R521). -/
  park : Vector (Option Nat) 40 := Vector.replicate 40 none
  /-- Requests presented by the NI that wait for the target port, and the one on it. -/
  rtWait : List (Fin 16 × Byte) := []
  rt : Option JigRt := none
  rm : List RmEnt := []
  rmId : Nat := 0
  /-- RM_CODE and RM_RDATA of the last response. -/
  rmOut : Option RingResp := none
  /-- RM_DONE: that response has come since the last LCLK edge of the fabric. -/
  rmNew : Bool := false
  deriving DecidableEq, Repr, Inhabited

/-! ### UARTs (Chapter 21) -/

/-- Descriptor states (Table 21-6). -/
inductive DescSt where
  | free | queued | active | done
  deriving DecidableEq, Repr, Inhabited

/-- One descriptor beyond its address and CTRL fields (R542 to R547). -/
structure UartDesc where
  st : DescSt := .free
  tx : Bool := false
  /-- Order of the GO. -/
  order : Nat := 0
  flushed : Bool := false
  code : RespCode := .ok
  count : Nat := 0
  /-- Entries that the engine holds; a request for them is in flight. -/
  hold : List Half := []
  busy : Bool := false
  /-- A flush has been asked for: entries of the FIFO that it still takes (R544, R552). -/
  flush : Option Nat := none
  deriving DecidableEq, Repr, Inhabited

/-- An entry of a transmit FIFO; the last entry of a descriptor names it. -/
structure UartTx where
  v : Half := 0
  last : Option (Fin 16) := none
  deriving DecidableEq, Repr, Inhabited

/-- One UART beyond its registers. -/
structure Uart where
  rx : List Half := []
  tx : List UartTx := []
  /-- Characters that the supervisor agent has to send (R548). -/
  agent : List Byte := []
  /-- A character being received: its start bit was noisy, and it was cut (R549). -/
  rxCur : Option (Bool × Bool) := none
  /-- The line has been idle for a character time since the last start bit (R543). -/
  idle : Bool := false
  /-- The character being sent. -/
  txCur : Option UartTx := none
  /-- The last character sent. -/
  sent : Option Half := none
  /-- DE is asserted. -/
  de : Bool := false
  /-- Characters have been lost since the last stored entry (R537). -/
  lost : Bool := false
  desc : Vector UartDesc 16 := Vector.replicate 16 {}
  descOrder : Nat := 0
  /-- Staged writes of CFG, BAUD, DE and BAUD_AON (R540). -/
  cfg : Option Word := none
  baud : Option Word := none
  deTimes : Option Word := none
  baudAon : Option Word := none
  /-- UART0 runs from the AON oscillator (R534). -/
  clkAon : Bool := true
  /-- The last value that a read of UAn_RXD returned. -/
  rxd : Word := 0
  deriving DecidableEq, Repr, Inhabited


/-! ### Supervisor (Chapters 22 and 23) -/

/-- A bus request that waits for its reply (R600). -/
structure BusReq where
  dst : Byte := 0
  cmd : Nat := 0
  tag : Byte := 0
  payload : List Byte := []
  /-- Sendings so far. -/
  sends : Nat := 1
  deriving DecidableEq, Repr, Inhabited

/-- What the page 1 registers hold for one path to them: RT_SEL, staging copies and snapshots (R68, R614). An unlisted byte of
RT_ENTRY's copy stands at the register, and one of another copy at 0. -/
structure SupPath where
  rtSel : BitVec 5 := 0
  staged : List (Nat × Byte) := []
  snaps : List (Nat × Byte) := []
  /-- RC registers, by address, with a snapshot that no read has cleared from the register yet (R70). -/
  unread : List Nat := []
  deriving DecidableEq, Repr, Inhabited

/-- The supervisor beyond rails and log. -/
structure Sup where
  /-- The rail table has been loaded since VAON rose (R579, R580). -/
  loaded : Bool := false
  /-- The non-volatile copy of the rail table with its CRC-16; none when never saved. -/
  saved : Option (List RailEntry × Half) := none
  /-- SUP_STATE.SEQ: 0 idle, 1 up, 2 down. -/
  seq : BitVec 2 := 0
  /-- SEQ_IN is asserted; the start trigger stands, by SEQ_IN or by an UP or a request (R568). -/
  seqIn : Bool := false
  trigIn : Bool := false
  trigReq : Bool := false
  sysHalt : Bool := false
  /-- AON times of SYSTEM reactions (R594). -/
  sysTimes : List Nat := []
  /-- A SYSTEM reaction restarts once every rail is off (R594). -/
  sysDown : Bool := false
  /-- An attempt is in progress; the next one is due 100 ms after rails 0 to 5 are down (R562, R568). -/
  attempt : Bool := false
  retryDue : Bool := false
  epiOpen : Bool := false
  epiNum : Half := 0
  epiRail : BitVec 5 := 0
  epiTime : Pos := 0
  epiFaults : Nat := 0
  cmdRes : BitVec 4 := 0
  ev : BitVec 6 := 0
  casc : BitVec 3 := 0b101
  cascDly : Byte := 10
  /-- RT_STAT: DEFAULT, BAD and LEVEL; DIRTY follows the tables. -/
  rtDefault : Bool := false
  rtBad : Bool := false
  rtLevel : Bool := false
  warnCnt : Half := 0
  /-- A low reading of VAON may write a WARN record (R751). -/
  vaonArmed : Bool := true
  busDst : Byte := 0xFF
  busOp : BitVec 3 := 3
  busRx : List Byte := []
  busReq : Option BusReq := none
  busTag : Byte := 0
  /-- The control port's path and the ring's path to the page 1 registers. -/
  cpPath : SupPath := {}
  ringPath : SupPath := {}
  deriving DecidableEq, Repr, Inhabited

/-! ### Flash and start (Chapter 22) -/

/-- Flash operations of PWR_FL_CMD (R573). -/
inductive FlOp where
  | read | program | erase
  deriving DecidableEq, Repr, Inhabited

/-- The boot flash and its controller: the device on the board (log 31) and the operation in progress. -/
structure Flash where
  /-- Bytes that SFDP reports, whether SFDP is valid, and whether it advertises 1-4-4 DTR. -/
  size : Nat := 0x4000000
  sfdp : Bool := true
  dtr : Bool := true
  /-- Contents: an unlisted byte is erased and reads 0xFF. -/
  store : List (Nat × Byte) := []
  /-- The operation in progress, its address, and the bytes to program or the number to read. -/
  op : Option (FlOp × Nat × List Byte) := none
  deriving DecidableEq, Repr, Inhabited

/-- What a start leaves for later (R561, R565). -/
structure BootSt where
  /-- Slot that passed R563 in the previous attempt, when that attempt failed. -/
  failedSlot : Option Bool := none
  /-- Slot from which the head started, and T0's ENTRY in its image. -/
  slot : Option Bool := none
  entry : BitVec 18 := 0
  deriving DecidableEq, Repr, Inhabited

/-! ### Clocks, wear and OTP (Chapters 25 to 27) -/

/-- The root PLL and the AON clocks beyond their registers. -/
structure ClkSt where
  /-- The derived clocks run: LOCKED has set since the PLL was last off (R638). -/
  run : Bool := false
  /-- Reference that a switch in progress goes to (R640). -/
  target : Nat := 0
  /-- Offset of that reference in 0.1 ppm, and whether the switch falls back to the crystal (R642). -/
  ppm : Int := 0
  fb : Bool := false
  /-- Source of the AON counter from the next millisecond (R643): false crystal, true RC. -/
  aonNext : Bool := true
  deriving DecidableEq, Repr, Inhabited

/-- One check monitor's wear sums (R650); x is h^0.25 in units of 2^-16. -/
structure Monitor where
  drift : Int := 0
  n : Nat := 0
  sxd : Int := 0
  sxx : Nat := 0
  sdd : Nat := 0
  xLast : Nat := 0
  deriving DecidableEq, Repr, Inhabited

/-- Wear and temperature beyond the WR_ registers. -/
structure Wear where
  mons : Vector Monitor 96 := Vector.replicate 96 {}
  hours : Nat := 0
  lamp : Vector Pos 8 := Vector.replicate 8 0
  eol : Bool := false
  /-- A sample deferred to the return to S0 (R660). -/
  due : Bool := false
  /-- Thermal step, 0 NORMAL to 4 SHUTDOWN, and T_hot. -/
  step : Nat := 0
  tHot : Option Int := none
  deriving DecidableEq, Repr, Inhabited

/-- One OTP slot that has been used (R663). -/
structure OtpSlot where
  value : Nat := 0
  crc : Byte := 0
  committed : Bool := true
  deriving DecidableEq, Repr, Inhabited

/-- Counted settings, in the order of the SETTING codes of R680. -/
inductive OtpSetting where
  | head | bootPolicy | keyHash (k : Fin 4) | keyRevoke | logPolicy | debugLock
  deriving DecidableEq, Repr, Inhabited

/-- A slot being programmed (R664): its setting and value, with the session's level, key and epoch at the write. -/
structure OtpProg where
  setting : OtpSetting := .head
  value : Nat := 0
  level : Level := .field
  key : Byte := 0xFF
  epoch : BitVec 4 := 0
  deriving DecidableEq, Repr, Inhabited

/-- The one-time-programmable store (R662, R663). -/
structure Otp where
  head : List OtpSlot := []
  bootPolicy : List OtpSlot := []
  keys : Vector (Option OtpSlot) 4 := Vector.replicate 4 none
  revoke : List OtpSlot := []
  logPolicy : List OtpSlot := []
  dbg : List OtpSlot := []
  /-- The factory region: GRADE, the serial number, and whether its check passes. Which grade the part at reset is, and its
  serial number, are the model's choice: Table 0-6 leaves GRADE to the part (log 6, DESIGN CHOICE). -/
  grade : Byte := 0x43
  serial : BitVec 64 := 0
  factOk : Bool := true
  prog : Option OtpProg := none
  /-- Bytes of a key hash written so far, by key and offset (R667). -/
  hashStage : List (Nat × Byte) := []
  deriving DecidableEq, Repr, Inhabited

/-! ### Scribe chain and test-access port (Chapters 28 and 30) -/

/-- A scribe command that runs (R684), with its OP of Table 28-3: the code it was judged with. -/
structure ScrCmd where
  op : Nat := 1
  joist : Bool := false
  node : Nat := 0
  addr : Nat := 0
  arg : Half := 0
  code : Nat := 1
  /-- Session level at the commit, 0xFF for Joist (R693). -/
  level : Byte := 0
  deriving DecidableEq, Repr, Inhabited

/-- Instructions of the test-access port (R721). -/
inductive TapInstr where
  | bypass | samplePreload | extest | clamp | highz
  deriving DecidableEq, Repr, Inhabited

/-- The test-access port: the instruction loaded, whether it acts, and the boundary register's contents. -/
structure Tap where
  instr : TapInstr := .bypass
  acts : Bool := false
  boundary : List Bool := []
  deriving DecidableEq, Repr, Inhabited

/-- A ladder entry's record (R622, R623, R631). -/
structure LadderSt where
  /-- Rails 0 and 1 and their cones that S5 took down. -/
  s5Down : List Nat := []
  /-- Domains that the ladder took out of S0. -/
  left : List Nat := []
  /-- A mode request that waits for the wake of R43. -/
  modeWait : Bool := false
  deriving DecidableEq, Repr, Inhabited


/-! ### The state -/

/-- The state of the K16 (one head). -/
structure State where
  /-- Commands waiting, first in first out. -/
  pending : List Instr := []
  /-- The model's own counter: the index of the next free value (log 5). -/
  freeCtr : Nat := 0
  /-- LCLK count since the last start, and its value when BOOT ended (Table 7-2, TIME). -/
  now : Nat := 0
  bootEnd : Nat := 0
  /-- AON millisecond counter (R643). -/
  aonMs : Pos := 0
  /-- Ring registers: (system address, word), strictly rising, no entry equal to the register's reset value. -/
  regs : List (Nat × Word) := []
  /-- Snapshots of RS registers, keyed by the RS register's address (Table 0-3). -/
  rsnaps : List (Nat × Word) := []
  mode : Mode := .supervise
  role : Bool := false
  capture : Bool := false
  ladder : Ladder := .s0
  phase : LadderPhase := .stable
  transit : Option Transit := none
  joistResult : ReqResult := {}
  joistLadderResult : ReqResult := {}
  dom : Vector DomState 76 := Vector.replicate 76 .off
  cp : ControlPort := {}
  pegs : Vector Peg 32 := Vector.replicate 32 {}
  taskSt : Vector TaskSt 8 := Vector.replicate 8 .off
  lio : LineIo := {}
  ing : Ingest := {}
  egr : Egress := {}
  dyn : Dyn := {}
  storeBufs : Vector (Option StoreBuf) 2 := Vector.replicate 2 none
  storeOrder : Nat := 0
  stamp : Stamp := {}
  lanes : Vector (Option KrfBlock) 4 := Vector.replicate 4 none
  tly : Tally := {}
  trs : Truss := {}
  tasks : Vector Task 8 := Vector.replicate 8 {}
  /-- CUR: the last task to issue; and the tasks in the order in which they last ran, most recent first (R335, R352). -/
  cur : Fin 8 := 0
  ran : List (Fin 8) := []
  /-- Units of 16 SCLK that the RUN task has run since it was switched in, as far as its last QUANTUM_EXPIRY tells (R336). -/
  ranUnits : Nat := 0
  /-- The 256 KiB sequencer store: unlisted bytes read 0. -/
  seqStore : List (Nat × Byte) := []
  ni : Vector Ni 16 := Vector.replicate 16 {}
  /-- The rings: channel 6 × ring + 2 × class + kind, and stop (R446). -/
  rings : Vector (Vector RPort 16) 12 := Vector.replicate 12 (Vector.replicate 16 {})
  memc : Memc := {}
  /-- Scribe nodes held in reset (R688, R689). -/
  held : List Nat := []
  jig : Jig := {}
  uart : Vector Uart 2 := Vector.replicate 2 {}
  log : LogSt := {}
  sup : Sup := {}
  flash : Flash := {}
  boot : BootSt := {}
  clk : ClkSt := {}
  wear : Wear := {}
  otp : Otp := {}
  scr : Option ScrCmd := none
  /-- Stops held in reset by the scribe chain (R689). -/
  stopHeld : List Nat := []
  tap : Tap := {}
  lad : LadderSt := {}
  rails : Vector Rail 24 := Rail.resetAll
  deriving DecidableEq, Repr, Inhabited

/-- Reasons a command stops the block with a fault. This model has none: the block has no state from which the manual
says the hardware stops. -/
inductive Fault where
  /-- Raised by no command: kept so that the type is inhabited. Safe. -/
  | none
  deriving DecidableEq, Repr, Inhabited

/-- Reasons a command is refused by the model. -/
inductive Refusal where
  /-- Raised by the dispatch for a command whose meaning is not written yet. Safe: the model stops. -/
  | notModelled (mnemonic : String)
  deriving DecidableEq, Repr, Inhabited

/-- The device right after VAON has risen and the AON oscillator runs: SUPERVISE, every domain off (R35, R88). -/
def State.reset : State := {}

end Sys2Proof.Machine
end

