-- ==== Sys2Proof/Machine/Ops.lean ====
section
/-! DEFINITION. The named operations over the state that every family of commands shares: sparse maps in canonical form,
register fields, domains and modes, free values, the log queue, events and pegs. -/

namespace Sys2Proof.Machine

/-! ### Sparse maps -/

/-- The value of a sparse map at a key; an unlisted key reads as its default. -/
def SMap.get {α : Type} (d : Nat → α) : List (Nat × α) → Nat → α
  | [], a => d a
  | (k, v) :: m, a => if k = a then v else SMap.get d m a

/-- Write one key, keeping the canonical form: keys strictly rising, no entry equal to its default. -/
def SMap.set {α : Type} [DecidableEq α] (d : Nat → α) : List (Nat × α) → Nat → α → List (Nat × α)
  | [], a, v => if v = d a then [] else [(a, v)]
  | (k, w) :: m, a, v =>
    if a < k then (if v = d a then (k, w) :: m else (a, v) :: (k, w) :: m)
    else if a = k then (if v = d a then m else (a, v) :: m)
    else (k, w) :: SMap.set d m a v

/-- The canonical form, above a lower bound on the keys. -/
def SMap.wfFrom {α : Type} [DecidableEq α] (d : Nat → α) : Nat → List (Nat × α) → Bool
  | _, [] => true
  | lo, (k, v) :: m => decide (lo ≤ k) && decide (v ≠ d k) && SMap.wfFrom d (k + 1) m

/-- The canonical form of a sparse map. -/
def SMap.wf {α : Type} [DecidableEq α] (d : Nat → α) (m : List (Nat × α)) : Bool := SMap.wfFrom d 0 m

/-- Remove every key in [lo, hi). -/
def SMap.clear {α : Type} (lo hi : Nat) (m : List (Nat × α)) : List (Nat × α) :=
  m.filter fun p => !(decide (lo ≤ p.1) && decide (p.1 < hi))

/-- Default of a memory whose unlisted bytes read 0. -/
def zeroByte (_ : Nat) : Byte := 0

/-- Default of a memory whose unlisted bytes are erased. -/
def erasedByte (_ : Nat) : Byte := 0xFF

/-- Write consecutive bytes. -/
def SMap.setBytes (d : Nat → Byte) (m : List (Nat × Byte)) (a : Nat) : List Byte → List (Nat × Byte)
  | [] => m
  | b :: bs => SMap.setBytes d (SMap.set d m a b) (a + 1) bs

/-- Read consecutive bytes. -/
def SMap.getBytes (d : Nat → Byte) (m : List (Nat × Byte)) (a : Nat) : Nat → List Byte
  | 0 => []
  | n + 1 => SMap.get d m a :: SMap.getBytes d m (a + 1) n

/-- Set a key of an association list that is kept in rising order of its keys. -/
def Assoc.set {α : Type} : List (Nat × α) → Nat → α → List (Nat × α)
  | [], k, v => [(k, v)]
  | (j, w) :: l, k, v => if k < j then (k, v) :: (j, w) :: l else if k = j then (k, v) :: l else (j, w) :: Assoc.set l k v

/-- Set consecutive keys. -/
def Assoc.setMany {α : Type} (l : List (Nat × α)) (k : Nat) : List α → List (Nat × α)
  | [] => l
  | v :: vs => Assoc.setMany (Assoc.set l k v) (k + 1) vs

/-! ### Bytes, words and bit fields -/

/-- The low n bytes of a number, lowest first (R6). -/
def leBytes (v : Nat) : Nat → List Byte
  | 0 => []
  | n + 1 => BitVec.ofNat 8 v :: leBytes (v / 256) n

/-- The number that bytes hold, lowest byte first (R6). -/
def ofLeBytes : List Byte → Nat
  | [] => 0
  | b :: bs => b.toNat + 256 * ofLeBytes bs

/-- Bits [lo + w − 1:lo] of a word, as a number. -/
def getBits (x : Word) (lo w : Nat) : Nat := x.toNat / 2 ^ lo % 2 ^ w

/-- A word of ones in bits [lo + w − 1:lo]. -/
def maskBits (lo w : Nat) : Word := BitVec.ofNat 32 ((2 ^ w - 1) * 2 ^ lo)

/-- Replace bits [lo + w − 1:lo] of a word. -/
def setBits (x : Word) (lo w v : Nat) : Word :=
  (x &&& ~~~maskBits lo w) ||| (BitVec.ofNat 32 (v % 2 ^ w * 2 ^ lo) &&& maskBits lo w)

/-- Bit n of a number. -/
def bitOf (v n : Nat) : Bool := v / 2 ^ n % 2 == 1

/-- The index of an address in an array of registers, when it is below n. -/
def arrayIdx? (n : Nat) (i : Nat) : Option (Fin n) := if h : i < n then some ⟨i, h⟩ else none

/-- A value lies in a range. -/
def within (lo x hi : Nat) : Bool := decide (lo ≤ x) && decide (x ≤ hi)

/-- One or zero. -/
def b2n (b : Bool) : Nat := if b then 1 else 0

/-- Number of ones among the low n bits of a number. -/
def popCount (v : Nat) : Nat → Nat
  | 0 => 0
  | n + 1 => v % 2 + popCount (v / 2) n

/-- Number of ones in a bit vector. -/
def popBV {w : Nat} (x : BitVec w) : Nat := popCount x.toNat w

/-- The signed difference of two positions (R94). -/
def posDiff (a b : Pos) : Int := (a - b).toInt

/-! ### Register file -/

/-- Offset of an address in a register array row, when the row covers it: the two indices. -/
def RegRow.index? (r : RegRow) (a : Nat) : Option (Nat × Nat) :=
  if a < r.base then none
  else
    let d := a - r.base
    let i := if r.s1 = 0 then 0 else min (d / r.s1) (r.c1 - 1)
    let d1 := d - i * r.s1
    let j := if r.s2 = 0 then 0 else min (d1 / r.s2) (r.c2 - 1)
    if d1 = j * r.s2 then some (i, j) else none

/-- The table row of a register address. -/
def Reg.findRow (a : Nat) : List RegRow → Option RegRow
  | [] => none
  | r :: rs => if (r.index? a).isSome then some r else Reg.findRow a rs

/-- The row of a register address in its block. -/
def Reg.row? (a : Nat) : Option RegRow := Reg.findRow a (Reg.blockRows a)

/-- Route entry i of stop s at reset (R437, R439): Plate when the Plate distance is at most 8, the other ring as the
alternate with ALT_EN, and VALID; entries 4d + 3 and the entries of the stop itself read 0. -/
def Reg.routeReset (s i : Nat) : Nat :=
  let d := i / 4
  if i % 4 = 3 || d = s then 0
  else
    let p := (d + 16 - s) % 16
    let q := (s + 16 - d) % 16
    if p ≤ 8 then 0x80008000 + 2 * p + 0x100 + 0x200 * q
    else 0x80008000 + 1 + 2 * q + 0x200 * p

/-- Reset values that differ from one register of an array to the next, or that the tables give in words. -/
def Reg.specialReset (a : Nat) : Option Nat :=
  if 0x1000000 ≤ a ∧ a < 0x1100000 then
    let s := (a - 0x1000000) / 0x10000
    let o := (a - 0x1000000) % 0x10000
    if o = 0 then some s
    else if 0x100 ≤ o ∧ o < 0x200 ∧ o % 4 = 0 then some (Reg.routeReset s ((o - 0x100) / 4))
    else none
  else if a = 0x10004 then some 1
  else if a = Reg.UAn_BAUD 0 then some (6 + 4 * 65536)
  else if a = Reg.UAn_BAUD 1 then some (54 + 4 * 65536)
  else if a = Reg.UA0_BAUD_AON 1 then some 0
  else if 0x110000200 ≤ a ∧ a < 0x110000300 ∧ a % 0x20 = 8 then some ((a - 0x110000200) / 0x20)
  else if Reg.JIG_PINj 24 ≤ a ∧ a ≤ Reg.JIG_PINj 34 ∧ a % 4 = 0 then some 0x23
  else if 0x800000000 ≤ a then
    let b := a / 0x100000000 - 8
    let o := a % 0x100000000
    if o < 0x8000 ∧ o % 0x1000 = 0 then some (8 * b + o / 0x1000 + b * 256) else none
  else none

/-- The value of a ring register at reset. -/
def Reg.resetWord (a : Nat) : Word :=
  match Reg.specialReset a with
  | some v => BitVec.ofNat 32 v
  | none =>
    match Reg.row? a with
    | some r => BitVec.ofNat 32 r.reset
    | none => 0

/-- Read a ring register as stored. -/
def State.reg (s : State) (a : Nat) : Word := SMap.get Reg.resetWord s.regs a

/-- Store a ring register. -/
def State.setReg (s : State) (a : Nat) (v : Word) : State := { s with regs := SMap.set Reg.resetWord s.regs a v }

/-- Read a register field. -/
def State.fld (s : State) (f : Fld) : Nat := getBits (s.reg f.addr) f.lo f.w

/-- Store a register field. -/
def State.setFld (s : State) (f : Fld) (v : Nat) : State := s.setReg f.addr (setBits (s.reg f.addr) f.lo f.w v)

/-- A one-bit field as a truth value. -/
def State.bit (s : State) (f : Fld) : Bool := s.fld f != 0

/-- Set a one-bit field, or every bit of a field. -/
def State.raise (s : State) (f : Fld) : State := s.setFld f (2 ^ f.w - 1)

/-- Set a field when a condition holds. -/
def State.raiseIf (s : State) (c : Bool) (f : Fld) : State := if c then s.raise f else s

/-- Add to a counter field, wrapping at its width. -/
def State.add (s : State) (f : Fld) (n : Nat) : State := s.setFld f (s.fld f + n)

/-- Add to a counter field, stopping at its largest value. -/
def State.addSat (s : State) (f : Fld) (n : Nat) : State := s.setFld f (min (s.fld f + n) (2 ^ f.w - 1))

/-- Add one to a counter field. -/
def State.inc (s : State) (f : Fld) : State := s.add f 1

/-- Return every register of an address range to its reset value, with its snapshots. -/
def State.resetRegs (s : State) (lo hi : Nat) : State :=
  { s with regs := SMap.clear lo hi s.regs, rsnaps := SMap.clear lo hi s.rsnaps }

/-! ### Free values -/

/-- Draw a free 32-bit value (log 5). -/
def State.drawWord (s : State) : Word × State := (Config.freeWord s.freeCtr, { s with freeCtr := s.freeCtr + 1 })

/-- The response codes of Table 3-2. -/
def respCode : RespCode → Nat
  | .ok => 0 | .refusedNotag => 1 | .poweredDown => 2 | .decode => 3 | .poison => 4 | .timeout => 5

/-! ### Modes and domains -/

/-- The codes of Table 2-1. -/
def Mode.code : Mode → BitVec 3
  | .unpowered => 0 | .supervise => 1 | .boot => 2 | .fallback => 3
  | .setup => 4 | .freeRun => 5 | .track => 6 | .lockstep => 7

/-- The mode of a code of Table 2-1. -/
def Mode.ofCode (c : Nat) : Mode :=
  if c = 1 then .supervise else if c = 2 then .boot else if c = 3 then .fallback else if c = 4 then .setup
  else if c = 5 then .freeRun else if c = 6 then .track else if c = 7 then .lockstep else .unpowered

/-- FREE-RUN, TRACK and LOCKSTEP are the capture modes (R30). -/
def Mode.isCapture : Mode → Bool
  | .freeRun | .track | .lockstep => true
  | _ => false

/-- SETUP or a capture mode. -/
def Mode.isRun : Mode → Bool
  | .setup | .freeRun | .track | .lockstep => true
  | _ => false

/-- Ladder codes (Table 2-8). -/
def Ladder.code : Ladder → Nat
  | .s0 => 0 | .s1 => 1 | .s2 => 2 | .s3 => 3 | .s4 => 4 | .s5 => 5

/-- The ladder state of a code below 6. -/
def Ladder.ofCode (c : Nat) : Ladder :=
  if c = 0 then .s0 else if c = 1 then .s1 else if c = 2 then .s2 else if c = 3 then .s3 else if c = 4 then .s4 else .s5

/-! Domain codes of Table 24-1. -/

def Dom.seq : Fin 76 := 64
def Dom.truss : Fin 76 := 65
def Dom.tally : Fin 76 := 66
def Dom.memc : Fin 76 := 67
def Dom.ingest : Fin 76 := 68
def Dom.egress : Fin 76 := 69
def Dom.jigw : Fin 76 := 70
def Dom.jige : Fin 76 := 71
def Dom.lineio : Fin 76 := 72
def Dom.dynak : Fin 76 := 73
def Dom.plate : Fin 76 := 74
def Dom.sill : Fin 76 := 75

/-- A domain is ON, that is at S0 (R616). -/
def State.domOn (s : State) (d : Fin 76) : Bool := s.dom[d] == .on

/-- Tile t is powered (R213). -/
def State.tileOn (s : State) (t : Fin 64) : Bool := s.dom[t.castLE (by decide : 64 ≤ 76)] == .on

/-- LINEIO runs as in SETUP: its domain is ON and the mode is SETUP or a capture mode (R755). -/
def State.lioRuns (s : State) : Bool := s.domOn Dom.lineio && s.mode.isRun

/-- A test-access instruction controls the balls: it was judged when it was loaded, and acts only in SETUP and FALLBACK
while no scribe command runs (R722). The blocks then see their inputs at the idle levels of R521 (log 35). -/
def State.tapActs (s : State) : Bool := s.tap.acts && (s.mode == .setup || s.mode == .fallback) && s.scr.isNone

/-- A shared JIO ball belongs to its fixed function: always in FALLBACK (R520). -/
def State.ballFixed (s : State) (j : Nat) : Bool := s.mode == .fallback || s.bit (F.JIG_PINj_FUNC j)

/-- The interlock as LINEIO sees it: ILK_N is low (R157). -/
def State.ilk (s : State) : Bool := s.lio.ilkLow && !s.tapActs

/-- The line triggers come from a Dynak LINE: this head is a LOCKSTEP follower. -/
def State.isFollower (s : State) : Bool := s.mode == .lockstep && s.role

/-- This head is a LOCKSTEP master. -/
def State.isMaster (s : State) : Bool := s.mode == .lockstep && !s.role

/-- Move the LCLK count on to an event's edge; an earlier edge leaves it (log 2). -/
def State.atT (s : State) (t : Nat) : State := { s with now := max s.now t }

/-- The 48-bit LCLK count of Table 7-2, cleared when BOOT ends. -/
def State.time (s : State) (t : Nat) : Pos := BitVec.ofNat 48 (t - s.bootEnd)

/-! ### Interrupts of the control port -/

/-- Set a bit of IRQ_STATUS (R76): 0 MODE_CHG, 1 RESULT, 2 WIN_DONE, 3 SESS_END, 4 FALLBACK, 5 LOG, 6 THERMAL,
7 DOORBELL, 8 CP_ERR. -/
def State.irq (s : State) (n : Nat) : State :=
  { s with cp := { s.cp with irqStatus := s.cp.irqStatus ||| BitVec.ofNat 9 (2 ^ n) } }

/-- CP_IRQ_N is pulled low (R76). -/
def State.irqLine (s : State) : Bool := s.cp.irqStatus &&& s.cp.irqEnable != 0

/-- Set bits of CP_ERR: 0 CRC, 1 FRAME, 2 NOSESS, 3 DB_OVER; a bit newly set sets IRQ_STATUS.CP_ERR. -/
def State.cpError (s : State) (n : Nat) : State :=
  let m := BitVec.ofNat 4 (2 ^ n)
  let s' := { s with cp := { s.cp with cpErr := s.cp.cpErr ||| m } }
  if s.cp.cpErr &&& m = 0 then s'.irq 8 else s'

/-! ### The log queue -/

/-- Severity of a record type (Table 23-6). -/
def logSeverity (typ : Nat) : BitVec 2 :=
  if typ = 0x02 ∨ typ = 0x06 ∨ typ = 0x0C ∨ typ = 0x0D then 3
  else if typ = 0x03 ∨ typ = 0x04 ∨ typ = 0x05 ∨ typ = 0x0E then 2 else 1

/-- Queue a record for the supervisor; the seventeenth waiting record is lost and counted (R605). -/
def State.pushLog (s : State) (typ : Nat) (payload : List Byte) : State :=
  if s.log.queue.length < 16 then
    { s with log := { s.log with queue := s.log.queue ++
        [{ typ := BitVec.ofNat 8 typ, ms := s.aonMs, sev := logSeverity typ, payload := payload }] } }
  else { s with log := { s.log with lost := s.log.lost + 1, lostPend := true } }

/-! ### Supervisor warnings -/

/-- A supervisor warning marks every line between its trigger and FILLED, and every open frame (R177, R187, R596). -/
def State.supervisorWarning (s : State) : State :=
  let mark (t : Trig) : Trig := { t with supw := true }
  { s with ing := { s.ing with
      pend := s.ing.pend.map mark
      filling := s.ing.filling.map fun f => { f with trig := mark f.trig }
      frames := s.ing.frames.map fun f =>
        { f with supwTime := if f.supwCnt = 0 then s.aonMs else f.supwTime, supwCnt := f.supwCnt + 1 } } }

/-- A supervisor warning with a WARN record (R596, Table 23-7): source and the payload bytes after it. -/
def State.warn (s : State) (source : Nat) (rest : List Byte) : State :=
  let s := (s.pushLog 0x05 (BitVec.ofNat 8 source :: rest)).supervisorWarning
  { s with sup := { s.sup with ev := s.sup.ev ||| 2 } }

/-! ### Rails: waiting for parents (R582, R583) -/

/-- Replace one rail. -/
def State.setRail (s : State) (r : Fin 24) (x : Rail) : State := { s with rails := s.rails.set r x }

/-- A rail named in a mask. -/
def inMask (m : BitVec 24) (r : Fin 24) : Bool := m.getLsbD r.val

/-- Rail p can never become GOOD for a child: EN is clear, its fault is latched, or it is FAILED or BLOCKED. -/
def Rail.never (x : Rail) : Bool := !x.entry.en || x.latched || x.st == .failed || x.st == .blocked

/-- One look at a rail in WAIT_PARENT: BLOCKED, or DELAY once every parent is GOOD. -/
def State.railLook (s : State) (r : Fin 24) : State :=
  let x := s.rails[r]
  let ps := (List.finRange 24).filter fun p => inMask x.act.parent p
  if x.st = .waitParent then
    if ps.any fun p => (s.rails[p]).never then s.setRail r { x with st := .blocked }
    else if ps.all fun p => (s.rails[p]).st == .good then s.setRail r { x with st := .delay }
    else s
  else s

/-- One look at each rail, in order. -/
def State.railsLook (s : State) : State := (List.finRange 24).foldl (fun s r => s.railLook r) s

/-- n rounds of looks at the rails. -/
def State.railsRounds : Nat → State → State
  | 0, s => s
  | n + 1, s => State.railsRounds n s.railsLook

/-- Every rail in WAIT_PARENT is looked at until none changes. -/
def State.railsWait (s : State) (n : Nat) : State := State.railsRounds n s

/-- The rails that an S5 entry took down start again at the wake (R631). -/
def State.s5Up (s : State) : State :=
  if s.lad.s5Down.isEmpty then s
  else
    let up (r : Fin 24) : Rail :=
      let x := s.rails[r]
      if s.lad.s5Down.contains r.val && !x.latched then { x with st := .waitParent, inDown := false, act := x.entry } else x
    State.railsWait { s with rails := Vector.ofFn up, sup := { s.sup with seq := 1 } } 24

/-! ### The ladder states of the domains (R619, R620) -/

/-- A domain stays ON in a target state: PWR_KEEP, and the domains of Table 2-4 in the capture modes, in S1 and S2. -/
def State.ladKept (s : State) (t : Ladder) (d : Nat) : Bool :=
  let shallow := t == .s1 || t == .s2
  let cap := s.mode.isCapture && (d == 68 || d == 72 || d == 73 || d == 74 || d == 75)
  shallow && (cap || (decide (64 ≤ d) && bitOf (s.fld F.PWR_KEEP_CODES_64_TO_75) (d - 64)))

/-- The state of a leaving domain (Table 24-3). -/
def ladDomState (t : Ladder) (d : Nat) : DomState :=
  match t with
  | .s1 => .hold
  | .s2 | .s3 => .ret
  | .s4 => if d < 64 then .off else .ret
  | _ => .off

/-- The ladder state at which the domains stand: the target from the moment an entry proceeds, until the exit is complete. -/
def State.ladderNow (s : State) : Ladder :=
  match s.phase with
  | .entering t _ | .exiting t _ => t
  | _ => s.ladder

/-- The device is at S1 or S2, or on its way there or back. -/
def State.shallow (s : State) : Bool := s.ladderNow == .s1 || s.ladderNow == .s2

/-! ### Events and task states (R331, R332) -/

/-- The ladder is above S0 and at rest, or on its way down. -/
def State.asleep (s : State) : Bool :=
  match s.phase with
  | .stable => s.ladder != .s0
  | .entering .. => true
  | _ => false

/-- A wake source of Table 24-6 fires: 0 HOST, 1 TIMER, 2 UA0, 3 EVENT. WAKE_SRC records it and the exit starts; a wake
during an entry stops the entry and supersedes its requester (R628, R633). -/
def State.wake (s : State) (src : Nat) (by_ : Requester) : State :=
  if s.asleep && bitOf (s.reg Reg.PWR_WAKE_EN).toNat src then
    let s1 := s.setFld F.PWR_WAKE_SRC (s.fld F.PWR_WAKE_SRC ||| 2 ^ src)
    match s.phase with
    | .entering tgt r =>
      let res : ReqResult := { result := 6 }
      State.s5Up { s1 with
                phase := .exiting tgt by_
                cp := if r = .host then { s1.cp with ladderResult := res } else s1.cp
                joistLadderResult := if r = .joist then res else s1.joistLadderResult }
    | _ => State.s5Up { s1 with phase := .exiting s.ladder by_ }
  else s

/-- SEQ can take an event: it is ON, or held by the ladder at S1 or S2 (R628). -/
def State.seqHears (s : State) : Bool :=
  s.domOn Dom.seq || (s.shallow && s.dom[Dom.seq] != .off)

/-- Set one event bit in one task; a task in WAIT whose mask holds the bit becomes READY (R332), and such an event wakes
the device from S1 or S2 (R628). -/
def State.setEvent (s : State) (n : Fin 8) (bit : Nat) : State :=
  if s.seqHears then
    let s1 := s.setFld (F.SEQ_Tn_EV n) (s.fld (F.SEQ_Tn_EV n) ||| 2 ^ bit)
    if s.taskSt[n] = .wait ∧ bitOf (s.fld (F.SEQ_Tn_WMASK n)) bit then
      let s2 : State := { s1 with taskSt := s1.taskSt.set n .ready }
      if s2.shallow then s2.wake 3 .caused else s2
    else s1
  else s

/-- Set one event bit in every task that a predicate names. -/
def State.setEventsIn (s : State) (p : Fin 8 → Bool) (bit : Nat) : State :=
  (List.finRange 8).foldl (fun s n => if p n then s.setEvent n bit else s) s

/-- Set one event bit in all tasks. -/
def State.eventAll (s : State) (bit : Nat) : State := s.setEventsIn (fun _ => true) bit

end Sys2Proof.Machine
end

