-- ==== Sys2Proof/Machine/Crypto.lean ====
section
/-! DEFINITION. SHA-256 (FIPS 180-4) and the verification of ECDSA P-256 signatures (FIPS 186-4), as R559, R560, R672 and
R673 use them. -/

namespace Sys2Proof.Machine

/-! ### SHA-256 -/

/-- The greatest r below 2^n, from the bits already found on, whose k-th power is at most v. -/
def rootFloor (k v : Nat) : Nat → Nat → Nat
  | 0, r => r
  | n + 1, r => rootFloor k v n (if (r + 2 ^ n) ^ k ≤ v then r + 2 ^ n else r)

/-- The first 32 bits of the fraction of the k-th root of p: the form in which FIPS 180-4 gives its constants. -/
def rootFraction (k p : Nat) : Word := BitVec.ofNat 32 (rootFloor k (p * 2 ^ (32 * k)) 36 0)

/-- The first 64 primes: the numbers from 2 to 311 that no smaller number from 2 to 17 divides. -/
def shaPrimes : List Nat :=
  ((List.range 310).map (· + 2)).filter fun n => (List.range 16).all fun d => n ≤ d + 2 || n % (d + 2) != 0

/-- The 64 round constants, from cube roots. -/
def shaRoundConsts : List Word := shaPrimes.map (rootFraction 3)

/-- What the rounds have made, newest first: the working words a and e after each round. Words b, c and d are the a of one, two
and three rounds before, and f, g and h so from e. -/
abbrev ShaTrail := List (Word × Word)

/-- The trail at the start: a to h are from the square roots of the first eight primes. -/
def shaStart : ShaTrail :=
  let r (i : Nat) : Word := rootFraction 2 (shaPrimes.getD i 0)
  (List.range 4).map fun i => (r i, r (i + 4))

/-- Exclusive or of the rotations of a word. -/
def xorRotations (w : Word) (by_ : List Nat) : Word := (by_.map w.rotateRight).foldl (· ^^^ ·) 0

/-- One round with the sum of its constant and schedule word. -/
def shaRound (l : ShaTrail) (kw : Word) : ShaTrail :=
  let back (i : Nat) : Word × Word := l.getD i (0, 0)
  let choice := (back 2).2 ^^^ ((back 0).2 &&& ((back 1).2 ^^^ (back 2).2))
  let most := ((back 0).1 &&& (back 1).1) ||| ((back 2).1 &&& ((back 0).1 ||| (back 1).1))
  let new := (back 3).2 + xorRotations (back 0).2 [6, 11, 25] + choice + kw
  (new + xorRotations (back 0).1 [2, 13, 22] + most, new + (back 3).1) :: l

/-- The message schedule, newest word first: n further words. -/
def shaSchedule : Nat → List Word → List Word
  | 0, w => w
  | n + 1, w =>
    let old := w.getD 14 0
    let late := w.getD 1 0
    let next := w.getD 15 0 + w.getD 6 0 + (xorRotations old [7, 18] ^^^ old >>> 3) + (xorRotations late [17, 19] ^^^ late >>> 10)
    shaSchedule n (next :: w)

/-- A number from bytes, highest first. -/
def ofBeBytes (bs : List Byte) : Nat := bs.foldl (fun a b => 256 * a + b.toNat) 0

/-- The low n bytes of a number, highest first. -/
def beBytes (v n : Nat) : List Byte := (leBytes v n).reverse

/-- The words of a block, highest byte first. -/
def shaWords (bs : List Byte) : List Word :=
  (List.range 16).map fun i => BitVec.ofNat 32 (ofBeBytes ((bs.drop (4 * i)).take 4))

/-- A 64-byte block: 64 rounds, and the trail's last four entries join those before the block. -/
def shaBlock (l : ShaTrail) (bs : List Byte) : ShaTrail :=
  let w := (shaSchedule 48 (shaWords bs).reverse).reverse
  let out := (List.zipWith (· + ·) shaRoundConsts w).foldl shaRound l
  List.zipWith (fun x y => (x.1 + y.1, x.2 + y.2)) l (out.take 4)

/-- The first n blocks of a message. -/
def shaBlocks (bs : List Byte) : Nat → ShaTrail
  | 0 => shaStart
  | n + 1 => shaBlock (shaBlocks bs n) (bs.drop (64 * n))

/-- A message with its padding: a 1 bit, zeros, and the length in bits. -/
def shaPadded (bs : List Byte) : List Byte :=
  bs ++ 0x80 :: List.replicate ((119 - bs.length % 64) % 64) 0 ++ beBytes (8 * bs.length) 8

/-- SHA-256 of a byte string, as 32 bytes. -/
def sha256 (bs : List Byte) : List Byte :=
  let msg := shaPadded bs
  let l := shaBlocks msg (msg.length / 64)
  let word (i : Fin 8) : Word := if i.val < 4 then (l.getD i.val (0, 0)).1 else (l.getD (i.val - 4) (0, 0)).2
  (List.finRange 8).flatMap fun i => beBytes (word i).toNat 4

/-! ### P-256 -/

/-- The field prime of P-256. -/
def p256P : Nat := 0xffffffff00000001000000000000000000000000ffffffffffffffffffffffff
/-- The group order. -/
def p256N : Nat := 0xffffffff00000000ffffffffffffffffbce6faada7179e84f3b9cac2fc632551
/-- The curve constant b; a is −3. -/
def p256B : Nat := 0x5ac635d8aa3a93e7b3ebbd55769886bc651d06b0cc53b0f63bce3c3e27d2604b
/-- The base point. -/
def p256G : Nat × Nat :=
  (0x6b17d1f2e12c4247f8bce6e563a440f277037d812deb33a0f4a13945d898c296,
   0x4fe342e2fe1a7f9b8ee7eb4a7c0f9e162bce33576b315ececbb6406837bf51f5)

/-- b^(low n bits of e) mod m. -/
def powMod (m b e : Nat) : Nat → Nat
  | 0 => 1
  | n + 1 =>
    let r := powMod m (b * b % m) (e / 2) n
    if e % 2 = 1 then r * b % m else r

/-- Inverse modulo a prime below 2^256. -/
def invMod (m x : Nat) : Nat := powMod m (x % m) (m - 2) 256

/-- Sum of two points; none is the point at infinity. -/
def p256Add (p q : Option (Nat × Nat)) : Option (Nat × Nat) :=
  match p, q with
  | none, r => r
  | r, none => r
  | some (x1, y1), some (x2, y2) =>
    let m := p256P
    if x1 = x2 ∧ (y1 + y2) % m = 0 then none
    else
      let l := if x1 = x2 then (3 * x1 * x1 + (m - 3)) * invMod m (2 * y1) % m
        else (y2 + m - y1) * invMod m (x2 + m - x1) % m
      let x3 := (l * l + 2 * m - x1 - x2) % m
      some (x3, (l * (x1 + m - x3) + m - y1) % m)

/-- The low n bits of k times a point. -/
def p256Mul (k : Nat) (p : Option (Nat × Nat)) : Nat → Option (Nat × Nat)
  | 0 => none
  | n + 1 =>
    let r := p256Mul (k / 2) (p256Add p p) n
    if k % 2 = 1 then p256Add r p else r

/-- The point lies on the curve. -/
def p256OnCurve (x y : Nat) : Bool :=
  decide (x < p256P) && decide (y < p256P) &&
    y * y % p256P == (x * x * x + (p256P - 3) * x + p256B) % p256P

/-- ECDSA P-256 verification: key X then Y, signature r then s, and the hash value. -/
def ecdsaVerify (key sig hash : List Byte) : Bool :=
  let qx := ofBeBytes (key.take 32)
  let qy := ofBeBytes ((key.drop 32).take 32)
  let r := ofBeBytes (sig.take 32)
  let s := ofBeBytes ((sig.drop 32).take 32)
  let e := ofBeBytes (hash.take 32)
  if p256OnCurve qx qy && decide (0 < r) && decide (r < p256N) && decide (0 < s) && decide (s < p256N) then
    let w := invMod p256N s
    let u := p256Mul (e * w % p256N) (some p256G) 256
    let v := p256Mul (r * w % p256N) (some (qx, qy)) 256
    match p256Add u v with
    | some (x, _) => x % p256N == r
    | none => false
  else false

end Sys2Proof.Machine
end

