-- ==== Sys2Proof/Machine/Routers.lean ====
section
/-! DEFINITION. The routers of the rings (R429, R437, R441, R446, R448, R459, R461): input buffers, credits and injection
queues, and how flits move under them. A ring moves until every flit that holds a credit has moved and every credit return
has arrived: what is between is shorter than a command (log 67). -/

namespace Sys2Proof.Machine

/-! ### Channels -/

/-- The code of a class (Table 17-1). -/
def classCode : RingClass → Nat
  | .urgent => 0 | .control => 1 | .bulk => 2

/-- The channel of a ring, a class and a kind: requests or responses. Each has buffers and credits of its own (R446). -/
def channel (sill : Bool) (c : RingClass) (resp : Bool) : Fin 12 := Fin.ofNat 12 (6 * b2n sill + 2 * classCode c + b2n resp)

/-- The stop to which a channel passes flits: Plate rises, Sill falls (R429). -/
def nextStop (c : Fin 12) (n : Fin 16) : Fin 16 := if c.val < 6 then n + 1 else n - 1

/-- The packet is that of a stop's tag. -/
def FlitRun.is (r : FlitRun) (n : Fin 16) (tag : Byte) : Bool := r.stop == n && r.tag == tag

/-! ### One output (R448) -/

/-- The packet that an output sends from next, and whether its flits come from the injection queue: the rest of a packet begun
goes first (rule 3), then ring traffic, unless the injector has waited through 15 starts (rule 4). -/
def RPort.pick (p : RPort) (n : Fin 16) : Option (Bool × FlitRun) :=
  let ring := p.buf.head?.filter fun r => r.dst != n
  match p.cur with
  | some c =>
    match ring.filter fun r => r.is c.stop c.tag with
    | some r => some (false, r)
    | none => (p.inj.head?.filter fun r => r.is c.stop c.tag).map fun r => (true, r)
  | none =>
    match ring, p.inj.head? with
    | some r, some i => if 15 ≤ p.starts then some (true, i) else some (false, r)
    | some r, none => some (false, r)
    | none, some i => some (true, i)
    | none, none => none

/-- k flits leave the front of a queue. -/
def dropFlits (k : Nat) : List FlitRun → List FlitRun
  | [] => []
  | r :: rs => if r.n ≤ k then rs else { r with n := r.n - k } :: rs

/-- Flits join the back of a queue, with those of their packet that are already there. -/
def joinFlits (r : FlitRun) : List FlitRun → List FlitRun
  | [] => [r]
  | [x] => if x.is r.stop r.tag then [{ x with n := x.n + r.n }] else [x, r]
  | x :: xs => x :: joinFlits r xs

/-- An output has sent k flits: each that was buffered gives its credit back to the sender before it (R446). -/
def RPort.sent (p : RPort) (inj : Bool) (r : FlitRun) (k : Nat) : RPort :=
  let left := (match p.cur with | some c => c.n | none => r.tot) - k
  let starts := if p.cur.isSome then p.starts else if inj || p.inj.isEmpty then 0 else p.starts + 1
  let p : RPort := { p with cur := if left = 0 then none else some { r with n := left }, starts := starts }
  if inj then { p with inj := dropFlits k p.inj } else { p with buf := dropFlits k p.buf, back := p.back + k }

/-- A router input takes k flits, whose sender has spent their credits. -/
def RPort.took (p : RPort) (r : FlitRun) (k : Nat) : RPort :=
  { p with avail := p.avail - k, buf := joinFlits { r with n := k } p.buf }

/-- The output of a stop sends what it holds credits for. -/
def outputMove (c : Fin 12) (v : Vector RPort 16) (n : Fin 16) : Vector RPort 16 :=
  let d := nextStop c n
  match v[n].pick n with
  | none => v
  | some (inj, r) =>
    let k := min r.n v[d].avail
    if k = 0 then v
    else
      let v := v.set n (v[n].sent inj r k)
      v.set d (v[d].took r k)

/-! ### A channel -/

/-- Credits on the wire arrive at their senders. -/
def RPort.land (p : RPort) : RPort := { p with avail := p.avail + p.back, back := 0 }

/-- A channel moves until nothing can. -/
def channelSettle (c : Fin 12) : Nat → Vector RPort 16 → Vector RPort 16
  | 0, v => v.map RPort.land
  | fuel + 1, v =>
    let v := v.map RPort.land
    let w := (List.finRange 16).foldl (outputMove c) v
    if w = v then v else channelSettle c fuel w

/-- Flits in a queue. -/
def flitSum (l : List FlitRun) : Nat := (l.map (·.n)).sum

/-- Flits that a channel holds. -/
def channelFlits (v : Vector RPort 16) : Nat := (v.toList.map fun p => flitSum p.buf + flitSum p.inj).sum

/-- Replace a channel, and let it move. -/
def State.setChannel (s : State) (c : Fin 12) (v : Vector RPort 16) : State :=
  { s with rings := s.rings.set c (channelSettle c (16 * channelFlits v + 1) v) }

/-! ### Packets -/

/-- A packet enters the injection queue of a stop (R442). -/
def State.inject (s : State) (c : Fin 12) (n : Fin 16) (r : FlitRun) : State :=
  let v := s.rings[c]
  s.setChannel c (v.set n { v[n] with inj := v[n].inj ++ [r] })

/-- A packet's flits leave a port. -/
def RPort.remove (n : Fin 16) (tag : Byte) (p : RPort) : RPort :=
  let mine (r : FlitRun) : Bool := r.is n tag
  { p with buf := p.buf.filter fun r => !mine r, back := p.back + flitSum (p.buf.filter mine)
           inj := p.inj.filter fun r => !mine r, cur := p.cur.filter fun r => !mine r }

/-- A packet leaves the ring: ejected, or discarded. -/
def State.eject (s : State) (c : Fin 12) (n : Fin 16) (tag : Byte) : State :=
  s.setChannel c (s.rings[c].map (RPort.remove n tag))

/-- A packet has flits on a channel. -/
def State.onRing (s : State) (c : Fin 12) (n : Fin 16) (tag : Byte) : Bool :=
  s.rings[c].toList.any fun p => p.buf.any (·.is n tag) || p.inj.any (·.is n tag)

/-- The header of a packet stands at its destination's router, with nothing of its channel before it; a packet that uses no
ring is there (R440, R447). -/
def State.atRouter (s : State) (c : Fin 12) (d n : Fin 16) (tag : Byte) : Bool :=
  !s.onRing c n tag || (s.rings[c][d].buf.head?.any fun r => r.is n tag)

/-- Packets with flits in the buffers of a stop: channel, stop and tag. -/
def State.routerHolds (s : State) (d : Fin 16) : List (Fin 12 × Fin 16 × Byte) :=
  (List.finRange 12).flatMap fun c => (s.rings[c][d].buf ++ s.rings[c][d].inj).map fun r => (c, r.stop, r.tag)

/-- Flits are still on Sill (R758). -/
def State.sillBusy (s : State) : Bool :=
  (List.finRange 12).any fun c => decide (6 ≤ c.val) && s.rings[c].toList.any fun p => !p.buf.isEmpty || !p.inj.isEmpty

/-! ### Audit (R460, R461) -/

/-- A class of a router input in NI_CRED: AVAIL, BUFFERED and RETURNING, requests and responses together. -/
def State.credView (s : State) (sill : Bool) (n : Fin 16) (c : RingClass) : Nat :=
  let p := s.rings[channel sill c false][n]
  let q := s.rings[channel sill c true][n]
  (p.avail + q.avail) % 16 + 16 * ((flitSum p.buf + flitSum q.buf) % 16) + 256 * ((p.back + q.back) % 16)

/-- NI_CRED_x_LO and NI_CRED_x_HI. -/
def State.viewCred (s : State) (n : Fin 16) (sill hi : Bool) : Nat :=
  if hi then s.credView sill n .bulk else s.credView sill n .urgent + 65536 * s.credView sill n .control

end Sys2Proof.Machine
end

