-- ==== Sys2Proof/Machine/Array.lean ====
section
/-! DEFINITION. The processing array (Chapters 8 and 10): the numbering of its PEs, planes and fields, neighbours, and the
arithmetic of one PE. Bit p of a plane is the PE numbered p: tile p div 256, row and column of the tile in p mod 256, which
is the bit order of a far page (R266). -/

namespace Sys2Proof.Machine

/-! ### Numbering (R199, R266) -/

/-- Row of PE p. -/
def peRow (p : Nat) : Nat := 16 * (p / 256 / 8) + p % 256 / 16

/-- Column of PE p. -/
def peCol (p : Nat) : Nat := 16 * (p / 256 % 8) + p % 16

/-- The PE of a row and a column. -/
def peAt (r c : Nat) : Nat := 256 * (8 * (r / 16) + c / 16) + 16 * (r % 16) + c % 16

/-- Tile of PE p. -/
def peTile (p : Nat) : Nat := p / 256

/-- Chain position of PE p (Table 8-3). -/
def peChain (p : Nat) : Nat := if peRow p % 2 = 0 then 128 * peRow p + peCol p else 128 * peRow p + 127 - peCol p

/-- The PE of a chain position (R199). -/
def chainPe (i : Nat) : Nat := peAt (i / 128) (if i / 128 % 2 = 0 then i % 128 else 127 - i % 128)

/-! ### Planes and fields -/

/-- The number whose bit p, below n, is g p. -/
def natOfBits (g : Nat → Bool) : Nat → Nat
  | 0 => 0
  | n + 1 => natOfBits g n + (if g n then 2 ^ n else 0)

/-- The plane whose PE p holds g p. -/
def Plane.ofFn (g : Nat → Bool) : Plane := BitVec.ofNat 16384 (natOfBits g 16384)

/-- A plane that is uniform across all PEs. -/
def Plane.uniform (b : Bool) : Plane := if b then BitVec.allOnes 16384 else 0

/-- The PEs of powered tiles (R213). -/
def State.tileMask (s : State) : Plane :=
  BitVec.ofNat 16384 ((List.finRange 64).foldl (fun m t =>
    if s.tileOn t then m + (2 ^ 256 - 1) * 2 ^ (256 * t.val) else m) 0)

/-- The active PEs: A = 1 in a powered tile (R196, R214). -/
def State.active (s : State) : Plane := s.trs.a &&& s.tileMask

/-- The value of PE p in a field, least significant plane first (R227). -/
def fieldVal : List Plane → Nat → Nat
  | [], _ => 0
  | x :: xs, p => b2n (x.getLsbD p) + 2 * fieldVal xs p

/-- Contents of a virtual plane at BENCH or YARD (R265). -/
def State.plane (s : State) (v : Nat) : Plane := SMap.get (fun _ => 0) s.tly.data v

/-- Store a plane's contents. -/
def State.setPlane (s : State) (v : Nat) (x : Plane) : State :=
  { s with tly := { s.tly with data := SMap.set (fun _ => 0) s.tly.data v x } }

/-- The planes of a field. -/
def State.field (s : State) (v : Nat) : Nat → List Plane
  | 0 => []
  | n + 1 => s.plane v :: s.field (v + 1) n

/-- Write the PEs of a mask in one plane. -/
def State.writePlane (s : State) (v : Nat) (mask x : Plane) : State :=
  s.setPlane v ((s.plane v &&& ~~~mask) ||| (x &&& mask))

/-- Write n planes of a field from a value for each PE, in the PEs of a mask. -/
def State.writeField (s : State) (v : Nat) (mask : Plane) (g : Nat → Nat) : Nat → State
  | 0 => s
  | n + 1 => (s.writeField v mask g n).writePlane (v + n) mask (Plane.ofFn fun p => bitOf (g p) n)

/-! ### Neighbours (R200 to R203) -/

/-- What a PE reads beyond an edge, or which PE it reads. -/
inductive NbrSrc where
  | pe (p : Nat)
  | zero
  deriving DecidableEq, Repr

/-- An edge policy applied at PE p, with the PE that WRAP reads (Table 8-4). -/
def edgePolicy (pol p wrap : Nat) : NbrSrc := if pol = 1 then .pe wrap else if pol = 2 then .pe p else .zero

/-- The neighbour of PE p in MESH: N, E, S, W (R200). -/
def meshNbr (dir hpol vpol p : Nat) : NbrSrc :=
  let r := peRow p
  let c := peCol p
  if dir = 0 then (if r = 0 then edgePolicy vpol p (peAt 127 c) else .pe (peAt (r - 1) c))
  else if dir = 1 then (if c = 127 then edgePolicy hpol p (peAt r 0) else .pe (peAt r (c + 1)))
  else if dir = 2 then (if r = 127 then edgePolicy vpol p (peAt 0 c) else .pe (peAt (r + 1) c))
  else (if c = 0 then edgePolicy hpol p (peAt r 127) else .pe (peAt r (c - 1)))

/-- The neighbour of PE p in CHAIN: PREV, NEXT (R201, R203). -/
def chainNbr (dir hpol len p : Nat) : NbrSrc :=
  let i := peChain p
  if len ≤ i then .zero
  else if dir = 0 then (if i = 0 then edgePolicy hpol p (chainPe (len - 1)) else .pe (chainPe (i - 1)))
  else (if i + 1 = len then edgePolicy hpol p (chainPe 0) else .pe (chainPe (i + 1)))

/-- The neighbour that the options of an NBR name (Table 9-4). -/
def nbrSource (opt len p : Nat) : NbrSrc :=
  if opt % 2 = 0 then meshNbr (opt / 2 % 4) (opt / 8 % 4) (opt / 32 % 4) p
  else chainNbr (opt / 2 % 4) (opt / 8 % 4) len p

/-! ### One PE's arithmetic (R250 to R258) -/

/-- An n-bit value read as two's complement. -/
def toSigned (n x : Nat) : Int := if x < 2 ^ (n - 1) then x else (x : Int) - 2 ^ n

/-- An integer modulo 2^n. -/
def ofSigned (n : Nat) (x : Int) : Nat := (x % (2 ^ n : Int)).toNat

/-- A boolean function by its truth table, bit by bit over n bits (R195). -/
def boolField (f : Nat) (x y : Nat) : Nat → Nat
  | 0 => 0
  | n + 1 => boolField f x y n + (if bitOf f (2 * (x / 2 ^ n % 2) + y / 2 ^ n % 2) then 2 ^ n else 0)

/-- The sum of the partial-product bits of MULA, columns 0 to s − 1 left out (R252). -/
def mulaField (x y s : Nat) : Nat → Nat
  | 0 => 0
  | m + 1 => mulaField x y s m + (if bitOf y m then x / 2 ^ (s - m) * 2 ^ (s - m) * 2 ^ m else 0)

/-- Quotient, remainder and the flags DIVZ and OVF of an unsigned division, n by m bits (R253, R254, R256). -/
def divUnsigned (n m x y : Nat) : Nat × Nat × Bool × Bool :=
  if y = 0 then (2 ^ n - 1, x % 2 ^ m, true, decide (2 ^ m ≤ x)) else (x / y, x % y, false, false)

/-- Quotient, remainder and the flags DIVZ and OVF of a signed division, truncated toward zero (R253 to R256). OVF of an
unfitting dividend belongs to the remainder. -/
def divSigned (n m x y : Nat) : Nat × Nat × Bool × Bool × Bool :=
  let a := toSigned n x
  let b := toSigned m y
  if b = 0 then
    (if 0 ≤ a then 2 ^ (n - 1) - 1 else 2 ^ (n - 1), ofSigned m a, true, false,
      decide (a < -(2 ^ (m - 1)) ∨ (2 ^ (m - 1) : Int) ≤ a))
  else if a = -(2 ^ (n - 1)) ∧ b = -1 then (2 ^ (n - 1), 0, false, true, true)
  else (ofSigned n (a.tdiv b), ofSigned m (a.tmod b), false, false, false)

/-- A quotient of naturals rounded to nearest, ties to even. -/
def roundEven (num den : Nat) : Nat :=
  let q := num / den
  let r := num % den
  if 2 * r < den then q else if den < 2 * r then q + 1 else q + q % 2

/-- What CVTF makes of one binary32 value: result, OVF, INV, quiet NaN (R257, R258). -/
def cvtf (n f x : Nat) : Nat × Bool × Bool × Bool :=
  let neg := x / 2 ^ 31 = 1
  let e := x / 2 ^ 23 % 256
  let frac := x % 2 ^ 23
  let top : Int := 2 ^ (n - 1) - 1
  let bot : Int := -(2 ^ (n - 1))
  if e = 255 ∧ frac ≠ 0 then (if bitOf frac 22 then (0, false, false, true) else (0, false, true, false))
  else if e = 255 then (ofSigned n (if neg then bot else top), true, false, false)
  else
    let mant := if e = 0 then frac else frac + 2 ^ 23
    let ex := (if e = 0 then 1 else e) + f
    let mag := if 150 ≤ ex then mant * 2 ^ (ex - 150) else roundEven mant (2 ^ (150 - ex))
    let v : Int := if neg then -(mag : Int) else mag
    if top < v then (ofSigned n top, true, false, false)
    else if v < bot then (ofSigned n bot, true, false, false)
    else (ofSigned n v, false, false, false)

/-- Bits needed to write a number. -/
def bitLen (x : Nat) : Nat := if x = 0 then 0 else Nat.log2 x + 1

/-- The largest value of a function over the PEs of a mask, below a PE number. -/
def maxOver (mask : Plane) (g : Nat → Nat) : Nat → Nat
  | 0 => 0
  | n + 1 => max (maxOver mask g n) (if mask.getLsbD n then g n else 0)

end Sys2Proof.Machine
end

