-- ==== Sys2Proof/Machine/Memc.lean ====
section
/-! DEFINITION. The far-memory controller (Chapter 18): capacity, checked reads and merges, requests, retraining, MR4,
refresh and the scrub. -/

namespace Sys2Proof.Machine

/-! ### Capacity (R21, R463, R464) -/

/-- Usable capacity in bytes. -/
def State.memcCap (s : State) : Nat := s.fld F.MEMC_CAP * 0x100000

/-- Installed capacity in MiB of a MEMC_CFG word, when the configuration is allowed (R463). -/
def memcInstalled (v : Word) : Option Nat :=
  let dens := getBits v 1 3
  let ranks := getBits v 0 1 + 1
  if 4 ≤ dens ∨ getBits v 8 2 = 3 ∨ getBits v 10 2 = 3 then none
  else
    let mib := 2 * ranks * 256 * 2 ^ dens
    if 4096 < mib then none else some mib

/-- Usable capacity in MiB of a MEMC_CFG word (R21, R464). -/
def memcUsable (v : Word) : Nat :=
  match memcInstalled v with
  | some m => if getBits v 4 1 = 1 then m / 8 * 7 else m
  | none => 0

/-- MEMC performs requests: its domain is ON and the memory is trained (R455, R472). -/
def State.memcReady (s : State) : Bool := s.domOn Dom.memc && s.bit F.MEMC_STAT_TRAINED

/-! ### The physical location of an offset (R465, Table 18-2) -/

/-- A byte's place in the DRAM. -/
structure DramPlace where
  rank : Nat
  channel : Nat
  bank : Nat
  row : Nat
  burst : Nat
  byte : Nat
  deriving DecidableEq, Repr

/-- Rank and in-rank offset of a usable offset under a MEMC_CFG word (R465). -/
def memcRank (cfg : Word) (o : Nat) : Nat × Nat :=
  let span := 2 ^ (29 + getBits cfg 1 3)
  if getBits cfg 0 1 = 0 then (0, o)
  else if getBits cfg 4 1 = 0 then (o / span % 2, o % span + o / (2 * span) * span)
  else (o / (span / 8 * 7), o % (span / 8 * 7))

/-- The place of an in-rank offset (Table 18-2). -/
def memcPlaceIn (rank q : Nat) : DramPlace :=
  { rank := rank, channel := q / 2 ^ 5 % 2, bank := q / 2 ^ 12 % 8, row := q / 2 ^ 15, burst := q / 2 ^ 6 % 64, byte := q % 32 }

/-- The place of a usable offset under a MEMC_CFG word. -/
def memcPlace (cfg : Word) (o : Nat) : DramPlace := let r := memcRank cfg o; memcPlaceIn r.1 r.2

/-- A place as the key of a byte of the store. -/
def DramPlace.key (p : DramPlace) : Nat :=
  p.rank * 2 ^ 32 + p.row * 2 ^ 15 + p.bank * 2 ^ 12 + p.burst * 2 ^ 6 + p.channel * 2 ^ 5 + p.byte

/-- The key of the byte at a usable offset. -/
def State.memcKey (s : State) (o : Nat) : Nat := (memcPlace (s.reg Reg.MEMC_CFG) o).key

/-! ### Errors of stored words (R479, R480) -/

/-- Default of the error map: no bit in error. -/
def noError (_ : Nat) : Nat := 0

/-- Bits in error of the 8-byte word at an offset: 0, 1, or 2 for two or more. -/
def State.memcErr (s : State) (w : Nat) : Nat := SMap.get noError s.memc.errs (s.memcKey w)

/-- Set the errors of a word. -/
def State.memcSetErr (s : State) (w n : Nat) : State :=
  { s with memc := { s.memc with errs := SMap.set noError s.memc.errs (s.memcKey w) n } }

/-- Set the errors of several words. -/
def State.memcSetErrs (s : State) (n : Nat) : List Nat → State
  | [] => s
  | w :: ws => (s.memcSetErr w n).memcSetErrs n ws

/-- The aligned 8-byte words that len bytes from off touch, lowest first. -/
def memcWords (off len : Nat) : List Nat :=
  if len = 0 then [] else (List.range ((off + len - 1) / 8 - off / 8 + 1)).map fun i => (off / 8 + i) * 8

/-- The words of a write that it covers only in part (R468). -/
def memcPartial (off len : Nat) : List Nat := (memcWords off len).filter fun w => w < off || off + len < w + 8

/-- Count and capture the errors of words that MEMC has read, and write corrected words back under SCRUB_WB (R479,
R480). -/
def State.memcJudge (s : State) (ws : List Nat) : State :=
  let ce := ws.filter fun w => s.memcErr w == 1
  let ue := ws.filter fun w => s.memcErr w == 2
  let capture (s : State) (l : List Nat) (cnt ev : Fld) (addr valid : Fld) : State :=
    match l with
    | [] => s
    | w :: _ =>
      let s := (s.addSat cnt l.length).raise ev
      if s.bit valid then s else (s.setFld addr (w / 8)).raise valid
  let s := capture s ce F.MEMC_CE_CNT F.MEMC_STAT_CE_EV F.MEMC_CE_ADDR_ADDR F.MEMC_CE_ADDR_VALID
  let s := capture s ue F.MEMC_UE_CNT F.MEMC_STAT_UE_EV F.MEMC_UE_ADDR_ADDR F.MEMC_UE_ADDR_VALID
  if s.bit F.MEMC_CFG_SCRUB_WB then s.memcSetErrs 0 ce else s

/-- MEMC reads words: whether one is uncorrectable, and the counts. With ECC off nothing is detected. -/
def State.memcCheck (s : State) (ws : List Nat) : Bool × State :=
  if s.bit F.MEMC_CFG_ECC_EN then (ws.any fun w => s.memcErr w == 2, s.memcJudge ws) else (false, s)

/-- What an unlisted byte of far memory reads as, by its location: 0, or a free value in a span of unknown contents (log 5). -/
def memcByte (lost : List (Nat × Nat × Nat)) (a : Nat) : Byte :=
  match lost.find? fun r => decide (r.1 ≤ a) && decide (a < r.2.1) with
  | none => 0
  | some r => Config.freeByte (r.2.2 + (a - r.1))

/-- A stored byte of far memory. -/
def State.memcGet (s : State) (o : Nat) : Byte := SMap.get (memcByte s.memc.lost) s.memc.store (s.memcKey o)

/-- Bytes of far memory. With ECC off, nothing corrects a word whose bits have gone bad: its bytes are free values (R480,
log 5). -/
def State.memcBytes (s : State) (off len : Nat) : List Byte :=
  (List.range len).map fun i =>
    if s.bit F.MEMC_CFG_ECC_EN || s.memcErr ((off + i) / 8 * 8) == 0 then s.memcGet (off + i)
    else Config.freeByte (s.freeCtr + off + i)

/-- The bytes of a span of locations become free values (log 5). -/
def State.memcForget (s : State) (lo len : Nat) : State :=
  { s with freeCtr := s.freeCtr + len
           memc := { s.memc with store := SMap.clear lo (lo + len) s.memc.store, errs := SMap.clear lo (lo + len) s.memc.errs
                                 lost := (lo, lo + len, s.freeCtr) :: s.memc.lost } }

/-- The contents of far memory are lost: every byte is a free value (R688, log 5). -/
def State.memcLose (s : State) : State :=
  { s with freeCtr := s.freeCtr + 2 ^ 33
           memc := { s.memc with store := [], errs := [], lost := [(0, 2 ^ 33, s.freeCtr)] } }

/-- Store bytes at ascending offsets. -/
def State.memcPut (s : State) (off : Nat) : List Byte → State
  | [] => s
  | b :: bs =>
    State.memcPut { s with memc := { s.memc with
      store := SMap.set (memcByte s.memc.lost) s.memc.store (s.memcKey off) b } } (off + 1) bs

/-- Store bytes, leaving the words they touch without error; with ECC off, a word written only in part keeps its bad bits
(R468: the data mask). -/
def State.memcStore (s : State) (off : Nat) (bs : List Byte) : State :=
  let ws := memcWords off bs.length
  let part := memcPartial off bs.length
  let clean := if s.bit F.MEMC_CFG_ECC_EN then ws else ws.filter fun w => !part.contains w
  (s.memcPut off bs).memcSetErrs 0 clean

/-- A READ: the response code and data (R466, R479, R480). -/
def State.memcRead (s : State) (off len : Nat) : RingResp × State :=
  let r := s.memcCheck (memcWords off len)
  let s := r.2.addSat F.MEMC_RD_BYTES len
  if r.1 then ({ code := .poison }, s) else ({ data := s.memcBytes off len }, s)

/-- A WRITE (R468): merge reads of the words covered in part are counted and judged; one uncorrectable performs
nothing. -/
def State.memcWrite (s : State) (off : Nat) (bs : List Byte) : RingResp × State :=
  let p := memcPartial off bs.length
  let r := s.memcCheck p
  let s := r.2
  if r.1 then ({ code := .poison }, s)
  else
    let s := if s.bit F.MEMC_CFG_ECC_EN then s.addSat F.MEMC_RMW_CNT p.length else s
    ({}, (s.memcStore off bs).addSat F.MEMC_WR_BYTES bs.length)

/-- The new value of an atomic operation (Table 12-3, R312): 0 SWAP, 1 AADD, 2 AAND, 3 AOR, 4 AXOR, 5 CAS. -/
def amoValue (op : Nat) (old operand cmp : Word) : Word :=
  if op = 0 then operand
  else if op = 1 then old + operand
  else if op = 2 then old &&& operand
  else if op = 3 then old ||| operand
  else if op = 4 then old ^^^ operand
  else if old = cmp then operand else old

/-- An AMO on one aligned word (R467, R468): it answers the old value. -/
def State.memcAmo (s : State) (op off : Nat) (operand cmp : Word) : RingResp × State :=
  let r := s.memcCheck [off / 8 * 8]
  let s := r.2
  if r.1 then ({ code := .poison }, s)
  else
    let old := s.memcBytes off 4
    let new := amoValue op (BitVec.ofNat 32 (ofLeBytes old)) operand cmp
    let s := (s.memcStore off (leBytes new.toNat 4)).addSat F.MEMC_RD_BYTES 4
    ({ data := old }, s.addSat F.MEMC_WR_BYTES 4)

/-- A request at a usable offset (R21, R433, R466). -/
def State.memcPerform (s : State) (q : RingReq) : RingResp × State :=
  if !s.memcReady then ({ code := .poweredDown }, s)
  else if s.memcCap < q.off + q.len ∨ 128 < q.off % 128 + q.len then ({ code := .decode }, s)
  else
    match q.kind with
    | .read => s.memcRead q.off q.len
    | .write => s.memcWrite q.off (q.data.take q.len)
    | .amo op =>
      if q.off % 4 ≠ 0 ∨ 6 ≤ op.toNat then ({ code := .decode }, s)
      else s.memcAmo op.toNat q.off (BitVec.ofNat 32 (ofLeBytes (q.data.take 4))) q.cmp

/-- Words go bad: each (word, bits) pair adds bits in error, two or more counting as two. -/
def State.memcFlip (s : State) : List (Nat × Nat) → State
  | [] => s
  | (w, n) :: fs =>
    let a := w / 8 * 8
    (s.memcSetErr a (min 2 (s.memcErr a + n))).memcFlip fs

/-! ### Time-driven passes -/

/-- MEMC_RETRAIN: one retraining pass measures drift on each channel and rank, and holds requests for `held` SCLK
(R473). The second rank's figures are ignored with one rank. -/
def execMemcRetrain (a0 a1 b0 b1 : Byte) (held : Nat) (s : State) : Host.Outcome State Fault Refusal :=
  if s.memcReady then
    let two := s.fld F.MEMC_CFG_RANKS = 1
    let thr := s.fld F.MEMC_RETRAIN_DRIFT_THR
    let tooFar (x : Byte) : Bool := decide (thr < x.toNat)
    let s := s.setFld F.MEMC_DRIFT_CH_A (if two then a1.toNat else a0.toNat)
    let s := s.setFld F.MEMC_DRIFT_CH_B (if two then b1.toNat else b0.toNat)
    let s := s.raiseIf (tooFar a0 || tooFar b0 || (two && (tooFar a1 || tooFar b1))) F.MEMC_ERR_DRIFT
    .next (s.addSat F.MEMC_HOLD_CYC held)
  else .next s

/-- MEMC_MR4_POLL: MEMC reads MR4; a reading above the limit sets HOT and raises a supervisor warning (R474). -/
def execMemcMr4Poll (hot : Bool) (s : State) : Host.Outcome State Fault Refusal :=
  if s.memcReady then
    let s1 := s.setFld F.MEMC_STAT_HOT (b2n hot)
    .next (if hot && !s.bit F.MEMC_STAT_HOT then s1.warn 1 [] else s1)
  else .next s

/-- MEMC_REFRESH: a per-bank refresh; it changes nothing that a program or the host can see (R474). -/
def execMemcRefresh (s : State) : Host.Outcome State Fault Refusal := .next s

/-- MEMC_SCRUB: the next 256-byte block is read, counted, and its correctable words are written back (R480). -/
def execMemcScrub (s : State) : Host.Outcome State Fault Refusal :=
  if s.memcReady && s.fld F.MEMC_SCRUB_PER != 0 && s.memcCap != 0 then
    let off := s.memc.scrub * 256
    let ws := memcWords off 256
    let ce := ws.filter fun w => s.memcErr w == 1
    let ue := ws.any fun w => s.memcErr w == 2
    let s1 := if s.bit F.MEMC_CFG_ECC_EN then (s.memcJudge ws) else s
    let s2 := if s.bit F.MEMC_CFG_ECC_EN && !ue then s1.memcSetErrs 0 ce else s1
    .next { s2 with memc := { s2.memc with scrub := (s.memc.scrub + 1) % (s.memcCap / 256) } }
  else .next s

end Sys2Proof.Machine
end

