-- ==== Sys2Proof/Machine/Tally.lean ====
section
/-! DEFINITION. Tally (Chapter 11): the plane map, moves between the levels, replacement and pins, page-in of a footprint,
the commands, deterministic mode, and far moves. -/

namespace Sys2Proof.Machine

/-! ### The map and the slots (R265, R287) -/

/-- Default entry of the map: ZERO. -/
def zeroEnt (_ : Nat) : PlaneEnt := {}

/-- The map entry of a plane. -/
def State.ent (s : State) (v : Nat) : PlaneEnt := SMap.get zeroEnt s.tly.map v

/-- Set the map entry of a plane. -/
def State.setEnt (s : State) (v : Nat) (e : PlaneEnt) : State :=
  { s with tly := { s.tly with map := SMap.set zeroEnt s.tly.map v e } }

/-- The planes at a level, with their entries, in ascending order. -/
def State.atLevel (s : State) (l : PlaneLevel) : List (Nat × PlaneEnt) := s.tly.map.filter fun p => p.2.level == l

/-- Bench slots in use. -/
def State.benchUsed (s : State) : List Nat := (s.atLevel .bench).map fun p => p.2.slot

/-- Yard slots in use: planes at YARD and far reads in flight. -/
def State.yardUsed (s : State) : List Nat :=
  (s.atLevel .yard).map (fun p => p.2.slot) ++ (s.tly.moves.filter fun m => !m.toFar).map fun m => m.slot

/-- The lowest slot below n that is not in use. -/
def freeSlot (n : Nat) (used : List Nat) : Option Nat := (List.range n).find? fun k => !used.contains k

/-- Tally may issue far moves (R268, R285). -/
def State.farOk (s : State) : Bool := s.bit F.TLY_CFG_FAR_EN && !s.bit F.TLY_CFG_MODE

/-- The plane of a list that was used least recently, the lowest plane first among equals (R275). -/
def lruPlane : List (Nat × PlaneEnt) → Option (Nat × PlaneEnt)
  | [] => none
  | p :: ps =>
    match lruPlane ps with
    | none => some p
    | some q => if q.2.used < p.2.used then some q else some p

/-- A macro-op meets page-in stall: one waits at the head and could have started, or a LOADL is in transfer (R274, R278). -/
def State.stalls (s : State) : Bool :=
  match s.trs.exec with
  | none => !s.trs.queue.isEmpty
  | some x => x.burst.isSome

/-- Page-in stall in ACLK (R274). -/
def State.addStall (s : State) (n : Nat) : State :=
  if s.stalls then (s.addSat F.TLY_STALL_FRAME n).addSat F.TLY_STALL_TOTAL n else s

/-- Page-in stall in ACLK that fell before the last frame end (R274). -/
def State.addStallBefore (s : State) (n : Nat) : State :=
  if s.stalls then (s.addSat F.TLY_STALL_LAST n).addSat F.TLY_STALL_TOTAL n else s

/-! ### Moves (R269, R272, R273, R275) -/

/-- Offset of a plane's far page (R266). -/
def State.farPage (s : State) (v : Nat) : Nat := s.fld F.TLY_FAR_BASE_BASE * 2 ^ 27 + v * 0x800

/-- Put requests into the client bridge of a stop (R442). -/
def State.bridgePush (s : State) (stop : Fin 16) (qs : List RingReq) : State :=
  { s with ni := s.ni.set stop { s.ni[stop] with bridge := s.ni[stop].bridge ++ qs } }

/-- The sixteen 128-byte packets of a far move, in class BULK and blocking (R281, R291, Table 18-1). -/
def farPackets (id off : Nat) (toFar : Bool) (bytes : List Byte) : List RingReq :=
  (List.range 16).map fun i =>
    { src := 2, dst := 3, cls := .bulk, kind := if toFar then .write else .read, off := off + 128 * i, len := 128
      data := (bytes.drop (128 * i)).take 128, client := .tally id i }

/-- A far read or write is issued: the plane is MOVING, and its packets go to Tally's NI (R273, R287). -/
def State.farIssue (s : State) (v slot : Nat) (toFar : Bool) : State :=
  let s := s.setEnt v { s.ent v with moving := true }
  let mv := s.tly.mv.filter (·.1 != v)
  let bytes := if toFar then leBytes (s.plane v).toNat 2048 else []
  let id := s.tly.moveId
  let m : FarMove := { id := id, plane := v, toFar := toFar, slot := slot }
  State.bridgePush { s with tly := { s.tly with moves := s.tly.moves ++ [m], moveId := id + 1, mv := mv } } 2
    (farPackets id (s.farPage v) toFar bytes)

/-- What a search for a slot found. -/
inductive Room where
  | slot (k : Nat)
  | wait
  | none
  deriving DecidableEq, Repr

/-- One more yard slot is waited for, by the command or by the head's page-in. -/
def State.yardWait (s : State) (cmd : Bool) : Room × State :=
  (.wait, { s with tly := if cmd then { s.tly with cmdWaits := s.tly.cmdWaits + 1 }
                          else { s.tly with headWaits := s.tly.headWaits + 1 } })

/-- A yard slot: a free one, or one to wait for while an unpinned plane goes to the far store (R275). A write-back in flight
serves the first waits; each further one evicts a plane of its own. -/
def State.yardRoom (s : State) (keep : List Nat) (cmd : Bool) : Room × State :=
  match freeSlot 4096 s.yardUsed with
  | some k => (.slot k, s)
  | none =>
    if s.farOk then
      if s.tly.headWaits + s.tly.cmdWaits < s.tly.moves.countP (·.toFar) ∨ 64 ≤ s.tly.moves.length then s.yardWait cmd
      else
        let c := (s.atLevel .yard).filter fun p => !p.2.moving && !p.2.pinB && !p.2.pinY
        match lruPlane (c.filter fun p => !keep.contains p.1) with
        | some (v, e) => (s.farIssue v e.slot true).yardWait cmd
        | none => if s.tly.moves.isEmpty then (.none, s) else s.yardWait cmd
    else (.none, s)

/-- A far read of a plane is issued when a yard slot and a place among the 64 moves are free (R273). -/
def State.farRead (s : State) (v : Nat) (keep : List Nat) (cmd : Bool) : Room × State :=
  match s.yardRoom keep cmd with
  | (.slot k, s') => if s'.tly.moves.length < 64 then (.slot k, s'.farIssue v k false) else (.wait, s')
  | r => r

/-- A bench move of a plane is issued: from its level and slot to a slot of another level, in 1 or 2 ACLK (R272, R287,
Table 11-1). -/
def State.benchMove (s : State) (v : Nat) (e : PlaneEnt) (l : PlaneLevel) (k : Nat) : State :=
  let s := (s.setEnt v { e with level := l, slot := k }).addStall (if e.level = .zero then 1 else 2)
  { s with tly := { s.tly with mv := some (v, e.level, e.slot) } }

/-- The bench move that was issued last has ended. -/
def State.benchSettle (s : State) : State := { s with tly := { s.tly with mv := none } }

/-- One plane leaves the bench for the yard: the given one when no unpinned plane can (R275, R277). -/
def State.benchEvict (s : State) (keep forced : List Nat) (cmd : Bool) : Room × State :=
  let c := (s.atLevel .bench).filter fun p => !p.2.pinB && !keep.contains p.1
  let victim := match lruPlane c with
    | some p => some p
    | none => (s.atLevel .bench).find? fun p => forced.contains p.1
  match victim with
  | none => (.none, s)
  | some (v, e) =>
    match s.yardRoom keep cmd with
    | (.slot k, s') => (.slot e.slot, s'.benchMove v e .yard k)
    | r => r

/-- A bench slot for a command: a free one, or the slot of a plane that leaves. -/
def State.benchRoom (s : State) (keep : List Nat) : Room × State :=
  match freeSlot 256 s.benchUsed with
  | some k => (.slot k, s)
  | none => s.benchEvict keep [] true

/-- A ZERO or YARD plane is filled into a bench slot (Table 11-1). -/
def State.benchFill (s : State) (v k : Nat) : State := s.benchMove v (s.ent v) .bench k

/-! ### The working set (R282, R284) -/

/-- The enabled entries of the working set: start, count, BENCH. -/
def State.wsEntries (s : State) : List (Nat × Nat × Bool) :=
  ((List.range 16).filter fun i => s.bit (F.TLY_WSi_A_EN i)).map fun i =>
    (s.fld (F.TLY_WSi_A_START i), s.fld (F.TLY_WSi_B_COUNT i), s.bit (F.TLY_WSi_A_LEVEL i))

/-- A plane is in the working set. -/
def State.inWs (s : State) (v : Nat) : Bool := s.wsEntries.any fun e => decide (e.1 ≤ v) && decide (v < e.1 + e.2.1)

/-- A plane is in the working set at BENCH level. -/
def State.wsBench (s : State) (v : Nat) : Bool :=
  s.wsEntries.any fun e => decide (e.1 ≤ v) && decide (v < e.1 + e.2.1) && e.2.2

/-! ### Paging a footprint in (R271 to R277, R284, R292) -/

/-- How the page-in of a footprint stands. -/
inductive PageRes where
  | ready
  | wait
  | miss (v : Nat)
  | poison
  deriving DecidableEq, Repr

/-- A SPILL under way has still to move the plane (R280). -/
def State.spilling (s : State) (v : Nat) : Bool :=
  match s.tly.cmd with
  | some c => c.acted && c.op == 5 && c.todo.contains v
  | none => false

/-- The far read of one plane of a footprint: none where the plane needs none or its read is issued, or the plane itself
where its read must wait. -/
def State.pageRead (s : State) (keep : List Nat) (v : Nat) : Option Nat × State :=
  let e := s.ent v
  if e.level = .far ∧ !e.moving ∧ !(e.poison && s.bit F.TLY_CFG_FAR_EN) then
    if s.farOk then
      match s.farRead v keep false with
      | (.none, s') => (some v, s')
      | (_, s') => (none, s')
    else (some v, s)
  else (none, s)

/-- The far reads of a list of planes, up to the first that must wait. -/
def State.pageReadList (keep : List Nat) : List Nat → State → Option Nat × State
  | [], s => (none, s)
  | v :: vs, s =>
    match s.pageRead keep v with
    | (some w, s') => (some w, s')
    | (none, s') => State.pageReadList keep vs s'

/-- Far reads of the FAR planes of a footprint (R273); a plane that no far read can bring is missed, a poisoned one too
while FAR_EN is clear (R238, R268, R284). -/
def State.pageReads (s : State) (keep fp : List Nat) : Option Nat × State := State.pageReadList keep fp s

/-- Planes leave the bench until n slots are free (R271 step 1). -/
def State.pageEvict (s : State) (keep forced : List Nat) (n : Nat) : Nat → Room × State
  | 0 => (.slot 0, s)
  | fuel + 1 =>
    if n ≤ 256 - s.benchUsed.length then (.slot 0, s)
    else
      match s.benchEvict keep forced false with
      | (.slot _, s') => s'.pageEvict keep forced n fuel
      | r => r

/-- The planes of a footprint are filled in ascending order (R271 step 2); a plane in a far move, or due for one of a SPILL,
is waited for (R280). -/
def State.pageFill (s : State) : List Nat → Bool × State
  | [] => (true, s)
  | v :: vs =>
    let e := s.ent v
    if e.level = .bench ∨ e.poison then s.pageFill vs
    else if e.moving ∨ e.level = .far ∨ s.spilling v then (false, s)
    else
      match freeSlot 256 s.benchUsed with
      | some k => (s.benchFill v k).pageFill vs
      | none => (false, s)

/-- Insert a number in an ascending list without repeats. -/
def insertAsc (v : Nat) : List Nat → List Nat
  | [] => [v]
  | x :: xs => if v < x then v :: x :: xs else if v = x then x :: xs else x :: insertAsc v xs

/-- PIN_B planes outside a footprint: those at BENCH, and those overridden before (R277). -/
def State.pinsOutside (s : State) (fp : List Nat) : List Nat :=
  (((s.atLevel .bench).map (·.1)) ++ s.tly.overridden ++ s.tly.ovrNext).foldl (fun acc v =>
    let e := s.ent v
    if e.pinB && !fp.contains v && (e.level == .bench || e.level == .yard) then insertAsc v acc else acc) []

/-- The page-in ends: the planes that gave way return before the next macro-op. A plane that gave way to the macro-op before
too has returned and left again, in 2 ACLK each (R277, Table 11-4); not so within one macro-op. -/
def State.pageDone (s : State) (out : List Nat) (again : Bool) : State :=
  let twice := out.countP fun v => s.tly.overridden.contains v
  let s := if again then s else s.addStall (4 * twice)
  { s with tly := { s.tly with overridden := out, ovrNext := [] } }

/-- The page-in fails: every plane that gave way is still to return (R277). -/
def State.pageFailed (s : State) : State :=
  { s with tly := { s.tly with overridden := s.tly.ovrNext.foldl (fun acc v => insertAsc v acc) s.tly.overridden
                               ovrNext := [] } }

/-- The first plane of a footprint that found no bench slot, in ascending order (R268, R284). -/
def State.unplaced (s : State) (target fp : List Nat) : Nat :=
  let free := 256 - s.benchUsed.length
  let need := target.filter fun v => (s.ent v).level != .bench && !(s.ent v).poison
  (((need.drop free).find? fp.contains).getD ((need.find? fp.contains).getD 0))

/-- Page a footprint in, as far as it can go now (R271, R277); `again`: a later line of the LOADL in transfer (R278). Where no
far move may help, a page-in that cannot be completed moves nothing (R268, R284). -/
def State.pageIn (s : State) (fp : List Nat) (again : Bool) : PageRes × State :=
  let s0 := s
  let pins := s.pinsOutside fp
  let excess := fp.length + pins.length - 256
  let out := pins.take excess
  let target := (pins.drop excess).foldl (fun acc v => insertAsc v acc) fp
  let s := { s with tly := { s.tly with fp := fp, headWaits := 0, ovrNext := out } }
  match s.pageReads target fp with
  | (some v, s) => (.miss v, s.pageFailed)
  | (none, s) =>
    let need := target.countP fun v => (s.ent v).level != .bench && !(s.ent v).poison
    match s.pageEvict target out need 512 with
    | (.none, s) => (.miss (s.unplaced target fp), if s0.farOk then s.pageFailed else s0)
    | (.wait, s) => (.wait, s)
    | (.slot _, s) =>
      let s := s.raiseIf (!out.isEmpty) F.TLY_STAT_PIN_OVR
      match s.pageFill target with
      | (false, s) => (.wait, s)
      | (true, s) => if fp.any fun v => (s.ent v).poison then (.poison, s.pageFailed) else (.ready, s.pageDone out again)

/-- A recency is given to planes: they have been used by this macro-op or command (R275). -/
def State.touchAt (s : State) (c : Nat) (fp : List Nat) : State :=
  fp.foldl (fun s v => if (s.ent v).level = .zero then s else s.setEnt v { s.ent v with used := c }) s

/-- The planes of a footprint have been used by this macro-op or command (R275). -/
def State.touch (s : State) (fp : List Nat) : State :=
  let c := s.tly.clock
  let s := s.touchAt c fp
  { s with tly := { s.tly with clock := c + 1 } }

/-- A miss is counted and captured (R268, R284). -/
def State.tlyMiss (s : State) (v : Nat) : State :=
  let s := s.inc F.TLY_MISS_CNT
  if s.bit F.TLY_MISS_PLANE_VALID then s else (s.setFld F.TLY_MISS_PLANE_PLANE v).raise F.TLY_MISS_PLANE_VALID

/-- The look ahead at one plane of a footprint: a far read where there is room for it. -/
def State.lookaheadPlane (s : State) (v : Nat) : State :=
  let e := s.ent v
  if s.farOk ∧ e.level = .far ∧ !e.poison ∧ !e.moving ∧ s.tly.moves.length < 64 ∧ 64 < 4096 - s.yardUsed.length then
    match freeSlot 4096 s.yardUsed with
    | some k => s.farIssue v k false
    | none => s
  else s

/-- Far reads for a waiting entry's planes under LOOKAHEAD (R273). -/
def State.lookahead (s : State) (fp : List Nat) : State := fp.foldl State.lookaheadPlane s

/-! ### Commands (R276, R279 to R282, R286) -/

/-- Planes with a PIN_B pin, and with either pin (R276). -/
def State.pinCounts (s : State) : Nat × Nat :=
  (s.tly.map.countP fun p => p.2.pinB, s.tly.map.countP fun p => p.2.pinB || p.2.pinY)

/-- Remove a plane's copies and pins and set its level and recency (ADOPT, DISCARD). -/
def State.dropPlane (s : State) (v : Nat) (l : PlaneLevel) (used : Nat) : State :=
  (s.setPlane v 0).setEnt v { level := l, used := used }

/-- A SPILL on one plane at BENCH or YARD: its pins go, a BENCH plane moves to the yard, and the write-back is issued when
there is a place for it. -/
def State.spillPlane (s : State) (v : Nat) (keep : List Nat) : State :=
  let e : PlaneEnt := { s.ent v with pinB := false, pinY := false, used := s.tly.clock }
  let out (s : State) (k : Nat) : State := if s.tly.moves.length < 64 then s.farIssue v k true else s
  if e.level = .bench then
    match s.yardRoom keep true with
    | (.slot k, s) => out (s.benchMove v e .yard k) k
    | (_, s) => s
  else out (s.setEnt v e) e.slot

/-- One step of a command on one plane: whether the plane is finished, whether it counts as processed, and the result
code it gives. The current footprint and the plane itself are not evicted for it (R275). -/
def State.tlyPlane (s : State) (op v : Nat) : Bool × Bool × Nat × State :=
  let e := s.ent v
  let c := s.tly.clock
  let used := if e.level = .zero then e.used else c
  let keep := v :: s.tly.fp
  let far := s.bit F.TLY_CFG_FAR_EN
  if e.moving then (false, false, 0, s)
  else if op = 3 then (true, true, 0, s.setEnt v { e with pinB := false, pinY := false, used := used })
  else if op = 7 then (true, true, 0, s.dropPlane v .zero 0)
  else if op = 6 then (if far then (true, true, 0, s.dropPlane v .far c) else (true, false, 5, s))
  else if op = 5 then
    if e.level = .bench ∨ e.level = .yard then
      (if far then (false, false, 0, s.spillPlane v keep) else (true, false, 5, s))
    else (true, true, 0, s.setEnt v { e with pinB := false, pinY := false, used := used })
  else if e.level = .far then
    if !far then (true, false, 5, s)
    else if e.poison then (true, false, 2, s)
    else
      match s.farRead v keep true with
      | (.none, s) => (true, false, 5, s)
      | (_, s) => (false, false, 0, s)
  else if op = 1 ∨ (op = 8 ∧ s.wsBench v) then
    if e.level = .bench then (true, true, 0, s.setEnt v { e with pinB := true, used := c })
    else
      match s.benchRoom keep with
      | (.slot k, s) =>
        let s := s.benchFill v k
        (true, true, 0, s.setEnt v { s.ent v with pinB := true, used := c })
      | (.none, s) => (true, false, 5, s)
      | (.wait, s) => (false, false, 0, s)
  else if op = 8 ∧ e.level = .zero then
    match s.yardRoom keep true with
    | (.slot k, s) => (true, true, 0, s.setEnt v { e with level := .yard, slot := k, pinY := true, used := c })
    | (.none, s) => (true, false, 5, s)
    | (.wait, s) => (false, false, 0, s)
  else if op = 4 then (true, true, 0, s.setEnt v { e with used := used })
  else (true, true, 0, s.setEnt v { e with pinY := true, used := used })

/-- One pass of the command over its unfinished planes. -/
def State.tlyPass (s : State) (op : Nat) : List Nat → List Nat × Nat × Nat × State
  | [] => ([], 0, 0, s)
  | v :: vs =>
    let (fin, did, res, s) := s.tlyPlane op v
    let (left, n, r, s) := s.tlyPass op vs
    (if fin then left else v :: left, n + b2n did, if res = 0 then r else res, s)

/-- The command ends: CMD_BUSY clears, CMD_DONE sets, the result shows (R280). -/
def State.tlyEnd (s : State) (op res done : Nat) : State :=
  let s := { s with tly := { s.tly with cmd := none, clock := s.tly.clock + 1, cmdWaits := 0, mv := none
                                        staged := if op = 8 && res == 0 then true else s.tly.staged } }
  let s := (s.setFld F.TLY_CMD_RESULT_RESULT res).setFld F.TLY_CMD_RESULT_DONE_PLANES done
  (s.setFld F.TLY_STAT_STAGED (b2n s.tly.staged)).setFld F.TLY_STAT_CMD_BUSY 0 |>.raise F.TLY_STAT_CMD_DONE

/-- The command goes on as far as it can. -/
def State.tlyWork (s : State) : State :=
  match s.tly.cmd with
  | none => s
  | some c =>
    if !c.acted then s
    else
      let (left, n, r, s) := State.tlyPass { s with tly := { s.tly with cmdWaits := 0 } } c.op c.todo
      let res := if c.result = 0 then r else c.result
      if left.isEmpty then s.tlyEnd c.op res (c.done + n)
      else { s with tly := { s.tly with cmd := some { c with todo := left, done := c.done + n, result := res } } }

/-- Planes of the working set, in ascending order. -/
def State.wsPlanes (s : State) : List Nat := (List.range 65536).filter s.inWs

/-- The planes of a command. -/
def TallyCmd.planes (c : TallyCmd) : List Nat := (List.range c.count).map fun i => c.start + i

/-- The pin limits hold after the command (R276, R282). -/
def State.pinsFit (s : State) (op : Nat) (vs : List Nat) : Bool :=
  let newB := vs.countP fun v => (op == 1 || (op == 8 && s.wsBench v)) && !(s.ent v).pinB
  let newP := vs.countP fun v => !(s.ent v).pinB && !(s.ent v).pinY
  let (b, p) := s.pinCounts
  decide (b + newB ≤ 224) && decide (p + newP ≤ 4032)

/-- The bench and yard slots that a STAGE needs, from the free slots of each, are there: a plane that comes to a full bench
sends another to the yard (R268, R275, R282). -/
def State.stageRoom (s : State) : Nat → Nat → List Nat → Bool
  | _, _, [] => true
  | b, y, v :: vs =>
    let l := (s.ent v).level
    if s.wsBench v && l != .bench then
      if b = 0 ∧ y = 0 then false
      else s.stageRoom (b - 1) ((if b = 0 then y - 1 else y) + b2n (l == .yard)) vs
    else if !s.wsBench v && l == .zero then (if y = 0 then false else s.stageRoom b (y - 1) vs)
    else s.stageRoom b y vs

/-- A STAGE would need a far move: for a FAR plane of the working set, or to make room in the yard (R268). -/
def State.stageFar (s : State) (vs : List Nat) : Bool :=
  (vs.any fun v => (s.ent v).level == .far) || !s.stageRoom (256 - s.benchUsed.length) (4096 - s.yardUsed.length) vs

/-- The command reaches its macro-op boundary (R280): what is refused whole ends at once, anything else acts. -/
def State.tlyAct (s : State) (c : TallyCmd) : State :=
  if s.bit F.TLY_CFG_MODE then s.tlyEnd c.op 3 0
  else if c.op = 0 ∨ 8 < c.op ∨ (c.op ≠ 8 ∧ 65536 < c.start + c.count) then s.tlyEnd c.op 4 0
  else if c.op = 8 ∧ (s.wsEntries.any fun e => decide (65536 < e.1 + e.2.1)) then
    (s.raise F.TLY_ERR_WS).tlyEnd c.op 4 0
  else
    let vs := if c.op = 8 then s.wsPlanes else c.planes
    let pins := c.op = 1 ∨ c.op = 2 ∨ c.op = 8
    if pins ∧ !s.pinsFit c.op vs then
      (s.raiseIf (c.op == 8) F.TLY_ERR_WS).tlyEnd c.op 1 0
    else if c.op = 8 ∧ !s.bit F.TLY_CFG_FAR_EN ∧ s.stageFar vs then s.tlyEnd c.op 5 0
    else
      State.tlyWork { s with tly := { s.tly with cmd := some { c with acted := true, todo := vs } } }

/-- The next macro-op waits for the command: bench moves of it are due (R280). -/
def State.tlyHolds (s : State) : Bool :=
  match s.tly.cmd with
  | none => false
  | some c => c.acted && (c.op == 1 || c.op == 8 || (c.op == 5 && c.todo.any fun v => (s.ent v).level == .bench))

/-- No page-in begins: the command acts first, at this boundary, or bench moves of it are due (R280). -/
def State.tlyBlocks (s : State) : Bool := s.tlyHolds || (match s.tly.cmd with | some c => !c.acted | none => false)

/-- A write of TLY_CMD with an OP (R279); any command clears STAGED (R282). -/
def State.writeTlyCmd (s : State) (op : Nat) : State :=
  if s.tly.cmd.isSome then s.raise F.TLY_ERR_CMD_BUSY
  else
    let c : TallyCmd := { op := op, start := s.fld F.TLY_CMD_ARG_START, count := s.fld F.TLY_CMD_ARG_COUNTM1 + 1 }
    let s : State := { s with tly := { s.tly with cmd := some c, staged := false } }
    (s.setFld F.TLY_STAT_STAGED 0).raise F.TLY_STAT_CMD_BUSY

/-- A Tally command register write acts while the TALLY domain is ON. -/
def State.tlyCommand (s : State) (op : Nat) : State := if s.domOn Dom.tally then s.writeTlyCmd op else s

/-- TLY_PIN_B. -/
def execTlyPinB (s : State) : Host.Outcome State Fault Refusal := .next (s.tlyCommand 1)

/-- TLY_PIN_Y. -/
def execTlyPinY (s : State) : Host.Outcome State Fault Refusal := .next (s.tlyCommand 2)

/-- TLY_UNPIN. -/
def execTlyUnpin (s : State) : Host.Outcome State Fault Refusal := .next (s.tlyCommand 3)

/-- TLY_PREFETCH. -/
def execTlyPrefetch (s : State) : Host.Outcome State Fault Refusal := .next (s.tlyCommand 4)

/-- TLY_SPILL. -/
def execTlySpill (s : State) : Host.Outcome State Fault Refusal := .next (s.tlyCommand 5)

/-- TLY_ADOPT. -/
def execTlyAdopt (s : State) : Host.Outcome State Fault Refusal := .next (s.tlyCommand 6)

/-- TLY_DISCARD. -/
def execTlyDiscard (s : State) : Host.Outcome State Fault Refusal := .next (s.tlyCommand 7)

/-- TLY_STAGE. -/
def execTlyStage (s : State) : Host.Outcome State Fault Refusal := .next (s.tlyCommand 8)

/-! ### Configuration (R267, R268, R282, R283) -/

/-- The Truss queue is empty, no macro-op is executing and no move is in flight. -/
def State.tlyIdle (s : State) : Bool := s.trs.queue.isEmpty && s.trs.exec.isNone && s.tly.moves.isEmpty

/-- A write of TLY_CFG (R268, R283; LOOKAHEAD above 4 under R11). -/
def State.writeTlyCfg (s : State) (v : Word) : State :=
  let mode := bitOf v.toNat 0
  let far := bitOf v.toNat 1
  let was := s.bit F.TLY_CFG_MODE
  let modeCh := mode != was
  let farCh := far != s.bit F.TLY_CFG_FAR_EN
  if 4 < getBits v 4 3 then s
  else if ((modeCh || farCh) && !s.tlyIdle) || (modeCh && mode && !s.tly.staged) || (modeCh && was && !far) then
    s.raise F.TLY_ERR_CFG
  else s.setReg Reg.TLY_CFG (v &&& 0x73)

/-- TLY_CFG_WRITE. -/
def execTlyCfgWrite (v : Word) (s : State) : Host.Outcome State Fault Refusal :=
  if s.domOn Dom.tally then .next (s.writeTlyCfg v) else .next s

/-- A write of TLY_FAR_BASE (R267). -/
def State.writeTlyFarBase (s : State) (v : Word) : State :=
  let b := getBits v 27 5
  if s.mode = .setup ∧ !s.bit F.TLY_CFG_FAR_EN ∧ (b + 1) * 2 ^ 27 ≤ s.memcCap then s.setFld F.TLY_FAR_BASE_BASE b
  else s.raise F.TLY_ERR_FAR_RANGE

/-- TLY_FAR_BASE_WRITE. -/
def execTlyFarBaseWrite (v : Word) (s : State) : Host.Outcome State Fault Refusal :=
  if s.domOn Dom.tally then .next (s.writeTlyFarBase v) else .next s

/-- A write of a working-set register, A or B of entry i (R282; COUNT outside 1 to 4,096 under R11). -/
def State.writeTlyWs (s : State) (i : Nat) (b : Bool) (v : Word) : State :=
  if b ∧ (getBits v 0 13 = 0 ∨ 4096 < getBits v 0 13) then s
  else
    let s := if b then s.setReg (Reg.TLY_WSi_B i) (v &&& 0x1FFF) else s.setReg (Reg.TLY_WSi_A i) (v &&& 0x8001FFFF)
    State.setFld { s with tly := { s.tly with staged := false } } F.TLY_STAT_STAGED 0

/-- TLY_WS_WRITE. -/
def execTlyWsWrite (i : Fin 16) (b : Bool) (v : Word) (s : State) : Host.Outcome State Fault Refusal :=
  if s.domOn Dom.tally then .next (s.writeTlyWs i b v) else .next s

/-! ### The end of a far move (R269, R281, R287, R291) -/

/-- A packet of a far move is answered; an answer to an abandoned move does nothing. -/
def State.farPacket (s : State) (id i : Nat) (r : RingResp) : State :=
  let upd (m : FarMove) : FarMove :=
    if m.id = id then
      { m with left := m.left - 1, code := if m.code = .ok then r.code else m.code
               data := if m.toFar then m.data else (i, r.data) :: m.data }
    else m
  { s with tly := { s.tly with moves := s.tly.moves.map upd } }

/-- The plane that the packets of a far read carry; the bits of unpowered tiles are not written (R269). -/
def State.farPlane (s : State) (m : FarMove) : Plane :=
  let v := (List.range 16).foldl (fun v i =>
    v + ofLeBytes ((m.data.lookup i).getD []) * 2 ^ (1024 * i)) 0
  BitVec.ofNat 16384 v &&& s.tileMask

/-- The write-back of a plane that a SPILL still waits for failed: the command will end POISONED (R280, Table 11-6). -/
def State.spillFailed (s : State) (v : Nat) : State :=
  match s.tly.cmd with
  | some c =>
    if c.acted && c.op == 5 && c.result == 0 && c.todo.contains v then
      { s with tly := { s.tly with cmd := some { c with result := 2 } } }
    else s
  | none => s

/-- A far move aborts: the plane is FAR with POISON, its yard slot is free (R291). -/
def State.farAbort (s : State) (m : FarMove) (code : RespCode) : State :=
  let s := s.spillFailed m.plane
  let e := s.ent m.plane
  let s := (s.setPlane m.plane 0).setEnt m.plane { e with level := .far, slot := 0, moving := false, poison := true }
  let s := s.inc F.TLY_POISON_CNT
  if s.bit F.TLY_POISON_PLANE_VALID then s
  else
    ((s.setFld F.TLY_POISON_PLANE_PLANE m.plane).setFld F.TLY_POISON_PLANE_CAUSE (respCode code)).raise
      F.TLY_POISON_PLANE_VALID

/-- The oldest far move in flight, its packets all answered, ends (R272, R287). -/
def State.farDone (s : State) : State :=
  match s.tly.moves with
  | [] => s
  | m :: ms =>
    let s := { s with tly := { s.tly with moves := ms } }
    let e := s.ent m.plane
    if m.code ≠ .ok then s.farAbort m m.code
    else if m.toFar then (s.setPlane m.plane 0).setEnt m.plane { e with level := .far, slot := 0, moving := false }
    else (s.setPlane m.plane (s.farPlane m)).setEnt m.plane { e with level := .yard, slot := m.slot, moving := false }

/-! ### Views (R287, R293) -/

/-- The bench move in progress takes part in a level: it comes from it, or its plane now stands there. -/
def State.mvAt (s : State) (l : PlaneLevel) : Nat :=
  match s.tly.mv with
  | some (v, src, _) => b2n (src == l || (s.ent v).level == l)
  | none => 0

/-- The plane of the bench move in progress now stands at a level, so that it is not HELD there yet. -/
def State.mvInto (s : State) (l : PlaneLevel) : Nat :=
  match s.tly.mv with
  | some (v, _, _) => b2n ((s.ent v).level == l)
  | none => 0

/-- The three counts of the bench: FREE, HELD, MOVING. -/
def State.benchBal (s : State) : Nat × Nat × Nat :=
  let held := s.benchUsed.length - s.mvInto .bench
  let moving := s.mvAt .bench
  (256 - held - moving, held, moving)

/-- The three counts of the yard: FREE, HELD, MOVING. -/
def State.yardBal (s : State) : Nat × Nat × Nat :=
  let held := ((s.atLevel .yard).countP fun p => !p.2.moving) - s.mvInto .yard
  let moving := s.tly.moves.length + s.mvAt .yard
  (4096 - held - moving, held, moving)

/-- The four counts of the far store: FREE, HELD, MOVING, POISON. -/
def State.farBal (s : State) : Nat × Nat × Nat × Nat :=
  let far := (s.atLevel .far).filter fun p => !p.2.moving
  let poison := far.countP fun p => p.2.poison
  let held := far.length - poison
  let moving := s.tly.moves.length
  (65536 - held - moving - poison, held, moving, poison)

/-- TLY_MAP_ENT for a plane. -/
def State.viewMapEnt (s : State) (v : Nat) : Nat :=
  let e : PlaneEnt := match s.tly.mv with
    | some (p, src, k) => if p = v then { s.ent v with level := src, slot := k, moving := true } else s.ent v
    | none => s.ent v
  let l := match e.level with | .zero => 0 | .bench => 1 | .yard => 2 | .far => 3
  l + 4 * b2n e.moving + 8 * b2n e.poison + 16 * b2n e.pinB + 32 * b2n e.pinY + 64 * b2n (s.inWs v) +
    256 * (if l = 1 ∨ l = 2 then e.slot else 0)

/-- Tally at the entry to SUPERVISE, BOOT or FALLBACK (R290); moves keep distinct numbers, so an answer to an abandoned
move meets none. -/
def State.tlyClear (s : State) : State :=
  let s : State := { s with tly := { moveId := s.tly.moveId } }
  let s := (List.range 16).foldl (fun s i => (s.setReg (Reg.TLY_WSi_A i) 0).setReg (Reg.TLY_WSi_B i) 1) s
  ((s.setFld F.TLY_CFG_MODE 0).setFld F.TLY_STAT_STAGED 0).setFld F.TLY_STAT_CMD_BUSY 0

end Sys2Proof.Machine
end

