-- ==== Sys2Proof/Machine/Crc.lean ====
section
/-! DEFINITION. The three checksums of the manual: CRC-8 (R59), CRC-16/CCITT (R598) and CRC-32 (R378). -/

namespace Sys2Proof.Machine

/-- One CRC-8 bit step, polynomial 0x07, most significant bit first (R59). -/
def crc8Step (c : Byte) : Byte := if c.getLsbD 7 then (c <<< 1) ^^^ 0x07 else c <<< 1

/-- Eight CRC-8 bit steps. -/
def crc8Byte (c b : Byte) : Byte :=
  crc8Step (crc8Step (crc8Step (crc8Step (crc8Step (crc8Step (crc8Step (crc8Step (c ^^^ b))))))))

/-- CRC-8 of a byte string: initial value 0, no reflection, no final XOR (R59). -/
def crc8 (bs : List Byte) : Byte := bs.foldl crc8Byte 0

/-- One CRC-16 bit step, polynomial 0x1021 (R598). -/
def crc16Step (c : Half) : Half := if c.getLsbD 15 then (c <<< 1) ^^^ 0x1021 else c <<< 1

/-- Eight CRC-16 bit steps. -/
def crc16Byte (c : Half) (b : Byte) : Half :=
  let x := c ^^^ (b.zeroExtend 16 <<< 8)
  crc16Step (crc16Step (crc16Step (crc16Step (crc16Step (crc16Step (crc16Step (crc16Step x)))))))

/-- CRC-16/CCITT of a byte string: initial value 0xFFFF (R598). -/
def crc16 (bs : List Byte) : Half := bs.foldl crc16Byte 0xFFFF

/-- One bit step of the reflected CRC-32 (R378). -/
def crc32Step (c : Word) : Word := if c.getLsbD 0 then (c >>> 1) ^^^ 0xEDB88320 else c >>> 1

/-- Eight bit steps of the reflected CRC-32. -/
def crc32Byte (c : Word) (b : Byte) : Word :=
  let x := c ^^^ b.zeroExtend 32
  crc32Step (crc32Step (crc32Step (crc32Step (crc32Step (crc32Step (crc32Step (crc32Step x)))))))

/-- CRC-32 of a byte string: initial value and final XOR 0xFFFF_FFFF (R378). -/
def crc32 (bs : List Byte) : Word := bs.foldl crc32Byte 0xFFFFFFFF ^^^ 0xFFFFFFFF

end Sys2Proof.Machine
end

