-- ==== Sys2Proof/Machine/Egress.lean ====
section
/-! DEFINITION. The egress link (Chapter 15): buffers and their shares, enqueue, coalescing, drops and notices, sending,
acknowledgement, and link state; with the hand-over of finished Kerf blocks that buffers allow (R368, R391). -/

namespace Sys2Proof.Machine

/-! ### Frames -/

/-- Pad bytes of a payload length (R382). -/
def egrPad (len : Nat) : Nat := if len < 16 then 16 - len else (4 - len % 4) % 4

/-- A frame with its payload padded (R380, R382). -/
def EgrFrame.make (typ : BitVec 4) (cls : EgrClass) (frameNum : Half) (firstLine : Word) (span : Half) (pos : Pos)
    (payload : List Byte) : EgrFrame :=
  { typ := typ, padlen := BitVec.ofNat 4 (egrPad payload.length), frameNum := frameNum, firstLine := firstLine,
    span := span, pos := pos, cls := cls, payload := payload ++ List.replicate (egrPad payload.length) 0 }

/-- The 16 header bytes (Table 15-2). -/
def EgrFrame.header (f : EgrFrame) (headId : Nat) : List Byte :=
  [BitVec.ofNat 8 (f.typ.toNat + 16 * f.padlen.toNat), BitVec.ofNat 8 (headId % 32 + 32 * b2n f.coalesced)] ++
    leBytes f.frameNum.toNat 2 ++ leBytes f.firstLine.toNat 4 ++ leBytes f.span.toNat 2 ++ leBytes f.pos.toNat 6

/-- The CLASS byte of an SOF word (Table 15-1). -/
def EgrClass.code : EgrClass → Byte
  | .record => 0
  | .image => 1
  | .stat => 2

/-- Body bytes as words, four lanes at a time (R375). -/
def egrBody : List Byte → List EgrWord
  | b0 :: b1 :: b2 :: b3 :: bs => .body b0 b1 b2 b3 :: egrBody bs
  | _ => []

/-- The words of a frame: SOF, header and payload, CRC, EOF (R377, R378). -/
def EgrFrame.words (f : EgrFrame) (headId : Nat) (seq : Half) : List EgrWord :=
  let body := f.header headId ++ f.payload
  EgrWord.sof seq f.cls.code :: (egrBody (body ++ leBytes (crc32 body).toNat 4) ++ [EgrWord.eof])

/-! ### Buffers (R384, R385) -/

/-- Pool buffers in use that count against a share. -/
def State.egrUsed (s : State) (sh : BufShare) : Nat :=
  (List.finRange 64).countP fun i => i.val < 62 && s.egr.bufs[i].st != .free && s.egr.bufs[i].share == sh

/-- The share a frame of a class takes, if one is open to it (R384). -/
def State.egrShare? (s : State) (cls : EgrClass) : Option BufShare :=
  let rr := s.fld F.EGR_BUF_CFG_RESV_REC
  let rs := s.fld F.EGR_BUF_CFG_RESV_STAT
  let shared := if s.egrUsed .shared < 62 - rr - rs then some BufShare.shared else none
  match cls with
  | .record => if s.egrUsed .resvRec < rr then some .resvRec else shared
  | .stat => if s.egrUsed .resvStat < rs then some .resvStat else shared
  | .image => shared

/-- The lowest free pool buffer. -/
def State.egrFreeBuf? (s : State) : Option (Fin 64) :=
  (List.finRange 64).find? fun i => i.val < 62 && s.egr.bufs[i].st == .free

/-- Place a frame in a buffer. -/
def State.egrFill (s : State) (i : Fin 64) (f : EgrFrame) (sh : BufShare) : State :=
  { s with egr := { s.egr with
      bufs := s.egr.bufs.set i { st := .queued, frame := f, share := sh, order := s.egr.orderCtr, mark := s.egr.started }
      orderCtr := s.egr.orderCtr + 1 } }

/-- Queue a frame when its class finds a buffer. -/
def State.egrQueue? (s : State) (f : EgrFrame) : Option State :=
  match s.egrShare? f.cls, s.egrFreeBuf? with
  | some sh, some i => some (s.egrFill i f sh)
  | _, _ => none

/-- Buffers in a state, the whole of EGR_BUF_BAL (R385). -/
def State.egrCount (s : State) (st : BufSt) : Nat := (List.finRange 64).countP fun i => s.egr.bufs[i].st == st

/-! ### Summaries (R390) and notices (R392) -/

/-- Fold one record into a summary. -/
def Summary.fold (m : Option Summary) (frameNum : Half) (first last : Word) (pos : Pos) (w : Word) : Summary :=
  match m with
  | none => { count := 1, first := first, last := last, orw := w, frameNum := frameNum, pos := pos }
  | some m => { m with count := m.count + 1, last := last, orw := m.orw ||| w }

/-- The summary frame (R390). -/
def Summary.frame (m : Summary) : EgrFrame :=
  { EgrFrame.make 2 .record m.frameNum m.first (BitVec.ofNat 16 (m.last - m.first).toNat) m.pos
      (leBytes m.count 4 ++ leBytes m.first.toNat 4 ++ leBytes m.last.toNat 4 ++ leBytes m.orw.toNat 4) with
    coalesced := true }

/-- Fold one drop into a notice. -/
def Notice.fold (m : Option Notice) (f : EgrFrame) (cause : Nat) : Notice :=
  let last := f.firstLine + f.span.zeroExtend 32
  match m with
  | none => { count := 1, first := f.firstLine, last := last, cause := BitVec.ofNat 3 (2 ^ cause),
              frameNum := f.frameNum, firstLine := f.firstLine, span := f.span, pos := f.pos }
  | some m => { m with count := m.count + 1, last := last, cause := m.cause ||| BitVec.ofNat 3 (2 ^ cause) }

/-- The DROP frame (R392, Table 15-3). -/
def Notice.frame (m : Notice) : EgrFrame :=
  EgrFrame.make 5 .record m.frameNum m.firstLine m.span m.pos
    (leBytes m.count 4 ++ leBytes m.first.toNat 4 ++ leBytes m.last.toNat 4 ++
      [BitVec.ofNat 8 m.cause.toNat, 0, 0, 0])

/-- Count a dropped frame into the notice; cause 0 IMAGE_WAIT, 1 LINK, 2 STAT (R392). -/
def State.egrDrop (s : State) (f : EgrFrame) (cause : Nat) : State :=
  let s := s.inc F.EGR_DROP_CNT
  if s.egr.bufs[63].st = .inflight then
    { s with egr := { s.egr with dropAcc := some (Notice.fold s.egr.dropAcc f cause) } }
  else
    let m := Notice.fold s.egr.notice f cause
    { s with egr := { s.egr with notice := some m
                                 bufs := s.egr.bufs.set 63 { s.egr.bufs[63] with st := .queued, frame := m.frame } } }

/-- When a RECORD frame would find a buffer, the open summary closes and queues (R390). -/
def State.egrCloseSummary (s : State) : State :=
  match s.egr.sumOpen with
  | none => s
  | some m =>
    if s.egr.bufs[62].st = .free ∧ (s.egrShare? .record).isSome then
      { s with egr := { s.egr with sumOpen := none
                                   bufs := s.egr.bufs.set 62 { st := .queued, frame := m.frame } } }
    else s

/-! ### Finished Kerf blocks (R368, R391) -/

/-- The egress frame of a finished block (Table 15-3). -/
def KrfBlock.frame (b : KrfBlock) (payload : List Byte) : EgrFrame :=
  EgrFrame.make 1 (if b.cfg.record then .record else .image) (BitVec.ofNat 16 b.stamp.frameNum.toNat) b.stamp.first
    (BitVec.ofNat 16 (b.stamp.last - b.stamp.first).toNat) b.stamp.pos payload

/-- The lane of the first block, in store order and block order, that the link has not taken (R368). -/
def State.krfNext? (s : State) : Option (Fin 4) :=
  (List.finRange 4).foldl (fun acc i =>
    match s.lanes[i] with
    | none => acc
    | some b =>
      match acc with
      | none => some i
      | some j =>
        match s.lanes[j] with
        | none => some i
        | some c => if b.order < c.order ∨ (b.order = c.order ∧ b.idx < c.idx) then some i else acc) none

/-- The link takes finished blocks in order while buffers are open to them; with IMG_WAIT 0 an IMAGE block that finds none is
dropped at once (R368, R391, Table 15-6). While EN is clear blocks still take buffers (log 66). -/
def State.krfHandover (s : State) : Nat → State
  | 0 => s
  | fuel + 1 =>
    match s.krfNext? with
    | none => s
    | some i =>
      match s.lanes[i] with
      | none => s
      | some b =>
        match b.payload with
        | none => s
        | some p =>
          match s.egrQueue? (b.frame p) with
          | none =>
            if !b.cfg.record && s.fld F.EGR_IMG_WAIT == 0 then
              (({ s with lanes := s.lanes.set i none }).egrDrop (b.frame p) 0).krfHandover fuel
            else s
          | some s1 =>
            ({ s1 with lanes := s1.lanes.set i none }.addSat F.KRF_OUT_BYTES p.length).krfHandover fuel

/-- What follows when buffers have become free: the accumulators pass on, the summary closes, blocks are taken. -/
def State.egrAfterFree (s : State) : State :=
  let s := if s.egr.bufs[62].st = .free ∧ s.egr.sumOpen = none then
      { s with egr := { s.egr with sumOpen := s.egr.sumAcc, sumAcc := none } } else s
  let s := if s.egr.bufs[63].st = .free then
      match s.egr.dropAcc with
      | none => { s with egr := { s.egr with notice := none } }
      | some m => { s with egr := { s.egr with notice := some m, dropAcc := none
                                               bufs := s.egr.bufs.set 63 { st := .queued, frame := m.frame } } }
    else s
  s.egrCloseSummary.krfHandover 4

/-- Free one buffer. -/
def State.egrFree (s : State) (i : Fin 64) : State :=
  { s with egr := { s.egr with bufs := s.egr.bufs.set i {} } }.egrAfterFree

/-- Every buffer FREE, accumulators cleared, sequence and credit 0, link down (R394). -/
def State.egrClear (s : State) : State :=
  let s := { s with egr := { orderCtr := 0 } }
  (s.setFld F.EGR_STAT_LINK_UP 0).setFld F.EGR_STAT_RX_SYNC 0

/-- A frame record becomes a STAT frame, or is dropped at once when no STAT buffer is open to it (R187, R391). -/
def State.egrFrameRecord (s : State) (f : EgrFrame) : State :=
  match s.egrQueue? f with
  | some s' => s'
  | none => s.egrDrop f 2

/-! ### Enqueue (R383, R390) -/

/-- The staged payload, len bytes of EGR_STAGE. -/
def State.egrStaged (s : State) : Nat → Nat → List Byte
  | _, 0 => []
  | i, n + 1 => BitVec.ofNat 8 ((s.reg (Reg.EGR_STAGE (i / 4))).toNat / 256 ^ (i % 4)) :: s.egrStaged (i + 1) n

/-- The effect and result code of a read of EGR_ENQ_GO (Table 15-4). -/
def State.egrEnqueue (s : State) : Nat × State :=
  let len := s.fld F.EGR_ENQ_D0_LEN
  let typ := s.fld F.EGR_ENQ_D0_TYPE
  let first : Word := BitVec.ofNat 32 (s.fld F.EGR_ENQ_D1_FIRST_LINE)
  let span : Half := BitVec.ofNat 16 (s.fld F.EGR_ENQ_D2_LINE_SPAN)
  let fnum : Half := BitVec.ofNat 16 (s.fld F.EGR_ENQ_D2_FRAME_NUM)
  let pos : Pos := BitVec.ofNat 48 (s.fld F.EGR_ENQ_D3_POS + 2 ^ 32 * s.fld F.EGR_ENQ_D4_POS)
  let cls : EgrClass := if typ = 2 then .record else .stat
  let payload := s.egrStaged 0 (min len 4096)
  let f := EgrFrame.make (BitVec.ofNat 4 typ) cls fnum first span pos payload
  if !s.bit F.EGR_CFG_EN then (5, s.inc F.EGR_REFUSE_CNT)
  else if len = 0 ∨ (typ ≠ 2 ∧ typ ≠ 4) then (4, s.inc F.EGR_REFUSE_CNT)
  else if typ = 4 ∧ (s.egrShare? .stat).isNone then (3, s.inc F.EGR_REFUSE_CNT)
  else if 4096 < len then (2, s.inc F.EGR_REFUSE_CNT)
  else
    match s.egrQueue? f with
    | some s' => (0, s')
    | none =>
      let w : Word := BitVec.ofNat 32 (ofLeBytes (f.payload.take 4))
      let last := first + span.zeroExtend 32
      let s := s.inc F.EGR_COAL_CNT
      if s.egr.bufs[62].st = .free then
        (1, { s with egr := { s.egr with sumOpen := some (Summary.fold s.egr.sumOpen fnum first last pos w) } })
      else (1, { s with egr := { s.egr with sumAcc := some (Summary.fold s.egr.sumAcc fnum first last pos w) } })

/-- EGR_ENQ_GO: a read of the register enqueues the staged frame (R383). The result code stands in the register. -/
def execEgrEnqGo (s : State) : Host.Outcome State Fault Refusal :=
  if s.domOn Dom.egress then
    let r := s.egrEnqueue
    .next (r.2.setFld F.EGR_ENQ_GO_RESULT r.1)
  else .next s

/-! ### Sending (R387, R389) -/

/-- Buffers that satisfy a predicate, the one with the smallest key first. -/
def State.egrPick (s : State) (p : EgrBuf → Bool) (key : EgrBuf → Nat) : Option (Fin 64) :=
  (List.finRange 64).foldl (fun acc i =>
    if p s.egr.bufs[i] then
      match acc with
      | none => some i
      | some j => if key s.egr.bufs[i] < key s.egr.bufs[j] then some i else acc
    else acc) none

/-- A first sending has credit (R387). -/
def State.egrCredit (s : State) : Bool :=
  let d := (s.egr.limit - s.egr.nextSeq).toNat
  decide (1 ≤ d ∧ d ≤ 32768)

/-- The first eligible buffer at a frame boundary (R389): resends oldest first, the notice, the summary, then RECORD,
IMAGE and STAT; a STAT frame that has waited while 16 frames of the other classes were started goes ahead of them. -/
def State.egrNext? (s : State) : Option (Fin 64) :=
  match s.egrPick (fun b => b.st == .inflight && b.resend) (·.order) with
  | some i => some i
  | none =>
    if s.egrCredit then
      if s.egr.bufs[63].st = .queued then some 63
      else if s.egr.bufs[62].st = .queued then some 62
      else
        let c (cls : EgrClass) := s.egrPick (fun b => b.st == .queued && b.frame.cls == cls) (·.order)
        match c .stat with
        | some i =>
          if s.egr.bufs[i].mark + 16 ≤ s.egr.started then some i
          else
            match c .record, c .image with
            | some j, _ => some j
            | none, some j => some j
            | none, none => some i
        | none =>
          match c .record with
          | some j => some j
          | none => c .image
    else none

/-- Words since the last ALIGN when a frame starts `idle` words after the one before it; 1,024 or more puts an ALIGN in front of
it. An idle link sends its ALIGN in the first word that it is due (R379). -/
def alignGap (since idle : Nat) : Nat :=
  let c := if since < 1024 then since + idle else 1024 + idle
  if c ≤ 1024 then c else (c - 1025) % 1025

/-- Send the frame of one buffer from SOF to EOF (R375 to R379, R385, R387). -/
def State.egrSend (s : State) (i : Fin 64) (idle : Nat) : State :=
  let b := s.egr.bufs[i]
  let isFirst := b.sends = 0
  let seq := if isFirst then s.egr.nextSeq else b.seq
  let body := b.frame.words (s.fld F.EGR_CFG_HEAD_ID) seq
  let gap := alignGap s.egr.sinceAlign idle
  let align := decide (1024 ≤ gap)
  let s := s.inc F.EGR_RETX_CNT |> fun s' => if isFirst then s else s'
  { s with egr := { s.egr with
      bufs := s.egr.bufs.set i { b with st := .inflight, seq := seq, sends := b.sends + 1, resend := false
                                        order := if isFirst then s.egr.orderCtr else b.order }
      orderCtr := if isFirst then s.egr.orderCtr + 1 else s.egr.orderCtr
      nextSeq := if isFirst then s.egr.nextSeq + 1 else s.egr.nextSeq
      notice := if i = 63 then none else s.egr.notice
      started := if b.frame.cls = .stat then s.egr.started else s.egr.started + 1
      preamble := 0
      sinceAlign := (if align then 0 else gap) + body.length
      lastSent := (if align then [EgrWord.align] else []) ++ body } }

/-- EGR_FRAME_SEND: at a frame boundary, after `idle` IDLE words, the first eligible frame is sent (R389). -/
def execEgrFrameSend (idle : Nat) (s : State) : Host.Outcome State Fault Refusal :=
  if s.domOn Dom.egress ∧ s.bit F.EGR_STAT_LINK_UP then
    match s.egrNext? with
    | some i => .next (s.egrSend i idle)
    | none => .next s
  else .next s

/-! ### Return messages (R386, R388, R393) -/

/-- The buffer whose frame is INFLIGHT under a sequence number. -/
def State.egrInflight? (s : State) (seq : Half) : Option (Fin 64) :=
  (List.finRange 64).find? fun i => s.egr.bufs[i].st == .inflight && s.egr.bufs[i].seq == seq

/-- The receiver takes return messages: EGRESS is ON, the link enabled and in character sync. -/
def State.egrRx (s : State) : Bool := s.domOn Dom.egress && !s.tapActs && s.bit F.EGR_CFG_EN && s.bit F.EGR_STAT_RX_SYNC

/-- EGR_CREDIT sets LIMIT; the first one after RX_SYNC brings the link up (R386, R393). -/
def execEgrCredit (limit : Half) (s : State) : Host.Outcome State Fault Refusal :=
  if s.egrRx then .next ({ s with egr := { s.egr with limit := limit } }.raise F.EGR_STAT_LINK_UP) else .next s

/-- EGR_ACK frees the buffer of its frame, or counts in EGR_RX_ERR when none is INFLIGHT under that number (R386). -/
def execEgrAck (seq : Half) (s : State) : Host.Outcome State Fault Refusal :=
  if s.egrRx then
    match s.egrInflight? seq with
    | some i => .next ((s.inc F.EGR_FRAMES).egrFree i)
    | none => .next (s.inc F.EGR_RX_ERR)
  else .next s

/-- A frame draws a NAK or a timeout: it is scheduled for resending, or abandoned after RETRY_MAX + 1 sendings (R388). -/
def State.egrRetry (s : State) (i : Fin 64) : State :=
  let b := s.egr.bufs[i]
  if b.resend then s
  else if s.fld F.EGR_CFG_RETRY_MAX + 1 ≤ b.sends then
    ((s.inc F.EGR_ABANDON).egrFree i).egrDrop b.frame 1
  else { s with egr := { s.egr with bufs := s.egr.bufs.set i { b with resend := true } } }

/-- EGR_NAK schedules a resend or abandons the frame (R386, R388). -/
def execEgrNak (seq : Half) (s : State) : Host.Outcome State Fault Refusal :=
  if s.egrRx then
    match s.egrInflight? seq with
    | some i => .next (s.egrRetry i)
    | none => .next (s.inc F.EGR_RX_ERR)
  else .next s

/-- ACK_TIMEOUT: no ACK within ACK_TMO of the EOF of a buffer's frame (R388). -/
def execAckTimeout (buf : Fin 64) (s : State) : Host.Outcome State Fault Refusal :=
  if s.domOn Dom.egress ∧ s.egr.bufs[buf].st = .inflight then .next (s.egrRetry buf) else .next s

/-- IMG_WAIT_EXPIRY: a finished IMAGE block that still finds no buffer is dropped and counts as taken (R368, R391). -/
def execImgWaitExpiry (lane : Fin 4) (s : State) : Host.Outcome State Fault Refusal :=
  let s1 := s.krfHandover 4
  match s1.lanes[lane] with
  | some b =>
    match b.payload with
    | some p =>
      if b.cfg.record then .next s1
      else .next ((({ s1 with lanes := s1.lanes.set lane none }).egrDrop (b.frame p) 0).krfHandover 4)
    | none => .next s1
  | none => .next s1

/-- EGR_RX_SYNC: four consecutive valid characters on ERX (R393). -/
def execEgrRxSync (s : State) : Host.Outcome State Fault Refusal :=
  if s.domOn Dom.egress ∧ s.bit F.EGR_CFG_EN then .next (s.raise F.EGR_STAT_RX_SYNC) else .next s

/-- EGR_RX_LOST: 256 character times with no valid return character (R393). -/
def execEgrRxLost (s : State) : Host.Outcome State Fault Refusal :=
  if s.egrRx then
    .next (((s.setFld F.EGR_STAT_RX_SYNC 0).setFld F.EGR_STAT_LINK_UP 0).raise F.EGR_STAT_RX_LOST)
  else .next s

/-- EGR_RX_BAD_MESSAGE: a reserved type or a character error (R386). -/
def execEgrRxBadMessage (s : State) : Host.Outcome State Fault Refusal :=
  if s.egrRx then .next (s.inc F.EGR_RX_ERR) else .next s

/-! ### Configuration writes -/

/-- With EN set the link starts: ALIGN words for 2,048 word times, and then IDLE words (R393). -/
def State.egrStart (s : State) : State :=
  if s.bit F.EGR_CFG_EN then { s with egr := { s.egr with preamble := 2048, sinceAlign := 0 } } else s

/-- EGR_CFG: ACK_TMO 0 is out of range and the write is ignored (Table 15-6, R11); EN set starts the link, EN cleared
frees every buffer (R393, R394). -/
def State.writeEgrCfg (s : State) (v : Word) : State :=
  if getBits v 16 8 = 0 then s
  else
    let was := s.bit F.EGR_CFG_EN
    let s1 := s.setReg Reg.EGR_CFG (v &&& 0x00FF073F)
    let on := s1.bit F.EGR_CFG_EN
    if was && !on then s1.egrClear.krfHandover 4
    else if on && !was then s1.egrStart
    else s1

/-- EGR_CFG_WRITE. -/
def execEgrCfgWrite (v : Word) (s : State) : Host.Outcome State Fault Refusal :=
  if s.domOn Dom.egress then .next (s.writeEgrCfg v) else .next s

/-- EGR_BUF_CFG: accepted only while EN is clear and the reserves fit (R384). -/
def State.writeEgrBufCfg (s : State) (v : Word) : State :=
  if s.bit F.EGR_CFG_EN ∨ 61 < getBits v 0 6 + getBits v 8 6 then s.raise F.EGR_ERR_CFG
  else s.setReg Reg.EGR_BUF_CFG (v &&& 0x3F3F)

/-- EGR_BUF_CFG_WRITE. -/
def execEgrBufCfgWrite (v : Word) (s : State) : Host.Outcome State Fault Refusal :=
  if s.domOn Dom.egress then .next (s.writeEgrBufCfg v) else .next s

end Sys2Proof.Machine
end

