-- ==== Sys2Proof/Machine/Ingest.lean ====
section
/-! DEFINITION. The line store and the packer (Chapter 7): frames and their records, the pending list, slots, lines being
received, headers and quality bits, companding. LOADL is in Machine/Truss.lean. -/

namespace Sys2Proof.Machine

/-! ### LOADL's claims (R181 to R183, R244) -/

/-- Set the state of a slot, or of both slots of a pair (R172). -/
def State.setSlot (s : State) (k : Nat) (wide : Bool) (x : SlotSt) : State :=
  let s := if h : k < 128 then { s with ing := { s.ing with slots := s.ing.slots.set k x } } else s
  if wide then
    if h : k + 1 < 128 then { s with ing := { s.ing with slots := s.ing.slots.set (k + 1) x } } else s
  else s

/-- The first FILLED line, in the order of the slots after the last one allocated, which is trigger order (R173). -/
def State.firstFilled (s : State) : Option Nat :=
  (List.range 128).map (fun i => (s.ing.lastSlot + 1 + i) % 128)
    |>.find? fun k => s.ing.slots[k]? == some .filled && !(k % 2 == 1 && (s.ing.hdr[k - 1]?.getD {}).depth16 &&
      s.ing.slots[k - 1]? == some .filled)

/-- The frame of the line in a slot. -/
def State.slotFrame (s : State) (k : Nat) : Word := (s.ing.hdr[k]?.getD {}).frame

/-- The burst of the waiting LOADL is complete. -/
def State.loadlDone (s : State) (l : Loadl) : State :=
  { s with trs := { s.trs with loadl := some { l with complete := true } } }

/-- LDWAIT runs out: the burst is completed with fill lines, STARVED is set and counted (R181). -/
def State.loadlStarve (s : State) : State :=
  match s.trs.loadl with
  | some l =>
    if l.complete then s
    else
      let s := ((s.loadlDone l).raise F.ING_STAT_STARVED).inc F.ING_STARVE_CNT
      let g (f : Frame) : Frame := if l.frame == some f.num then { f with starved := true } else f
      { s with ing := { s.ing with frames := s.ing.frames.map g } }
  | none => s

/-- The waiting LOADL claims the next FILLED line of its frame (R172, R181). -/
def State.loadlClaim (s : State) (l : Loadl) : State × Bool :=
  match s.firstFilled with
  | some k =>
    if l.frame = none ∨ l.frame = some (s.slotFrame k) then
      let h := s.ing.hdr[k]?.getD {}
      let l1 : Loadl := { l with frame := some h.frame, claimed := l.claimed ++ [(k, h.depth16)] }
      let l2 : Loadl := { l1 with complete := decide (l.b ≤ l1.claimed.length) || h.last }
      let s := s.setSlot k h.depth16 .loading
      ({ s with trs := { s.trs with loadl := some l2 } }, true)
    else (s, false)
  | none => (s, false)

/-- The waiting LOADL claims what it can; it is complete when its frame has ended (R181, R182). -/
def State.loadlPoll (s : State) : Nat → State
  | 0 => s
  | n + 1 =>
    match s.trs.loadl with
    | none => s
    | some l =>
      if l.complete then s
      else
        match s.loadlClaim l with
        | (s', true) => s'.loadlPoll n
        | (s', false) =>
          match l.frame with
          | some fr => if (s'.ing.frames.any fun f => f.num == fr) then s' else s'.loadlDone l
          | none => s'

/-- A LOADL of b lines reaches the head (R181, R183). -/
def State.loadlReach (s : State) (b : Nat) (index : Bool) : State :=
  let frame := match s.firstFilled with
    | some k => some (s.slotFrame k)
    | none => s.ing.frames.head?.map (·.num)
  let l : Loadl := { b := b, index := index, frame := frame, complete := frame.isNone }
  let s := State.loadlPoll { s with trs := { s.trs with loadl := some l } } 17
  if s.fld F.ING_LDWAIT = 0 then s.loadlStarve else s

/-- The slots of a burst become FREE (R172, R184). -/
def State.loadlFree (s : State) : List (Nat × Bool) → State
  | [] => s
  | (k, wide) :: ks => (s.setSlot k wide .free).loadlFree ks

/-! ### Frames (R182, R185 to R187) -/

/-- A line number belongs to a frame. -/
def Frame.has (f : Frame) (num : Word) : Bool := decide ((num - f.first).toNat < f.issued)

/-- Every number of the frame is resolved and no further number joins it (R182). -/
def Frame.over (f : Frame) : Bool := f.closed && decide (f.issued ≤ f.resolved)

/-- Last line number of a frame. -/
def Frame.lastLine (f : Frame) : Word := f.first + BitVec.ofNat 32 (f.issued - 1)

/-- FLAGS of a frame record (Table 7-4). -/
def Frame.flags (f : Frame) : Nat :=
  b2n f.disturbed + 2 * b2n f.endedEarly + 4 * b2n f.gatedEnd + 8 * b2n f.starved + 16 * b2n f.extrap

/-- The 32 bytes of a frame record (Table 7-4). -/
def Frame.record (f : Frame) : List Byte :=
  leBytes f.num.toNat 4 ++ leBytes f.first.toNat 4 ++ leBytes f.lastLine.toNat 4 ++ leBytes f.delivered 4 ++
    leBytes f.flagged 4 ++ leBytes (min f.missing 0xFFFF) 2 ++ leBytes f.flags 2 ++ leBytes f.supwTime.toNat 6 ++
    leBytes (min f.supwCnt 0xFFFF) 2

/-- Change the frame that a line number belongs to. -/
def State.onFrame (s : State) (num : Word) (g : Frame → Frame) : State :=
  { s with ing := { s.ing with frames := s.ing.frames.map fun f => if f.has num then g f else f } }

/-- Store the 32 bytes of a frame record in ING_FREC (R187). -/
def State.writeFrec (s : State) (bs : List Byte) : Nat → State
  | 0 => s
  | n + 1 => (s.writeFrec bs n).setReg (Reg.ING_FREC n) (BitVec.ofNat 32 (ofLeBytes ((bs.drop (4 * n)).take 4)))

/-- A frame ends: LAST on its last delivered line while it is FILLED, the frame record, FREC_EV, FEND and the STAT frame
(R182, R185, R187, R274, R331, Table 15-3). -/
def State.frameEnd (s : State) (f : Frame) : State :=
  let s := match f.lastSlot with
    | some k =>
      if h : k < 128 then
        if s.ing.slots[k] == SlotSt.filled then
          { s with ing := { s.ing with hdr := s.ing.hdr.set k { s.ing.hdr[k] with last := true } } }
        else s
      else s
    | none => s
  let s := (s.setFld F.TLY_STALL_LAST (s.fld F.TLY_STALL_FRAME)).setFld F.TLY_STALL_FRAME 0
  let s := (s.writeFrec f.record 8).raise F.ING_STAT_FREC_EV
  ((s.eventAll 2).egrFrameRecord
    (EgrFrame.make 3 .stat (BitVec.ofNat 16 f.num.toNat) f.first (BitVec.ofNat 16 (f.lastLine - f.first).toNat)
      (f.firstPos.getD 0) f.record)).loadlPoll 17

/-- End every frame that is over, oldest first. -/
def State.framesSettle (s : State) : Nat → State
  | 0 => s
  | n + 1 =>
    match s.ing.frames with
    | [] => s
    | f :: fs => if f.over then ({ s with ing := { s.ing with frames := fs } }.frameEnd f).framesSettle n else s

/-- A line number is resolved (R182). -/
def State.resolveLine (s : State) (num : Word) : State :=
  (s.onFrame num fun f => { f with resolved := f.resolved + 1 }).framesSettle 64

/-- A line number is counted missing (R168). -/
def State.missLine (s : State) (num : Word) : State :=
  ((s.inc F.ING_MISSING).onFrame num fun f => { f with missing := f.missing + 1 }).resolveLine num

/-- A frame opens at a line number, with ING_FRAME_LEN as it stands (R185); FSTART is posted (Table 13-1). -/
def State.frameOpen (s : State) (frameNum first : Word) (group : Bool) : State :=
  let f : Frame := { num := frameNum, first := first, len := s.fld F.ING_FRAME_LEN, group := group }
  State.eventAll { s with ing := { s.ing with frameNum := frameNum, frames := s.ing.frames ++ [f] } } 1

/-- The current frame: the newest whose record is not written (R39, R182). -/
def State.openFrame (s : State) : Option Word := s.ing.frames.getLast?.map fun f => f.num

/-- A frame is open to further line numbers. -/
def State.frameTaking (s : State) : Bool :=
  match s.ing.frames.getLast? with
  | some f => !f.closed
  | none => false

/-- The last frame takes one more number, and closes when it has FRAME_LEN of them; a follower's waits for the master
(R185, R415). -/
def State.frameJoin (s : State) : State :=
  match s.ing.frames.getLast? with
  | some f =>
    let f' := { f with issued := f.issued + 1, closed := !f.group && decide (f.len ≤ f.issued + 1) }
    { s with ing := { s.ing with frames := s.ing.frames.dropLast ++ [f'] } }
  | none => s

/-- Numbers that a follower lost are consumed in the open frame: they count towards it and are resolved (R25, R182, R185,
R412). -/
def State.frameLose (s : State) (n : Nat) : State :=
  match s.ing.frames.getLast? with
  | some f =>
    if f.closed then s
    else
      let f' := { f with issued := f.issued + n, resolved := f.resolved + n }
      { s with ing := { s.ing with frames := s.ing.frames.dropLast ++ [f'] } }
  | none => s

/-- The last frame closes to further numbers (R133, R40, R415, R425). -/
def State.frameClose (s : State) (early gated : Bool) : State :=
  match s.ing.frames.getLast? with
  | some f =>
    if f.closed then s
    else
      let f' := { f with closed := true, endedEarly := f.endedEarly || early, gatedEnd := f.gatedEnd || gated }
      { s with ing := { s.ing with frames := s.ing.frames.dropLast ++ [f'] } }.framesSettle 64
  | none => s

/-! ### The pending list (R167, R168) -/

/-- A trigger that produces EXPO enters the pending list; the seventeenth evicts the oldest, which is missing. -/
def State.pendTrigger (s : State) (tr : Trig) : State :=
  let s := match s.ing.pend with
    | p :: ps => if 16 ≤ s.ing.pend.length then { s with ing := { s.ing with pend := ps } }.missLine p.num else s
    | [] => s
  { s with ing := { s.ing with pend := s.ing.pend ++ [tr] } }

/-- Mark a line whose strobe pulse was skipped or cut (Table 7-3 bit 12). -/
def State.markStrobeSkip (s : State) (line : Word) : State :=
  let g (t : Trig) : Trig := if t.num = line then { t with strbSkip := true } else t
  { s with ing := { s.ing with pend := s.ing.pend.map g
                               filling := s.ing.filling.map fun f => { f with trig := g f.trig } } }

/-- Every slot FREE and the pending list empty; no record for the open frame (R190). -/
def State.ingestClear (s : State) : State :=
  { s with ing := { s.ing with pend := [], filling := [], frames := []
                               slots := Vector.replicate 128 .free } }

/-! ### Slots (R172, R173) -/

/-- Number of slots in a state (ING_SLOTS). -/
def State.slotCount (s : State) (x : SlotSt) : Nat := (List.finRange 128).countP fun i => s.ing.slots[i] == x

/-- The next free slot, or free pair, in ascending order after the last one allocated (R173). -/
def State.findSlot (s : State) (wide : Bool) : Option Nat :=
  let free (k : Nat) : Bool := s.ing.slots[k]? == some .free
  (List.range 128).map (fun i => (s.ing.lastSlot + 1 + i) % 128)
    |>.find? fun k => if wide then k % 2 == 0 && free k && free (k + 1) else free k

/-! ### Receiving a line (R166 to R171) -/

/-- Bytes per pixel on the pixel port (R166). -/
def State.pxBytes (s : State) : Nat := if s.bit F.ING_CFG_DEPTH16 || s.bit F.ING_CFG_CMP_EN then 2 else 1

/-- The line being received ends (R169); an odd trailing byte also sets CUT (R166). -/
def State.endLine (s : State) (cut : Bool) : State :=
  let odd (f : Filling) : Bool := (f.wide || f.companded) && f.bytes.length % 2 == 1
  { s with ing := { s.ing with filling := s.ing.filling.map fun f =>
      if f.ended then f else { f with ended := true, cut := f.cut || cut || odd f } } }

/-- A line is being received. -/
def State.receiving (s : State) : Bool := s.ing.filling.any fun f => !f.ended

/-- A PX_SOL pairs with the oldest pending trigger and takes a slot, or begins an orphan or a discarded line (R26, R167,
R172). -/
def State.startLine (s : State) : State :=
  match s.ing.pend with
  | [] => s.inc F.ING_ORPHAN
  | p :: ps =>
    let companded := s.bit F.ING_CFG_CMP_EN
    let wide := s.bit F.ING_CFG_DEPTH16 && !companded
    let s := { s with ing := { s.ing with pend := ps } }
    match s.findSlot wide with
    | none => (s.inc F.ING_DISCARD_FULL).missLine p.num
    | some k =>
      let s := s.setSlot k wide .filling
      { s with ing := { s.ing with
          lastSlot := if wide then k + 1 else k
          filling := s.ing.filling ++ [{ trig := p, slot := k, wide := wide, companded := companded }] } }

/-- The data and faults of one word are added to the line being received; a lane with its bit of ING_LANES clear delivers
nothing, and no fault (R165). -/
def State.addWord (s : State) (w : PixelWord) : State :=
  let lanes := BitVec.ofNat 16 (s.fld F.ING_LANES)
  { s with ing := { s.ing with filling := s.ing.filling.map fun f =>
      if f.ended then f
      else { f with bytes := if w.valid then f.bytes ++ w.data.take 32 else f.bytes
                    crcErr := f.crcErr || (w.valid && w.eol && w.crcErr)
                    syncLost := f.syncLost || w.syncLost
                    laneErr := f.laneErr ||| (w.laneErr &&& lanes) } } }

/-- ING_LTMO of the line being received has passed at an edge: it ends with CUT (R169). -/
def State.cutLate (s : State) (t : Nat) : State :=
  let late (f : Filling) : Filling :=
    if !f.ended && decide (f.trig.t + f.trig.ltmo ≤ t) then { f with ended := true, cut := true } else f
  { s with ing := { s.ing with filling := s.ing.filling.map late } }

/-- Pending triggers whose ING_LTMO ended before an edge are missing (R168). -/
def State.ltmoPend (s : State) (t : Nat) : Nat → State
  | 0 => s
  | n + 1 =>
    let past (p : Trig) : Bool := decide (p.t + p.ltmo < t)
    match s.ing.pend.find? past with
    | some p => ({ s with ing := { s.ing with pend := s.ing.pend.eraseP past } }.missLine p.num).ltmoPend t n
    | none => s

/-- PIXEL_WORD: one word of the pixel port (R166, R167, R169, R170, R757). A PX_SOL on the timeout edge of a pending trigger
pairs with it; a word on or after the timeout edge of its line is discarded (R169, R189). -/
def execPixelWord (w : PixelWord) (t : Nat) (s : State) : Host.Outcome State Fault Refusal :=
  let s := s.atT t
  if s.domOn Dom.ingest && s.bit F.ING_CFG_EN then
    let s := s.cutLate t
    if w.valid && w.sol then
      let s := ((if s.receiving then s.endLine true else s).ltmoPend t 16).startLine.addWord w
      .next (if w.eol then s.endLine false else s)
    else if s.receiving then
      let s := s.addWord w
      .next (if w.valid && w.eol then s.endLine false else s)
    else .next s
  else .next s

/-! ### Companding (R178, R179) -/

/-- h_j of a segment: half a step, or 0 for a step of 1. -/
def cmpHalf (sh : Nat) : Nat := if sh = 0 then 0 else 2 ^ (sh - 1)

/-- The upper bounds B_(j+1) of the segments. -/
def cmpUppers (segs : List (Nat × Nat)) : List Nat := (segs.drop 1).map (·.1) ++ [4096]

/-- The checks of R178. -/
def cmpValid (segs : List (Nat × Nat)) : Bool :=
  let ups := segs.zip (cmpUppers segs)
  (segs.head?.map (·.1)) == some 0 &&
    ups.all (fun p => decide (p.1.1 ≤ p.2) && decide (p.1.1 ≤ 4096) && decide (p.1.2 ≤ 7) &&
      (p.2 - p.1.1) % 2 ^ p.1.2 == 0) &&
    decide ((ups.map fun p => (p.2 - p.1.1) / 2 ^ p.1.2).sum ≤ 256)

/-- The largest h_j over the non-empty segments (R179). -/
def cmpMaxErr (segs : List (Nat × Nat)) : Nat :=
  ((segs.zip (cmpUppers segs)).map fun p => if p.1.1 < p.2 then cmpHalf p.1.2 else 0).foldl max 0

/-- The code of a 12-bit pixel, walking the segments with O_j (R179). -/
def cmpCode (x : Nat) : Nat → List ((Nat × Nat) × Nat) → Nat
  | o, [] => o
  | o, ((b, sh), up) :: rest => if b ≤ x ∧ x < up then o + (x - b) / 2 ^ sh else cmpCode x (o + (up - b) / 2 ^ sh) rest

/-- The stated reconstruction of a code in segment (B, S) at offset O (R179). -/
def cmpReconstruct (b sh o y : Nat) : Nat := b + (y - o) * 2 ^ sh + cmpHalf sh

/-- The staged table. -/
def State.cmpStaged (s : State) : List (Nat × Nat) :=
  (List.range 16).map fun j => (s.fld (F.ING_CMP_SEGj_B j), s.fld (F.ING_CMP_SEGj_S j))

/-- CMP_COMMIT: a write of ING_CMP_CTRL (R178). -/
def State.writeCmpCtrl (s : State) (v : Word) : State :=
  if getBits v 0 1 = 0 then s
  else if s.capture then s.raise F.ING_ERR_CFG
  else
    let t := s.cmpStaged
    if cmpValid t then { s with ing := { s.ing with cmp := some t } }.setFld F.ING_CMP_MAXERR (cmpMaxErr t)
    else s.raise F.ING_ERR_CMP

/-- CMP_COMMIT. -/
def execCmpCommit (v : Word) (s : State) : Host.Outcome State Fault Refusal :=
  if s.domOn Dom.ingest then .next (s.writeCmpCtrl v) else .next s

/-- A LOADL at the head is judged again: its planes depend on the pixel width (R234). -/
def State.headRejudge (s : State) : State :=
  if s.trs.loadl.isSome then { s with trs := { s.trs with head := .fresh } } else s

/-- ING_CFG: EN and FILL apply at once; DEPTH16 and CMP_EN change only in SETUP with every slot FREE, and CMP_EN only
with a table in force (R178, R191, R757). -/
def State.writeIngCfg (s : State) (v : Word) : State :=
  let noTable := bitOf v.toNat 2 && s.ing.cmp.isNone
  let newD := bitOf v.toNat 1
  let newC := bitOf v.toNat 2 && !noTable
  let change := newD != s.bit F.ING_CFG_DEPTH16 || newC != s.bit F.ING_CFG_CMP_EN
  let ok := s.mode == .setup && s.slotCount .free == 128
  let s := s.raiseIf noTable F.ING_ERR_CMP
  let s := s.raiseIf (change && !ok) F.ING_ERR_CFG
  let s := if change && ok then ((s.setFld F.ING_CFG_DEPTH16 (b2n newD)).setFld F.ING_CFG_CMP_EN (b2n newC)).headRejudge else s
  let s := s.setFld F.ING_CFG_FILL (getBits v 16 16)
  let s := if bitOf v.toNat 0 then s else s.endLine true
  s.setFld F.ING_CFG_EN (getBits v 0 1)

/-- ING_CFG_WRITE. -/
def execIngCfgWrite (v : Word) (s : State) : Host.Outcome State Fault Refusal :=
  if s.domOn Dom.ingest then .next (s.writeIngCfg v) else .next s

/-! ### A line becomes FILLED (R170, R171, R174 to R177) -/

/-- Pixels of a line as stored values: 8- or 16-bit, companded through the table in force. -/
def Filling.pixels (f : Filling) (tab : List (Nat × Nat)) : List Nat :=
  let rec pairs : List Byte → List Nat
    | a :: b :: r => (a.toNat + 256 * b.toNat) :: pairs r
    | _ => []
  if f.companded then (pairs f.bytes).map fun x => cmpCode (x % 4096) 0 (tab.zip (cmpUppers tab))
  else if f.wide then pairs f.bytes
  else f.bytes.map (·.toNat)

/-- The QUAL bits of a line (Table 7-3). -/
def Filling.qual (f : Filling) (rx : Nat) : Half :=
  BitVec.ofNat 16 (b2n f.crcErr + 2 * b2n f.syncLost + 4 * b2n f.cut + 8 * b2n (decide (16384 < rx)) +
    16 * b2n (decide (rx < 64)) + 32 * b2n f.trig.glitch + 64 * b2n f.trig.implaus + 128 * b2n f.trig.supw +
    256 * b2n f.trig.blinded + 512 * f.trig.prs.toNat + 2048 * b2n f.trig.extrap + 4096 * b2n f.trig.strbSkip)

/-- FILL of a pixel width (Table 7-9). -/
def State.fillPixel (s : State) (wide : Bool) : Nat :=
  if wide then s.fld F.ING_CFG_FILL else s.fld F.ING_CFG_FILL % 256

/-- Write one ended line to its slot: pixels, header, counts (R170, R171, R174 to R177, R185, R186). -/
def State.fillSlot (s : State) (f : Filling) : State :=
  let px := f.pixels (s.ing.cmp.getD [])
  let rx := px.length
  let stored := (px.take 16384) ++ List.replicate (64 - rx) (s.fillPixel f.wide)
  let bytes := if f.wide then stored.flatMap (fun x => leBytes x 2) else stored.map (BitVec.ofNat 8)
  let qual := f.qual rx
  let flagged := qual.toNat &&& s.fld F.ING_QMASK != 0
  let isFirst := s.ing.frames.any fun g => g.has f.trig.num && g.delivered == 0
  let h : LineHeader :=
    { num := f.trig.num, pos := f.trig.pos, time := f.trig.time, frame := f.trig.frame
      npix := BitVec.ofNat 15 stored.length, depth16 := f.wide, qual := qual, laneErr := f.laneErr
      cmpErr := if f.companded then BitVec.ofNat 7 (cmpMaxErr (s.ing.cmp.getD [])) else 0
      first := isFirst, rxLen := BitVec.ofNat 32 rx }
  let s := { s with ing := { s.ing with
      store := SMap.setBytes zeroByte s.ing.store (f.slot * 16384) bytes
      hdr := s.ing.hdr.setIfInBounds f.slot h } }
  let s := s.setSlot f.slot f.wide .filled
  let s := if f.crcErr then s.inc F.ING_CRC_CNT else s
  let s := if f.syncLost then s.inc F.ING_SYNC_CNT else s
  let thr := s.fld F.ING_DIST_THR
  (s.onFrame f.trig.num fun g =>
    { g with
      delivered := g.delivered + 1
      flagged := g.flagged + b2n flagged
      disturbed := g.disturbed || decide (thr < g.flagged + b2n flagged)
      extrap := g.extrap || f.trig.extrap
      firstPos := if g.delivered = 0 then some f.trig.pos else g.firstPos
      lastSlot := some f.slot }).resolveLine f.trig.num

/-- The oldest ended line becomes FILLED. -/
def State.slotFilled (s : State) : State :=
  match s.ing.filling with
  | f :: fs => if f.ended then (State.fillSlot { s with ing := { s.ing with filling := fs } } f).loadlPoll 17 else s
  | [] => s

/-- SLOT_FILLED: the oldest line that has ended is written, its slot is FILLED, and a waiting LOADL claims it (R174,
R181). -/
def execSlotFilled (s : State) : Host.Outcome State Fault Refusal :=
  if s.domOn Dom.ingest then .next s.slotFilled else .next s

/-- LDWAIT_EXPIRY: ING_LDWAIT has passed since the LOADL reached the head. A line that becomes FILLED on that edge is claimed
first, and a frame that ends on it completes the burst without STARVED (R181, R189). -/
def execLdwaitExpiry (s : State) (filled : Bool := false) : Host.Outcome State Fault Refusal :=
  .next (if filled && s.domOn Dom.ingest then s.slotFilled else s).loadlStarve

/-- LTMO_EXPIRY at an LCLK edge: triggers still unpaired are missing, and a line still arriving ends with CUT (R168, R169). A
trigger whose time ends on this very edge still pairs with a PX_SOL that arrives on it (R189). -/
def execLtmoExpiry (t : Nat) (s : State) (sol : Bool := false) : Host.Outcome State Fault Refusal :=
  let s := s.atT t
  if s.domOn Dom.ingest then .next ((s.ltmoPend (if sol then t else t + 1) 16).cutLate t) else .next s

/-! ### Ring view (R175, R176, R193) -/

/-- The 32 bytes of a line header (Table 7-2). -/
def LineHeader.bytes (h : LineHeader) : List Byte :=
  leBytes h.num.toNat 4 ++ leBytes h.pos.toNat 6 ++ leBytes h.time.toNat 6 ++ leBytes h.frame.toNat 4 ++
    leBytes (h.npix.toNat + 32768 * b2n h.depth16) 2 ++ leBytes h.qual.toNat 2 ++ leBytes h.laneErr.toNat 2 ++
    [BitVec.ofNat 8 h.cmpErr.toNat, BitVec.ofNat 8 (b2n h.first + 2 * b2n h.last)] ++ leBytes h.rxLen.toNat 4

/-- ING_SLOTS (Table 7-9). -/
def State.viewSlots (s : State) : Nat :=
  s.slotCount .free + 256 * s.slotCount .filling + 65536 * s.slotCount .filled + 16777216 * s.slotCount .loading

end Sys2Proof.Machine
end

