-- ==== Sys2Proof/Machine/Group.lean ====
section
/-! DEFINITION. What the rest of the device shares with the DYNAK block (Chapter 16): message layout, the transmit queues of
the two ports, and group time. -/

namespace Sys2Proof.Machine

/-! ### Message layout (R401, R402) -/

/-- Byte 0 and bytes 1 to 6 of a message (Table 16-1). -/
def DynMsg.body : DynMsg → List Byte
  | .line fopen flast noexpo tgt lnum =>
    BitVec.ofNat 8 (1 + 16 * b2n fopen + 32 * b2n flast + 64 * b2n noexpo) :: (leBytes tgt.toNat 3 ++ leBytes lnum.toNat 3)
  | .pos linepos p => BitVec.ofNat 8 (2 + 16 * b2n linepos) :: leBytes p.toNat 6
  | .gor hop lnum => 3 :: BitVec.ofNat 8 hop.toNat :: (leBytes lnum.toNat 3 ++ [0, 0])
  | .time t => 4 :: leBytes t.toNat 6
  | .cfg gwin frameNum => 0x14 :: (leBytes gwin.toNat 2 ++ leBytes frameNum.toNat 4)
  | .probe idx => [0x24, idx, 0, 0, 0, 0, 0]
  | .echo idx turn => 0x34 :: idx :: (leBytes turn.toNat 3 ++ [0, 0])
  | .enum hop => [5, BitVec.ofNat 8 hop.toNat, 0, 0, 0, 0, 0]
  | .user payload => 0x15 :: leBytes payload.toNat 6

/-- The eight bytes of a message: the body and its CRC-8 (R401). -/
def DynMsg.bytes (m : DynMsg) : List Byte := m.body ++ [crc8 m.body]

/-- The message of a byte 0 and six payload bytes; none for a reserved TYPE or SUB (R402). Reserved payload bits are
ignored. -/
def DynMsg.ofBody (b0 : Byte) (p : List Byte) : Option DynMsg :=
  let sub := b0.toNat / 16
  let le (i n : Nat) : Nat := ofLeBytes ((p.drop i).take n)
  match b0.toNat % 16 with
  | 1 => if sub < 8 then some (.line (bitOf sub 0) (bitOf sub 1) (bitOf sub 2) (BitVec.ofNat 24 (le 0 3))
      (BitVec.ofNat 24 (le 3 3))) else none
  | 2 => if sub < 2 then some (.pos (bitOf sub 0) (BitVec.ofNat 48 (le 0 6))) else none
  | 3 => if sub = 0 then some (.gor (BitVec.ofNat 5 (le 0 1)) (BitVec.ofNat 24 (le 1 3))) else none
  | 4 =>
    match sub with
    | 0 => some (.time (BitVec.ofNat 48 (le 0 6)))
    | 1 => some (.cfg (BitVec.ofNat 16 (le 0 2)) (BitVec.ofNat 32 (le 2 4)))
    | 2 => some (.probe (BitVec.ofNat 8 (le 0 1)))
    | 3 => some (.echo (BitVec.ofNat 8 (le 0 1)) (BitVec.ofNat 24 (le 1 3)))
    | _ => none
  | 5 =>
    match sub with
    | 0 => some (.enum (BitVec.ofNat 5 (le 0 1)))
    | 1 => some (.user (BitVec.ofNat 48 (le 0 6)))
    | _ => none
  | _ => none

/-- What a receiver makes of eight bytes: a CRC failure, a reserved message, or a message (R403). -/
inductive DynParse where
  | crcFail
  | reserved
  | ok (m : DynMsg)
  deriving DecidableEq, Repr

/-- Read eight bytes (R401 to R403). A byte string of another length counts as a character error. -/
def DynMsg.parse (bs : List Byte) : DynParse :=
  match bs with
  | [b0, b1, b2, b3, b4, b5, b6, c] =>
    if crc8 [b0, b1, b2, b3, b4, b5, b6] = c then
      match DynMsg.ofBody b0 [b1, b2, b3, b4, b5, b6] with
      | some m => .ok m
      | none => .reserved
    else .crcFail
  | _ => .crcFail

/-! ### Ports and transmit queues (R405) -/

/-- A port's state. -/
def State.dynPort (s : State) : DynPort → DynPortSt
  | .up => s.dyn.up
  | .dn => s.dyn.dn

/-- Replace a port's state. -/
def State.setDynPort (s : State) (p : DynPort) (x : DynPortSt) : State :=
  match p with
  | .up => { s with dyn := { s.dyn with up := x } }
  | .dn => { s with dyn := { s.dyn with dn := x } }

/-- The other port. -/
def dynOther : DynPort → DynPort
  | .up => .dn
  | .dn => .up

/-- Priority classes, 1 first (R405). -/
def DynMsg.prio : DynMsg → Nat
  | .line .. => 1
  | .pos true _ => 1
  | .gor .. => 2
  | .echo .. => 3
  | .time _ | .cfg .. | .probe _ | .enum _ | .user _ => 4
  | .pos false _ => 5

/-- Remove the oldest periodic POS of a queue, if there is one. -/
def dynDropPos : List DynMsg → Option (List DynMsg)
  | [] => none
  | m :: ms => if m.prio = 5 then some ms else (dynDropPos ms).map (m :: ·)

/-- Queue a message on a port; a full queue loses its oldest periodic POS, or the message is dropped (R405). -/
def State.dynSend (s : State) (p : DynPort) (m : DynMsg) : State :=
  let x := s.dynPort p
  if x.txq.length < 16 then s.setDynPort p { x with txq := x.txq ++ [m] }
  else
    match dynDropPos x.txq with
    | some q => s.setDynPort p { x with txq := q ++ [m] }
    | none => s.inc F.DYN_FWD_DROP

/-- The oldest message of the highest priority in a queue, and the rest. -/
def dynPick : List DynMsg → Option (DynMsg × List DynMsg)
  | [] => none
  | m :: ms =>
    match dynPick ms with
    | none => some (m, ms)
    | some (x, r) => if m.prio ≤ x.prio then some (m, ms) else some (x, m :: r)

/-- DYNAK runs: its domain is ON and the mode is SETUP or a capture mode (R421). -/
def State.dynOn (s : State) : Bool := s.domOn Dom.dynak && s.mode.isRun

/-- This head acts as the master of its group: the LOCKSTEP master, or outside LOCKSTEP a head that has received no
upstream ENUM (R406, R414). -/
def State.dynMaster (s : State) : Bool := if s.mode = .lockstep then !s.role else s.dyn.hop = 0

/-- The port from which a follower takes its messages (R422). -/
def State.dynSrc (s : State) : DynPort := if s.dyn.srcDn then .dn else .up

/-- A follower forwards: EN is set and its hop is legal (R404, R406). -/
def State.dynForwards (s : State) : Bool := s.dynOn && s.bit F.DYN_CFG_EN && !s.dynMaster && !s.dyn.tooLong

/-- Ports on which a head originates downstream traffic: DYN_DN, and in a ring DYN_UP also (R406). -/
def State.dynOut (s : State) (m : DynMsg) : State :=
  let s := s.dynSend .dn m
  if s.bit F.DYN_CFG_RING then s.dynSend .up m else s

/-- Send a message on each trained port (R419, R428). -/
def State.dynTrained (s : State) (m : DynMsg) : State :=
  let s := if s.dyn.up.trained then s.dynSend .up m else s
  if s.dyn.dn.trained then s.dynSend .dn m else s

/-! ### Group time (R408, R427) -/

/-- Group time at an LCLK edge: the local LCLK count on the master, the aligned count on a follower. -/
def State.groupTime (s : State) (t : Nat) : Pos := BitVec.ofInt 48 ((t : Int) + s.dyn.gOffset)

/-- EXPO and every strobe gate are off. -/
def State.lineQuiet (s : State) : Bool :=
  !s.lio.expoOn && (List.finRange 8).all fun n => (s.lio.stb[n]).gate.isNone

/-- Apply a waiting change of group time once the line outputs are quiet (R408). Targets keep their group time, so their
local edges move the other way (R427). CAL_DONE follows a calibration, and a lost source with CAL_DONE is found again
(R407, R425). -/
def State.groupSettle (s : State) : State :=
  match s.dyn.gPending with
  | none => s
  | some g =>
    if s.lineQuiet then
      let d := g - s.dyn.gOffset
      let mv (x : Nat) : Nat := ((x : Int) - d).toNat
      let move (e : Expo) : Expo := { e with start := mv e.start, stop := mv e.stop }
      let done := s.dyn.calDone || s.dyn.calOk
      let found := s.dyn.lost && done && (s.dynPort s.dynSrc).trained
      { s with
        lio := { s.lio with expos := s.lio.expos.map move
                            wins := s.lio.wins.map fun w => if s.now < w.1 then (mv w.1, mv w.2) else w }
        dyn := { s.dyn with gOffset := g, gPending := none, fine := s.dyn.finePending, calDone := done, calOk := false
                            awaiting := s.dyn.awaiting.map mv
                            prevTarget := s.dyn.prevTarget.map mv, lastTarget := s.dyn.lastTarget.map mv
                            lost := s.dyn.lost && !found, freewheel := s.dyn.freewheel && !found
                            fwLines := if found then 0 else s.dyn.fwLines } }
    else s

end Sys2Proof.Machine
end

