-- ==== Sys2Proof/Machine/Strobes.lean ====
section
/-! DEFINITION. Strobe channels (Chapter 6): pulses and their judgement, lamp faults, proof pulses, the interlock and
on-time. -/

namespace Sys2Proof.Machine

/-! ### Shared -/

/-- Replace one channel. -/
def State.setStb (s : State) (n : Fin 8) (c : Strobe) : State :=
  { s with lio := { s.lio with stb := s.lio.stb.set n c } }

/-- The gate ball of a channel is assigned to another function (R163). -/
def State.stbPinOff (s : State) (n : Fin 8) : Bool :=
  if n.val = 6 then !s.ballFixed 32 else if n.val = 7 then !s.ballFixed 33 else false

/-- The channel has a fault (R151): OPEN, SHORT or STUCK_ON, or LAMP_UNVERIFIED while UNV_FAULT is set. -/
def State.stbFault (s : State) (n : Fin 8) : Bool :=
  s.bit (F.STBn_STAT_OPEN n) || s.bit (F.STBn_STAT_SHORT n) || s.bit (F.STBn_STAT_STUCK_ON n) ||
    (s.bit (F.STBn_STAT_LAMP_UNVERIFIED n) && s.bit (F.STBn_CFG_UNV_FAULT n))

/-- After any change of a fault bit: DISABLED follows FAULT_ACT, a disabled channel forgets the pulses due and starts again
with the next EXPO, and the first fault bit of a clean channel writes one
WARN record (R151, R681). -/
def State.stbFaultUpdate (s : State) (n : Fin 8) : State :=
  let c := s.lio.stb[n]
  if s.stbFault n then
    let s :=
      if s.bit (F.STBn_CFG_FAULT_ACT n) then
        State.setStb (s.raise (F.STBn_STAT_DISABLED n)) n
          { c with due := [], proofAt := none, dac := if c.gate.isSome then c.dac else c.iset }
      else s
    let c := s.lio.stb[n]
    if c.warned then s
    else
      let bits := b2n (s.bit (F.STBn_STAT_OPEN n)) + 2 * b2n (s.bit (F.STBn_STAT_SHORT n)) +
        4 * b2n (s.bit (F.STBn_STAT_STUCK_ON n)) + 8 * b2n (s.bit (F.STBn_STAT_LAMP_UNVERIFIED n))
      (s.setStb n { c with warned := true }).warn 5 [BitVec.ofNat 8 n.val, BitVec.ofNat 8 bits]
  else (s.setFld (F.STBn_STAT_DISABLED n) 0).setStb n { c with warned := false }

/-- WAIT adds one and stops at 255; when it reaches NWAIT the lamp is unverified (R153, R155). -/
def State.stbWait (s : State) (n : Fin 8) : State :=
  let before := s.fld (F.STBn_STAT_WAIT n)
  let s := s.addSat (F.STBn_STAT_WAIT n) 1
  let lim := s.fld (F.STBn_LIM_NWAIT n)
  if before < lim ∧ lim ≤ s.fld (F.STBn_STAT_WAIT n) then
    ((s.raise (F.STBn_STAT_LAMP_UNVERIFIED n)).inc (F.STBn_UNV_EV n)).stbFaultUpdate n
  else s

/-- An unverified pulse (R148, R152): UNV adds one, and at NUNV a proof is asked for. -/
def State.stbUnverified (s : State) (n : Fin 8) : State :=
  let s := s.addSat (F.STBn_STAT_UNV n) 1
  if s.fld (F.STBn_LIM_NUNV n) ≤ s.fld (F.STBn_STAT_UNV n) ∧ s.bit (F.STBn_CFG_PROOF_EN n) ∧
      !s.bit (F.STBn_STAT_PROOF_PEND n) then
    (s.raise (F.STBn_STAT_PROOF_PEND n)).setFld (F.STBn_STAT_WAIT n) 0
  else s

/-- Why a gate turns off. -/
inductive GateOff where
  | ended | aborted | cut | interlock | pin
  deriving DecidableEq, Repr

/-- The on-time as it stands at an edge, with the pulse in progress (R158). -/
def Strobe.onNow (c : Strobe) (t : Nat) : Pos :=
  match c.gate with
  | some p => c.ontime + BitVec.ofNat 48 ((c.rem + (t - p.cnt)) / 400)
  | none => c.ontime

/-- On-time counts the gate's LCLK in microseconds of 400 LCLK and keeps the remainder (R158). -/
def Strobe.addOn (c : Strobe) (lclk : Nat) : Strobe :=
  { c with ontime := c.ontime + BitVec.ofNat 48 ((c.rem + lclk) / 400), rem := (c.rem + lclk) % 400 }

/-- A channel's on-time reaches its rated life: LAMP_EOL sets, with one WARN record (R658). -/
def State.lampCheck (s : State) (n : Fin 8) : State :=
  let rated := s.fld (F.WR_LAMPn_RATED n)
  if rated ≠ 0 ∧ rated * 3600 * 1000000 ≤ (s.lio.stb[n]).ontime.toNat ∧ !bitOf (s.fld F.WR_LAMP_EOL) n then
    (s.setFld F.WR_LAMP_EOL (s.fld F.WR_LAMP_EOL + 2 ^ n.val)).warn 4 [BitVec.ofNat 8 n.val]
  else s

/-- The DAC code of a proof pulse: a tenth of the committed code, at least 1 (R153). -/
def Strobe.proofDac (c : Strobe) : BitVec 10 := BitVec.ofNat 10 (max 1 (c.iset.toNat / 10))

/-- The DAC code while no gate is on: the committed code, or that of a proof pulse from the window end on (R146, R153). -/
def Strobe.restDac (c : Strobe) : BitVec 10 := if c.proofAt.isSome then c.proofDac else c.iset

/-- A gate turns off at an LCLK edge (R148, R150, R153, R154, R157, R158, R522). The pulse is unverified when its gate was
on for fewer than SETTLE + 80 LCLK, unless the interlock or the pin multiplexer cut it. -/
def State.gateOff (s : State) (n : Fin 8) (t : Nat) (why : GateOff) : State :=
  let c := s.lio.stb[n]
  match c.gate with
  | none => s
  | some p =>
    let c := { c.addOn (t - p.cnt) with gate := none, stuckDue := some t, dac := c.restDac }
    let s := (s.setStb n c).lampCheck n
    let short (s : State) : State := if t - p.start < p.settle + 80 then s.stbUnverified n else s
    match why with
    | .interlock => if p.kind = .normal then s.markStrobeSkip p.line else s
    | .pin => s.inc (F.STBn_SKIP n)
    | .ended | .cut => short s
    | .aborted => ((short s).inc (F.STBn_PROOF_ABORT n)).stbWait n

/-- One channel goes off and forgets the pulses due. -/
def State.strobeOff (s : State) (t : Nat) (n : Fin 8) : State :=
  let s := s.gateOff n t .cut
  let c := s.lio.stb[n]
  s.setStb n { c with due := [], proofAt := none, dac := c.iset }

/-- Every strobe gate off and every proof request cancelled (R145, R621). -/
def State.strobesOff (s : State) (t : Nat) : State :=
  (List.finRange 8).foldl (fun s n => (s.strobeOff t n).setFld (F.STBn_STAT_PROOF_PEND n) 0) s

/-- Outside the capture modes no normal or proof gate is on (R145). -/
def State.strobesQuit (s : State) (t : Nat) : State :=
  (List.finRange 8).foldl (fun s n => s.strobeOff t n) s

/-- A trigger, a LINE sent or received, or an EXPO assertion turns off every proof gate (R154). -/
def State.proofAbort (s : State) (t : Nat) : State :=
  (List.finRange 8).foldl (fun s n =>
    match s.lio.stb[n].gate with
    | some p => if p.kind = .proof then s.gateOff n t .aborted else s
    | none => s) s

/-- Commit the staged ISET, OFS and W of a channel; the DAC of a pulse in progress stays (R146). -/
def State.stbCommit (s : State) (n : Fin 8) : State :=
  let c := s.lio.stb[n]
  let iset := BitVec.ofNat 10 (s.fld (F.STBn_ISET n))
  s.setStb n { c with iset := iset, ofs := s.fld (F.STBn_OFS n), w := s.fld (F.STBn_W n)
                      dac := if c.gate.isSome || c.proofAt.isSome then c.dac else iset }

/-- At an EXPO assertion the staged settings commit and, in a capture mode, each enabled channel whose PAT selects the line is
due a pulse (R144, R145, R146, R151). -/
def State.strobesExpo (s : State) (line : Word) (t : Nat) : State :=
  (List.finRange 8).foldl (fun s n =>
    let s := s.stbCommit n
    let c := s.lio.stb[n]
    if s.mode.isCapture && s.bit (F.STBn_CFG_EN n) && bitOf (s.fld (F.STBn_CFG_PAT n)) (line.toNat % 8) && !s.bit (F.STBn_STAT_DISABLED n)
    then s.setStb n { c with due := c.due ++ [(line, t + c.ofs)] } else s) s

/-! ### Commands -/

/-- Turn a channel's gate on for a kind of pulse: its SETTLE and its reference, the DAC code times IFRAC, are taken here
(R147, R150, log 58). -/
def State.gateOn (s : State) (n : Fin 8) (kind : PulseKind) (line : Word) (start len : Nat) : State :=
  let c := s.lio.stb[n]
  let p : Pulse := { kind := kind, line := line, start := start, len := len, settle := s.fld (F.STBn_SETTLE n), cnt := start }
  let dac := if kind = .proof then c.proofDac else c.iset
  s.setStb n { c with gate := some p, stuckDue := none, dac := dac, ref := dac.toNat * s.fld (F.STBn_CFG_IFRAC n) }

/-- STROBE_PULSE_START: the channel's next due pulse, at its own edge (R144, R157, R160, R163). -/
def execStrobePulseStart (n : Fin 8) (s : State) : Host.Outcome State Fault Refusal :=
  let c := s.lio.stb[n]
  match c.due with
  | [] => .next s
  | (line, t) :: rest =>
    let s := (s.setStb n { c with due := rest }).atT t
    let skip (s : State) : State := (s.inc (F.STBn_SKIP n)).markStrobeSkip line
    if s.stbPinOff n || s.ilk then .next (skip s)
    else if s.bit (F.STBn_STAT_DISABLED n) then .next s
    else if c.gate.isSome then .next ((skip s).raise (F.STBn_STAT_OVERLAP n))
    else .next ((s.gateOn n .normal line t c.w).inc (F.STBn_PULSES n))

/-- A judged pulse's result (R147, R149, R150). -/
def State.stbResult (s : State) (n : Fin 8) (isns vsnsLow : Nat) : State :=
  let c := s.lio.stb[n]
  let flt := s.fld (F.STBn_CFG_FLT_CNT n)
  if isns < 60 then
    let s := s.setStb n { c with openRun := c.openRun + 1, shortRun := 0 }
    (s.raiseIf (decide (flt ≤ c.openRun + 1)) (F.STBn_STAT_OPEN n)).stbFaultUpdate n
  else if 60 ≤ vsnsLow then
    let s := s.setStb n { c with openRun := 0, shortRun := c.shortRun + 1 }
    (s.raiseIf (decide (flt ≤ c.shortRun + 1)) (F.STBn_STAT_SHORT n)).stbFaultUpdate n
  else
    let s := s.setStb n { c with openRun := 0, shortRun := 0 }
    ((((s.setFld (F.STBn_STAT_UNV n) 0).setFld (F.STBn_STAT_PROOF_PEND n) 0).setFld (F.STBn_STAT_WAIT n) 0).setFld
      (F.STBn_STAT_LAMP_UNVERIFIED n) 0).stbFaultUpdate n

/-- ISNS samples above a reference: both in units in which a DAC code is 1.2 V ÷ 1023 and the reference code × IFRAC ÷ 16
(R147, R738, R739). -/
def isnsAbove (ref : Nat) (isns : List Nat) : Nat := (isns.take 80).countP fun v => decide (1200000 * ref < v * 1023 * 16)

/-- VSNS samples below VSHORT, 12.5 mV a code (R147, R738). -/
def vsnsBelow (vshort : Nat) (vsns : List Nat) : Nat := (vsns.take 80).countP fun v => decide (v < vshort * 12500)

/-- STROBE_JUDGE: the end of the measurement window of a pulse whose gate stays on for at least SETTLE + 80 LCLK, with the 80
samples of ISNS and VSNS (R147). -/
def execStrobeJudge (n : Fin 8) (isns vsns : List Nat) (s : State) : Host.Outcome State Fault Refusal :=
  let c := s.lio.stb[n]
  match c.gate with
  | none => .next s
  | some p =>
    if p.judged || decide (p.len < p.settle + 80) then .next s
    else
      let s := (s.setStb n { c with gate := some { p with judged := true } }).atT (p.start + p.settle + 80)
      let s := if p.kind = .proof then s.inc (F.STBn_PROOF_DONE n) else s
      .next (s.stbResult n (isnsAbove c.ref isns) (vsnsBelow (s.fld (F.STBn_LIM_VSHORT n)) vsns))

/-- STROBE_PULSE_END: the gate turns off when its pulse is over (R148, R152, R158); a group-time change that waited for it
applies (R408). -/
def execStrobePulseEnd (n : Fin 8) (s : State) : Host.Outcome State Fault Refusal :=
  match s.lio.stb[n].gate with
  | none => .next s
  | some p => .next (((s.gateOff n (p.start + p.len) .ended).atT (p.start + p.len)).groupSettle)

/-- STUCK_ON_CHECK: 80 samples of ISNS after a gate-off, SETTLE to SETTLE + 80 LCLK later, against the reference of the last
pulse (R150). In FALLBACK the channels do nothing (R755). -/
def execStuckOnCheck (n : Fin 8) (isns : List Nat) (s : State) : Host.Outcome State Fault Refusal :=
  let c := s.lio.stb[n]
  match c.stuckDue with
  | none => .next s
  | some t =>
    if s.domOn Dom.lineio && s.mode != .fallback && !s.stbPinOff n then
      let s := (s.setStb n { c with stuckDue := none }).atT (t + s.fld (F.STBn_SETTLE n) + 80)
      .next ((s.raiseIf (decide (60 ≤ isnsAbove c.ref isns)) (F.STBn_STAT_STUCK_ON n)).stbFaultUpdate n)
    else .next s

/-- STBn_TEST at an LCLK edge (R145, R146, R157, R162, R163). -/
def State.writeStbTest (s : State) (n : Fin 8) (v : Word) (t : Nat) : State :=
  if getBits v 0 1 = 0 then s
  else if s.mode ≠ .setup ∨ s.bit (F.STBn_STAT_DISABLED n) then s.raise (F.STBn_STAT_TEST_REFUSED n)
  else
    let s := s.stbCommit n
    if s.stbPinOff n || s.ilk then s.inc (F.STBn_SKIP n)
    else if (s.lio.stb[n]).gate.isSome then (s.inc (F.STBn_SKIP n)).raise (F.STBn_STAT_OVERLAP n)
    else (s.gateOn n .test 0 t (s.lio.stb[n]).w).inc (F.STBn_PULSES n)

/-- STB_TEST: a write of STBn_TEST. -/
def execStbTest (n : Fin 8) (v : Word) (t : Nat) (s : State) : Host.Outcome State Fault Refusal :=
  if s.domOn Dom.lineio then .next ((s.atT t).writeStbTest n v t) else .next s

/-! ### Guarded windows and proof pulses (R152 to R156) -/

/-- Put a window among the others, by start. -/
def winInsert (w : Nat × Nat) : List (Nat × Nat) → List (Nat × Nat)
  | [] => [w]
  | v :: vs => if w.1 < v.1 then w :: v :: vs else v :: winInsert w vs

/-- The window from a to b with every window that meets it, and the rest. -/
def winJoin (a b : Nat) : List (Nat × Nat) → (Nat × Nat) × List (Nat × Nat)
  | [] => ((a, b), [])
  | (c, d) :: ws => if c ≤ b then winJoin a (max b d) ws else ((a, b), (c, d) :: ws)

/-- The guarded window of a line: its own EXPO assertion, and in LOCKSTEP the group exposure window also (R152, R416). -/
def State.noteWindow (s : State) (start : Nat) (expo : Bool) : State :=
  let own := if expo then start + s.fld F.ENC_EXPO_W_W else start
  let g := if s.role then s.dyn.gwin.toNat else s.fld F.DYN_GWIN
  let put (stop : Nat) : State := { s with lio := { s.lio with wins := winInsert (start, stop) s.lio.wins } }
  if s.mode = .lockstep then put (max own (start + g * 64)) else if expo then put own else s

/-- The predicted gap after the window that has just ended (R153): the spacing of the last two triggers less its length. -/
def State.predictedGap (s : State) : Option Nat :=
  match s.lio.lastTrig, s.lio.prevTrig with
  | some a, some b => some (a - b - (s.lio.winEnd - s.lio.winStart))
  | _, _ => none

/-- One channel tests the gap (R153, R155, R157, R163). -/
def State.gapTest (s : State) (n : Fin 8) : State :=
  let c := s.lio.stb[n]
  if !s.bit (F.STBn_STAT_PROOF_PEND n) || c.proofAt.isSome || s.stbPinOff n || s.ilk then s
  else
    let need := s.fld (F.STBn_SETTLE n) + 480
    let fits := match s.predictedGap with
      | some g => decide (need ≤ g)
      | none => false
    if fits && decide (200 ≤ s.lio.notice) && !s.bit (F.STBn_STAT_DISABLED n) then
      s.setStb n { c with dac := if c.gate.isSome then c.dac else c.proofDac, proofAt := some (s.lio.winEnd + 200) }
    else s.stbWait n

/-- GUARDED_WINDOW_END: the first guarded window ends, once every EXPO that starts within it has started; in a capture mode
every channel with PROOF_PEND tests the gap that follows it (R145, R153, R156, R161). -/
def execGuardedWindowEnd (s : State) : Host.Outcome State Fault Refusal :=
  match s.lio.wins with
  | [] => .next s
  | w :: ws =>
    let r := winJoin w.1 w.2 ws
    if s.domOn Dom.lineio && s.lio.expos.all fun e => decide (r.1.2 < e.start) then
      let s := { s with lio := { s.lio with wins := r.2, winStart := r.1.1, winEnd := r.1.2 } }.atT r.1.2
      .next (if s.mode.isCapture then (List.finRange 8).foldl (fun s n => s.gapTest n) s else s)
    else .next s

/-- PROOF_PULSE_START: the proof gate turns on 200 LCLK after the window end, for SETTLE + 80 LCLK, with a tenth of the
current (R153, R157, R163). A gap in which a pulse is still on takes no proof pulse, and WAIT adds one (log 57). -/
def execProofPulseStart (n : Fin 8) (s : State) : Host.Outcome State Fault Refusal :=
  let c := s.lio.stb[n]
  match c.proofAt with
  | none => .next s
  | some t =>
    let s := s.atT t
    let off := s.setStb n { c with proofAt := none, dac := if c.gate.isSome then c.dac else c.iset }
    if s.stbPinOff n || s.ilk then .next (off.inc (F.STBn_SKIP n))
    else if s.bit (F.STBn_STAT_DISABLED n) || !s.mode.isCapture then .next off
    else if c.gate.isSome then .next (off.stbWait n)
    else
      .next ((s.setStb n { c with proofAt := none }).gateOn n .proof 0 t (s.fld (F.STBn_SETTLE n) + 80))

/-! ### The interlock and on-time (R157, R158) -/

/-- LINEIO is ON and VIO33, rail 5, is GOOD (R157). -/
def State.ilkWatched (s : State) : Bool := s.domOn Dom.lineio && (s.rails[5]).st == .good

/-- ILK_N is low at the block: every strobe gate turns off, and an assertion is counted while the input is watched (R157). -/
def State.ilkCut (s : State) (t : Nat) : State :=
  let s := (List.finRange 8).foldl (fun s n => s.gateOff n t .interlock) s
  if s.ilkWatched then (s.raise F.STB_GSTAT_ILK_EV).inc F.STB_ILK_CNT else s

/-- A change ends what hid a low ILK_N from the block: the block sees it go low now (R157, R722). `before`: the block saw
it low already. -/
def State.ilkSettle (s : State) (before : Bool) : State := if !before && s.ilk then s.ilkCut s.now else s

/-- ILK_ASSERT: ILK_N goes low; a test-access instruction that acts hides it (R157, R722). -/
def execIlkAssert (t : Nat) (s : State) : Host.Outcome State Fault Refusal :=
  if s.lio.ilkLow then .next s
  else
    let s := { s with lio := { s.lio with ilkLow := true } }.atT t
    .next (if s.tapActs then s else s.ilkCut t)

/-- ILK_RELEASE: ILK_N rises; no cut pulse resumes (R157). -/
def execIlkRelease (t : Nat) (s : State) : Host.Outcome State Fault Refusal :=
  .next ({ s with lio := { s.lio with ilkLow := false } }.atT t)

/-- The time of the pulse in progress up to an edge is added to the on-time (R158). -/
def Strobe.fold (c : Strobe) (t : Nat) : Strobe :=
  match c.gate with
  | some p => { c.addOn (t - p.cnt) with gate := some { p with cnt := max p.cnt t } }
  | none => c

/-- A write of STBn_ONTIME_HI loads the staged count; an advance on the edge of the write is added to it. The remainder in
LCLK is kept (R158). -/
def State.writeOntimeHi (s : State) (n : Fin 8) (v : Word) : State :=
  let cnt := s.fld (F.STBn_ONTIME_LO n) + 2 ^ 32 * getBits v 0 16
  let c := (s.lio.stb[n]).fold s.now
  let adv := (s.lio.stb[n]).gate.any (fun p => decide (p.cnt < s.now)) && c.rem == 0
  let s := s.setStb n { c with ontime := BitVec.ofNat 48 (cnt + b2n adv) }
  let rated := s.fld (F.WR_LAMPn_RATED n)
  let s := if cnt < rated * 3600 * 1000000 then s.setReg Reg.WR_LAMP_EOL (setBits (s.reg Reg.WR_LAMP_EOL) n 1 0) else s
  s.lampCheck n

/-- ONTIME_HI_WRITE. -/
def execOntimeHiWrite (n : Fin 8) (v : Word) (s : State) : Host.Outcome State Fault Refusal :=
  if s.domOn Dom.lineio then .next (s.writeOntimeHi n v) else .next s

end Sys2Proof.Machine
end

