-- ==== Sys2Proof/Machine/Presence.lean ====
section
/-! DEFINITION. The coded presence receiver (Chapter 5): the code and its correlation, flood detectors, debounce, hold and
fail states, the edge queue, and the gating of frames at a trigger. -/

namespace Sys2Proof.Machine

/-- The position of the encoder that ENC_TRIG_CFG.SEL selects; 0 with SEL = 0b11 (R102, R132). -/
def State.trigPos (s : State) : Pos :=
  let sel := s.fld F.ENC_TRIG_CFG_SEL
  if h : sel < 3 then (s.lio.enc[sel]).pos else 0

/-- That position before a count accepted on an LCLK edge (R24). -/
def State.trigPosBefore (s : State) (t : Nat) : Pos :=
  let sel := s.fld F.ENC_TRIG_CFG_SEL
  if h : sel < 3 then
    let e := s.lio.enc[sel]
    if t ≤ e.countT then e.prevPos else e.pos
  else 0

/-! ### The code (R122, R123) -/

/-- One step of the 5-bit shift register. -/
def prsShift (r : Nat) : Nat := (r % 2 + r / 4 % 2) % 2 * 16 + r / 2

/-- The chips of a code period: n chips from a register value. -/
def prsChips : Nat → Nat → List Bool
  | 0, _ => []
  | n + 1, r => (r % 2 == 1) :: prsChips n (prsShift r)

/-- A received chip is 1 when at least 9 of its 16 samples are high (R123). -/
def prsRxChip (prx : BitVec 496) (i : Nat) : Bool := decide (9 ≤ popCount (prx.toNat / 2 ^ (16 * i)) 16)

/-- Chips that equal less chips that differ, from chip i on. -/
def prsCorrFrom (prx : BitVec 496) : Nat → List Bool → Int
  | _, [] => 0
  | i, c :: cs => (if prsRxChip prx i == c then 1 else -1) + prsCorrFrom prx (i + 1) cs

/-- The correlation C of a code period (R123). -/
def prsCorr (prx : BitVec 496) (seed : Nat) : Int := prsCorrFrom prx 0 (prsChips 31 seed)

/-! ### Flood detectors (Table 5-1) -/

/-- Sum of the absolute differences of successive samples. -/
def ambRipple : Option (BitVec 10) → List (BitVec 10) → Nat
  | _, [] => 0
  | none, x :: xs => ambRipple (some x) xs
  | some p, x :: xs => (max p.toNat x.toNat - min p.toNat x.toNat) + ambRipple (some x) xs

/-- Minimum and maximum of one period's samples. -/
def ambRange (amb : List (BitVec 10)) : BitVec 10 × BitVec 10 :=
  (amb.foldl (fun m x => if x < m then x else m) (BitVec.allOnes 10), amb.foldl (fun m x => if m < x then x else m) 0)

/-- The CAUSE bits of a code period: saturation, stuck, ballast, mains. -/
def State.prsCause (s : State) (prx : BitVec 496) (amb : List (BitVec 10)) : Nat :=
  let p := s.lio.prs
  let cfg := p.cfg.toNat
  let sat := bitOf cfg 18 && amb.any fun x => decide (s.fld F.PRS_SAT_THR ≤ x.toNat)
  let stuck := bitOf cfg 19 && prx == BitVec.allOnes 496
  let bal := bitOf cfg 20 && decide (s.fld F.PRS_BAL_THR < ambRipple p.ambLast amb)
  let win := (ambRange amb :: p.mains).take 41
  let lo := win.foldl (fun m x => min m x.1.toNat) 1023
  let hi := win.foldl (fun m x => max m x.2.toNat) 0
  let mains := bitOf cfg 21 && decide (s.fld F.PRS_MAINS_THR < hi - lo)
  b2n sat + 2 * b2n stuck + 4 * b2n bal + 8 * b2n mains

/-- The samples of a period enter the ripple and mains windows. -/
def State.prsSamples (s : State) (amb : List (BitVec 10)) : State :=
  let p := s.lio.prs
  { s with lio := { s.lio with prs := { p with ambLast := amb.getLast?.or p.ambLast
                                               mains := (ambRange amb :: p.mains).take 41 } } }

/-! ### Edges (R132, R134, R140) -/

/-- The position of R133 has already passed when the edge is placed (R134). -/
def State.prsLate (s : State) (e : PrsEdge) : Bool :=
  let ofs := if e.toPresent then s.fld F.PRS_FS_OFS else s.fld F.PRS_FE_OFS
  s.lio.prs.gateOn && s.capture && decide ((ofs : Int) < posDiff s.trigPos e.pos)

/-- Place an edge in the edge queue (R134, R140). -/
def State.prsEnqueue (s : State) (e : PrsEdge) : State :=
  let p := s.lio.prs
  let put (p : Presence) : State := { s with lio := { s.lio with prs := p } }
  if e.toPresent && p.dropPresent then put { p with dropPresent := false }
  else if p.queue.length < 16 then
    let s' := put { p with queue := p.queue ++ [e] }
    if s.prsLate e then s'.inc F.PRS_LATE_CNT else s'
  else if e.toPresent then
    let q := p.queue.reverse
    let q' := (q.takeWhile (·.toPresent)) ++ ((q.dropWhile (·.toPresent)).drop 1)
    (put { p with queue := q'.reverse }).inc F.PRS_MERGE_CNT
  else (put { p with dropPresent := true }).inc F.PRS_MERGE_CNT

/-- An edge: latch PRS_EDGE_POS, set EDGE_EV, queue it (R132). -/
def State.prsEdge (s : State) (e : PrsEdge) : State :=
  let s := s.setReg Reg.PRS_EDGE_POS_LO (BitVec.ofNat 32 e.pos.toNat)
  let s := s.setReg Reg.PRS_EDGE_POS_HI
    (BitVec.ofNat 32 (e.pos.toNat / 2 ^ 32 + 65536 * b2n e.toPresent + 131072 * b2n e.forced))
  (s.raise F.PRS_STAT_EDGE_EV).prsEnqueue e

/-- Codes of PRS_STAT.STATE (Table 5-5). -/
def PrsState.code : PrsState → Nat
  | .unknown => 0
  | .absent => 1
  | .present => 2

/-- Change STATE; a change to or from PRESENT is an edge (R132). -/
def State.prsSetState (s : State) (st : PrsState) (forced : Bool) (pos : Pos) : State :=
  let old := s.lio.prs.st
  let s := { s with lio := { s.lio with prs := { s.lio.prs with st := st } } }.setFld F.PRS_STAT_STATE st.code
  if (old == .present) != (st == .present) then
    s.prsEdge { toPresent := st == .present, forced := forced, pos := pos }
  else s

/-! ### Running and stopping (R127, R137, R138) -/

/-- The conditions under which the receiver runs, PRS_CFG.EN apart (R138). -/
def State.prsMay (s : State) : Bool := s.lioRuns

/-- The receiver stops: STATE becomes UNKNOWN; from PRESENT a FORCED ABSENT edge is queued (R138). BLINDED stays until the next
valid code (R129). That FORCED and INVALID clear, that the run of R126 is forgotten and that the ripple and mains windows are
empty at the restart is the model's choice (log 54, log 55, DESIGN CHOICE). -/
def State.prsStop (s : State) : State :=
  if s.lio.prs.running then
    let s := s.prsSetState .unknown true s.trigPos
    let s := (s.setFld F.PRS_STAT_FORCED 0).setFld F.PRS_STAT_INVALID 0
    { s with lio := { s.lio with prs := { s.lio.prs with running := false, run := {}, invRun := 0, mains := []
                                                         ambLast := none, discard := false, next := none } } }
  else s

/-- The written configuration: PRS_CFG, PRS_LAG and PRS_THR. -/
def State.prsWritten (s : State) : Word × Word × Word := (s.reg Reg.PRS_CFG, s.reg Reg.PRS_LAG, s.reg Reg.PRS_THR)

/-- A configuration takes force at a code-period start, at an edge; a change of SEED or LAG discards that period (R137). -/
def State.prsLatch (s : State) (x : Word × Word × Word) (t : Nat) : State :=
  let p := s.lio.prs
  let changed := getBits x.1 13 5 != getBits p.cfg 13 5 || x.2.1 != p.lag
  { s with lio := { s.lio with prs := { p with cfg := x.1, lag := x.2.1, thr := x.2.2, discard := changed, perT := t
                                               next := none } } }

/-- A code period lasts 31 × 3,200 LCLK (R122). -/
def prsPeriod : Nat := 99200

/-- The next code period has started, and its predecessor's code end is still to come: it takes the configuration as written
before now (R123, R137). -/
def State.prsTake (s : State) : State :=
  let p := s.lio.prs
  if p.running && p.next.isNone && decide (p.perT + prsPeriod ≤ s.now) then
    { s with lio := { s.lio with prs := { p with next := some s.prsWritten } } }
  else s

/-- Start or stop the receiver as EN, the mode and the domain ask (R127, R137, R138). -/
def State.prsSettle (s : State) : State :=
  if s.lio.prs.running then (if s.prsMay then s else s.prsStop)
  else if s.prsMay && s.bit F.PRS_CFG_EN then
    let s := s.prsLatch s.prsWritten s.now
    { s with lio := { s.lio with prs := { s.lio.prs with running := true, st := .unknown, run := {} } } }
      |>.setFld F.PRS_STAT_STATE 0
  else s

/-! ### The code end (R124 to R131, R139, R142) -/

/-- A valid code: BLINDED and INVALID clear, and the run of R126 goes on or restarts. -/
def State.prsValid (s : State) (present : Bool) : State :=
  let p := s.lio.prs
  let s := (s.setFld F.PRS_STAT_BLINDED 0).setFld F.PRS_STAT_INVALID 0
  let run : PrsRun := if p.run.len = 0 ∨ p.run.present ≠ present
    then { present := present, len := 1, pos := s.trigPos } else { p.run with len := p.run.len + 1 }
  let s := { s with lio := { s.lio with prs := { p with invRun := 0, run := run } } }
  if getBits p.cfg 9 4 ≤ run.len then
    let st : PrsState := if present then .present else .absent
    (s.setFld F.PRS_STAT_FORCED 0).prsSetState st false run.pos
  else s

/-- An invalid code: INVALID counts, and at invalid code HOLD + 1 the fail state applies (R130). -/
def State.prsInvalid (s : State) : State :=
  let p := s.lio.prs
  let n := p.invRun + 1
  let s := { s with lio := { s.lio with prs := { p with invRun := n } } }.setFld F.PRS_STAT_INVALID (min n 15)
  let limit := getBits p.cfg 5 4 + 1
  if n = limit ∨ (limit ≤ n ∧ !s.bit F.PRS_STAT_FORCED) then
    let s := { s with lio := { s.lio with prs := { s.lio.prs with run := {} } } }.raise F.PRS_STAT_FORCED
    let fail := getBits p.cfg 3 2
    if fail = 0 then s.prsSetState .present true s.trigPos
    else if fail = 1 then s.prsSetState .absent true s.trigPos
    else s
  else s

/-- Class one code and apply it (R124, R125, R129, R139). -/
def State.prsClass (s : State) (prx : BitVec 496) (amb : List (BitVec 10)) : State :=
  let p := s.lio.prs
  let c := prsCorr prx (getBits p.cfg 13 5)
  let cause := s.prsCause prx amb
  let s := s.prsSamples amb
  let s := (s.setFld F.PRS_CORR_C (BitVec.ofInt 6 c).toNat).setFld F.PRS_CORR_CAUSE cause
  let seen := (BitVec.ofNat 6 (getBits p.thr 0 6)).toInt
  let gone := (BitVec.ofNat 6 (getBits p.thr 8 6)).toInt
  let sense := bitOf p.cfg.toNat 1
  if !s.ballFixed 34 then (s.inc F.PRS_WEAK_CNT).prsInvalid
  else if cause ≠ 0 then
    (((s.raise F.PRS_STAT_BLINDED).raise F.PRS_STAT_BLIND_EV).inc F.PRS_BLIND_CNT).prsInvalid
  else if seen ≤ c then s.prsValid sense
  else if c ≤ gone then s.prsValid (!sense)
  else (s.inc F.PRS_WEAK_CNT).prsInvalid

/-- PRS_CODE_END at an LCLK edge, with the 496 PRX_IN samples and the 62 PRX_AMB samples of the period. It falls 4 LCLK after the
period's end, where the next period began with the configuration written until then (R123, R137). -/
def execPrsCodeEnd (prx : BitVec 496) (amb : List (BitVec 10)) (t : Nat) (s : State) :
    Host.Outcome State Fault Refusal :=
  if s.lio.prs.running then
    let s := s.atT t
    let s := if s.lio.prs.discard then s.prsSamples amb else s.prsClass prx amb
    let x := s.lio.prs.next.getD s.prsWritten
    let s := s.prsLatch x (t - 4)
    .next (if x.1.getLsbD 0 then s else s.prsStop)
  else .next s

/-! ### Writes (R124, R137, Table 5-2) -/

/-- A write of PRS_CFG, PRS_LAG or PRS_THR. -/
def State.writePrs (s : State) (r : PrsReg) (v : Word) : State :=
  let s := s.prsTake
  match r with
  | .cfg =>
    if getBits v 9 4 = 0 ∨ getBits v 13 5 = 0 ∨ getBits v 3 2 = 3 then s
    else (s.setReg Reg.PRS_CFG (v &&& 0x7FFFFF)).prsSettle
  | .lag => if 3200 ≤ getBits v 0 12 then s.raise F.PRS_ERR_LAG else s.setReg Reg.PRS_LAG (v &&& 0xFFF)
  | .thr =>
    if (BitVec.ofNat 6 (getBits v 0 6)).toInt ≤ (BitVec.ofNat 6 (getBits v 8 6)).toInt then s.raise F.PRS_ERR_THR
    else s.setReg Reg.PRS_THR (v &&& 0x3F3F)

/-- PRS_CFG_WRITE. -/
def execPrsCfgWrite (r : PrsReg) (v : Word) (s : State) : Host.Outcome State Fault Refusal :=
  if s.domOn Dom.lineio then .next (s.writePrs r v) else .next s

/-! ### Gating at a trigger (R133, R135, R141) -/

/-- The edge's position has been reached by a trigger position. -/
def State.edgeReached (s : State) (e : PrsEdge) (pos : Pos) : Bool :=
  let ofs := if e.toPresent then s.fld F.PRS_FS_OFS else s.fld F.PRS_FE_OFS
  decide ((ofs : Int) ≤ posDiff pos e.pos)

/-- Act on every queued edge that a trigger reaches: opens, closes, and opens that close at the same trigger. -/
def State.gateEdges (s : State) (pos : Pos) : Nat → State
  | 0 => s
  | fuel + 1 =>
    let p := s.lio.prs
    let put (p : Presence) : State := { s with lio := { s.lio with prs := p } }
    match p.queue with
    | [] => s
    | e :: q =>
      if !s.edgeReached e pos then s
      else if p.gateOpen then
        if e.toPresent then (put { p with queue := q }).gateEdges pos fuel
        else ((put { p with queue := q, gateOpen := false }).frameClose false true).gateEdges pos fuel
      else if e.toPresent then
        match q with
        | e2 :: q2 =>
          if !e2.toPresent && s.edgeReached e2 pos then
            ((put { p with queue := q2 }).inc F.PRS_SHORT_RUN).gateEdges pos fuel
          else (put { p with queue := q, gateOpen := true }).gateEdges pos fuel
        | [] => put { p with queue := q, gateOpen := true }
      else (put { p with queue := q }).gateEdges pos fuel

/-- The first trigger after an entry with PRESENT: it opens a frame, unless it also reaches a close (R135, R141). -/
def State.gateFirst (s : State) (pos : Pos) : State :=
  let p := s.lio.prs
  let put (p : Presence) : State := { s with lio := { s.lio with prs := { p with gateFirst := false } } }
  match p.queue with
  | e :: q =>
    if !e.toPresent && s.edgeReached e pos then (put { p with queue := q }).inc F.PRS_SHORT_RUN
    else put { p with gateOpen := true }
  | [] => put { p with gateOpen := true }

/-- On entry to a capture mode GATE_EN is read; it is ignored, with GATE_IGN, in FREE-RUN, in a follower and with
SEL = 0b11. A PRESENT output opens the frame at the first trigger, so no edge from before the entry acts then (R135, log 56). -/
def State.gateEntry (s : State) : State :=
  let want := s.bit F.PRS_CFG_GATE_EN
  let usable := (s.mode == .track || s.isMaster) && s.fld F.ENC_TRIG_CFG_SEL != 3
  let s := s.setFld F.PRS_STAT_GATE_IGN (b2n (want && !usable))
  let present := s.lio.prs.st == .present
  { s with lio := { s.lio with prs := { s.lio.prs with gateOn := want && usable
                                                       gateFirst := want && usable && present
                                                       gateOpen := false
                                                       queue := if want && usable && present then []
                                                         else s.lio.prs.queue } } }

end Sys2Proof.Machine
end

