-- ==== Sys2Proof/Machine/Marks.lean ====
section
/-! DEFINITION. The MARK outputs (Chapter 4): queues, the immediate path, the global-OR path and pulses. -/

namespace Sys2Proof.Machine

/-- DYN_MPOS (R414): on a head with HOP 0 the position of the selected encoder, else the last one received; with SEL = 0b11
it holds its last value. -/
def State.mpos (s : State) : Pos :=
  if s.dyn.hop = 0 ∧ s.fld F.ENC_TRIG_CFG_SEL < 3 then s.trigPos else s.dyn.mpos

/-- Keep DYN_MPOS before its source changes. -/
def State.holdMpos (s : State) : State := { s with dyn := { s.dyn with mpos := s.mpos } }

/-- The position that a queue compares with (MARKm_CFG.SRC). -/
def State.markPos (s : State) (m : Fin 4) : Pos :=
  let src := s.fld (F.MARKm_CFG_SRC m)
  if h : src < 3 then (s.lio.enc[src]).pos else s.mpos

/-- LCLK of one TICK (R111): 2.5 ns, 1 µs or 100 µs. -/
def State.markTick (s : State) (m : Fin 4) : Nat :=
  let k := s.fld (F.MARKm_CFG_TICK m)
  if k = 0 then 1 else if k = 1 then 400 else 40000

/-- Replace one output. -/
def State.setMark (s : State) (m : Fin 4) (x : Mark) : State :=
  { s with lio := { s.lio with marks := s.lio.marks.set m x } }

/-- PIN_OFF: the ball of MARK2 or MARK3 is assigned to another function (R113). -/
def State.markPinOff (s : State) (m : Fin 4) : Bool :=
  (m.val == 2 && !s.ballFixed 30) || (m.val == 3 && !s.ballFixed 31)

/-- A pulse of a width starts at an LCLK edge (R28, R111): width 0 gives none; a pulse on an asserted output extends it to
the later of the two ends. Each pulse counts in MARKm_FIRED, two that start on one edge as two, and takes POL at its start
(log 51, DESIGN CHOICE; R112 states it for the global-OR path). -/
def State.markPulse (s : State) (m : Fin 4) (width t : Nat) : State :=
  if width = 0 then s
  else
    let x := s.lio.marks[m]
    let stop := t + width * s.markTick m
    let joined := x.out && decide (t ≤ x.endT)
    (s.setMark m { x with out := true, endT := if joined then max x.endT stop else stop
                          pol := s.bit (F.MARKm_CFG_POL m) }).inc (F.MARKm_FIRED m)

/-- An entry that has become the head has passed its target when its difference is already positive (R109). -/
def State.markHead (s : State) (m : Fin 4) : State :=
  let x := s.lio.marks[m]
  match x.queue with
  | [] => s.setMark m { x with headPassed := false }
  | e :: _ => s.setMark m { x with headPassed := decide (0 < posDiff (s.markPos m) e.target) }

/-- The head entry whose target is reached at an LCLK edge leaves the queue and starts its pulse (R109). -/
def State.markFire (s : State) (m : Fin 4) (t : Nat) : State :=
  let x := s.lio.marks[m]
  match x.queue with
  | [] => s
  | e :: q =>
    if s.lioRuns && decide (0 ≤ posDiff (s.markPos m) e.target) then
      let s := (s.atT t).setMark m { x with queue := q }
      let s := if x.headPassed then s.inc (F.MARKm_LATE m) else s
      (s.markHead m).markPulse m e.width.toNat t
    else s

/-- A write of MARKm_Q_HI (R108, R755). An entry that is due fires first (R116). -/
def State.writeMarkQ (s : State) (m : Fin 4) (v : Word) : State :=
  let s := s.markFire m s.now
  let x := s.lio.marks[m]
  if s.mode = .fallback then s.inc (F.MARKm_DISCARD m)
  else if 64 ≤ x.queue.length then s.inc (F.MARKm_FULL_DROP m)
  else
    let e : MarkEntry := { target := BitVec.ofNat 48 (s.fld (F.MARKm_Q_LO m) + 2 ^ 32 * getBits v 0 16)
                           width := BitVec.ofNat 16 (getBits v 16 16) }
    let s := s.setMark m { x with queue := x.queue ++ [e] }
    if x.queue.isEmpty then s.markHead m else s

/-- MARK_QUEUE_PUSH. -/
def execMarkQueuePush (m : Fin 4) (v : Word) (s : State) : Host.Outcome State Fault Refusal :=
  if s.domOn Dom.lineio then .next (s.writeMarkQ m v) else .next s

/-- MARK_QUEUE_FIRE at an LCLK edge (R109). -/
def execMarkQueueFire (m : Fin 4) (t : Nat) (s : State) : Host.Outcome State Fault Refusal := .next (s.markFire m t)

/-- MARK_NOW: the write reaches LINEIO at an LCLK edge and the pulse starts 2 LCLK later (R110, R755). -/
def execMarkNow (m : Fin 4) (v : Word) (t : Nat) (s : State) : Host.Outcome State Fault Refusal :=
  if s.domOn Dom.lineio then
    if s.mode = .fallback then .next ((s.atT t).inc (F.MARKm_DISCARD m))
    else .next ((s.atT (t + 2)).markPulse m (getBits v 0 16) (t + 2))
  else .next s

/-- A 0-to-1 edge of a global OR: outputs with GOR_EN and that GOR_SRC start a pulse of GOR_W (R34, R112). GOR_EN, GOR_SRC,
GOR_W, TICK and POL are read on this edge. -/
def State.gorMarks (s : State) (src t : Nat) : State :=
  if s.lioRuns then
    (List.finRange 4).foldl (fun s (m : Fin 4) =>
      if s.bit (F.MARKm_CFG_GOR_EN m) && s.fld (F.MARKm_CFG_GOR_SRC m) == src then
        s.markPulse m (s.fld (F.MARKm_CFG_GOR_W m)) t
      else s) s
  else s

/-- GOR_N_FALL: the synchronised edge of the GOR_N ball is taken at an LCLK edge (R112). -/
def execGorNFall (t : Nat) (s : State) : Host.Outcome State Fault Refusal := 
  if s.tapActs then .next s else .next ((s.atT t).gorMarks 1 t)

/-- MARK_PULSE_END: the output deasserts at the end of its pulse (R111). -/
def execMarkPulseEnd (m : Fin 4) (s : State) : Host.Outcome State Fault Refusal :=
  let x := s.lio.marks[m]
  if x.out then .next ((s.setMark m { x with out := false }).atT x.endT) else .next s

/-- Every queue empties into MARKm_DISCARD and no output is asserted (R34, R118). -/
def State.marksClear (s : State) : State :=
  (List.finRange 4).foldl (fun s (m : Fin 4) =>
    let x := s.lio.marks[m]
    (s.setMark m { x with queue := [], headPassed := false, out := false }).add (F.MARKm_DISCARD m) x.queue.length) s

/-- GOR_OUT rises at an LCLK edge: the GOR event, mark pulses, and a GOR message on each trained port (R112, R331,
R419). -/
def State.gorRise (s : State) (t : Nat) : State :=
  let s := (s.eventAll 3).gorMarks 0 t
  if s.dynOn then s.dynTrained (.gor s.dyn.hop (s.ing.lastLoaded.truncate 24)) else s

end Sys2Proof.Machine
end

