-- ==== Sys2Proof/Machine/Truss.lean ====
section
/-! DEFINITION. The Truss (Chapter 9): macro-op words and their checks, the queue, refusals and deliveries, the head of the
queue with its page-in, starting and completing a macro-op, flush and abort, and tile switching between macro-ops. The
macro-ops themselves are in Machine/MacroOps.lean. -/

namespace Sys2Proof.Machine

/-! ### Macro-op words (R227) -/

/-! OP codes of Table 9-3. -/

def Op.mov : Nat := 0x01
def Op.bool : Nat := 0x02
def Op.setc : Nat := 0x03
def Op.shl : Nat := 0x04
def Op.shr : Nat := 0x05
def Op.sar : Nat := 0x06
def Op.nbr : Nat := 0x08
def Op.act : Nat := 0x0C
def Op.idx : Nat := 0x0D
def Op.add : Nat := 0x10
def Op.sub : Nat := 0x11
def Op.cmp : Nat := 0x12
def Op.mulu : Nat := 0x14
def Op.muls : Nat := 0x15
def Op.mula : Nat := 0x16
def Op.divu : Nat := 0x18
def Op.divs : Nat := 0x19
def Op.remu : Nat := 0x1A
def Op.rems : Nat := 0x1B
def Op.gor : Nat := 0x20
def Op.popc : Nat := 0x21
def Op.loadl : Nat := 0x28
def Op.stl : Nat := 0x29
def Op.stt : Nat := 0x2A
def Op.cvtf : Nat := 0x30
def Op.stk : Nat := 0x38
def Op.token : Nat := 0x3F

/-- OP. -/
def MacroWord.op (w : MacroWord) : Nat := getBits w.w0 0 8
/-- n. -/
def MacroWord.n (w : MacroWord) : Nat := getBits w.w0 8 6 + 1
/-- m. -/
def MacroWord.m (w : MacroWord) : Nat := getBits w.w0 14 6 + 1
/-- F: truth table or subcode. -/
def MacroWord.f (w : MacroWord) : Nat := getBits w.w0 20 4
/-- OPT. -/
def MacroWord.opt (w : MacroWord) : Nat := getBits w.w0 24 8
/-- D. -/
def MacroWord.d (w : MacroWord) : Nat := getBits w.w1 0 16
/-- S1. -/
def MacroWord.s1 (w : MacroWord) : Nat := getBits w.w1 16 16
/-- S2. -/
def MacroWord.s2 (w : MacroWord) : Nat := getBits w.w2 0 16
/-- X. -/
def MacroWord.x (w : MacroWord) : Nat := getBits w.w2 16 16

/-- A multiplication. -/
def isMul (op : Nat) : Bool := decide (0x14 ≤ op ∧ op ≤ 0x16)
/-- A division or remainder. -/
def isDiv (op : Nat) : Bool := decide (0x18 ≤ op ∧ op ≤ 0x1B)

/-- The word delivers a value to a register of its task (R232). -/
def MacroWord.delivers (w : MacroWord) : Bool := w.op == Op.popc || w.op == Op.token

/-- w of a LOADL now (R234). -/
def State.loadlW (s : State) : Nat := if s.bit F.ING_CFG_DEPTH16 && !s.bit F.ING_CFG_CMP_EN then 16 else 8

/-- Planes of one line of a LOADL (R180). -/
def loadlStride (w : Nat) (index : Bool) : Nat := w + 2 + 32 * b2n index

/-- The fields of a word as Table 9-3 defines them: destination or source, first plane, planes; `lw` is w of a LOADL. -/
def MacroWord.fields (w : MacroWord) (lw : Nat) : List (Bool × Nat × Nat) :=
  let op := w.op
  let d (k : Nat) := (true, w.d, k)
  let s1 (k : Nat) := (false, w.s1, k)
  let s2 (k : Nat) := (false, w.s2, k)
  if op = Op.mov ∨ op = Op.shl ∨ op = Op.shr ∨ op = Op.sar ∨ op = Op.nbr then [d w.n, s1 w.n]
  else if op = Op.bool ∨ op = Op.add ∨ op = Op.sub then [d w.n, s1 w.n, s2 w.n]
  else if op = Op.setc ∨ op = Op.idx then [d w.n]
  else if op = Op.act then (if w.f < 4 then [s1 1] else if w.f = 5 then [d 1] else [])
  else if op = Op.cmp then [d 1, s1 w.n, s2 w.n]
  else if isMul op then [d (w.n + w.m), s1 w.n, s2 w.m]
  else if op = Op.divu ∨ op = Op.divs then [d w.n, s1 w.n, s2 w.m]
  else if op = Op.remu ∨ op = Op.rems then [d w.m, s1 w.n, s2 w.m]
  else if op = Op.gor ∨ op = Op.popc then [s1 1]
  else if op = Op.loadl then [d (w.x % 32 * loadlStride lw (bitOf w.opt 0))]
  else if op = Op.stl ∨ op = Op.stt then [s1 w.n]
  else if op = Op.cvtf then [d w.n, s1 32]
  else if op = Op.stk then (if w.f = 1 then [d 1] else [])
  else []

/-- The fields of a word that would start now. -/
def State.macroFields (s : State) (w : MacroWord) : List (Bool × Nat × Nat) := w.fields s.loadlW

/-! ### The checks of R238 -/

/-- OP and subcode are listed in Table 9-3. -/
def MacroWord.opOk (w : MacroWord) : Bool :=
  let op := w.op
  let known := [0x01, 0x02, 0x03, 0x04, 0x05, 0x06, 0x08, 0x0C, 0x0D, 0x10, 0x11, 0x12, 0x14, 0x15, 0x16, 0x18, 0x19,
    0x1A, 0x1B, 0x20, 0x21, 0x28, 0x29, 0x2A, 0x30, 0x38, 0x3F].contains op
  known && (op != Op.cmp || decide (w.f ≤ 5)) && (op != Op.idx || decide (w.f ≤ 3)) &&
    (op != Op.act || decide (w.f ≤ 6)) && (op != Op.stk || decide (w.f ≤ 1))

/-- n and m lie within the widths of Table 9-3. -/
def MacroWord.widthOk (w : MacroWord) : Bool :=
  let op := w.op
  if op = Op.act ∨ op = Op.gor ∨ op = Op.popc ∨ op = Op.stk then w.n == 1
  else if op = Op.stl ∨ op = Op.stt then decide (w.n ≤ 16)
  else if op = Op.cvtf then w.m == 32
  else true

/-- The options are allowed (Table 9-8, BAD_OPT). Bits to which a used field gives no meaning are reserved (log 22). -/
def MacroWord.optOk (w : MacroWord) : Bool :=
  let op := w.op
  let x := w.x
  let opt := w.opt
  if op = Op.shl ∨ op = Op.shr ∨ op = Op.sar then decide (x < 64)
  else if op = Op.nbr then
    opt / 8 % 4 != 3 && opt / 32 % 4 != 3 && !(opt % 2 == 1 && decide (2 ≤ opt / 2 % 4)) && decide (opt < 128)
  else if op = Op.mula then decide (1 ≤ x ∧ x < 64 ∧ x ≤ min w.n w.m)
  else if op = Op.loadl then decide (1 ≤ x ∧ x ≤ 16) && decide (opt < 2)
  else if op = Op.stl then decide (1 ≤ x ∧ x < 32768 ∧ w.s2 + x ≤ 16384) && decide (opt < 16)
  else if op = Op.stt then decide (x < 64) && decide (opt < 16)
  else if op = Op.cvtf then decide (x < w.n)
  else if op = Op.stk then (if w.f = 0 then decide (opt < 8) else decide (opt < 3))
  else if op = Op.act ∧ w.f = 6 then decide (x % 64 ≤ x / 256 % 64) && x / 64 % 4 == 0 && decide (x < 0x4000)
  else if op = Op.popc then decide (opt < 32)
  else if op = Op.token then decide (opt < 64)
  else true

/-- Overlap between the destination and the sources is allowed (Table 9-7). -/
def overlapOk (op : Nat) (fields : List (Bool × Nat × Nat)) : Bool :=
  let meets (a b : Nat × Nat) : Bool := decide (a.1 < b.1 + b.2 ∧ b.1 < a.1 + a.2)
  (fields.filter (·.1)).all fun d => (fields.filter (!·.1)).all fun x =>
    if op = Op.add ∨ op = Op.sub ∨ op = Op.cmp then d.2.1 == x.2.1 || !meets d.2 x.2
    else if isMul op ∨ isDiv op ∨ op = Op.cvtf then !meets d.2 x.2
    else true

/-- The first failing check up to OVERLAP, in the order of Table 9-8. -/
def State.macroCheck (s : State) (w : MacroWord) : Option Nat :=
  let fs := s.macroFields w
  if !w.opOk then some 1
  else if !w.widthOk then some 2
  else if !w.optOk then some 3
  else if fs.any fun f => decide (65536 < f.2.1 + f.2.2) then some 4
  else if !overlapOk w.op fs then some 5
  else none

/-- The footprint: the union of the word's fields, in ascending order (R271). -/
def footprint (fields : List (Bool × Nat × Nat)) : List Nat :=
  fields.foldl (fun acc f => (List.range f.2.2).foldl (fun acc i => insertAsc (f.2.1 + i) acc) acc) []

/-! ### Deliveries (R232, R242) -/

/-- A value reaches a register of a task; g0 discards it. In the run that named it the register stops being pending, with the
event RESP; a START has since cleared the pending bits of an earlier run, and an abort the delivery itself (R232, R329, R331,
R342). -/
def State.taskDeliver (s : State) (n : Fin 8) (gen reg : Nat) (v : Word) : State :=
  let t := s.tasks[n]
  if reg = 0 ∨ gen < t.live then s
  else
    let s : State := { s with tasks := s.tasks.set n { t with g := t.g.setIfInBounds reg v
                                                              pend := if gen = t.gen then t.pend.erase reg else t.pend } }
    if gen = t.gen ∧ t.pend.contains reg then s.setEvent n 8 else s

/-- A value of a macro-op reaches the register of the task run that pushed the word (R232). -/
def State.deliver (s : State) (w : MacroWord) (reg : Nat) (v : Word) : State := s.taskDeliver w.task w.gen reg v

/-- A word that will not execute delivers 0xFFFF_FFFF (R238, R241). -/
def State.deliverFail (s : State) (w : MacroWord) : State :=
  if w.delivers then s.deliver w (w.opt % 32) 0xFFFFFFFF else s

/-! ### Refusals (R238, R239) -/

/-- Record a refused word. -/
def State.refuseRecord (s : State) (w : MacroWord) (code : Nat) : State :=
  if s.bit F.TRS_ERR_VALID then s.raise F.TRS_ERR_MORE
  else
    let s := ((s.setFld F.TRS_ERR_CODE code).setFld F.TRS_ERR_TASK w.task).raise F.TRS_ERR_VALID
    ((s.setReg Reg.TRS_BADOP0 w.w0).setReg Reg.TRS_BADOP1 w.w1).setReg Reg.TRS_BADOP2 w.w2

/-- A word is refused with a code of Table 9-8. -/
def State.refuse (s : State) (w : MacroWord) (code : Nat) : State :=
  let s := ((s.inc F.TRS_REFUSE_CNT).inc F.TRS_DONE_CNT).refuseRecord w code
  let s := (s.raiseIf (code == 6) F.TRS_STICKY_MISS_DET).raiseIf (code == 7) F.TRS_STICKY_POISON
  s.deliverFail w

/-- Drop the claims of the LOADL at the head, which will not load: its slots become FREE (R172, log 23). -/
def State.loadlDrop (s : State) : State :=
  match s.trs.loadl with
  | some l => State.loadlFree { s with trs := { s.trs with loadl := none } } l.claimed
  | none => s

/-- No footprint is current. -/
def State.fpClear (s : State) : State := { s with tly := { s.tly with fp := [], headWaits := 0 } }

/-- The head word leaves the queue without executing. -/
def State.dropHead (s : State) : State :=
  let s : State := { s with trs := { s.trs with queue := s.trs.queue.drop 1, head := .fresh, edgeStamp := none } }
  s.loadlDrop.fpClear

/-- The executing macro-op is abandoned: the slots of a LOADL's burst become FREE. -/
def State.execDrop (s : State) : State :=
  let claimed := match s.trs.exec with
    | some x => (x.burst.map (·.claimed)).getD []
    | none => []
  (State.loadlFree { s with trs := { s.trs with exec := none } } claimed).fpClear

/-! ### Tiles switch between macro-ops (R213 to R215, R617, R618) -/

/-- The PEs of one tile. -/
def tilePlane (t : Nat) : Plane := BitVec.ofNat 16384 ((2 ^ 256 - 1) * 2 ^ (256 * t))

/-- Bit c of a three-word domain mask register at an address. -/
def State.domMask (s : State) (a c : Nat) : Bool := bitOf (s.reg (a + 4 * (c / 32))).toNat (c % 32)

/-- The domain is switched off by PWR_DOM_OFF (R617). -/
def State.domSwitchedOff (s : State) (c : Nat) : Bool := s.domMask Reg.PWR_DOM_OFF_A c

/-- A tile is to be without power: switched off, or held in reset (R617, R688). -/
def State.tileDown (s : State) (t : Nat) : Bool := s.domSwitchedOff t || s.held.contains t

/-- A tile loses its bench and yard slices, A and flags (R618). -/
def State.tileLose (s : State) (t : Nat) : State :=
  let keep : Plane := ~~~tilePlane t
  let data := (s.tly.data.map fun p => (p.1, p.2 &&& keep)).filter fun p => p.2 != 0
  let half (lo : Bool) (s : State) : State :=
    if lo == decide (t < 32) then
      let a := if lo then Reg.TRS_GOR_TILES_LO else Reg.TRS_GOR_TILES_HI
      s.setReg a (s.reg a &&& ~~~(BitVec.ofNat 32 (2 ^ (t % 32))))
    else s
  let s := half true (half false s)
  { s with tly := { s.tly with data := data }
           trs := { s.trs with a := s.trs.a &&& keep, ovf := s.trs.ovf &&& keep, divz := s.trs.divz &&& keep
                               inv := s.trs.inv &&& keep
                               tileGor := s.trs.tileGor &&& ~~~(BitVec.ofNat 64 (2 ^ t)) } }

/-- A tile starts from off: every plane 0, A = 1, every flag clear (R215). -/
def State.tileStart (s : State) (t : Fin 64) : State :=
  let s := s.tileLose t
  { s with trs := { s.trs with a := s.trs.a ||| tilePlane t }
           dom := s.dom.set (t.castLE (by decide : 64 ≤ 76)) .on }

/-- Between macro-ops, tiles that are to be without power go OFF. -/
def State.tilesSettle (s : State) : State :=
  if s.trs.exec.isSome then s
  else
    (List.finRange 64).foldl (fun s (t : Fin 64) =>
      if s.tileDown t ∧ s.tileOn t then
        let s := s.tileLose t
        { s with dom := s.dom.set (t.castLE (by decide : 64 ≤ 76)) .off }
      else s) s

/-- Every tile that is switched on is ON (R618). -/
def State.tilesReady (s : State) : Bool := (List.finRange 64).all fun t => s.tileOn t || s.tileDown t

/-! ### The head of the queue (R222, R238, R271) -/

/-- The Truss and Tally work: both domains ON, and no ladder entry holds starts and moves (R627). -/
def State.trsOn (s : State) : Bool := s.domOn Dom.truss && s.domOn Dom.tally && s.phase == .stable && s.ladder == .s0

/-- In deterministic mode, the lowest plane of a footprint outside the working set (R284). -/
def State.detMiss (s : State) (fp : List Nat) : Option Nat :=
  if s.bit F.TLY_CFG_MODE then fp.find? fun v => !s.inWs v else none

/-- A LOADL destination must be paged in line by line (R278). -/
def State.loadlSplit (s : State) (fp : List Nat) : Bool := decide (256 < fp.length + (s.pinsOutside fp).length)

/-- The planes of one line of a LOADL. -/
def MacroWord.linePlanes (w : MacroWord) (lw j : Nat) : List Nat :=
  let k := loadlStride lw (bitOf w.opt 0)
  (List.range k).map fun i => w.d + j * k + i

/-- The planes that the head's page-in brings to BENCH: the footprint, or the first line of a split LOADL. -/
def State.headPlanes (s : State) (w : MacroWord) : List Nat :=
  let fp := footprint (s.macroFields w)
  if w.op = Op.loadl ∧ s.loadlSplit fp then w.linePlanes s.loadlW 0 else fp

/-- The lowest plane of a footprint at FAR that no far move may bring: FAR_EN is clear, or the mode is deterministic
(R268, R284, R285). -/
def State.farMiss (s : State) (fp : List Nat) : Option Nat :=
  if s.farOk then none
  else fp.find? fun v => (s.ent v).level == .far && !((s.ent v).poison && s.bit F.TLY_CFG_FAR_EN)

/-- The head is refused after its page-in began, or for a miss. -/
def State.headMiss (s : State) (w : MacroWord) (v : Nat) : State := ((s.tlyMiss v).dropHead).refuse w 6

/-- The page-in of the head goes as far as it can. The whole footprint is judged, that of a split LOADL too (R238, R284,
R292). -/
def State.headPage (s : State) (w : MacroWord) : State :=
  let whole := footprint (s.macroFields w)
  let fp := s.headPlanes w
  match (s.detMiss whole).or (s.farMiss whole) with
  | some v => s.headMiss w v
  | none =>
    match s.pageIn fp false with
    | (.miss v, s) => s.headMiss w v
    | (.poison, s) => s.dropHead.refuse w 7
    | (.wait, s) => { s with trs := { s.trs with head := .paging } }
    | (.ready, s) =>
      if whole.any fun v => (s.ent v).poison then s.dropHead.refuse w 7
      else
        let s := s.touch fp
        { s with trs := { s.trs with head := .ready } }

/-- Far reads for the FAR planes of the first L entries that wait behind the one being paged in (R273, log 62). -/
def State.lookaheads (s : State) : State :=
  let waiting := if s.trs.exec.isSome then s.trs.queue else s.trs.queue.drop 1
  (waiting.take (s.fld F.TLY_CFG_LOOKAHEAD)).foldl (fun s w =>
    if (s.macroCheck w).isNone then s.lookahead (footprint (s.macroFields w)) else s) s

/-- A LOADL that has reached the head, and passes its checks, makes its claims; it may do so while the macro-op before it
still executes (R181, R222). -/
def State.headClaim (s : State) (w : MacroWord) : State :=
  if w.op = Op.loadl ∧ s.trs.loadl = none ∧ s.macroCheck w = none then s.loadlReach (w.x % 32) (bitOf w.opt 0) else s

/-- A fresh head: it is checked; a LOADL makes its claims; a Tally command that is due goes first (R280). -/
def State.headFresh (s : State) (w : MacroWord) : State :=
  match s.macroCheck w with
  | some code => s.dropHead.refuse w code
  | none =>
    let s := s.headClaim w
    if s.tlyBlocks then s else s.headPage w

/-- Look at the head of the queue until it waits, is ready, or the queue is empty; then far reads are issued ahead. -/
def State.trsAdvance (s : State) : Nat → State
  | 0 => s
  | fuel + 1 =>
    if !s.trsOn then s
    else
      match s.trs.queue with
      | [] => s
      | w :: _ =>
        if s.trs.exec.isSome then (s.headClaim w).lookaheads
        else if s.trs.head = .ready then s.lookaheads
        else
          let s' := if s.trs.head = .paging then s.headPage w else s.headFresh w
          if s'.trs.queue.length < s.trs.queue.length then s'.trsAdvance fuel else s'.lookaheads

/-! ### The queue (R222 to R225, R241 to R243) -/

/-- A word enters the queue, if an entry is free. -/
def State.trsPush? (s : State) (w : MacroWord) : Option State :=
  if s.trs.queue.length < 64 then
    some (State.trsAdvance { s with trs := { s.trs with queue := s.trs.queue ++ [w] } } 65)
  else none

/-- With no macro-op executing, the footprint that was being paged in is no longer current. -/
def State.headFp (s : State) : State := if s.trs.exec.isSome then s else s.fpClear

/-- Waiting entries that a predicate names are discarded and counted; the others keep their order. -/
def State.trsDiscard (s : State) (p : MacroWord → Bool) : State :=
  let gone := s.trs.queue.filter p
  let headGone := match s.trs.queue.head? with | some w => p w | none => false
  let s := if headGone then (State.loadlDrop { s with trs := { s.trs with head := .fresh, edgeStamp := none } }).headFp else s
  let s : State := { s with trs := { s.trs with queue := s.trs.queue.filter fun w => !p w } }
  s.add F.TRS_DISCARD_CNT gone.length

/-- FLUSH: every waiting entry is discarded; POPC and TOKEN deliver 0xFFFF_FFFF (R241). -/
def State.trsFlush (s : State) : State :=
  let gone := s.trs.queue
  let s := s.trsDiscard fun _ => true
  gone.foldl (fun s w => s.deliverFail w) s

/-- A write of TRS_CTRL. -/
def State.writeTrsCtrl (s : State) (v : Word) : State := if bitOf v.toNat 0 then s.trsFlush else s

/-- TRS_FLUSH. -/
def execTrsFlush (s : State) : Host.Outcome State Fault Refusal :=
  if s.domOn Dom.truss then .next s.trsFlush else .next s

/-- A task is aborted: its waiting entries are discarded (R242). -/
def State.trsAbortTask (s : State) (n : Fin 8) : State := (s.trsDiscard fun w => w.task == n).trsAdvance 65

/-- The queue and the store buffers are emptied without completion or count (R243). -/
def State.trsEmpty (s : State) : State :=
  { s with trs := { s.trs with queue := [], head := .fresh, loadl := none, exec := none, edgeStamp := none }
           storeBufs := Vector.replicate 2 none }

/-! ### Starting a macro-op (R213, R222, R237) -/

/-- The lowest free store buffer (R237). -/
def State.freeStoreBuf (s : State) : Option (Fin 2) := (List.finRange 2).find? fun i => s.storeBufs[i].isNone

/-- The ready head may start: a LOADL with its burst complete, a store with a buffer, and every tile ON. -/
def State.trsCanStart (s : State) (w : MacroWord) : Bool :=
  s.trsOn && s.trs.exec.isNone && s.trs.head == .ready && s.tilesReady && !s.tlyHolds &&
    (w.op != Op.loadl || (match s.trs.loadl with | some l => l.complete | none => false)) &&
    (!(w.op == Op.stl || w.op == Op.stt) || s.freeStoreBuf.isSome)

/-- The ready head with a given OP and subcode starts: it leaves the queue and runs. -/
def State.arrRun (s : State) (op : Nat) (sub : Nat → Bool) (run : MacroWord → State → Exec × State) :
    Host.Outcome State Fault Refusal :=
  let s := s.benchSettle.trsAdvance 65
  match s.trs.queue with
  | [] => .next s
  | w :: ws =>
    if s.trsCanStart w && w.op == op && sub w.f then
      let r := run w { s with trs := { s.trs with queue := ws, head := .fresh } }
      .next (State.trsAdvance { r.2 with trs := { r.2.trs with exec := some { r.1 with word := w }, edgeStamp := none } } 65)
    else .next s

/-! ### LOADL's transfer (R180, R184, R278) -/

/-- What line j of a burst writes: its pixels by chain position, VALID and its index. -/
def State.loadlLine (s : State) (l : Loadl) (w j : Nat) : (Nat → Nat) × Bool × Word :=
  let fill := s.fld F.ING_CFG_FILL % 2 ^ w
  match l.claimed[j]? with
  | none => (fun _ => fill, false, 0xFFFFFFFF)
  | some (k, wide) =>
    let h := s.ing.hdr[k]?.getD {}
    let px (i : Nat) : Nat :=
      if i < h.npix.toNat then
        (if wide then ofLeBytes (SMap.getBytes zeroByte s.ing.store (k * 16384 + 2 * i) 2)
         else (SMap.get zeroByte s.ing.store (k * 16384 + i)).toNat) % 2 ^ w
      else fill
    (px, true, h.num)

/-- QUALITY of a line: one where any bit of QUAL selected by ING_QMASK is set (Table 7-3, R177). -/
def State.loadlQuality (s : State) (l : Loadl) (j : Nat) : Bool :=
  match l.claimed[j]? with
  | none => false
  | some (k, _) => (s.ing.hdr[k]?.getD {}).qual.toNat &&& s.fld F.ING_QMASK != 0

/-- Write one line of the burst to its planes, in the active PEs. -/
def State.loadlWrite (s : State) (l : Loadl) (d w j : Nat) : State :=
  let base := d + j * loadlStride w l.index
  let (px, valid, num) := s.loadlLine l w j
  let q := s.loadlQuality l j
  let m := s.active
  let s := s.writeField base m (fun p => px (peChain p)) w
  let s := (s.writePlane (base + w) m (Plane.uniform valid)).writePlane (base + w + 1) m (Plane.uniform q)
  if l.index then s.writeField (base + w + 2) m (fun _ => num.toNat) 32 else s

/-- A LOADL in transfer is refused at a line that cannot be placed (R278, log 60). -/
def State.loadlRefuse (s : State) (x : Exec) (code : Nat) : State := s.execDrop.refuse x.word code

/-- The lines of the burst that can be written now are written; a later line of a split transfer is paged in first, and
one that cannot be placed refuses the LOADL there (R278). -/
def State.loadlGo (s : State) (x : Exec) (l : Loadl) : Nat → State
  | 0 => s
  | fuel + 1 =>
    if l.b ≤ x.lines then s
    else
      let whole := footprint (x.word.fields x.w)
      let fp := if s.loadlSplit whole then x.word.linePlanes x.w x.lines else whole
      match s.pageIn fp true with
      | (.ready, s) =>
        let s := (s.touchAt x.used fp).loadlWrite l x.word.d x.w x.lines
        let x : Exec := { x with lines := x.lines + 1 }
        State.loadlGo { s with trs := { s.trs with exec := some x } } x l fuel
      | (.wait, s) => s
      | (.miss v, s) => (s.tlyMiss v).loadlRefuse x 6
      | (.poison, s) => s.loadlRefuse x 7

/-- A LOADL in transfer goes on. -/
def State.loadlStep (s : State) : State :=
  match s.trs.exec with
  | some x =>
    match x.burst with
    | some l => s.loadlGo x l 17
    | none => s
  | none => s

/-- The end of a LOADL's transfer: the slots become FREE, and the stamp of later stores is that of its lines when one
was VALID (R184, R355). -/
def State.loadlEnd (s : State) (l : Loadl) : State :=
  let h (k : Nat) : LineHeader := s.ing.hdr[k]?.getD {}
  let s' := s.loadlFree l.claimed
  match l.claimed.head?, l.claimed.getLast? with
  | some (a, _), some (b, _) =>
    let st : Stamp := { stamped := true, frameNum := (h a).frame, first := (h a).num, pos := (h a).pos
                        last := (h b).num, cmpErr := (h a).cmpErr }
    { s' with stamp := st, ing := { s'.ing with lastLoaded := (h b).num } }
  | _, _ => s'

/-! ### Completing a macro-op (R208, R211, R222, R232, R247, R264, R654) -/

/-- A global OR completes: TRS_GOR, the tile bits and GOR_OUT (R206 to R208). -/
def State.gorEnd (s : State) (r : Bool) (tiles : BitVec 64) (t : Nat) : State :=
  let s := ((s.inc F.TRS_GOR_SEQ).setFld F.TRS_GOR_VALUE (b2n r)).raiseIf r F.TRS_GOR_HIT
  let s := (s.setFld F.TRS_GOR_TILES_LO (tiles.toNat % 2 ^ 32)).setFld F.TRS_GOR_TILES_HI (tiles.toNat / 2 ^ 32)
  let was := s.trs.gorOut
  let s : State := { s with trs := { s.trs with gorOut := r, tileGor := tiles } }
  let s := s.setFld F.TRS_GOR_OUT (b2n r)
  if r && !was then (s.atT t).gorRise t else s

/-- The registers that every completion writes: sticky summary, scan, duration, counts. -/
def State.execRecord (s : State) (x : Exec) (cyc busy : Nat) : State :=
  let s := (s.raiseIf x.ovf F.TRS_STICKY_OVF).raiseIf x.divz F.TRS_STICKY_DIVZ
  let s := (s.raiseIf x.inv F.TRS_STICKY_INV).raiseIf x.qnan F.TRS_STICKY_QNAN
  let s := match x.scan with
    | some (kind, v) =>
      ((s.setFld F.TRS_SCAN_VALUE v).setFld F.TRS_SCAN_KIND (b2n kind)).setFld F.TRS_SCAN_OP x.word.op
    | none => s
  let s := (s.setFld F.TRS_LAST_CYC_CYC cyc).setFld F.TRS_LAST_CYC_OP x.word.op
  let s := (s.addSat F.TRS_BUSY_CYC busy).inc F.TRS_DONE_CNT
  let step := s.fld F.WR_STAT_STEP
  s.addSat F.WR_THROTTLE_CYC (if step = 2 then busy else if step = 3 then 3 * busy else 0)

/-- The store buffer that a store has been reading into is filled (R237). -/
def State.storeReady (s : State) : State :=
  { s with storeBufs := s.storeBufs.map fun b => b.map fun b => { b with ready := true } }

/-- The executing macro-op may complete: a LOADL has written its lines; a draining TOKEN finds both buffers idle. -/
def State.execDone (s : State) (x : Exec) : Bool :=
  (match x.burst with | some l => decide (l.b ≤ x.lines) | none => true) &&
    (!x.drain || (s.storeBufs[0].isNone && s.storeBufs[1].isNone))

/-- A store waits at the head with nothing to hold its start: its planes are in the bench, a buffer is free, and no command
or tile is waited for (R222). -/
def State.storeDue (s : State) : Bool :=
  match s.trs.queue with
  | [] => false
  | w :: _ =>
    (w.op == Op.stl || w.op == Op.stt) && (s.macroCheck w).isNone && s.freeStoreBuf.isSome && s.tilesReady && !s.tlyBlocks &&
      s.trsOn && s.tly.overridden.isEmpty && (footprint (s.macroFields w)).all fun v => (s.ent v).level == .bench

/-- The executing macro-op completes at an LCLK edge; `wait` is the wait of a LOADL under R181, or the drain of a
TOKEN, in ACLK. A store that starts on the edge on which a LOADL completes takes the earlier stamp (R371). -/
def State.macroComplete (s : State) (x : Exec) (t wait : Nat) : State :=
  let isLoadl := x.word.op == Op.loadl
  let extra := if isLoadl || x.drain then wait else 0
  let s := s.execRecord x (x.cyc + extra) (if isLoadl then x.cyc else x.cyc + extra)
  let s := match x.gor with | some (r, tiles) => s.gorEnd r tiles t | none => s
  let s := match x.deliver with | some (r, v) => s.deliver x.word r v | none => s
  let was := s.stamp
  let s := match x.burst with | some l => s.loadlEnd l | none => s
  let s : State := { s with trs := { s.trs with exec := none } }
  let s := s.storeReady.tilesSettle.fpClear.benchSettle
  let s : State := { s with trs := { s.trs with edgeStamp := if isLoadl && s.storeDue then some was else none } }
  s.trsAdvance 65

/-- MACROOP_COMPLETE. -/
def execMacroopComplete (t wait : Nat) (s : State) : Host.Outcome State Fault Refusal :=
  match s.trs.exec with
  | some x => if s.trsOn && s.execDone x then .next (s.macroComplete x t wait) else .next s
  | none => .next s

/-! ### Tally's events -/

/-- The oldest far move has had all its answers. -/
def State.farAnswered (s : State) : Bool := match s.tly.moves with | m :: _ => m.left == 0 | [] => false

/-- FAR_MOVE_COMPLETE: the oldest far move, its packets all answered, ends; `stall` and `before` are the page-in stall in ACLK
that the head has met since Tally last counted it, in the current frame and before the last frame end (R272, R274, R291). -/
def execFarMoveComplete (stall : Nat) (s : State) (before : Nat := 0) : Host.Outcome State Fault Refusal :=
  if s.domOn Dom.tally && s.farAnswered then
    .next ((((((s.benchSettle.addStallBefore before).addStall stall).farDone).tlyWork).loadlStep).trsAdvance 65)
  else .next s

/-- TLY_CMD_BOUNDARY: no macro-op is executing and the next one's page-in has not begun; the written command acts
(R280). -/
def execTlyCmdBoundary (s : State) : Host.Outcome State Fault Refusal :=
  match s.tly.cmd with
  | some c =>
    if s.trsOn && s.trs.exec.isNone && s.trs.head == .fresh && !c.acted then .next ((s.benchSettle.tlyAct c).trsAdvance 65)
    else .next s
  | none => .next s

/-! ### Views (R212, R214, R245) -/

/-- The head is a LOADL that waits for lines (R244). -/
def State.loadlWaits (s : State) : Bool := match s.trs.loadl with | some l => !l.complete | none => false

/-- The head is a store that waits for a buffer (R237). -/
def State.storeWaits (s : State) : Bool :=
  match s.trs.queue with
  | w :: _ => (w.op == Op.stl || w.op == Op.stt) && s.freeStoreBuf.isNone
  | [] => false

/-- TRS_QSTAT. -/
def State.viewQstat (s : State) : Nat :=
  s.trs.queue.length + 256 * b2n s.trs.exec.isSome + 512 * b2n s.loadlWaits + 1024 * b2n s.storeWaits +
    4096 * b2n s.storeBufs[0].isSome + 8192 * b2n s.storeBufs[1].isSome

/-- TILE_STICKY of a tile: the live OR of each flag over its PEs. -/
def State.viewTileSticky (s : State) (t : Fin 64) : Nat :=
  let m := tilePlane t
  if s.tileOn t then
    b2n (s.trs.ovf &&& m != 0) + 2 * b2n (s.trs.divz &&& m != 0) + 4 * b2n (s.trs.inv &&& m != 0)
  else 0

/-- TILE_GOR of a tile. -/
def State.viewTileGor (s : State) (t : Fin 64) : Nat := if s.tileOn t then b2n (s.trs.tileGor.getLsbD t) else 0

/-- TRS_TILE_ON as a 64-bit number. -/
def State.viewTilesOn (s : State) : Nat :=
  (List.finRange 64).foldl (fun n t => if s.tileOn t then n + 2 ^ t.val else n) 0

end Sys2Proof.Machine
end

