-- ==== Sys2Proof/Machine/Rings.lean ====
section
/-! DEFINITION. The Plate and Sill rings (Chapter 17): route entries, the choice of a ring, tags, issue at an NI, the
return of a response, timeouts and failover. What a request does at its destination is in Machine/Perform.lean. -/

namespace Sys2Proof.Machine

/-! ### Rings and routes (R437 to R441, R758) -/

/-- PLATE is at S0. -/
def State.plateUp (s : State) : Bool := s.domOn Dom.plate

/-- SILL is at S0 for the choices of R441: ON, and no write that switches it off has committed (R758). -/
def State.sillUp (s : State) : Bool := s.domOn Dom.sill && !s.domSwitchedOff 75

/-- A ring is at S0: 0 Plate, 1 Sill. -/
def State.ringUp (s : State) (r : Nat) : Bool := if r = 0 then s.plateUp else s.sillUp

/-- Distance from a stop along a ring (R438). -/
def ringDist (ring from_ dest : Nat) : Nat := if ring = 0 then (dest + 16 - from_) % 16 else (from_ + 16 - dest) % 16

/-- Index of the route entry for a destination and class (R437). -/
def routeIdx (d : Fin 16) (c : RingClass) : Nat := 4 * d.val + classCode c

/-- A write of route entry i at stop n is accepted (R438). -/
def routeOk (n i : Nat) (v : Word) : Bool :=
  getBits v 31 1 == 0 ||
    (getBits v 1 4 == ringDist (getBits v 0 1) n (i / 4) && getBits v 9 4 == ringDist (getBits v 8 1) n (i / 4))

/-- A write of route entry i at stop n (R437 to R439). -/
def State.writeRoute (s : State) (n : Fin 16) (i : Nat) (v : Word) : State :=
  if i % 4 = 3 ∨ i / 4 = n.val ∨ 64 ≤ i then s
  else if routeOk n i v then
    let mark (e : TagEnt) : TagEnt := if routeIdx e.req.dst e.req.cls = i then { e with old := true } else e
    let x := s.ni[n]
    State.setReg { s with ni := s.ni.set n { x with tags := x.tags.map mark, fo := x.fo.filter fun p => p.1 != i } }
      (Reg.NI_ROUTEi n i) (v &&& 0x80009F1F)
  else s.raise (F.NI_STAT_ROUTE_ERR n)

/-- NI_ROUTE_WRITE. -/
def execNiRouteWrite (n : Fin 16) (i : Fin 64) (v : Word) (s : State) : Host.Outcome State Fault Refusal :=
  if s.plateUp then .next (s.writeRoute n i v) else .next s

/-- The ring that an NI sends on: ring and whether it is the primary route; none when no ring the entry may use is at S0
(R441). -/
def State.routeRing (s : State) (n : Fin 16) (i : Nat) : Option (Nat × Bool) :=
  let p := s.fld (F.NI_ROUTEi_RING n i)
  let a := s.fld (F.NI_ROUTEi_ALT_RING n i)
  let altOk := s.bit (F.NI_ROUTEi_ALT_EN n i) && s.ringUp a
  if s.bit (F.NI_ROUTEi_USE_ALT n i) && altOk then some (a, false)
  else if s.ringUp p then some (p, true)
  else if altOk then some (a, false)
  else none

/-! ### Tags and answers (R434, R449, R450, R452) -/

/-- Change one NI. -/
def State.setNi (s : State) (n : Fin 16) (x : Ni) : State := { s with ni := s.ni.set n x }

/-- The ring master port issues what waits, up to four accesses outstanding (R497). -/
def State.rmIssue (s : State) : State :=
  let first := s.jig.rm.take 4
  let mark (e : RmEnt) : RmEnt := { e with issued := true }
  let s1 := s.bridgePush 6 ((first.filter fun e => !e.issued && e.resp.isNone).map (·.req))
  { s1 with jig := { s1.jig with rm := first.map mark ++ s.jig.rm.drop 4 } }

/-- The oldest accesses of the ring master port that have their responses return them, in issue order (R497, R501). -/
def State.rmSettle (s : State) : Nat → State
  | 0 => s
  | fuel + 1 =>
    match s.jig.rm with
    | { resp := some r, discard := d, .. } :: es =>
      let out := if d then s.jig.rmOut else some r
      State.rmSettle { s with jig := { s.jig with rm := es, rmOut := out, rmNew := s.jig.rmNew || !d } } fuel
    | _ => s.rmIssue

/-- The response of a master-port access. -/
def State.rmAnswer (s : State) (id : Nat) (r : RingResp) : State :=
  let put (e : RmEnt) : RmEnt := if e.req.client = .jig id then { e with resp := some r } else e
  let rm := s.jig.rm.map put
  State.rmSettle { s with jig := { s.jig with rm := rm } } (rm.length + 1)

/-- An answer reaches the client of a request: Tally and the fabric take theirs at once, other clients from their bridge. -/
def State.answer (s : State) (n : Fin 16) (q : RingReq) (r : RingResp) : State :=
  match q.client with
  | .tally id i => s.farPacket id i r
  | .jig id => s.rmAnswer id r
  | _ => s.setNi n { s.ni[n] with inbox := s.ni[n].inbox ++ [(q, r)] }

/-- An NI or a bridge answers a request itself with a code. -/
def State.answerCode (s : State) (n : Fin 16) (q : RingReq) (c : RespCode) : State := s.answer n q { code := c }

/-- The tag is FREE at an NI. -/
def State.tagFree (s : State) (n : Fin 16) (tag : Byte) : Bool := !s.ni[n].tags.any fun e => e.tag == tag

/-- Flits of a request (Table 17-2). -/
def RingReq.flits (q : RingReq) : Nat :=
  match q.kind with
  | .read => 1
  | .write => 1 + (q.len + 15) / 16
  | .amo _ => 2

/-- Flits of the response to a request (R434, Table 17-2). -/
def RingReq.respFlits (q : RingReq) (c : RespCode) : Nat :=
  match c, q.kind with
  | .ok, .read => 1 + (q.len + 15) / 16
  | .ok, .amo _ => 2
  | _, _ => 1

/-- The channel of an entry's packet: its request on the way, or its response. -/
def TagEnt.channel (e : TagEnt) : Fin 12 := Machine.channel e.sill e.req.cls (e.st != .sent)

/-- A request takes a tag and is sent on a ring; one to its own stop uses none (R440). -/
def State.tagTake (s : State) (n : Fin 16) (tag : Byte) (q : RingReq) (ring : Nat) (primary : Bool) : State :=
  let e : TagEnt := { tag := tag, req := q, primary := primary, sill := ring == 1 }
  let s := s.setNi n { s.ni[n] with tags := s.ni[n].tags ++ [e] }
  if q.dst = n then s else s.inject e.channel n { stop := n, tag := tag, dst := q.dst, n := q.flits, tot := q.flits }

/-- An URGENT packet of more than two flits is sent in class CONTROL (R445). -/
def State.demote (s : State) (n : Fin 16) (q : RingReq) : RingReq × State :=
  if q.cls = .urgent ∧ 2 < q.flits then
    ({ q with cls := .control }, (s.inc (F.NI_URG_DEMOTE n)).raise (F.NI_STAT_URG_DEMOTE n))
  else (q, s)

/-- A request to a destination and class is held until those sent under the old route value retire (R439). -/
def State.routeHeld (s : State) (n : Fin 16) (q : RingReq) : Bool :=
  s.ni[n].tags.any fun e => e.old && e.req.dst == q.dst && e.req.cls == q.cls

/-- The request at the front of a bridge is judged for its route and a tag; `false` when it must wait (R437, R439 to R441,
R445, R449, R450). -/
def State.niJudge (s : State) (n : Fin 16) (tag : Byte) (q : RingReq) : Bool × State :=
  let (q, s) := s.demote n q
  let full := decide (256 ≤ s.ni[n].tags.length)
  let refuse := (true, (s.inc (F.NI_REFUSE_COUNT n)).answerCode n q .refusedNotag)
  if q.dst = n then
    if full then (if q.nb then refuse else (false, s))
    else if s.tagFree n tag then (true, s.tagTake n tag q 0 true) else (false, s)
  else
    let i := routeIdx q.dst q.cls
    if !s.bit (F.NI_ROUTEi_VALID n i) then (true, s.answerCode n q .decode)
    else
      match s.routeRing n i with
      | none => (true, s.answerCode n q .poweredDown)
      | some (ring, primary) =>
        if s.routeHeld n q then (false, s)
        else if full then (if q.nb then refuse else (false, s))
        else if s.tagFree n tag then (true, s.tagTake n tag q ring primary) else (false, s)

/-- RING_REQUEST_ISSUE: the NI of a stop takes the request at the front of its client bridge, which gets the given free
tag, is refused, or waits; `waited` is the SCLK that NI_DELAY_CYCLES counts since the last issue (R442, R449 to R451).
A bridge whose NI is not at S0 answers POWERED_DOWN itself (R455); a stop in bypass or held in reset injects
nothing (R456, R689). -/
def execRingRequestIssue (n : Fin 16) (tag : Byte) (waited : Nat) (s : State) : Host.Outcome State Fault Refusal :=
  match s.ni[n].bridge with
  | [] => .next s
  | q :: qs =>
    let s1 := s.setNi n { s.ni[n] with bridge := qs }
    if !s.plateUp then .next (s1.answerCode n q .poweredDown)
    else if s.ni[n].bypass || s.stopHeld.contains n.val || s.phase != .stable then .next s
    else
      let s1 := s1.addSat (F.NI_DELAY_CYCLES n) waited
      match s1.niJudge n tag q with
      | (true, s2) => .next s2
      | (false, _) => .next (s.addSat (F.NI_DELAY_CYCLES n) waited)

/-! ### Responses and timeouts -/

/-- The entry of a tag at an NI. -/
def State.tagEnt? (s : State) (n : Fin 16) (tag : Byte) : Option TagEnt := s.ni[n].tags.find? fun e => e.tag == tag

/-- Remove a tag: it retires. -/
def State.tagRetire (s : State) (n : Fin 16) (tag : Byte) : State :=
  s.setNi n { s.ni[n] with tags := s.ni[n].tags.filter fun e => e.tag != tag }

/-- Change the entry of a tag. -/
def State.tagUpdate (s : State) (n : Fin 16) (tag : Byte) (g : TagEnt → TagEnt) : State :=
  s.setNi n { s.ni[n] with tags := s.ni[n].tags.map fun e => if e.tag == tag then g e else e }

/-- The packet of a tag, wherever it is, leaves the rings. -/
def State.packetDrop (s : State) (n : Fin 16) (e : TagEnt) : State := s.eject e.channel n e.tag

/-- The ring that a response takes: the one that the entry for the issuer would choose, whatever VALID holds, or the other when
that is not at S0 (R437, R441). -/
def State.respSill (s : State) (d n : Fin 16) (c : RingClass) : Bool :=
  let i := routeIdx n c
  let use := s.bit (F.NI_ROUTEi_USE_ALT d i) && s.bit (F.NI_ROUTEi_ALT_EN d i) && s.ringUp (s.fld (F.NI_ROUTEi_ALT_RING d i))
  let want := if use then s.fld (F.NI_ROUTEi_ALT_RING d i) else s.fld (F.NI_ROUTEi_RING d i)
  if s.ringUp want then want == 1 else want != 1

/-- The destination has performed the request of a tag: the request's packet has left the ring, and its response is on the way
(R434). -/
def State.respond (s : State) (n : Fin 16) (tag : Byte) (r : RingResp) : State :=
  match s.tagEnt? n tag with
  | none => s
  | some e =>
    if e.st != .sent then s
    else
    let q := e.req
    let sill := s.respSill q.dst n q.cls
    let s := s.packetDrop n e
    let s := s.tagUpdate n tag fun e => { e with st := .answered r, sill := if q.dst = n then e.sill else sill }
    if q.dst = n then s
    else s.inject (channel sill q.cls true) q.dst { stop := n, tag := tag, dst := n, n := q.respFlits r.code, tot := q.respFlits r.code }

/-- The packet of a tag is lost: it gets no response (R436, R456). -/
def State.packetLost (s : State) (n : Fin 16) (tag : Byte) : State :=
  match s.tagEnt? n tag with
  | none => s
  | some e => (s.packetDrop n e).tagUpdate n tag fun e => { e with st := .lost }

/-- Count of consecutive timeouts under the primary route of an entry. -/
def Ni.foCount (x : Ni) (i : Nat) : Nat := (x.fo.lookup i).getD 0

/-- Set that count. -/
def Ni.setFo (x : Ni) (i c : Nat) : Ni :=
  { x with fo := if c = 0 then x.fo.filter fun p => p.1 != i else (i, c) :: x.fo.filter fun p => p.1 != i }

/-- A timeout of a request sent under the primary route counts towards failover (R441). -/
def State.failover (s : State) (n : Fin 16) (i : Nat) : State :=
  let c := s.ni[n].foCount i + 1
  let s := s.setNi n (s.ni[n].setFo i c)
  if s.bit (F.NI_ROUTEi_ALT_EN n i) && decide (s.fld (F.NI_CFG_FO_CNT n) ≤ c) then
    (s.raise (F.NI_ROUTEi_USE_ALT n i)).raise (F.NI_STAT_FAILOVER n)
  else s

/-- TAG_TIMEOUT: a request has been outstanding for TMO × 1,024 SCLK; its own NI answers TIMEOUT and the tag is stale
(R452). -/
def execTagTimeout (n : Fin 16) (tag : Byte) (s : State) : Host.Outcome State Fault Refusal :=
  match s.tagEnt? n tag with
  | some e =>
    if e.stale then .next s
    else
      let s := (s.inc (F.NI_TIMEOUT_CNT n)).tagUpdate n tag fun e => { e with stale := true }
      let s := if e.primary && e.req.dst != n then s.failover n (routeIdx e.req.dst e.req.cls) else s
      .next (s.answerCode n e.req .timeout)
  | none => .next s

/-- RING_RESPONSE_ARRIVAL: the response to a tag reaches its NI, is passed to the client and retires the tag; a stale tag's
response is discarded (R434, R449, R452). It stands at the stop's router, behind nothing of its channel (R446, R447), and is never refused for want of a ring (R441). With `bad` its header fails at that stop's router and it is lost (R436); a stop
in bypass ejects nothing (R456). -/
def execRingResponseArrival (n : Fin 16) (tag : Byte) (bad : Option (Fin 16)) (s : State) :
    Host.Outcome State Fault Refusal :=
  match s.tagEnt? n tag with
  | some e =>
    match e.st with
    | .answered r =>
      match bad with
      | some b => .next ((s.inc (F.NI_HDR_ERR b)).packetLost n tag)
      | none =>
        if !s.atRouter e.channel n n tag then .next s
        else if s.ni[n].bypass then .next ((s.inc (F.NI_BYPASS_DROP n)).packetLost n tag)
        else
          let s := (s.packetDrop n e).tagRetire n tag
          if e.stale then .next (s.inc (F.NI_LATE_RESP n))
          else
            let s := if e.primary then s.setNi n (s.ni[n].setFo (routeIdx e.req.dst e.req.cls) 0) else s
            .next (s.answer n e.req r)
    | _ => .next s
  | none => .next s

/-- A write of NI_CFG: TMO, FO_CNT and WEIGHT of 0 are ignored whole (Table 17-4, R11). -/
def State.writeNiCfg (s : State) (n : Fin 16) (v : Word) : State :=
  if getBits v 0 4 = 0 ∨ getBits v 4 8 = 0 ∨ getBits v 12 4 = 0 then s else s.setReg (Reg.NI_CFG n) (v &&& 0xFFFF)

/-! ### Views and resets (R457, R460, R461) -/

/-- NI_STAT bits that follow the rings and bypass. -/
def State.viewNiStat (s : State) (n : Fin 16) : Nat := b2n s.plateUp + 2 * b2n s.sillUp + 4 * b2n s.ni[n].bypass

/-- NI_TAG_BAL: RETIRING is 0 between commands. -/
def State.viewTagBal (s : State) (n : Fin 16) : Nat :=
  let out := s.ni[n].tags.length
  256 - out + 65536 * out

/-- NI_TAG_STALE. -/
def State.viewTagStale (s : State) (n : Fin 16) : Nat := s.ni[n].tags.countP fun e => e.stale

/-- Entry to SUPERVISE, BOOT or FALLBACK: packets discarded, tags FREE, routes at R439, RC counters clear (R457). -/
def State.niClear (s : State) : State :=
  let s : State := { s with ni := Vector.replicate 16 {}, rings := Vector.replicate 12 (Vector.replicate 16 {}) }
  (List.range 16).foldl (fun s n =>
    let base := 0x1000000 + n * 0x10000
    (s.resetRegs (base + 0x14) (base + 0x30)).resetRegs (base + 0x100) (base + 0x200)) s

end Sys2Proof.Machine
end

