-- ==== Sys2Proof/Machine/Uart.lean ====
section
/-! DEFINITION. UART0 and UART1 (Chapter 21): characters received and sent, the FIFOs, the sixteen descriptors of each and
their requests, and staged settings. -/

namespace Sys2Proof.Machine

/-- Replace one UART. -/
def State.setUart (s : State) (n : Fin 2) (u : Uart) : State := { s with uart := s.uart.set n u }

/-- Replace one descriptor. -/
def State.setDesc (s : State) (n : Fin 2) (d : Fin 16) (x : UartDesc) : State :=
  let u := s.uart[n]
  s.setUart n { u with desc := u.desc.set d x }

/-- The UART runs: UART0 lies in AON, UART1 in LINEIO. -/
def State.uartOn (s : State) (n : Fin 2) : Bool := if n.val = 0 then s.mode != .unpowered else s.domOn Dom.lineio

/-- UART1's RXD ball belongs to another function (R549). -/
def State.uartRxOff (s : State) (n : Fin 2) : Bool := n.val == 1 && !s.ballFixed 25

/-- PIN_OFF: UART1's TXD ball belongs to another function (R549). -/
def State.uartTxOff (s : State) (n : Fin 2) : Bool := n.val == 1 && !s.ballFixed 24

/-- The stop at which a UART's requests enter the rings. -/
def uartStop (n : Fin 2) : Fin 16 := if n.val = 0 then 0 else 7

/-! ### Descriptors (R542 to R547) -/

/-- Buffer address of a descriptor: stop and offset. -/
def State.descAddr (s : State) (n : Fin 2) (d : Fin 16) : Nat × Nat :=
  (s.fld (F.UAn_Dd_ADDR_HI n d), s.fld (F.UAn_Dd_ADDR_LO n d))

/-- LEN of a descriptor. -/
def State.descLen (s : State) (n : Fin 2) (d : Fin 16) : Nat := s.fld (F.UAn_Dd_CTRL_LEN n d)

/-- The ACTIVE descriptor of a direction. -/
def State.descActive (s : State) (n : Fin 2) (tx : Bool) : Option (Fin 16) :=
  (List.finRange 16).find? fun d => s.uart[n].desc[d].st == .active && s.uart[n].desc[d].tx == tx

/-- The oldest QUEUED descriptor of a direction. -/
def State.descOldest (s : State) (n : Fin 2) (tx : Bool) : Option (Fin 16) :=
  (List.finRange 16).foldl (fun acc d =>
    let x := s.uart[n].desc[d]
    if x.st == .queued && x.tx == tx then
      match acc with
      | none => some d
      | some e => if x.order < (s.uart[n].desc[e]).order then some d else some e
    else acc) none

/-- Entries that the next request of a descriptor may hold from an offset: at most 64, to the end of its 128-byte block. -/
def blockRoom (off : Nat) : Nat := (128 - off % 128) / 2

/-- Issue the write of the entries a receive descriptor holds (R543). -/
def State.rxIssue (s : State) (n : Fin 2) (d : Fin 16) : State :=
  let x := s.uart[n].desc[d]
  let (hi, lo) := s.descAddr n d
  let bytes := x.hold.flatMap fun e => leBytes e.toNat 2
  let q : RingReq := { src := uartStop n, dst := Fin.ofNat 16 hi, kind := .write, off := lo + 2 * x.count
                       len := bytes.length, data := bytes, client := .uart n d x.order }
  (s.setDesc n d { x with busy := true }).bridgePush (uartStop n) [q]

/-- A receive descriptor completes: DONE_EV and the Joist event (R545, R552). -/
def State.rxComplete (s : State) (n : Fin 2) (d : Fin 16) (flushed : Bool) : State :=
  let x := s.uart[n].desc[d]
  let s := (s.setDesc n d { x with st := .done, flushed := flushed, hold := [], busy := false, flush := none }).raise
    (F.UAn_STAT_DONE_EV n)
  (s.raiseIf flushed (F.UAn_STAT_FLUSH_EV n)).eventAll (4 + n.val)

/-- The engine works on both directions: activates descriptors, takes received entries, moves read entries to the transmit
FIFO, and issues requests. -/
def State.uartEngine (s : State) (n : Fin 2) : Nat → State
  | 0 => s
  | fuel + 1 =>
    match s.descActive n false with
    | some d =>
      let u := s.uart[n]
      let x := u.desc[d]
      let len := s.descLen n d
      let (_, lo) := s.descAddr n d
      let room := min (len - x.count) (blockRoom (lo + 2 * x.count)) - x.hold.length
      if x.busy || room == 0 then s
      else
        let took := u.rx.take (min room (x.flush.getD room))
        let x' : UartDesc := { x with hold := x.hold ++ took, flush := x.flush.map (· - took.length) }
        let s1 := s.setUart n { u with rx := u.rx.drop took.length, desc := u.desc.set d x' }
        if took.length = room then s1.rxIssue n d
        else if x.flush.isSome then
          (if x'.hold.isEmpty then (s1.rxComplete n d true).uartEngine n fuel else s1.rxIssue n d)
        else if u.idle && !x'.hold.isEmpty then s1.rxIssue n d
        else s1
    | none =>
      match s.descOldest n false with
      | some d => (s.setDesc n d { s.uart[n].desc[d] with st := .active }).uartEngine n fuel
      | none => s

/-- The transmit engine: read entries enter the FIFO as it has room, and the next read is issued (R541, R545). -/
def State.txEngine (s : State) (n : Fin 2) : State :=
  let s := match s.descActive n true with
    | some _ => s
    | none =>
      match s.descOldest n true with
      | some d => s.setDesc n d { s.uart[n].desc[d] with st := .active }
      | none => s
  match s.descActive n true with
  | none => s
  | some d =>
    let u := s.uart[n]
    let x := u.desc[d]
    let len := s.descLen n d
    let room := 64 - u.tx.length
    let moved := if x.busy then [] else x.hold.take room
    let rest := if x.busy then x.hold else x.hold.drop room
    let upto := x.count + moved.length
    let ents := (moved.zipIdx).map fun p =>
      ({ v := p.1, last := if x.count + p.2 + 1 = len then some d else none } : UartTx)
    let x' : UartDesc := { x with hold := rest, count := upto }
    let s1 := s.setUart n { u with tx := u.tx ++ ents, desc := u.desc.set d x' }
    if x.busy || !rest.isEmpty || decide (len ≤ upto) then s1
    else
      let (hi, lo) := s.descAddr n d
      let off := lo + 2 * upto
      let k := min (len - upto) (blockRoom off)
      let q : RingReq := { src := uartStop n, dst := Fin.ofNat 16 hi, off := off, len := 2 * k, client := .uart n d x.order }
      (s1.setDesc n d { x' with busy := true }).bridgePush (uartStop n) [q]

/-- Both engines run. -/
def State.uartRun (s : State) (n : Fin 2) : State := (s.uartEngine n 40).txEngine n

/-- A buffer lies where R542 asks: aligned, in the sequencer store or in usable far memory. -/
def State.descOk (s : State) (n : Fin 2) (d : Fin 16) : Bool :=
  let (hi, lo) := s.descAddr n d
  let len := s.descLen n d
  decide (lo % 2 = 0 ∧ 1 ≤ len ∧ len ≤ 4096) &&
    decide ((hi = 1 ∧ lo + 2 * len ≤ 0x40000) ∨ (hi = 3 ∧ lo + 2 * len ≤ s.memcCap))

/-- RETIRE of a descriptor (R547). -/
def State.descRetire (s : State) (n : Fin 2) (d : Fin 16) : State :=
  if (s.uart[n].desc[d]).st = .done then s.setDesc n d {} else s

/-- GO of a descriptor (R542). -/
def State.descGo (s : State) (n : Fin 2) (d : Fin 16) : State :=
  let u := s.uart[n]
  if (u.desc[d]).st = .free && s.descOk n d then
    let x : UartDesc := { st := .queued, tx := s.bit (F.UAn_Dd_CTRL_DIR n d), order := u.descOrder }
    (s.setUart n { u with desc := u.desc.set d x, descOrder := u.descOrder + 1 }).uartRun n
  else s.raise (F.UAn_STAT_DESC_ERR n)

/-- A write of UAn_Dd_CTRL: LEN and DIR only while FREE, then GO, then RETIRE. -/
def State.writeDescCtrl (s : State) (n : Fin 2) (d : Fin 16) (v : Word) : State :=
  let s := if (s.uart[n].desc[d]).st = .free then s.setReg (Reg.UAn_Dd_CTRL n d) (v &&& 0x11FFF) else s
  let s := if bitOf v.toNat 24 then s.descGo n d else s
  if bitOf v.toNat 25 then s.descRetire n d else s

/-- A write of a descriptor's address is ignored unless it is FREE (R542). -/
def State.writeDescAddr (s : State) (n : Fin 2) (d : Fin 16) (hi : Bool) (v : Word) : State :=
  if (s.uart[n].desc[d]).st ≠ .free then s
  else if hi then s.setReg (Reg.UAn_Dd_ADDR_HI n d) (v &&& 0xF) else s.setReg (Reg.UAn_Dd_ADDR_LO n d) v

/-- UART_DESC_GO: a write of UAn_Dd_CTRL with GO. -/
def execUartDescGo (n : Fin 2) (d : Fin 16) (v : Word) (s : State) : Host.Outcome State Fault Refusal :=
  if s.uartOn n then .next (s.writeDescCtrl n d (v ||| 0x1000000)) else .next s

/-- UART_DESC_RETIRE. -/
def execUartDescRetire (n : Fin 2) (d : Fin 16) (s : State) : Host.Outcome State Fault Refusal :=
  if s.uartOn n then .next (s.descRetire n d) else .next s

/-- UART_RX_IDLE: the line has been idle for one character time: the entries held are written (R543). -/
def execUartRxIdle (n : Fin 2) (s : State) : Host.Outcome State Fault Refusal :=
  let s := s.setUart n { s.uart[n] with idle := true }
  match s.descActive n false with
  | some d =>
    let x := s.uart[n].desc[d]
    if s.uartOn n && !x.busy && !x.hold.isEmpty then .next (s.rxIssue n d) else .next s
  | none => .next s

/-- UART_RX_FLUSH: RTO × t_c of idle (R544). -/
def execUartRxFlush (n : Fin 2) (s : State) : Host.Outcome State Fault Refusal :=
  match s.descActive n false with
  | some d =>
    let x := s.uart[n].desc[d]
    if !s.uartOn n || s.fld (F.UAn_CFG_RTO n) == 0 || (x.count == 0 && x.hold.isEmpty) then .next s
    else if x.busy then .next (s.setDesc n d { x with flush := some (s.uart[n].rx.length) })
    else if x.hold.isEmpty then .next ((s.rxComplete n d true).uartRun n)
    else .next ((s.setDesc n d { x with flush := some 0 }).rxIssue n d)
  | none => .next s

/-- A descriptor ends with a response other than OK (R546). -/
def State.descFail (s : State) (n : Fin 2) (d : Fin 16) (c : RespCode) : State :=
  let u := s.uart[n]
  let x := u.desc[d]
  let lostN := if x.tx then 0 else x.hold.length
  let s := s.setUart n { u with
    desc := u.desc.set d { x with st := .done, code := c, hold := [], busy := false, flush := none }
    lost := u.lost || decide (0 < lostN) }
  let s := (s.add (F.UAn_OVR_CNT n) lostN).raise (F.UAn_STAT_DONE_EV n)
  if x.tx then s else s.eventAll (4 + n.val)

/-- UART_DMA_RESPONSE: the oldest response for this UART at its bridge is taken (R545, R546). -/
def execUartDmaResponse (n : Fin 2) (s : State) : Host.Outcome State Fault Refusal :=
  let st := uartStop n
  let mine (p : RingReq × RingResp) : Bool := match p.1.client with
    | .uart m _ _ => m == n
    | _ => false
  match s.ni[st].inbox.find? mine with
  | none => .next s
  | some p =>
    let s := s.setNi st { s.ni[st] with inbox := s.ni[st].inbox.erase p }
    match p.1.client with
    | .uart _ d order =>
      let x := s.uart[n].desc[d]
      if x.st ≠ .active || !x.busy || x.order ≠ order then .next s
      else if p.2.code ≠ .ok then .next ((s.descFail n d p.2.code).uartRun n)
      else if x.tx then
        let rec pair : List Byte → List Half
          | a :: b :: l => (b ++ a) :: pair l
          | _ => []
        .next ((s.setDesc n d { x with busy := false, hold := pair p.2.data }).uartRun n)
      else
        let x' : UartDesc := { x with busy := false, count := x.count + x.hold.length, hold := [] }
        let s := s.setDesc n d x'
        .next (((if s.descLen n d ≤ x'.count then s.rxComplete n d false else s)).uartRun n)
    | _ => .next s

/-- UAn_DESC_BAL (R547). -/
def State.viewDescBal (s : State) (n : Fin 2) : Nat :=
  let c (k : DescSt) : Nat := (List.finRange 16).countP fun d => s.uart[n].desc[d].st == k
  c .free + 256 * c .queued + 65536 * c .active + 2 ^ 24 * c .done

/-- UAn_Dd_STAT. -/
def State.viewDescStat (s : State) (n : Fin 2) (d : Fin 16) : Nat :=
  let x := s.uart[n].desc[d]
  (match x.st with | .free => 0 | .queued => 1 | .active => 2 | .done => 3) + 16 * b2n x.flushed +
    32 * (respCode x.code) + 65536 * (if x.st = .done then x.count else 0)

/-! ### Receiving (R531 to R538) -/

/-- Majority of three samples. -/
def majority3 (b : BitVec 3) : Bool := decide (2 ≤ popBV b)

/-- The three samples disagree. -/
def noisy3 (b : BitVec 3) : Bool := b != 0 && b != 7

/-- Data bits of a character (Table 21-5). -/
def State.uartDbits (s : State) (n : Fin 2) : Nat := 7 + s.fld (F.UAn_CFG_DBITS n)

/-- Character time in bit times (R531). -/
def State.uartBits (s : State) (n : Fin 2) : Nat :=
  2 + s.uartDbits n + b2n (s.fld (F.UAn_CFG_PARITY n) != 0) + b2n (s.bit (F.UAn_CFG_STOP2 n))

/-- UART_START_BIT: a falling edge after idle, with the three samples of the start bit. A majority of 1 is a false start
(R533); while DE is asserted without ECHO, or the ball is elsewhere, nothing is received (R538, R549). A start bit on
U0_RXD wakes the device (R628). -/
def execUartStartBit (n : Fin 2) (smp : BitVec 3) (s : State) : Host.Outcome State Fault Refusal :=
  let u := s.uart[n]
  if !s.uartOn n || s.tapActs || !s.bit (F.UAn_CFG_RX_EN n) || s.uartRxOff n || u.rxCur.isSome ||
      (u.de && !s.bit (F.UAn_CFG_ECHO n)) then .next s
  else if majority3 smp then .next (s.inc (F.UAn_FALSE_START n))
  else
    let s1 := s.setUart n { u with rxCur := some (noisy3 smp, false), idle := false }
    .next (if n.val = 0 then s1.wake 2 .caused else s1)

/-- The entry of a character from the samples of its bits after the start bit (Table 21-1, R536). -/
def State.uartEntry (s : State) (n : Fin 2) (noise cut : Bool) (smp : List (BitVec 3)) : Nat :=
  let db := s.uartDbits n
  let par := s.fld (F.UAn_CFG_PARITY n)
  let bits := smp.map majority3
  let data := (List.range db).foldl (fun a i => a + b2n (bits.getD i false) * 2 ^ i) 0
  let ones := popCount data 9 + b2n (par != 0 && bits.getD db false)
  let parErr := par != 0 && ones % 2 != (if par = 1 then 0 else 1)
  let stops := bits.drop (db + b2n (par != 0))
  let brk := !noise && smp.all fun b => b == 0
  let frm := (stops.any fun b => !b) && !brk
  data + 512 * b2n parErr + 1024 * b2n (frm || cut) + 2048 * b2n brk + 4096 * b2n (noise || smp.any noisy3)

/-- Store one received character, or lose it with the FIFO full (R535, R537). -/
def State.uartStore (s : State) (n : Fin 2) (e : Nat) : State :=
  let u := s.uart[n]
  if u.rx.length < 64 then
    let s1 := s.setUart n { u with rx := u.rx ++ [BitVec.ofNat 16 (e + 8192 * b2n u.lost)], lost := false }
    s1.uartRun n
  else ((s.setUart n { u with lost := true }).inc (F.UAn_OVR_CNT n)).raise (F.UAn_STAT_OVR_EV n)

/-- UART_RX_CHAR: the last stop bit of the character being received ends, with the three samples of each bit after the start
bit. -/
def execUartRxChar (n : Fin 2) (smp : List (BitVec 3)) (s : State) : Host.Outcome State Fault Refusal :=
  let u := s.uart[n]
  match u.rxCur with
  | none => .next s
  | some (noise, cut) =>
    let s1 := s.setUart n { u with rxCur := none }
    if u.de && !s.bit (F.UAn_CFG_ECHO n) then .next s1
    else .next (s1.uartStore n (s.uartEntry n noise cut (smp.take (s.uartBits n - 1))))

/-- A read of UAn_RXD: the value, and the state after (R541). -/
def State.readRxd (s : State) (n : Fin 2) : Word × State :=
  let u := s.uart[n]
  if (s.descActive n false).isSome || (s.descOldest n false).isSome then (0, s)
  else
    match u.rx with
    | [] => (0, s)
    | e :: es => (BitVec.ofNat 32 (e.toNat + 65536), s.setUart n { u with rx := es })

/-- UART_RXD_READ. -/
def execUartRxdRead (n : Fin 2) (s : State) : Host.Outcome State Fault Refusal :=
  if s.uartOn n then
    let r := s.readRxd n
    .next (r.2.setUart n { r.2.uart[n] with rxd := r.1 })
  else .next s

/-! ### Transmitting (R539, R541, R545, R548) -/

/-- A write of UAn_TXD. -/
def State.writeTxd (s : State) (n : Fin 2) (v : Word) : State :=
  let u := s.uart[n]
  if u.tx.length < 64 then s.setUart n { u with tx := u.tx ++ [{ v := BitVec.ofNat 16 (v.toNat % 65536) &&& 0x81FF }] }
  else s.raise (F.UAn_STAT_TX_FULL n)

/-- UART_TXD_WRITE. -/
def execUartTxdWrite (n : Fin 2) (v : Word) (s : State) : Host.Outcome State Fault Refusal :=
  if s.uartOn n then .next (s.writeTxd n v) else .next s

/-- The next character to send, with the UART after it has left: the agent's under TX_OWNER 0 on UART0 and for a console
reply on UART1 (R571), else the FIFO's. -/
def State.uartNextTx (s : State) (n : Fin 2) : Option (UartTx × Uart) :=
  let u := s.uart[n]
  if (n.val == 0 && !s.bit (F.UAn_CFG_TX_OWNER n)) || (n.val == 1 && !u.agent.isEmpty) then
    match u.agent with
    | b :: bs => some ({ v := b.zeroExtend 16 }, { u with agent := bs })
    | [] => none
  else
    match u.tx with
    | e :: es => some (e, { u with tx := es })
    | [] => none

/-- The transmitter may start a character: the supervisor agent needs no TX_EN (log 27). -/
def State.uartMaySend (s : State) (n : Fin 2) : Bool :=
  s.uartOn n && !s.uartTxOff n && (s.bit (F.UAn_CFG_TX_EN n) || (n.val == 0 && !s.bit (F.UAn_CFG_TX_OWNER n)))

/-- UART_TX_CHAR_START: the next character starts, with DE asserted. -/
def execUartTxCharStart (n : Fin 2) (s : State) : Host.Outcome State Fault Refusal :=
  if !s.uartMaySend n || s.uart[n].txCur.isSome then .next s
  else
    match s.uartNextTx n with
    | some (e, u) => .next ((s.setUart n { u with txCur := some e, de := true }).txEngine n)
    | none => .next s

/-- UART_TX_CHAR_END: the last stop bit ends; the last entry of a descriptor makes it DONE (R545). -/
def execUartTxCharEnd (n : Fin 2) (s : State) : Host.Outcome State Fault Refusal :=
  let u := s.uart[n]
  match u.txCur with
  | none => .next s
  | some e =>
    let s1 := s.setUart n { u with txCur := none, sent := some e.v }
    match e.last with
    | none => .next s1
    | some d =>
      let x := u.desc[d]
      if x.st = .active && x.tx then
        .next (((s1.setDesc n d { x with st := .done }).raise (F.UAn_STAT_DONE_EV n)).uartRun n)
      else .next s1

/-- UART_DE_TAIL: TAIL after the last stop bit with nothing to send, DE deasserts (R539). -/
def execUartDeTail (n : Fin 2) (s : State) : Host.Outcome State Fault Refusal :=
  let u := s.uart[n]
  if u.de && u.txCur.isNone && (s.uartNextTx n).isNone then .next (s.setUart n { u with de := false }) else .next s

/-- UART1's balls leave it at an E0: JIO24 cuts the character being sent and deasserts DE, JIO25 cuts the one being received (R522,
R549). -/
def State.uartPinCut (s : State) (j : Nat) : State :=
  let u := s.uart[1]
  if j = 25 then s.setUart 1 { u with rxCur := u.rxCur.map fun p => (p.1, true) }
  else if j = 24 then
    let s1 := s.setUart 1 { u with txCur := none, de := false }
    if u.txCur.isSome then s1.inc (F.UAn_TX_CUT 1) else s1
  else s

/-! ### Staged settings (R540) -/

/-- A write of UAn_CFG: reserved codes of DBITS and PARITY are ignored whole; UART1 has no TX_OWNER. -/
def State.writeUartCfg (s : State) (n : Fin 2) (v : Word) : State :=
  if getBits v 0 2 = 3 ∨ getBits v 2 2 = 3 then s
  else s.setUart n { s.uart[n] with cfg := some (v &&& (if n.val = 0 then 0xFF07FF else 0xFF03FF)) }

/-- A write of UAn_BAUD: DIV of 0 is ignored. -/
def State.writeUartBaud (s : State) (n : Fin 2) (v : Word) : State :=
  if getBits v 0 16 = 0 then s else s.setUart n { s.uart[n] with baud := some (v &&& 0xFFFFF) }

/-- A write of UA0_BAUD_AON: DIV of 0 is ignored, and so is a write on UART1. -/
def State.writeUartBaudAon (s : State) (n : Fin 2) (v : Word) : State :=
  if getBits v 0 16 = 0 ∨ n.val = 1 then s else s.setUart n { s.uart[n] with baudAon := some (v &&& 0xFFFFF) }

/-- A write of UAn_DE. -/
def State.writeUartDe (s : State) (n : Fin 2) (v : Word) : State :=
  s.setUart n { s.uart[n] with deTimes := some (v &&& 0xFFFF) }

/-- No character is in progress in either direction and DE is deasserted. -/
def Uart.quiet (u : Uart) : Bool := u.rxCur.isNone && u.txCur.isNone && !u.de

/-- A staged value reaches its register. -/
def State.uartApply (s : State) (a : Nat) (v : Option Word) : State :=
  match v with
  | some w => s.setReg a w
  | none => s

/-- UART_CFG_APPLY: staged settings apply at the first edge with the UART quiet. -/
def execUartCfgApply (n : Fin 2) (s : State) : Host.Outcome State Fault Refusal :=
  let u := s.uart[n]
  if s.uartOn n && u.quiet then
    let s1 := ((s.uartApply (Reg.UAn_CFG n) u.cfg).uartApply (Reg.UAn_BAUD n) u.baud).uartApply (Reg.UAn_DE n) u.deTimes
    let s2 := s1.uartApply (Reg.UA0_BAUD_AON n) u.baudAon
    .next (s2.setUart n { u with cfg := none, baud := none, deTimes := none, baudAon := none })
  else .next s

/-- UAn_STAT as far as it follows the UART. -/
def State.viewUartStat (s : State) (n : Fin 2) : Nat :=
  let u := s.uart[n]
  let pend := u.cfg.isSome || u.baud.isSome || u.deTimes.isSome || u.baudAon.isSome
  b2n u.rxCur.isSome + 2 * b2n u.txCur.isSome + 4 * b2n u.de + 8 * b2n pend + 16 * b2n (s.uartTxOff n) + 32 * b2n (n.val == 0 && u.clkAon) +
    256 * u.rx.length + 65536 * u.tx.length

/-! ### Mode entries (R548, R550, R621) -/

/-- A UART abandons DMA: every descriptor is FREE. -/
def State.uartAbandon (s : State) (n : Fin 2) : State :=
  s.setUart n { s.uart[n] with desc := Vector.replicate 16 {} }

/-- UART1 abandons DMA and empties its FIFOs. -/
def State.uart1Empty (s : State) : State :=
  let s := s.uartAbandon 1
  s.setUart 1 { s.uart[1] with rx := [], tx := [], lost := false }

/-- Entry to SUPERVISE, BOOT or FALLBACK: TX_OWNER returns to the supervisor. -/
def State.uartsModeEntry (s : State) : State :=
  let s := ((s.uartAbandon 0).uart1Empty).setFld (F.UAn_CFG_TX_OWNER 0) 0
  s.setUart 0 { s.uart[0] with cfg := (s.uart[0]).cfg.map fun w => w &&& 0xFFFFFBFF }

/-- UART1's registers take their reset values, on entry to BOOT. -/
def State.uart1Reset (s : State) : State := (s.setUart 1 {}).resetRegs 0x700040000 0x700041000

end Sys2Proof.Machine
end

