-- ==== Sys2Proof/Machine/Clocks.lean ====
section
/-! DEFINITION. The root PLL, its reference, holdover, and the always-on clocks (Chapter 25), with UART0's clock (R534). -/

namespace Sys2Proof.Machine

/-- The PLL is on: above SUPERVISE, and not in S3 to S5 or on the way there (R638). -/
def State.pllOn (s : State) : Bool :=
  let up := s.mode != .unpowered && s.mode != .supervise
  match s.phase with
  | .entering t _ => up && decide (t.code < 3)
  | .exiting .. => up
  | _ => up && decide (s.ladder.code < 3)

/-- PLL_LOCK: the PLL locks from the crystal, after the given time in ns, and the derived clocks start together (R636,
R638). -/
def execPllLock (ns : Nat) (s : State) : Host.Outcome State Fault Refusal :=
  if s.pllOn && !s.clk.run then
    let s1 := (s.raise F.CLK_STAT_LOCKED).setFld F.CLK_LOCK_NS (min ns 0xFFFFFFFF)
    let s2 := (s1.setFld F.CLK_STAT_REF 0).setFld F.CLK_PPM 0
    .next { s2 with clk := { s2.clk with run := true } }
  else .next s

/-- The reference that CLK_CFG selects: 0 the crystal, 1 DYN_UP, 2 DYN_DN (R639). -/
def State.refWanted (s : State) : Nat :=
  let up := s.domOn Dom.dynak && (s.dynPort s.dynSrc).trained
  if s.bit F.CLK_CFG_REF_SEL ∧ up then (if s.dyn.srcDn then 2 else 1) else 0

/-- A write of CLK_CFG: REF_SEL keeps its value while SWITCHING, and CLK_ERR.BUSY sets (R639, R646). -/
def State.writeClkCfg (s : State) (v : Word) : State :=
  let v := v &&& 0xFF03
  if s.bit F.CLK_STAT_SWITCHING then
    (s.setReg Reg.CLK_CFG (setBits v 0 1 (s.fld F.CLK_CFG_REF_SEL))).raise F.CLK_ERR_BUSY
  else s.setReg Reg.CLK_CFG v

/-- CLK_CFG_WRITE. -/
def execClkCfgWrite (v : Word) (s : State) : Host.Outcome State Fault Refusal :=
  if s.plateUp then .next (s.writeClkCfg v) else .next s

/-- The PLL starts to slew to a reference that lies ppm × 0.1 ppm from the crystal (R640). -/
def State.refStart (s : State) (target : Nat) (ppm : Int) (fb : Bool) : State :=
  if 2000 < ppm.natAbs then s.raise F.CLK_STAT_REF_BAD
  else
    let s := ((s.raise F.CLK_STAT_SWITCHING).setFld F.CLK_STAT_LOCKED 0).setFld F.CLK_STAT_HOLDOVER 0
    { s with clk := { s.clk with target := target, ppm := ppm, fb := fb } }

/-- A switch to the wanted reference may start now: it differs from the present one, or the PLL is in holdover and R642
lets it adopt that reference. -/
def State.refMaySwitch (s : State) : Bool :=
  let w := s.refWanted
  let r := s.fld F.CLK_STAT_REF
  let now := s.bit F.CLK_CFG_AUTO_FB && s.fld F.CLK_CFG_HOLD_MAX == 0
  s.clk.run && !s.bit F.CLK_STAT_SWITCHING &&
    (if s.bit F.CLK_STAT_HOLDOVER then w != 0 || r == 0 || !s.bit F.CLK_CFG_REF_SEL || now
     else s.bit F.CLK_STAT_LOCKED && w != r && (w != 0 || !s.bit F.CLK_CFG_REF_SEL))

/-- REF_SWITCH: the switch to the wanted reference, whose offset the PLL has measured (R639, R640, R642). -/
def execRefSwitch (ppm : Int) (s : State) : Host.Outcome State Fault Refusal :=
  if s.refMaySwitch then
    let fb := s.bit F.CLK_STAT_HOLDOVER && s.refWanted == 0 && s.fld F.CLK_STAT_REF != 0
    .next (s.refStart s.refWanted (if s.refWanted = 0 then 0 else ppm) fb)
  else .next s

/-- REF_SWITCH_DONE: the PLL is locked on the new reference (R640). -/
def execRefSwitchDone (s : State) : Host.Outcome State Fault Refusal :=
  if s.bit F.CLK_STAT_SWITCHING then
    let s1 := ((s.setFld F.CLK_STAT_SWITCHING 0).raise F.CLK_STAT_LOCKED).setFld F.CLK_STAT_REF s.clk.target
    .next ((s1.setFld F.CLK_PPM (s.clk.ppm % 65536).toNat).raiseIf s.clk.fb F.CLK_STAT_FB_EV)
  else .next s

/-- REF_LOSS: the reference shows no edge for 160 ns, or its port has lost training: holdover, and a supervisor warning with
source 2; a switch in progress is abandoned (R641, R646). -/
def execRefLoss (s : State) : Host.Outcome State Fault Refusal :=
  if s.clk.run && !s.bit F.CLK_STAT_HOLDOVER then
    let s1 := ((s.raise F.CLK_STAT_HOLDOVER).setFld F.CLK_STAT_LOCKED 0).setFld F.CLK_STAT_SWITCHING 0
    .next (((s1.raise F.CLK_STAT_LOST_EV).inc F.CLK_LOSS_CNT).warn 2 [])
  else .next s

/-- HOLD_MAX_EXPIRY: HOLD_MAX ms of holdover with AUTO_FB set; a trained source prevails (R642, R646). -/
def execHoldMaxExpiry (s : State) : Host.Outcome State Fault Refusal :=
  if s.clk.run && s.bit F.CLK_STAT_HOLDOVER && s.fld F.CLK_STAT_REF != 0 && s.bit F.CLK_CFG_AUTO_FB && s.refWanted == 0 then
    .next (s.refStart 0 0 true)
  else .next s

/-- AON_XTAL_FAIL: no crystal edge for 2,048 periods of the 16 MHz oscillator; the counter moves to that oscillator at the
next millisecond (R643). -/
def execAonXtalFail (s : State) : Host.Outcome State Fault Refusal :=
  if s.mode ≠ .unpowered ∧ s.bit F.CLK_AON_STAT_XTAL_OK then
    let s1 := (s.setFld F.CLK_AON_STAT_XTAL_OK 0).raise F.CLK_AON_STAT_XTAL_FAIL_EV
    .next { s1 with clk := { s1.clk with aonNext := true } }
  else .next s

/-- AON_XTAL_RETURN: 1,024 good crystal periods (R643). -/
def execAonXtalReturn (s : State) : Host.Outcome State Fault Refusal :=
  if s.mode ≠ .unpowered then
    let s1 := s.raise F.CLK_AON_STAT_XTAL_OK
    .next { s1 with clk := { s1.clk with aonNext := false } }
  else .next s

/-- AON_MS_TICK: the millisecond counter adds one, and a change of its source takes effect (R643). -/
def execAonMsTick (s : State) : Host.Outcome State Fault Refusal :=
  if s.mode ≠ .unpowered then
    let s1 := s.setFld F.CLK_AON_STAT_SRC (b2n s.clk.aonNext)
    .next { s1 with aonMs := s1.aonMs + 1 }
  else .next s

/-- UART0_CLOCK_CHANGE: with no character in progress and DE deasserted, UART0 takes the clock that R534 names. -/
def execUart0ClockChange (s : State) : Host.Outcome State Fault Refusal :=
  let u := s.uart[0]
  if s.mode ≠ .unpowered ∧ u.quiet then
    .next (s.setUart 0 { u with clkAon := !s.bit F.CLK_STAT_LOCKED })
  else .next s

end Sys2Proof.Machine
end

