-- ==== Sys2Proof/Machine/Triggers.lean ====
section
/-! DEFINITION. Line triggers and EXPO (Chapter 4): numbering, gating, spacing, frames, the pending list, the LINE of a
LOCKSTEP master, EXPO intervals and the line timer. -/

namespace Sys2Proof.Machine

/-- The effective minimum trigger spacing (R103). -/
def State.trigSpacing (s : State) : Nat := max (max (s.fld F.ENC_TMIN_TMIN) 1000) (s.fld F.ENC_EXPO_W_W + 4)

/-- A trigger, or a LINE target, lies closer than the spacing to the previous one that produced EXPO (R103, R413). -/
def State.tooClose (s : State) (t : Nat) : Bool :=
  match s.lio.lastExpoTrig with
  | some p => decide (t < p + s.trigSpacing)
  | none => false

/-- QUAL flags of the encoder that triggers select, since the previous trigger (Table 7-3). -/
def State.encFlags (s : State) : Bool × Bool :=
  let sel := s.fld F.ENC_TRIG_CFG_SEL
  if h : sel < 3 then ((s.lio.enc[sel]).glitchSince, (s.lio.enc[sel]).implausSince) else (false, false)

/-- The packer's record of a trigger (R136, R168, R176). -/
def State.mkTrig (s : State) (num : Word) (pos : Pos) (t : Nat) (extrap : Bool) : Trig :=
  { num := num, pos := pos, time := s.time t, t := t, ltmo := s.fld F.ING_LTMO, frame := s.ing.frameNum
    prs := BitVec.ofNat 2 s.lio.prs.st.code, blinded := s.bit F.PRS_STAT_BLINDED
    glitch := s.encFlags.1, implaus := s.encFlags.2, extrap := extrap }

/-- Start the QUAL interval of the next trigger. -/
def State.clearEncFlags (s : State) : State :=
  { s with lio := { s.lio with enc := s.lio.enc.map fun e => { e with glitchSince := false, implausSince := false } } }

/-- A number takes its place: skipped when its spacing time is too close, else its EXPO interval is scheduled and the
trigger enters the pending list (R103, R107, R167). ENC_EXPO_W is read here, at the trigger (log 53, DESIGN CHOICE). Answers
whether it was skipped. -/
def State.exposeLine (s : State) (num : Word) (pos : Pos) (t key start : Nat) (extrap : Bool) : Bool × State :=
  if s.tooClose key then (true, ((s.inc F.ENC_SKIP_CNT).raise F.ENC_STAT_SKIPPED).resolveLine num)
  else
    let e : Expo := { line := num, start := start, stop := start + s.fld F.ENC_EXPO_W_W }
    let s1 := { s with lio := { s.lio with expos := s.lio.expos ++ [e], lastExpoTrig := some key } }
    (false, s1.pendTrigger (s1.mkTrig num pos t extrap))

/-- The notice of a window (R152); NOTICE_SHORT shows one below 200 LCLK. -/
def State.setNotice (s : State) (n : Nat) : State :=
  { s with lio := { s.lio with notice := n } }.setFld F.STB_GSTAT_NOTICE_SHORT (b2n (decide (n < 200)))

/-- A committed N/M pair takes force; ACC is kept when it is below the new N (R106). -/
def State.applyDiv (s : State) : State :=
  match s.lio.divPend with
  | none => s
  | some (n, m) =>
    { s with lio := { s.lio with divN := n, divM := m, divPend := none
                                 acc := if s.lio.acc < n then s.lio.acc else 0 } }

/-- The LINE, the POS and, for a first line, the SYNC CFG that a LOCKSTEP master sends for a trigger (R411, R415). -/
def State.masterLine (s : State) (num : Word) (pos : Pos) (t : Nat) (fopen flast noexpo : Bool) : State :=
  let tgt := s.groupTime (t + s.fld F.DYN_LEAD)
  let s := s.dynOut (.line fopen flast noexpo (tgt.truncate 24) (num.truncate 24))
  let s := s.dynOut (.pos true pos)
  if fopen then s.dynOut (.cfg (BitVec.ofNat 16 (s.fld F.DYN_GWIN)) s.ing.frameNum) else s

/-- The next line number is taken, the spacing of triggers is noted, and a proof gate turns off (R23, R153, R154). -/
def State.numberTrigger (s : State) (num : Word) (t : Nat) : State :=
  let lio := s.lio
  State.proofAbort { s.setReg Reg.ENC_LINE_NUM num with lio := { lio with prevTrig := lio.lastTrig, lastTrig := some t } } t

/-- Queued presence edges act at a trigger (R133, R135). -/
def State.gateTrigger (s : State) (pos : Pos) : State :=
  if s.lio.prs.gateOn then (if s.lio.prs.gateFirst then s.gateFirst pos else s).gateEdges pos 40 else s

/-- The trigger falls outside a gated frame run (R133). -/
def State.gatedOut (s : State) : Bool := s.lio.prs.gateOn && !s.lio.prs.gateOpen

/-- A local trigger's number joins a frame, or is counted as gated (R133, R185). -/
def State.joinTrigger (s : State) (num : Word) : State :=
  if s.gatedOut then s.inc F.PRS_GATED_CNT
  else if s.frameTaking then s.frameJoin
  else (s.frameOpen (s.ing.frameNum + 1) num false).frameJoin

/-- When EXPO of a local trigger starts (R107, R411). -/
def State.expoAt (s : State) (t : Nat) : Nat :=
  if s.mode = .lockstep then t + s.fld F.DYN_LEAD else t + s.fld F.ENC_EXPO_DLY_DLY

/-- What follows a local trigger: the LINE event, the LINE of a LOCKSTEP master or the notice, and a waiting N/M pair
(R103, R106, R152, R331, R411). A master's notice is set when the LINE is sent. -/
def State.afterTrigger (s : State) (num : Word) (pos : Pos) (t : Nat) (fopen flast noexpo : Bool) : State :=
  let s := s.eventAll 0
  let s := if s.mode = .lockstep then s.masterLine num pos t fopen flast noexpo
    else s.setNotice (s.fld F.ENC_EXPO_DLY_DLY)
  s.clearEncFlags.applyDiv

/-- A local trigger issues (R23, R25, R99, R102, R103, R133, R167, R185, R411). -/
def State.localTrigger (s : State) (pos : Pos) (t : Nat) : State :=
  let num := s.reg Reg.ENC_LINE_NUM + 1
  let s1 := (s.atT t).numberTrigger num t
  let s2 := s1.gateTrigger pos
  let gated := s2.gatedOut
  let fopen := !gated && !s2.frameTaking
  let s3 := s2.joinTrigger num
  let flast := if gated then s1.frameTaking && !s2.frameTaking else !s3.frameTaking
  let r := if gated then (true, s3) else s3.exposeLine num pos t t (s3.expoAt t) false
  (r.2.noteWindow (r.2.expoAt t) !r.1).afterTrigger num pos t fopen flast r.1

/-! ### The line timer (R102) -/

/-- LINE_TIMER_TRIGGER: the line timer expires in FREE-RUN and issues a trigger with the selected encoder's position
before any count of that edge (R24). -/
def execLineTimerTrigger (s : State) : Host.Outcome State Fault Refusal :=
  if s.mode = .freeRun ∧ s.capture then
    match s.lio.ltNext with
    | none => .next s
    | some t =>
      let s1 := { s with lio := { s.lio with ltBase := t, ltNext := some (t + s.fld F.ENC_LTIMER_LTIMER) } }
      .next (s1.localTrigger (s1.trigPosBefore t) t)
  else .next s

/-- A write of ENC_LTIMER: in FREE-RUN the next trigger falls LTIMER after the last one or after entry, or on the next
edge; 0 stops the timer (R102). -/
def State.writeLtimer (s : State) (v : Word) (t : Nat) : State :=
  let n := getBits v 0 24
  let s := s.setFld F.ENC_LTIMER_LTIMER n
  if s.mode = .freeRun then
    { s with lio := { s.lio with ltNext := if n = 0 then none else some (max (s.lio.ltBase + n) (t + 1)) } }
  else s

/-- LTIMER_WRITE. -/
def execLtimerWrite (v : Word) (t : Nat) (s : State) : Host.Outcome State Fault Refusal :=
  if s.domOn Dom.lineio then .next ((s.atT t).writeLtimer v t) else .next s

/-! ### EXPO (R107, R152) -/

/-- The scheduled interval that starts first, and the rest. -/
def expoFirst : List Expo → Option (Expo × List Expo)
  | [] => none
  | e :: es =>
    match expoFirst es with
    | none => some (e, es)
    | some (x, r) => if e.start ≤ x.start then some (e, es) else some (x, e :: r)

/-- EXPO_START: the next scheduled interval begins; EXPO asserts or stays asserted, staged strobe settings commit and due
pulses are placed, and a proof gate turns off (R107, R144, R146, R154). -/
def execExpoStart (s : State) : Host.Outcome State Fault Refusal :=
  if s.domOn Dom.lineio then
    match expoFirst s.lio.expos with
    | none => .next s
    | some (e, rest) =>
      let s := s.atT e.start
      let s := { s with lio := { s.lio with
          expos := rest, expoOn := true, expoEnd := if s.lio.expoOn then max s.lio.expoEnd e.stop else e.stop } }
      .next ((s.proofAbort e.start).strobesExpo e.line e.start)
  else .next s

/-- EXPO_END: EXPO deasserts at the end of its interval; a group-time change that waited for it applies (R107, R408). -/
def execExpoEnd (s : State) : Host.Outcome State Fault Refusal :=
  if s.lio.expoOn then
    .next (({ s with lio := { s.lio with expoOn := false } }.atT s.lio.expoEnd).groupSettle)
  else .next s

end Sys2Proof.Machine
end

