-- ==== Sys2Proof/Machine/Encoders.lean ====
section
/-! DEFINITION. Encoders and the divider (Chapter 4): glitch filter, counting, Z latch, speed, presets and the divider's
registers. -/

namespace Sys2Proof.Machine

/-- Replace one encoder. -/
def State.setEnc (s : State) (n : Fin 3) (e : Encoder) : State :=
  { s with lio := { s.lio with enc := s.lio.enc.set n e } }

/-- The balls of an encoder are assigned to it (R98, R520). -/
def State.encBalls (s : State) (n : Fin 3) : Bool :=
  n.val != 2 || (s.ballFixed 27 && s.ballFixed 28 && s.ballFixed 29)

/-- The encoders count: LINEIO is ON, and they have started (R96, R755). -/
def State.encRuns (s : State) : Bool := s.domOn Dom.lineio && s.lio.counting

/-- Accepted level of one input. -/
def Encoder.acc (e : Encoder) : EncInput → Bool
  | .a => e.accA
  | .b => e.accB
  | .z => e.accZ

/-- Set the accepted level of one input. -/
def Encoder.setAcc (e : Encoder) (i : EncInput) (l : Bool) : Encoder :=
  match i with
  | .a => { e with accA := l }
  | .b => { e with accB := l }
  | .z => { e with accZ := l }

/-- An accepted rising edge of Z with Z_EN set latches the position and judges ZERR (R95). -/
def State.zLatch (s : State) (n : Fin 3) : State :=
  if s.bit (F.ENCn_CFG_Z_EN n) then
    let e := s.lio.enc[n]
    let zcpr := s.fld (F.ENCn_ZCPR n)
    let bad := e.zSeen && zcpr != 0 && (posDiff e.pos e.zLatch).natAbs != zcpr
    let s := (s.setEnc n { e with zSeen := true, zLatch := e.pos }).setReg (Reg.ENCn_ZPOS n) (e.pos.truncate 32)
    s.raiseIf bad (F.ENCn_STAT_ZERR n)
  else s

/-- ENC_LEVEL_ACCEPT: a level change seen on `held` LCLK edges; one seen on none is nothing. It is accepted at FILT, and counted
in ENCn_GLITCH below (R91). -/
def execEncLevelAccept (n : Fin 3) (inp : EncInput) (level : Bool) (held : Nat) (s : State) :
    Host.Outcome State Fault Refusal :=
  let e := s.lio.enc[n]
  if !(s.encRuns && s.encBalls n) || s.tapActs || e.acc inp == level || held == 0 then .next s
  else if held < s.fld (F.ENCn_CFG_FILT n) then
    .next ((s.setEnc n { e with glitchSince := true }).inc (F.ENCn_GLITCH n))
  else
    let s := s.setEnc n (e.setAcc inp level)
    match inp, level with
    | .z, true => .next (s.zLatch n)
    | _, _ => .next s

/-- The count that a transition of one input makes, x4 direction before INV_DIR: +1 when A leads B (R92). -/
def Encoder.dir (e : Encoder) : Int :=
  if e.accA != e.synA then (if e.accA != e.synB then 1 else -1)
  else (if e.accB == e.synA then 1 else -1)

/-- DECODE counts this transition (R92): x1 the rising edge of A, x2 both edges of A, x4 every edge. -/
def Encoder.counted (e : Encoder) (decode : Nat) : Bool :=
  if e.accA != e.synA then decide (decode ≠ 0) || e.accA else decode == 2

/-- The divider follows the position past the high-water mark (R99, R101, R105). -/
def State.divide (s : State) (n : Fin 3) (t : Nat) : State :=
  let pos := (s.lio.enc[n]).pos
  if s.capture && (s.mode == .track || s.isMaster) && s.fld F.ENC_TRIG_CFG_SEL == n.val
      && decide (0 < posDiff pos s.lio.hwm) then
    let acc := s.lio.acc + s.lio.divM
    let s1 : State := { s with lio := { s.lio with hwm := pos } }
    if s.lio.divN ≤ acc then
      State.localTrigger { s1 with lio := { s1.lio with acc := acc - s.lio.divN } } pos (t + 1)
    else { s1 with lio := { s1.lio with acc := acc } }
  else s

/-- ENC_COUNT at an LCLK edge: the accepted levels reach the decoder. Both changed together count QERR; one changed counts
under DECODE and INV_DIR and may issue a trigger (R92 to R94, R99). -/
def execEncCount (n : Fin 3) (t : Nat) (s : State) : Host.Outcome State Fault Refusal :=
  let e := s.lio.enc[n]
  let da := e.accA != e.synA
  let db := e.accB != e.synB
  if !(s.encRuns && s.encBalls n) || (!da && !db) then .next s
  else
    let s := s.atT t
    let e' := { e with synA := e.accA, synB := e.accB }
    if da && db then .next ((s.setEnc n e').inc (F.ENCn_QERR n))
    else if !e.counted (s.fld (F.ENCn_CFG_DECODE n)) then .next (s.setEnc n e')
    else
      let d := if s.bit (F.ENCn_CFG_INV_DIR n) then -e.dir else e.dir
      let e'' := { e' with pos := e.pos + BitVec.ofInt 48 d, prevPos := e.pos, countT := t, msCount := e.msCount + d }
      .next ((s.setEnc n e'').divide n t)

/-- The speed of one encoder at an AON millisecond (R96). -/
def State.speedSample (s : State) (n : Fin 3) : State :=
  let e := s.lio.enc[n]
  let v := e.msCount
  let lim := s.fld (F.ENCn_ACC_LIM n)
  let jump := match e.prevSpeed with
    | some p => lim != 0 && decide (lim < (v - p).natAbs)
    | none => false
  let bad := jump || decide (50000 < v.natAbs)
  let still := if v = 0 then e.stillRun + 1 else 0
  let s := s.setEnc n { e with msCount := 0, prevSpeed := some v, stillRun := still, implausSince := e.implausSince || bad }
  let s := s.setFld (F.ENCn_SPEED n) (BitVec.ofInt 24 v).toNat
  let s := s.setFld (F.ENCn_STAT_STILL n) (b2n (decide (s.fld (F.ENCn_STILL_MS n) ≤ still)))
  if bad then (s.raise (F.ENCn_STAT_IMPLAUS n)).inc (F.ENCn_IMPLAUS_CNT n) else s

/-- ENC_SPEED_SAMPLE: at an AON millisecond every encoder that counts is measured (R96, R755). -/
def execEncSpeedSample (s : State) : Host.Outcome State Fault Refusal :=
  if s.encRuns then .next ((List.finRange 3).foldl (fun s n => s.speedSample n) s) else .next s

/-- The encoders start counting: the first millisecond has no predecessor (R96). -/
def State.encStart (s : State) : State :=
  { s with lio := { s.lio with counting := true
                               enc := s.lio.enc.map fun e => { e with msCount := 0, prevSpeed := none } } }

/-- The encoders stop counting (R96, R621, R755). -/
def State.encStop (s : State) : State := { s with lio := { s.lio with counting := false } }

/-- A write of ENCn_POS_HI (R97). -/
def State.writePosHi (s : State) (n : Fin 3) (v : Word) : State :=
  let sel := s.fld F.ENC_TRIG_CFG_SEL == n.val
  if sel && s.capture then s.raise F.ENC_ERR_PRESET
  else
    let pos : Pos := BitVec.ofNat 48 (s.fld (F.ENCn_POS_LO n) + 2 ^ 32 * getBits v 0 16)
    let s := s.setEnc n { s.lio.enc[n] with pos := pos, prevPos := pos, zSeen := false }
    if sel then { s with lio := { s.lio with hwm := pos } } else s

/-- ENC_POS_PRESET. -/
def execEncPosPreset (n : Fin 3) (v : Word) (s : State) : Host.Outcome State Fault Refusal :=
  if s.domOn Dom.lineio then .next (s.writePosHi n v) else .next s

/-- A write of ENC_TRIG_CFG: a change of SEL while CAPTURE = 1 is refused for SEL alone (R756). -/
def State.writeTrigCfg (s : State) (v : Word) : State :=
  let sel := getBits v 0 2
  let s := s.setFld F.ENC_TRIG_CFG_EXPO_POL (getBits v 2 1)
  if sel = s.fld F.ENC_TRIG_CFG_SEL then s
  else if s.capture then s.raise F.ENC_ERR_SEL
  else s.holdMpos.setFld F.ENC_TRIG_CFG_SEL sel

/-- ENC_TRIG_CFG_WRITE. -/
def execEncTrigCfgWrite (v : Word) (s : State) : Host.Outcome State Fault Refusal :=
  if s.domOn Dom.lineio then .next (s.writeTrigCfg v) else .next s

/-- A write of ENC_DIV_M commits the staged N with M, or is refused (R106). -/
def State.writeDivM (s : State) (v : Word) : State :=
  let n := s.fld F.ENC_DIV_N_N
  let m := getBits v 0 24
  if n = 0 ∨ m = 0 ∨ n < m then s.raise F.ENC_ERR_DIV
  else
    let s := s.setFld F.ENC_DIV_M_M m
    if s.capture then { s with lio := { s.lio with divPend := some (n, m) } }
    else { s with lio := { s.lio with divN := n, divM := m } }

/-- ENC_DIV_M_WRITE. -/
def execEncDivMWrite (v : Word) (s : State) : Host.Outcome State Fault Refusal :=
  if s.domOn Dom.lineio then .next (s.writeDivM v) else .next s

/-- ENC_STAT.REV: the position of the selected encoder lies below the high-water mark (R101). -/
def State.viewRev (s : State) : Bool := s.fld F.ENC_TRIG_CFG_SEL != 3 && decide (posDiff s.trigPos s.lio.hwm < 0)

end Sys2Proof.Machine
end

