-- ==== Sys2Proof/Machine/Dynak.lean ====
section
/-! DEFINITION. Dynak (Chapter 16): training, calibration, group time, forwarding, lines of a follower, link loss and
free-wheel. -/

namespace Sys2Proof.Machine

/-! ### Training and calibration (R400, R407, R410, R422, R423) -/

/-- The ports that a calibration measures: the source port, and in a ring both (R407, R422). -/
def State.calPort (s : State) (p : DynPort) : Bool := s.bit F.DYN_CFG_RING || p == s.dynSrc

/-- Apply a change to one port's state. -/
def State.modDynPort (s : State) (p : DynPort) (f : DynPortSt → DynPortSt) : State := s.setDynPort p (f (s.dynPort p))

/-- Calibration starts (R407). -/
def State.calStart (s : State) : State :=
  let z (x : DynPortSt) : DynPortSt := { x with calSum := 0, calEchoes := 0, calProbes := 0 }
  let s := (s.modDynPort .up z).modDynPort .dn z
  { s with dyn := { s.dyn with calBusy := true, calOk := false } }

/-- DYN_PORT_TRAINED: the receiver trains; a source port with AUTOCAL calibrates (R400, R407). -/
def execDynPortTrained (p : DynPort) (t : Nat) (s : State) : Host.Outcome State Fault Refusal :=
  if s.domOn Dom.dynak && !(s.dynPort p).trained then
    let s := (s.atT t).modDynPort p fun x => { x with trained := true }
    if s.bit F.DYN_CFG_AUTOCAL && s.calPort p && !s.isMaster then .next s.calStart else .next s
  else .next s

/-- The source link is lost: LOST_EV, the count, and free-wheel in a capturing follower (R423, R424). -/
def State.dynLoss (s : State) : State :=
  if s.dyn.lost then s
  else
    let s := (s.raise F.DYN_STAT_LOST_EV).inc F.DYN_LOSS_CNT
    { s with dyn := { s.dyn with lost := true, freewheel := s.isFollower && s.capture, fwLines := 0 } }

/-- A failover to DYN_DN is available (R422). -/
def State.canFailover (s : State) : Bool :=
  s.bit F.DYN_CFG_RING && !s.dyn.srcDn && s.dyn.dn.trained && s.dyn.dn.calDone

/-- DYN_UP of a follower loses its link: failover to DYN_DN, or the loss (R422, R423). -/
def State.sourceLost (s : State) : State :=
  if s.dynMaster then s
  else if s.canFailover then
    { s with dyn := { s.dyn with srcDn := true, calDone := true } }.raise F.DYN_STAT_FAILOVER_EV
  else s.dynLoss

/-- DYN_PORT_TRAINING_LOST (R400, R407, R422, R423). -/
def execDynPortTrainingLost (p : DynPort) (t : Nat) (s : State) : Host.Outcome State Fault Refusal :=
  if (s.dynPort p).trained then
    let s := (s.atT t).modDynPort p fun x => { x with trained := false, calDone := false }
    if p = s.dynSrc then .next { s with dyn := { s.dyn with calDone := false, calOk := false } }.sourceLost else .next s
  else .next s

/-- DYN_SOURCE_LOSS: no SYNC TIME has arrived on the source port for four SYNC periods (R422, R423). -/
def execDynSourceLoss (s : State) : Host.Outcome State Fault Refusal :=
  if s.dynOn && !s.dyn.lost then .next s.sourceLost else .next s

/-- A write of DYN_CAL (R407). -/
def State.writeDynCal (s : State) (v : Word) : State :=
  if getBits v 0 1 = 1 ∧ !s.isMaster then s.calStart else s

/-- DYN_CAL_GO. -/
def execDynCalGo (v : Word) (t : Nat) (s : State) : Host.Outcome State Fault Refusal :=
  if s.domOn Dom.dynak then .next ((s.atT t).writeDynCal v) else .next s

/-- Send the next PROBE of a calibration on one port. -/
def State.calProbe (s : State) (p : DynPort) : State :=
  let x := s.dynPort p
  if s.calPort p && decide (x.calProbes < 64) then
    (s.setDynPort p { x with calProbes := x.calProbes + 1 }).dynSend p (.probe (BitVec.ofNat 8 x.calProbes))
  else s

/-- CAL_PROBE_TICK: each microsecond of a calibration a PROBE, 64 in all (R407). -/
def execCalProbeTick (s : State) : Host.Outcome State Fault Refusal :=
  if s.dynOn && s.dyn.calBusy then .next ((s.calProbe .up).calProbe .dn) else .next s

/-- d = mean(R − TURN) ÷ 2, rounded to the nearest unit, a half upwards (R407). -/
def calDelay (sum : Int) (echoes : Nat) : Nat := ((sum + echoes) / (2 * (echoes : Int))).toNat

/-- DYN_HOPDLY of a port. -/
def hopdly : DynPort → Fld
  | .up => F.DYN_HOPDLY_UP
  | .dn => F.DYN_HOPDLY_DN

/-- Close the measurement of one port: at least 48 echoes give its hop delay. -/
def State.calClose (s : State) (p : DynPort) : State :=
  let x := s.dynPort p
  if s.calPort p && decide (48 ≤ x.calEchoes) then
    (s.setDynPort p { x with calDone := true }).setFld (hopdly p) (calDelay x.calSum x.calEchoes)
  else s

/-- CAL_WINDOW_END: 100 µs after GO the calibration of the source port succeeds, or CAL_FAIL sets (R406, R407). -/
def execCalWindowEnd (s : State) : Host.Outcome State Fault Refusal :=
  if s.dyn.calBusy then
    let ok := decide (48 ≤ (s.dynPort s.dynSrc).calEchoes) && !s.dyn.tooLong
    let s := if s.dyn.tooLong then s else (s.calClose .up).calClose .dn
    let s : State := { s with dyn := { s.dyn with calBusy := false, calOk := ok } }
    .next (if ok then s else s.raise F.DYN_ERR_CAL_FAIL)
  else .next s

/-- TRACK_PROBE: a capturing follower with TRACK_EN sends one PROBE (R410). -/
def execTrackProbe (s : State) : Host.Outcome State Fault Refusal :=
  if s.dynOn && s.isFollower && s.capture && s.bit F.DYN_CFG_TRACK_EN then .next (s.dynSend s.dynSrc (.probe 0))
  else .next s

/-! ### Sending (R405, R406, R414) -/

/-- A signed value of the low 24 bits of a difference (R412). -/
def near24 (a b : BitVec 24) : Int := (a - b).toInt

/-- A LINE message sent turns off every proof gate; a master's notice runs from its sending downstream to the target (R152,
R154). -/
def State.lineSent (s : State) (p : DynPort) (m : DynMsg) (t : Nat) : State :=
  match m with
  | .line _ _ _ tgt _ =>
    let s := s.proofAbort t
    if s.isMaster && p == .dn then s.setNotice (near24 tgt ((s.groupTime t).truncate 24)).toNat else s
  | _ => s

/-- DYN_MESSAGE_SEND at an LCLK edge: the oldest message of the highest priority leaves; a SYNC TIME carries the group time
at which it leaves (R402, R405). -/
def execDynMessageSend (p : DynPort) (t : Nat) (s : State) : Host.Outcome State Fault Refusal :=
  let x := s.dynPort p
  if s.dynOn then
    match dynPick x.txq with
    | none => .next s
    | some (m, q) =>
      let m' := match m with
        | .time _ => DynMsg.time (s.groupTime t)
        | _ => m
      .next (((s.atT t).setDynPort p { x with txq := q, sent := some m' }).lineSent p m' t)
  else .next s

/-- SYNC_PERIOD: SYNC TIME, SYNC CFG and CMD ENUM on DYN_DN, and in a ring on DYN_UP (R406, R415, R416). -/
def execSyncPeriod (t : Nat) (s : State) : Host.Outcome State Fault Refusal :=
  if s.dynOn && !s.dyn.tooLong then
    let s := (s.atT t).dynOut (.time 0)
    let s := if s.dynMaster then s.dynOut (.cfg (BitVec.ofNat 16 (s.fld F.DYN_GWIN)) s.ing.frameNum)
      else s.dynOut (.cfg s.dyn.gwin s.dyn.frameNum)
    .next (s.dynOut (.enum s.dyn.hop))
  else .next s

/-- POS_PERIOD: a LOCKSTEP master whose position has changed sends a periodic POS (R414). -/
def execPosPeriod (s : State) : Host.Outcome State Fault Refusal :=
  let pos := s.trigPos
  if s.dynOn && s.isMaster && s.fld F.DYN_POS_PER != 0 && pos != s.dyn.lastPos then
    .next ({ s with dyn := { s.dyn with lastPos := pos } }.dynOut (.pos false pos))
  else .next s

/-- A write of DYN_CMD_TX_HI sends CMD USER on each trained port (R428). -/
def State.writeCmdTxHi (s : State) (v : Word) : State :=
  s.dynTrained (.user (BitVec.ofNat 48 (s.fld F.DYN_CMD_TX_LO + 2 ^ 32 * getBits v 0 16)))

/-- DYN_CMD_TX_HI_WRITE. -/
def execDynCmdTxHiWrite (v : Word) (s : State) : Host.Outcome State Fault Refusal :=
  if s.domOn Dom.dynak then .next (s.writeCmdTxHi v) else .next s

/-! ### Receiving -/

/-- A port takes messages: DYNAK runs and the port is trained (R400, R421). -/
def State.dynTakes (s : State) (p : DynPort) : Bool := s.dynOn && !s.tapActs && (s.dynPort p).trained

/-- Forward an accepted message onward in its direction of travel (R404). -/
def State.dynForward (s : State) (p : DynPort) (m : DynMsg) : State :=
  if s.dynForwards then s.dynSend (dynOther p) m else s

/-- The local LCLK edge of the group time nearest the head's own whose low 24 bits equal TGT (R412). -/
def State.lineTarget (s : State) (tgt : BitVec 24) (t : Nat) : Nat :=
  ((t : Int) + near24 tgt ((s.groupTime t).truncate 24)).toNat

/-- The smallest number above the last line number whose low 24 bits equal LNUM (R412). -/
def State.lineNumber (s : State) (lnum : BitVec 24) : Word :=
  let last := s.reg Reg.ENC_LINE_NUM
  let d := (lnum - last.truncate 24).toNat
  last + BitVec.ofNat 32 (if d = 0 then 2 ^ 24 else d)

/-- The number is not above the last accepted one, from either port of a ring (R422). -/
def State.lineDup (s : State) (lnum : BitVec 24) : Bool :=
  match s.dyn.lastNum with
  | some n => s.bit F.DYN_CFG_RING && decide (near24 lnum (n.truncate 24) ≤ 0)
  | none => false

/-- A follower's frame opens at a LINE with FOPEN, a frame still open ending before it, and the number joins (R415). Numbers
lost before it belong to the frame that was open. -/
def State.followerJoin (s : State) (num : Word) (lost : Nat) (fopen : Bool) : State :=
  let s := s.frameLose lost
  let s := if fopen then (s.frameClose false false).frameOpen s.dyn.frameNum num true else s
  if s.frameTaking then s.frameJoin else s

/-- Note an accepted LINE: its number, target, position default and the triggers' spacing (R153, R412, R424). -/
def State.noteLine (s : State) (num : Word) (target t : Nat) : State :=
  let s := s.setReg Reg.ENC_LINE_NUM num
  { s with
    lio := { s.lio with prevTrig := s.lio.lastTrig, lastTrig := some target }
    dyn := { s.dyn with prevTarget := s.dyn.lastTarget, lastTarget := some target, lastNum := some num
                        posFor := some num, prevLinePos := s.dyn.lastLinePos, lastLinePos := some s.dyn.lastPos
                        awaiting := s.dyn.awaiting.filter fun x => decide (t < x) } }

/-- An accepted LINE asserts EXPO at its target, or consumes its number (R413). -/
def State.followerExpose (s : State) (num : Word) (target t : Nat) (noexpo : Bool) : State :=
  let late := decide (target < t + 16) || decide (16 ≤ s.dyn.awaiting.length)
  if late then ((s.inc F.DYN_LATE_LINE).resolveLine num).noteWindow target false
  else if noexpo then (s.resolveLine num).noteWindow target false
  else
    let r := s.exposeLine num s.dyn.lastPos t target target false
    let s := r.2.noteWindow target !r.1
    if r.1 then s else { s with dyn := { s.dyn with awaiting := s.dyn.awaiting ++ [target] } }

/-- A capturing follower takes one LINE (R412, R413, R415). -/
def State.followerLine (s : State) (fopen flast noexpo : Bool) (tgt lnum : BitVec 24) (t : Nat) : State :=
  let target := s.lineTarget tgt t
  let num := s.lineNumber lnum
  let isFirst := s.dyn.lastNum.isNone
  if isFirst && decide (target < t + 16) then s
  else
    let lost := if isFirst then 0 else (num - s.reg Reg.ENC_LINE_NUM).toNat - 1
    let s := (s.add F.DYN_LOST_LINE lost).noteLine num target t
    let s := (s.setNotice (target - t)).followerJoin num lost fopen
    let s := s.followerExpose num target t noexpo
    let s := if flast then s.frameClose false false else s
    (s.eventAll 0).clearEncFlags

/-- A STOPPED follower resumes capture at a LINE with FOPEN that passes the late test (R425). -/
def State.followerResume (s : State) (fopen : Bool) (target t : Nat) : State :=
  if s.dyn.stopped && fopen && !s.dyn.lost && decide (t + 16 ≤ target) then
    { s with capture := true, dyn := { s.dyn with stopped := false } }
  else s

/-- DYN_MSG_LINE, checked at an LCLK edge: any LINE received turns off every proof gate (R154, R404, R411 to R415, R422,
R425). The discard of a number not above the last is taken as a rule of rings (log 59). -/
def execDynMsgLine (p : DynPort) (fopen flast noexpo : Bool) (tgt lnum : BitVec 24) (t : Nat) (s : State) :
    Host.Outcome State Fault Refusal :=
  if s.dynTakes p then
    let s := (s.atT t).proofAbort t
    if s.dynMaster && s.mode == .lockstep then .next (s.raiseIf (!s.bit F.DYN_CFG_RING) F.DYN_STAT_ALIEN)
    else if s.dyn.tooLong then .next s
    else if s.isFollower && s.lineDup lnum then .next (s.inc F.DYN_DUP)
    else
      let s := s.dynForward p (.line fopen flast noexpo tgt lnum)
      if p = s.dynSrc ∧ s.isFollower then
        let s := s.followerResume fopen (s.lineTarget tgt t) t
        .next (if s.capture && !s.dyn.freewheel then s.followerLine fopen flast noexpo tgt lnum t else s)
      else .next s
  else .next s

/-- Give a line the position of its POS (R412). -/
def State.posLine (s : State) (num : Word) (pos : Pos) : State :=
  let g (x : Trig) : Trig := if x.num = num then { x with pos := pos } else x
  { s with
    ing := { s.ing with pend := s.ing.pend.map g, filling := s.ing.filling.map fun f => { f with trig := g f.trig } }
    dyn := { s.dyn with posFor := none, lastLinePos := some pos } }

/-- DYN_MSG_POS (R404, R412, R414). -/
def execDynMsgPos (p : DynPort) (linepos : Bool) (pos : Pos) (s : State) : Host.Outcome State Fault Refusal :=
  if s.dynTakes p && !(s.mode == .lockstep && s.dynMaster) then
    let s := s.dynForward p (.pos linepos pos)
    if p = s.dynSrc then
      let s : State := { s with dyn := { s.dyn with lastPos := pos, mpos := if s.dyn.hop = 0 then s.dyn.mpos else pos } }
      match linepos, s.dyn.posFor with
      | true, some num => .next (s.posLine num pos)
      | _, _ => .next s
    else .next s
  else .next s

/-- DYN_MSG_GOR: a GOR of another head is recorded and forwarded away from its originator (R419, R420). -/
def execDynMsgGor (p : DynPort) (hop : BitVec 5) (lnum : BitVec 24) (s : State) : Host.Outcome State Fault Refusal :=
  if s.dynTakes p && hop != s.dyn.hop then
    let s := s.setFld F.DYN_GOR_MASK (s.fld F.DYN_GOR_MASK ||| 2 ^ hop.toNat)
    let s := (s.setFld F.DYN_GOR_LAST_LNUM lnum.toNat).setFld F.DYN_GOR_LAST_HOP hop.toNat
    if (s.dynPort (dynOther p)).trained then .next (s.dynForward p (.gor hop lnum)) else .next s
  else .next s

/-- DYN_MSG_SYNC_TIME: the start character arrived frac/64 LCLK after an edge. A follower takes the carried time plus the hop
delay; a difference of 1 LCLK or more sets TIME_ERR, and the change waits until the line outputs are quiet (R408). -/
def execDynMsgSyncTime (p : DynPort) (time : Pos) (t frac : Nat) (s : State) : Host.Outcome State Fault Refusal :=
  if s.dynTakes p && !s.dynMaster && p == s.dynSrc then
    let s := s.atT t
    let g64 : Int := (time.toNat : Int) * 64 + (s.fld (hopdly p) : Int) - (frac : Int)
    let own64 : Int := ((t : Int) + s.dyn.gOffset) * 64 + (s.dyn.fine.toNat : Int)
    let s := s.raiseIf (decide (64 ≤ (g64 - own64).natAbs)) F.DYN_STAT_TIME_ERR
    .next { s with dyn := { s.dyn with gPending := some (g64 / 64 - (t : Int))
                                       finePending := BitVec.ofInt 6 (g64 % 64) } }.groupSettle
  else .next s

/-- The frame in progress and its lines take the frame number of the most recent SYNC CFG (R415). -/
def State.followerFrame (s : State) (frameNum : Word) : State :=
  match s.ing.frames.getLast? with
  | some f =>
    if f.closed then { s with ing := { s.ing with frameNum := frameNum } }
    else
      let g (x : Trig) : Trig := if f.has x.num then { x with frame := frameNum } else x
      { s with ing := { s.ing with
          frameNum := frameNum
          frames := s.ing.frames.dropLast ++ [{ f with num := frameNum }]
          pend := s.ing.pend.map g, filling := s.ing.filling.map fun x => { x with trig := g x.trig } } }
  | none => { s with ing := { s.ing with frameNum := frameNum } }

/-- DYN_MSG_SYNC_CFG (R415, R416). -/
def execDynMsgSyncCfg (p : DynPort) (gwin : Half) (frameNum : Word) (s : State) : Host.Outcome State Fault Refusal :=
  if s.dynTakes p && !s.dynMaster && p == s.dynSrc then
    let s : State := { s with dyn := { s.dyn with gwin := gwin, frameNum := frameNum } }
    .next (if s.isFollower then s.followerFrame frameNum else s)
  else .next s

/-- DYN_MSG_PROBE is answered on its port with an ECHO that carries TURN (R407). -/
def execDynMsgProbe (p : DynPort) (idx : Byte) (turn : BitVec 24) (s : State) : Host.Outcome State Fault Refusal :=
  if s.dynTakes p then .next (s.dynSend p (.echo idx turn)) else .next s

/-- DYN_MSG_ECHO: one measurement of R − TURN, for a calibration, or to move d by one unit while tracking (R407, R410). -/
def execDynMsgEcho (p : DynPort) (_idx : Byte) (turn : BitVec 24) (r : Nat) (s : State) :
    Host.Outcome State Fault Refusal :=
  if s.dynTakes p then
    let x := s.dynPort p
    let diff := (r : Int) - (turn.toNat : Int)
    if s.dyn.calBusy then
      .next (s.setDynPort p { x with calSum := x.calSum + diff, calEchoes := x.calEchoes + 1 })
    else if s.isFollower && s.capture && s.bit F.DYN_CFG_TRACK_EN then
      let d := s.fld (hopdly p)
      let m := calDelay diff 1
      .next (s.setFld (hopdly p) (if d < m then d + 1 else if m < d then d - 1 else d))
    else .next s
  else .next s

/-- DYN_MSG_ENUM: a follower takes HOP from a downstream-travelling ENUM, which arrives on DYN_UP; HOP 32 is TOO_LONG
(R406). -/
def execDynMsgEnum (p : DynPort) (hop : BitVec 5) (s : State) : Host.Outcome State Fault Refusal :=
  if s.dynTakes p && p == .up && !s.isMaster then
    if hop = 31 then .next ({ s with dyn := { s.dyn with tooLong := true } }.raise F.DYN_ERR_TOO_LONG)
    else
      let s := s.holdMpos
      .next { s with dyn := { s.dyn with hop := hop + 1, tooLong := false } }
  else .next s

/-- DYN_MSG_USER is recorded and, by a follower, forwarded (R404, Table 16-5). -/
def execDynMsgUser (p : DynPort) (payload : Pos) (s : State) : Host.Outcome State Fault Refusal :=
  if s.dynTakes p then
    let s : State := { s with dyn := { s.dyn with cmdRx := payload } }
    .next ((s.raise F.DYN_STAT_CMD_EV).dynForward p (.user payload))
  else .next s

/-- DYN_MSG_DISCARD: eight received bytes with a character error or a bad CRC count in DYN_CRC_ERR, a reserved TYPE or SUB
in DYN_RSV_MSG; nothing is forwarded (R403). -/
def execDynMsgDiscard (p : DynPort) (msg : List Byte) (charErr : Bool) (s : State) :
    Host.Outcome State Fault Refusal :=
  if s.dynTakes p then
    if charErr then .next (s.inc F.DYN_CRC_ERR)
    else
      match DynMsg.parse msg with
      | .crcFail => .next (s.inc F.DYN_CRC_ERR)
      | .reserved => .next (s.inc F.DYN_RSV_MSG)
      | .ok _ => .next s
  else .next s

/-! ### Free-wheel (R41, R424, R425) -/

/-- A free-wheel number joins the open frame, which closes when it has ING_FRAME_LEN numbers, as read at its opening (R185,
R424). -/
def State.freewheelJoin (s : State) : State :=
  match s.ing.frames.getLast? with
  | some f =>
    if f.closed then s
    else if f.len ≤ f.issued then s.frameClose false false
    else
      let s := s.frameJoin
      if f.len ≤ f.issued + 1 then s.frameClose false false else s
  | none => s

/-- MODE.CAPTURE clears: triggers stop and a waiting N/M pair applies (R106). -/
def State.captureOff (s : State) : State :=
  let s := s.applyDiv
  { s with capture := false, lio := { s.lio with ltNext := none } }

/-- One free-wheel line: its number, extrapolated position, EXPO at its target, and the stop at FW_MAX. -/
def State.freewheelLine (s : State) (pos : Pos) (target : Nat) : State :=
  let num := s.reg Reg.ENC_LINE_NUM + 1
  let s := ((s.atT target).numberTrigger num target).inc F.DYN_XTRAP_CNT
  let r := s.freewheelJoin.exposeLine num pos target target target true
  let s := (r.2.noteWindow target !r.1).eventAll 0
  let s : State := { s with dyn := { s.dyn with fwLines := s.dyn.fwLines + 1 } }
  if s.fld F.DYN_FW_MAX ≤ s.dyn.fwLines then
    let s := (s.frameClose true false).captureOff
    { s with dyn := { s.dyn with stopped := true, freewheel := false } }
  else s

/-- FREEWHEEL_LINE: a line at last + k × P, P from the last two accepted LINEs (R424, R425). -/
def execFreewheelLine (s : State) : Host.Outcome State Fault Refusal :=
  if s.dyn.freewheel && s.capture then
    match s.dyn.prevTarget, s.dyn.lastTarget with
    | some a, some b =>
      let k := s.dyn.fwLines + 1
      let last := s.dyn.lastLinePos.getD s.dyn.lastPos
      let step := last - s.dyn.prevLinePos.getD last
      .next (s.freewheelLine (last + BitVec.ofNat 48 k * step) (b + k * (b - a)))
    | _, _ => .next s
  else .next s

/-- The ports lose training and the block forgets its messages: entry to S3 to S5, or DYNAK off (R617, R621). -/
def State.dynDown (s : State) : State :=
  let z (x : DynPortSt) : DynPortSt := { x with trained := false, txq := [], calDone := false }
  let s := (s.modDynPort .up z).modDynPort .dn z
  { s with dyn := { s.dyn with calBusy := false, calOk := false, calDone := false } }

end Sys2Proof.Machine
end

