-- ==== Sys2Proof/Machine/Fabric.lean ====
section
/-! DEFINITION. The logic of the Jig fabric (R483 to R487, R491 to R493, R500, R502, R515, R516): product terms, sums, macrocells,
routing and block memories, under the design that an image has loaded. Time goes by half periods of LCLK (log 68). -/

namespace Sys2Proof.Machine

/-! ### Routing (R487, R489, R502) -/

/-- A ball's PARKING bit: E0 to E4 (R521). -/
def State.parking (s : State) (j : Fin 40) : Bool :=
  match s.jig.park[j] with
  | some t => decide (s.now < t + 4)
  | none => false

/-- The half of a bay, or of a memory, is ON. -/
def State.fabLive (s : State) (b : Nat) : Bool := s.domOn (if b < 8 then Dom.jigw else Dom.jige)

/-- Output of macrocell i of bay b; that of a half that is off reads 0 (R502). -/
def State.cellOut (s : State) (b i : Nat) : Bool := s.fabLive b && decide (i < 32) && s.jig.outs.getLsbD (32 * b + i)

/-- Cluster line l of cluster c, which one of the cluster's bays drives. -/
def State.clusterLine (s : State) (c l : Nat) : Bool :=
  match (s.jig.design.cluster.getD c [])[l]? with
  | some (b, i) => b / 4 == c && s.cellOut b i
  | none => false

/-- Global line l, which one cluster drives from its lines. -/
def State.globalLine (s : State) (l : Nat) : Bool :=
  match s.jig.design.global[l]? with
  | some (c, k) => s.clusterLine c k
  | none => false

/-- A hard output; outside RUN it is idle (R500). -/
def State.hardOut (s : State) (h : HardOut) : Bool :=
  s.jig.st == .run &&
    (match s.jig.design.hard.lookup h with
      | some (.const v) => v
      | some (.cell b i) => s.cellOut b i
      | none => false)

/-- A number on hard outputs, lowest bit first. -/
def State.hardNum (s : State) (h : Nat → HardOut) : Nat → Nat
  | 0 => 0
  | n + 1 => s.hardNum h n + 2 ^ n * b2n (s.hardOut (h n))

/-- Port 2m or 2m + 1 of the design. -/
def State.memPort (s : State) (k : Nat) : MemPort := s.jig.design.ports.getD k {}

/-- Read data of a port, through its output register when it has one (R492). -/
def State.portData (s : State) (k : Fin 32) : Nat :=
  if s.fabLive (k / 2) then (if (s.memPort k).outReg then (s.jig.ports[k]).out else (s.jig.ports[k]).lat) else 0

/-- The level of a ball at the fabric's input: its own output, else the board's, which is free; IDLE while the ball is not the
fabric's or parks (R518, R521, log 5). -/
def State.jioIn (s : State) (j : Fin 40) : Bool :=
  if s.ballFixed j || s.parking j || s.tapActs then s.bit (F.JIG_PINj_IDLE j)
  else if s.hardOut (.jioEn j) then s.hardOut (.jioOut j)
  else Config.freeBit (s.jig.inK + j)

/-- Bit i of a number as a list of bits says whether byte i of a beat is enabled. -/
def JigRt.beBit (x : JigRt) (i : Nat) : Bool :=
  let w := x.words.headD 0
  decide (x.req.off ≤ w + i ∧ w + i < x.req.off + x.req.len)

/-- A hard input (Table 19-2). Lanes give what the sensor sends, which is free, and a lane with its bit of ING_LANES clear gives
nothing (R165). -/
def State.hardIn (s : State) (h : HardIn) : Bool :=
  let rt (f : JigRt → Bool) : Bool := (s.jig.rt.map f).getD false
  let rm (v : RingResp → Nat) (i : Nat) : Bool := bitOf ((s.jig.rmOut.map v).getD 0) i
  let on (j : Nat) : Bool := bitOf (s.fld F.ING_LANES) j
  match h with
  | .laneByte j i => on j && decide (i < 8) && (Config.freeWord (s.jig.inK + j)).getLsbD i
  | .laneValid j => on j && Config.freeBit (s.jig.inK + 64 + j)
  | .rtValid => s.jig.rt.isSome
  | .rtWrite => rt fun x => x.req.kind == .write
  | .rtAddr i => rt fun x => decide (2 ≤ i ∧ i < 28) && bitOf (x.words.headD 0) i
  | .rtBe i => rt fun x => x.beBit i
  | .rtWdata i => rt fun x =>
      let w := x.words.headD 0 + i / 8
      decide (i < 32) && decide (x.req.off ≤ w) && (x.req.data.getD (w - x.req.off) 0).getLsbD (i % 8)
  | .rmDone => s.jig.rmNew
  | .rmRdata i => rm (fun r => ofLeBytes r.data) i
  | .rmCode i => rm (fun r => respCode r.code) i
  | .line => s.lio.lastTrig == some s.now
  | .expo => s.lio.expoOn
  | .stb n => match arrayIdx? 8 n with | some k => (s.lio.stb[k]).gate.isSome | none => false
  | .jio j => match arrayIdx? 40 j with | some k => s.jioIn k | none => false
  | .memRead m b i => match arrayIdx? 32 (2 * m + b2n b) with | some k => bitOf (s.portData k) i | none => false

/-! ### Bays (R483 to R485) -/

/-- Bay b of the design. -/
def State.bay (s : State) (b : Nat) : Bay := s.jig.design.bays.getD b {}

/-- Input i of bay b (R487). -/
def State.bayIn (s : State) (b i : Nat) : Bool :=
  match (s.bay b).inputs[i]? with
  | some (.local k) => s.cellOut b k
  | some (.cluster l) => s.clusterLine (b / 4) l
  | some (.global l) => s.globalLine l
  | some (.hard h) => s.hardIn h
  | none => false

/-- Product term k of bay b: the AND of its literals, 0 with none (R483). -/
def State.term (s : State) (b k : Nat) : Bool :=
  match (s.bay b).terms.getD k [] with
  | [] => false
  | ls => ls.all fun p => s.bayIn b p.1 != p.2

/-- Macrocell i of bay b. -/
def State.mac (s : State) (b i : Nat) : Macrocell := (s.bay b).cells.getD i {}

/-- The sum of a macrocell before its XOR gate, with the sums of the chain before it (R484). -/
def State.cellSum (s : State) (b : Nat) : Nat → Bool
  | 0 => (s.mac b 0).slots.any fun k => s.term b k
  | i + 1 => ((s.mac b (i + 1)).slots.any fun k => s.term b k) || ((s.mac b (i + 1)).cascade && s.cellSum b i)

/-- The XOR result of a macrocell (R485). -/
def State.cellX (s : State) (b i : Nat) : Bool :=
  let m := s.mac b i
  s.cellSum b i != (match m.xorTerm with | some k => s.term b k | none => m.pol)

/-- The clock enable of a macrocell (R486). -/
def State.cellCe (s : State) (b i : Nat) : Bool := match (s.mac b i).ce with | some k => s.term b k | none => true

/-- What asynchronous control forces a register to: reset prevails over set, and INIT ignores both (R486, R500). -/
def State.cellForce (s : State) (b i : Nat) : Option Bool :=
  let on (o : Option (Fin 8)) : Bool := s.jig.st == .run && (match o with | some k => s.term b (88 + k) | none => false)
  if on (s.mac b i).reset then some false else if on (s.mac b i).set then some true else none

/-- Output of a tree: its source at ÷ 1, else high for ⌊d ÷ 2⌋ of d source periods (R507, R510). -/
def State.treeOut (s : State) (r : Fin 4) : Bool :=
  let x := s.jig.trees[r]
  x.run && (if x.div = 0 then x.src else decide (x.cnt < (x.div + 1) / 2))

/-- The clock of a macrocell at its register (R515). -/
def State.cellClock (s : State) (b i : Nat) : Bool :=
  let m := s.mac b i
  (match m.clock with | .tree r => s.treeOut r | .input k => s.bayIn b k) != m.inv

/-- Set one bit. -/
def putBit {w : Nat} (x : BitVec w) (k : Nat) (v : Bool) : BitVec w :=
  if v then x ||| BitVec.ofNat w (2 ^ k) else x &&& ~~~BitVec.ofNat w (2 ^ k)

/-- The macrocells of the design: bay and index. -/
def State.fabCells (s : State) : List (Nat × Nat) :=
  (s.jig.design.bays.take 16).zipIdx.flatMap fun p => (List.range (min 32 p.1.cells.length)).map fun i => (p.2, i)

/-! ### Settling -/

/-- One macrocell as the logic now stands: its register, which asynchronous control and an open latch change, and its output. -/
def State.cellNow (s : State) (b i : Nat) : Bool × Bool :=
  let m := s.mac b i
  let q := s.jig.cells.getLsbD (32 * b + i)
  let q' :=
    match s.cellForce b i with
    | some v => v
    | none => if m.mode = .latch ∧ s.jig.st = .run ∧ s.cellClock b i ∧ s.cellCe b i then s.cellX b i else q
  (q', if m.mode = .comb then s.cellX b i else q')

/-- Every macrocell follows the logic once. -/
def State.fabRound (s : State) : BitVec 512 × BitVec 512 :=
  s.fabCells.foldl (fun a c =>
    let r := s.cellNow c.1 c.2
    if s.fabLive c.1 then (putBit a.1 (32 * c.1 + c.2) r.1, putBit a.2 (32 * c.1 + c.2) r.2) else a) (s.jig.cells, s.jig.outs)

/-- The logic settles. A macrocell that a loop keeps changing has a free value (log 68). -/
def State.fabSettle (s : State) : Nat → State
  | 0 =>
    let r := s.fabRound
    let odd := (r.1 ^^^ s.jig.cells) ||| (r.2 ^^^ s.jig.outs)
    let any : BitVec 512 := s.fabCells.foldl (fun a c => putBit a (32 * c.1 + c.2) (Config.freeBit (s.freeCtr + 32 * c.1 + c.2))) 0
    { s with freeCtr := s.freeCtr + 512
             jig := { s.jig with cells := (r.1 &&& ~~~odd) ||| (any &&& odd), outs := (r.2 &&& ~~~odd) ||| (any &&& odd) } }
  | fuel + 1 =>
    let r := s.fabRound
    if r = (s.jig.cells, s.jig.outs) then s
    else State.fabSettle { s with jig := { s.jig with cells := r.1, outs := r.2 } } fuel

/-- Rounds in which a design without a loop settles: its macrocells in one chain. -/
def fabRounds : Nat := 514

/-! ### Edges (R485, R486, R515, R516) -/

/-- The clock of an element rose less than 4 ns, four half periods of LCLK, after it rose before: faster than 250 MHz. -/
def State.tooFast (s : State) (k h : Nat) : Bool := match s.jig.rises.lookup k with | some e => decide (h < e + 4) | none => false

/-- Note a rising edge of a routed clock. -/
def State.noteRise (s : State) (k h : Nat) : State := { s with jig := { s.jig with rises := Assoc.set s.jig.rises k h } }

/-- A macrocell's clock is routed. -/
def State.cellRouted (s : State) (b i : Nat) : Bool := match (s.mac b i).clock with | .input _ => true | .tree _ => false

/-- What a register would load at an edge. -/
def State.cellData (s : State) (b i : Nat) : Bool :=
  let q := s.jig.cells.getLsbD (32 * b + i)
  if !s.cellCe b i then q else if (s.mac b i).mode = .t then q != s.cellX b i else s.cellX b i

/-- What a register holds after a rising edge of its clock, and the next free value; `p` is the fabric just before. Asynchronous
control prevails. Under a routed clock, data that changed with it, or a clock too fast, leave a free value. -/
def State.cellEdge (s p : State) (ctr h b i : Nat) : Bool × Nat :=
  match s.cellForce b i with
  | some v => (v, ctr)
  | none =>
    if s.cellRouted b i && (s.tooFast (32 * b + i) h || p.cellData b i != s.cellData b i) then (Config.freeBit ctr, ctr + 1)
    else (p.cellData b i, ctr)

/-- A D or T register has a rising edge of its clock. -/
def State.cellRises (s : State) (b i : Nat) : Bool :=
  ((s.mac b i).mode == .d || (s.mac b i).mode == .t) && s.fabLive b && s.cellClock b i && !s.jig.cellClk.getLsbD (32 * b + i)

/-- Every register whose clock has risen takes its data, all at once. -/
def State.cellEdges (s p : State) (h : Nat) : State :=
  s.fabCells.foldl (fun t c =>
    let k := 32 * c.1 + c.2
    let t : State := { t with jig := { t.jig with cellClk := putBit t.jig.cellClk k (s.cellClock c.1 c.2) } }
    if s.cellRises c.1 c.2 then
      let r := s.cellEdge p t.freeCtr h c.1 c.2
      let t : State := { t with freeCtr := r.2, jig := { t.jig with cells := putBit t.jig.cells k r.1 } }
      if s.cellRouted c.1 c.2 then t.noteRise k h else t
    else t) s

/-! ### Block memories (R491 to R493) -/

/-- The word of w bits at a bit of the memories. -/
def memWord (m : List (Nat × Byte)) (lo w : Nat) : Nat :=
  ofLeBytes (SMap.getBytes zeroByte m (lo / 8) ((w + 7) / 8)) / 2 ^ (lo % 8) % 2 ^ w

/-- Store that word. -/
def memPutWord (m : List (Nat × Byte)) (lo w v : Nat) : List (Nat × Byte) :=
  let n := (w + 7) / 8
  let old := ofLeBytes (SMap.getBytes zeroByte m (lo / 8) n)
  let new := old - old / 2 ^ (lo % 8) % 2 ^ w * 2 ^ (lo % 8) + v % 2 ^ w * 2 ^ (lo % 8)
  SMap.setBytes zeroByte m (lo / 8) (leBytes new n)

/-- What a port does at an edge of its clock: its first bit, its width, and what it writes. -/
structure PortOp where
  lo : Nat
  w : Nat
  write : Option Nat
  deriving DecidableEq, Repr

/-- The port's operation from the hard outputs; a lane byte is the write data, with LV in the write enable (R494). -/
def State.portOp (s : State) (k : Nat) : Option PortOp :=
  let c := s.memPort k
  let m := k / 2
  let b := k % 2 == 1
  let w := 2 ^ c.aspect.val
  let n := 14 - c.aspect.val
  if !s.hardOut (.memEn m b) then none
  else
    let data := if c.lane then (List.range 8).foldl (fun a i => a + 2 ^ i * b2n (s.hardIn (.laneByte m i))) 0
      else s.hardNum (.memData m b) w
    let we := s.hardOut (.memWe m b) && (!c.lane || s.hardIn (.laneValid m))
    some { lo := m * 16384 + s.hardNum (.memAddr m b) n * w, w := w, write := if we then some data else none }

/-- The clock of a port. -/
def State.portClock (s : State) (k : Nat) : Bool :=
  match (s.memPort k).clock with
  | .tree r => s.treeOut r
  | .global l => s.globalLine l

/-- Two ports have a common clock: the same one, or trees of LCLK with one divider, which are in phase (R512). -/
def State.commonClock (s : State) (j k : Nat) : Bool :=
  match (s.memPort j).clock, (s.memPort k).clock with
  | .tree a, .tree b =>
    a == b || (s.fld (F.JIG_CLKr_SRC a) == 0 && s.fld (F.JIG_CLKr_SRC b) == 0 && (s.jig.trees[a]).div == (s.jig.trees[b]).div)
  | .global a, .global b => a == b
  | _, _ => false

/-- Each bit is one value's or the other's, which is free (R493, log 5). -/
def mixBits (k x y : Nat) : Nat := let m := (Config.freeWord k).toNat; (x &&& m) ||| (y &&& (0xFFFFFFFF ^^^ m))

/-- Apply a port's write. -/
def PortOp.apply (o : PortOp) (m : List (Nat × Byte)) : List (Nat × Byte) :=
  match o.write with
  | some v => memPutWord m o.lo o.w v
  | none => m

/-- The edge of one memory's ports: what each does, when its clock has risen. Port A's data are stored on a common clock, and
each bit written twice is free on unrelated ones; a read that meets a write gives the old value on a common clock (R493). -/
def State.memEdge (s : State) (m : Nat) (a b : Option PortOp) : State :=
  let both := a.isSome && b.isSome
  let free := both && !s.commonClock (2 * m) (2 * m + 1)
  let old := s.jig.mem
  let app (o : Option PortOp) (x : List (Nat × Byte)) : List (Nat × Byte) := match o with | some p => p.apply x | none => x
  let ab := app a (app b old)
  let new := match a with
    | some p => if free then memPutWord ab p.lo p.w (mixBits s.freeCtr (memWord ab p.lo p.w) (memWord (app b (app a old)) p.lo p.w)) else ab
    | none => ab
  let data (k : Nat) (o other : Option PortOp) (n : Nat) : Option Nat :=
    o.map fun p =>
      match p.write with
      | some v => if (s.memPort k).writeFirst then v % 2 ^ p.w else memWord old p.lo p.w
      | none => if free then mixBits n (memWord old p.lo p.w) (memWord (app other old) p.lo p.w) else memWord old p.lo p.w
  let put (ps : Vector JigPort 32) (k : Nat) (o : Option Nat) : Vector JigPort 32 :=
    match arrayIdx? 32 k, o with
    | some i, some v => ps.set i { lat := v, out := (ps[i]).lat }
    | _, _ => ps
  let ports := put (put s.jig.ports (2 * m) (data (2 * m) a b (s.freeCtr + 1))) (2 * m + 1) (data (2 * m + 1) b a (s.freeCtr + 2))
  let spans := match a with | some p => (if p.write.isSome then [(p.lo, p.w)] else []) | none => []
  let e : JigEdge := match s.jig.aEdge with
    | some e => if e.t = s.now then { e with spans := spans ++ e.spans } else { t := s.now, spans := spans, mem := old }
    | none => { t := s.now, spans := spans, mem := old }
  { s with freeCtr := s.freeCtr + 3, jig := { s.jig with mem := new, ports := ports, aEdge := some e } }

/-- A routed clock too fast for a port leaves what the port reads free (R516). -/
def State.portFree (s : State) (k : Nat) : State :=
  match arrayIdx? 32 k with
  | some i => { s with freeCtr := s.freeCtr + 1
                       jig := { s.jig with ports := s.jig.ports.set i { s.jig.ports[i] with lat := (Config.freeWord s.freeCtr).toNat } } }
  | none => s

/-- The memories whose ports' clocks have risen; `p` is the fabric just before. A port that is in RING mode takes no edge. -/
def State.memEdges (s p : State) (h : Nat) : State :=
  let rises (k : Nat) : Bool :=
    s.fabLive (k / 2) && !(s.memPort k).ring && decide (k < s.jig.design.ports.length) && s.portClock k && !s.jig.portClk.getLsbD k
  let op (k : Nat) : Option PortOp := if rises k then p.portOp k else none
  let routed (k : Nat) : Bool := match (s.memPort k).clock with | .global _ => true | .tree _ => false
  let one (t : State) (m : Nat) : State :=
    let a := op (2 * m)
    let b := op (2 * m + 1)
    if a.isNone && b.isNone then t else t.memEdge m a b
  let s1 := (List.range 16).foldl one s
  let s2 := (List.range 32).foldl (fun t k =>
    if rises k && routed k then (if s.tooFast (512 + k) h then t.portFree k else t).noteRise (512 + k) h else t) s1
  { s2 with jig := { s2.jig with portClk := (List.range 32).foldl (fun x k => putBit x k (s.portClock k)) s2.jig.portClk } }

/-! ### A half period -/

/-- Some clock of an element has changed since its last edge. -/
def State.clocksMoved (s : State) : Bool :=
  (s.fabCells.any fun c => s.cellClock c.1 c.2 != s.jig.cellClk.getLsbD (32 * c.1 + c.2)) ||
    (List.range (min 32 s.jig.design.ports.length)).any fun k => s.portClock k != s.jig.portClk.getLsbD k

/-- Elements take their edges, and the logic settles, until no routed clock moves; `p` is the fabric just before. -/
def State.fabRipple (p s : State) (h : Nat) : Nat → State
  | 0 => s
  | fuel + 1 =>
    let t := ((s.cellEdges p h).memEdges p h).fabSettle fabRounds
    if t.clocksMoved then State.fabRipple s t h fuel else t

/-- The source of a tree at half period h of LCLK (Table 20-1): PCLK is LCLK ÷ 4, and a ball or a lane's clock is what the board
and the sensor give. -/
def State.treeSource (s : State) (r : Fin 4) (h : Nat) : Bool :=
  match s.fld (F.JIG_CLKr_SRC r) with
  | 0 => h % 2 == 0
  | 1 => decide (h % 8 < 4)
  | 2 => s.jioIn (r.castLE (by decide))
  | _ => Config.freeBit (s.jig.inK + 80 + 2 * r + h % 2)

/-- A tree at a half period: the divider counts rising edges of its source, takes a new DIV at the end of an output period (R508),
and a tree with EN clear stops at a falling edge of its output (R511). -/
def State.treeTick (s : State) (h : Nat) (r : Fin 4) : State :=
  let x := s.jig.trees[r]
  if !x.run then s
  else
    let lv := s.treeSource r h
    let rise := lv && !x.src
    let wrap := x.cnt == x.div
    let y : JigTree := { x with src := lv, cnt := if rise then (if wrap then 0 else x.cnt + 1) else x.cnt
                                div := if rise && wrap then s.fld (F.JIG_CLKr_DIV r) else x.div }
    let s' : State := { s with jig := { s.jig with trees := s.jig.trees.set r y } }
    if s.treeOut r && !s'.treeOut r && !s.bit (F.JIG_CLKr_EN r) then
      { s with jig := { s.jig with trees := s.jig.trees.set r { y with run := false } } }
    else s'

/-- The trees at a half period, and everything they clock. -/
def State.fabHalf (p s : State) (h : Nat) : State := State.fabRipple p ((List.finRange 4).foldl (fun s r => s.treeTick h r) s) h 16

/-! ### Memories on the ring (R491, R493, R496) -/

/-- Port B of a memory is in RING mode. -/
def State.ringMode (s : State) (m : Nat) : Bool := (s.memPort (2 * m + 1)).ring

/-- The bits of a byte that port A has written on the LCLK edge of this access, and the byte before. -/
def State.portAMeets (s : State) (a : Nat) : Nat × Nat :=
  match s.jig.aEdge with
  | some e =>
    if e.t = s.now then
      ((List.range 8).foldl (fun x i => x + 2 ^ i * b2n (e.spans.any fun p => decide (p.1 ≤ 8 * a + i ∧ 8 * a + i < p.1 + p.2))) 0,
        (SMap.get zeroByte e.mem a).toNat)
    else (0, 0)
  | none => (0, 0)

/-- A byte that the ring reads: a bit that port A writes then is old or new. -/
def State.jigMemByte (s : State) (a : Nat) : Byte :=
  let v := (SMap.get zeroByte s.jig.mem a).toNat
  let m := s.portAMeets a
  BitVec.ofNat 8 ((v &&& (255 ^^^ m.1)) ||| (mixBits (s.freeCtr + a) v m.2 &&& m.1))

/-- A read of the memory window. -/
def State.jigMemRead (s : State) (off len : Nat) : Option (List Byte) :=
  if s.jig.st == .run && s.ringMode (off / 0x800) then some ((List.range len).map fun i => s.jigMemByte (off + i)) else none

/-- Bytes that the ring writes: a bit that port A writes then is either's. -/
def State.jigMemPut (s : State) (off : Nat) : List Byte → State
  | [] => s
  | b :: bs =>
    let v := (SMap.get zeroByte s.jig.mem off).toNat
    let m := s.portAMeets off
    let x := (b.toNat &&& (255 ^^^ m.1)) ||| (mixBits (s.freeCtr + off) b.toNat v &&& m.1)
    State.jigMemPut { s with jig := { s.jig with mem := SMap.set zeroByte s.jig.mem off (BitVec.ofNat 8 x) } } (off + 1) bs

/-- A write of the memory window. -/
def State.jigMemWrite (s : State) (off : Nat) (bs : List Byte) : Option State :=
  if s.jig.st == .run && s.ringMode (off / 0x800) then some (s.jigMemPut off bs) else none

end Sys2Proof.Machine
end

