-- ==== Sys2Proof/Machine/Tasks.lean ====
section
/-! DEFINITION. Joist's tasks, events and pegs (Chapter 13): acquiring, mending, releasing and breaking pegs, starting and
aborting tasks, timers, and the scheduling decision. The instructions are in Machine/Joist.lean. -/

namespace Sys2Proof.Machine

/-! ### Pegs (R343 to R349) -/

/-- The OWNER codes of R352. -/
def pegOwnerCode : Option PegOwner → Nat
  | some (.task n) => n
  | some .host => 8
  | some .jig => 9
  | some .supv => 10
  | none => 0xF

/-- The STATE codes of R352. -/
def pegStCode : PegSt → Nat
  | .free => 0 | .held => 1 | .broken => 2

/-- SEQ_PEGp as it reads. -/
def Peg.view (p : Peg) : Nat := pegStCode p.st + 16 * pegOwnerCode p.owner + 65536 * p.epoch.toNat

/-- Change one peg. -/
def State.setPeg (s : State) (p : Fin 32) (x : Peg) : State := { s with pegs := s.pegs.set p x }

/-- A peg has become acquirable: PEG sets in the tasks that watch it (Table 13-1). -/
def State.pegEvent (s : State) (p : Fin 32) : State :=
  s.setEventsIn (fun n => bitOf (s.reg (Reg.SEQ_Tn_PEGWATCH n)).toNat p) 6

/-- An acquire: the result word and the state after (R345, Table 13-2). -/
def State.pegAcq (s : State) (p : Fin 32) (o : PegOwner) : Nat × State :=
  let x := s.pegs[p]
  match x.owner with
  | none =>
    let broken := x.st == .broken
    (1 + 2 * b2n broken + 256 * x.epoch.toNat,
      s.setPeg p { x with st := if broken then .broken else .held, owner := some o })
  | some o' => (0, s.raiseIf (o' == o) F.SEQ_PEG_ERR_SELF)

/-- A mend: 1 when the owner of a BROKEN peg asks (R346). -/
def State.pegMend (s : State) (p : Fin 32) (o : PegOwner) : Nat × State :=
  let x := s.pegs[p]
  if x.st = .broken ∧ x.owner = some o then (1, s.setPeg p { x with st := .held }) else (0, s)

/-- A release (R347). -/
def State.pegRel (s : State) (p : Fin 32) (o : PegOwner) : State :=
  let x := s.pegs[p]
  if x.owner = some o then
    if x.st = .broken then
      ((s.setPeg p { x with owner := none }).raise F.SEQ_PEG_ERR_REL_UNMENDED).pegEvent p
    else (s.setPeg p { x with st := .free, owner := none }).pegEvent p
  else
    let s := if s.bit F.SEQ_PEG_ERR_NOT_HOLDER then s
      else (s.setFld F.SEQ_PEG_ERR_PEG p).setFld F.SEQ_PEG_ERR_REQ (pegOwnerCode (some o))
    s.raise F.SEQ_PEG_ERR_NOT_HOLDER

/-- The pegs that an owner holds, or owns broken. -/
def State.pegsOf (s : State) (o : PegOwner) : List (Fin 32) := (List.finRange 32).filter fun p => s.pegs[p].owner == some o

/-- One peg breaks (R348). -/
def State.pegBreak (s : State) (p : Fin 32) : State :=
  let x := s.pegs[p]
  ((s.setPeg p { st := .broken, owner := none, epoch := x.epoch + 1 }).inc F.SEQ_PEG_BREAK_CNT).pegEvent p

/-- A holder reset of one owner, with its PEG record (R348, R694). -/
def State.holderReset (s : State) (o : PegOwner) (cause abortCause : Nat) : State :=
  let ps := s.pegsOf o
  match ps with
  | [] => s
  | p :: _ =>
    let s := ps.foldl (fun s p => s.pegBreak p) s
    let mask := ps.foldl (fun m p => m + 2 ^ p.val) 0
    s.pushLog 0x0E (leBytes mask 4 ++ [BitVec.ofNat 8 (pegOwnerCode (some o)), BitVec.ofNat 8 cause] ++
      leBytes s.pegs[p].epoch.toNat 2 ++ [BitVec.ofNat 8 abortCause])

/-- Every peg FREE, with no owner and EPOCH 0; SEQ_PEG_BREAK_CNT clears (R349). A peg that had an owner becomes acquirable
(Table 13-1). -/
def State.pegsClear (s : State) : State :=
  let owned := (List.finRange 32).filter fun p => (s.pegs[p]).owner.isSome
  let s := State.setFld { s with pegs := Vector.replicate 32 {} } F.SEQ_PEG_BREAK_CNT 0
  owned.foldl (fun s p => s.pegEvent p) s

/-- Pegs in a state (SEQ_PEG_BAL). -/
def State.pegCount (s : State) (x : PegSt) : Nat := (List.finRange 32).countP fun p => s.pegs[p].st == x

/-- The party of a request as an owner. -/
def pegPartyOwner : PegParty → PegOwner
  | .host => .host | .jig => .jig | .supv => .supv

/-- The result register of a party. -/
def pegResReg : PegParty → Nat
  | .host => Reg.SEQ_PEG_RES_HOST | .jig => Reg.SEQ_PEG_RES_JIG | .supv => Reg.SEQ_PEG_RES_SUPV

/-- The result of a request is written to the party's own register, with PEG and OP (R344, R352). -/
def State.pegResult (s : State) (q : PegParty) (p : Fin 32) (op res : Nat) : State :=
  s.setReg (pegResReg q) (BitVec.ofNat 32 (res + p.val * 2 ^ 24 + op * 2 ^ 29))

/-- A request of a party on a peg: OP 1 ACQ, 2 REL, 3 MEND. What a release shows in GOT, BROKEN and EPOCH of the result
register is a free value: the manual states none (log 25). -/
def State.pegRequest (s : State) (q : PegParty) (op : Nat) (p : Fin 32) : State :=
  let o := pegPartyOwner q
  if op = 1 then let r := s.pegAcq p o; r.2.pegResult q p 1 r.1
  else if op = 3 then let r := s.pegMend p o; r.2.pegResult q p 3 r.1
  else
    let r := (s.pegRel p o).drawWord
    r.2.pegResult q p 2 (r.1 &&& 0x00FFFF03).toNat

/-- A party may make requests: SEQ is ON, and HOST has a session (R344). -/
def State.pegMayAsk (s : State) (q : PegParty) : Bool := s.domOn Dom.seq && (q != .host || s.cp.sess.active)

/-- PEG_REQ_ACQ. -/
def execPegReqAcq (q : PegParty) (p : Fin 32) (s : State) : Host.Outcome State Fault Refusal :=
  if s.pegMayAsk q then .next (s.pegRequest q 1 p) else .next s

/-- PEG_REQ_REL. With `abandon` the supervisor gives up the operation for which it holds pegs instead: all of them break
(R348, R694, log 65). -/
def execPegReqRel (q : PegParty) (p : Fin 32) (s : State) (abandon : Bool := false) : Host.Outcome State Fault Refusal :=
  if s.pegMayAsk q then
    .next (if abandon && q == .supv then s.holderReset .supv 5 0 else s.pegRequest q 2 p)
  else .next s

/-- PEG_REQ_MEND. -/
def execPegReqMend (q : PegParty) (p : Fin 32) (s : State) : Host.Outcome State Fault Refusal :=
  if s.pegMayAsk q then .next (s.pegRequest q 3 p) else .next s

/-! ### Starting, ending and aborting (R329, R330, R341, R342) -/

/-- Change one task context. -/
def State.setTask (s : State) (n : Fin 8) (x : Task) : State := { s with tasks := s.tasks.set n x }

/-- Set one task state. -/
def State.setTaskSt (s : State) (n : Fin 8) (x : TaskSt) : State := { s with taskSt := s.taskSt.set n x }

/-- START of a task (R329). The deliveries of an earlier run that was not aborted still count (R308, R311). -/
def State.taskStart (s : State) (n : Fin 8) : State :=
  if s.taskSt[n] = .off then
    let t := s.tasks[n]
    let s := s.setTask n { t with pc := BitVec.ofNat 18 (s.fld (F.SEQ_Tn_ENTRY n)), gen := t.gen + 1, pend := [], rep := none
                                  wait := .none, woken := false, steps := 0 }
    ((s.setFld (F.SEQ_Tn_EV n) 0).setFld (F.SEQ_Tn_REP n) 0).setTaskSt n .ready
  else s.raise F.SEQ_SCHED_ERR_START_BUSY

/-- The task leaves the scheduler. Accesses and macro-ops of an ended task still deliver to it (R232, R308, R330). -/
def State.taskOff (s : State) (n : Fin 8) : State :=
  (s.setTask n { s.tasks[n] with rep := none, wait := .none, woken := false, steps := 0, abortDue := false }).setTaskSt n .off

/-- An abort with a cause: 1 REQUEST, 2 FAULT, 3 PEG_HELD (R341, R342). A task that is OFF is not aborted. -/
def State.taskAbort (s : State) (n : Fin 8) (cause : Nat) : State :=
  if s.taskSt[n] = .off then s
  else
    let s := (s.taskOff n).trsAbortTask n
    let t := s.tasks[n]
    let s := s.setTask n { t with gen := t.gen + 1, live := t.gen + 1, pend := [], inflight := 0, timerOn := false }
    let s := (s.setFld (F.SEQ_Tn_STAT_ABORT_CAUSE n) cause).raise (F.SEQ_Tn_STAT_ABORTED n)
    let s := ((s.setFld (F.SEQ_Tn_EV n) 0).setFld (F.SEQ_Tn_WMASK n) 0).setReg (Reg.SEQ_Tn_TIMER n) 0
    (s.setFld (F.SEQ_Tn_REP n) 0).holderReset (.task n) 0 cause

/-- An ABORT request: a task in the middle of an instruction is aborted at its next preemption point, any other at once
(R341). -/
def State.taskAbortAsk (s : State) (n : Fin 8) : State :=
  if (s.tasks[n]).snap.isSome then s.setTask n { s.tasks[n] with abortDue := true } else s.taskAbort n 1

/-- END of a task: with a peg held it is an abort (R330). -/
def State.taskEnd (s : State) (n : Fin 8) : State :=
  if (s.pegsOf (.task n)).isEmpty then s.taskOff n else s.taskAbort n 3

/-- A write of SEQ_Tn_CTRL: ABORT acts before START (log 26). -/
def State.writeTaskCtrl (s : State) (n : Fin 8) (v : Word) : State :=
  let s := if bitOf v.toNat 1 then s.taskAbortAsk n else s
  if bitOf v.toNat 0 then s.taskStart n else s

/-- TASK_START. -/
def execTaskStart (n : Fin 8) (s : State) : Host.Outcome State Fault Refusal :=
  if s.domOn Dom.seq then .next (s.taskStart n) else .next s

/-- TASK_ABORT. -/
def execTaskAbort (n : Fin 8) (s : State) : Host.Outcome State Fault Refusal :=
  if s.domOn Dom.seq then .next (s.taskAbort n 1) else .next s

/-- EV_POST: SOFT sets in the tasks of a mask (Table 13-1). -/
def State.writeEvPost (s : State) (v : Word) : State := s.setEventsIn (fun n => bitOf v.toNat n) 9

/-- EV_POST. -/
def execEvPost (v : Word) (s : State) : Host.Outcome State Fault Refusal :=
  if s.domOn Dom.seq then .next (s.writeEvPost v) else .next s

/-- A write of SEQ_Tn_PRI, used from the next scheduling decision (R340). -/
def State.writeTaskPri (s : State) (n : Fin 8) (v : Word) : State := s.setFld (F.SEQ_Tn_PRI n) (getBits v 0 3)

/-- TASK_PRI_WRITE. -/
def execTaskPriWrite (n : Fin 8) (v : Word) (s : State) : Host.Outcome State Fault Refusal :=
  if s.domOn Dom.seq then .next (s.writeTaskPri n v) else .next s

/-! ### Timers (R334) -/

/-- A write of SEQ_Tn_TIMER starts, replaces or stops the countdown. -/
def State.writeTaskTimer (s : State) (n : Fin 8) (v : Word) : State :=
  (s.setReg (Reg.SEQ_Tn_TIMER n) (v &&& 0x80FFFFFF)).setTask n { s.tasks[n] with timerOn := getBits v 0 24 != 0 }

/-- TASK_TIMER_WRITE. -/
def execTaskTimerWrite (n : Fin 8) (v : Word) (s : State) : Host.Outcome State Fault Refusal :=
  if s.domOn Dom.seq then .next (s.writeTaskTimer n v) else .next s

/-- TASK_TIMER_EXPIRY: the countdown ends and TIMER sets in the owner; PERIODIC restarts it. -/
def execTaskTimerExpiry (n : Fin 8) (s : State) : Host.Outcome State Fault Refusal :=
  if s.domOn Dom.seq && s.tasks[n].timerOn then
    let s := s.setTask n { s.tasks[n] with timerOn := s.bit (F.SEQ_Tn_TIMER_PERIODIC n) }
    .next (s.setEvent n 7)
  else .next s

/-! ### Scheduling (R335 to R338) -/

/-- Priority number of a task. -/
def State.taskPri (s : State) (n : Fin 8) : Nat := s.fld (F.SEQ_Tn_PRI n)

/-- The RUN task. -/
def State.runTask (s : State) : Option (Fin 8) := (List.finRange 8).find? fun n => s.taskSt[n] == .run

/-- Position of a task in the round-robin order of its priority: tasks after the one that most recently ran come first. -/
def State.taskTurn (s : State) (n : Fin 8) : Nat :=
  match s.ran.find? fun m => s.taskPri m == s.taskPri n with
  | some m => (n.val + 7 - m.val) % 8
  | none => n.val

/-- The task that a scheduling decision selects (R335). -/
def State.bestReady (s : State) : Option (Fin 8) :=
  (List.finRange 8).foldl (fun acc n =>
    if s.taskSt[n] == .ready then
      match acc with
      | none => some n
      | some m =>
        if s.taskPri n < s.taskPri m ∨ (s.taskPri n = s.taskPri m ∧ s.taskTurn n < s.taskTurn m) then some n else some m
    else acc) none

/-- The RUN task has run QUANTUM × 16 SCLK since it was switched in; 0 disables time slicing (R336, R350). -/
def State.quantumOver (s : State) : Bool :=
  s.fld F.SEQ_SCHED_QUANTUM != 0 && decide (s.fld F.SEQ_SCHED_QUANTUM ≤ s.ranUnits)

/-- The RUN task is to be preempted (R336). -/
def State.preemptDue (s : State) : Bool :=
  match s.runTask, s.bestReady with
  | some r, some b => decide (s.taskPri b < s.taskPri r) || (s.quantumOver && s.taskPri b == s.taskPri r)
  | _, _ => false

/-- QUANTUM_EXPIRY: the RUN task has run for QUANTUM × 16 SCLK since it was switched in (R336). -/
def execQuantumExpiry (s : State) : Host.Outcome State Fault Refusal :=
  if s.domOn Dom.seq && s.fld F.SEQ_SCHED_QUANTUM != 0 && s.runTask.isSome then
    .next { s with ranUnits := s.fld F.SEQ_SCHED_QUANTUM }
  else .next s

/-- A task is switched in; the switch is counted when it differs from the last task to issue or resumes from a WAIT
instruction (R337). -/
def State.switchIn (s : State) (n : Fin 8) : State :=
  let t := s.tasks[n]
  let s0 := (s.setTask n { t with wait := .none, woken := t.woken || t.wait == .event }).setTaskSt n .run
  let s1 : State := { s0 with ran := n :: s.ran.filter (· != n), ranUnits := 0 }
  if n ≠ s.cur ∨ t.wait = .event ∨ t.wait = .yield then s1.inc F.SEQ_SWITCH_CNT else s1

/-- The context switch: a task that waits inside an instruction gives way to a READY task, one that is preempted becomes
READY, and with no task RUN the selected task comes in. `took` is the time from the preemption request in SCLK. -/
def State.contextSwitch (s : State) (took : Nat) : State :=
  match s.bestReady with
  | none => s
  | some b =>
    match s.runTask with
    | none => s.switchIn b
    | some r =>
      if s.tasks[r].wait ≠ .none then (s.setTaskSt r .wait).switchIn b
      else if s.preemptDue then
        let s := if s.fld F.SEQ_PREEMPT_MAX < min took 255 then s.setFld F.SEQ_PREEMPT_MAX (min took 255) else s
        (s.setTaskSt r .ready).switchIn b
      else s

end Sys2Proof.Machine
end

