-- ==== Sys2Proof/Machine/Jig.lean ====
section
/-! DEFINITION. The Jig fabric (Chapters 19 and 20): the configuration image and its checks, loading and release, the ring
target and ring master ports, the lane controls, the regional clock trees, and the pin multiplexer. The logic itself is in
Machine/Fabric.lean, and what it does at each LCLK edge in Machine/Tick.lean. -/

namespace Sys2Proof.Machine

/-! ### Images (R498, R499, R526) -/

/-- Number in the bytes of an image. -/
def imgNum (img : List Byte) (off n : Nat) : Nat := ofLeBytes ((img.drop off).take n)

/-- Length of a section's body and whether its INDEX exists (Table 19-4). -/
def sectLen (typ idx : Nat) : Option Nat :=
  if typ = 1 ∧ idx < 16 then some 1536
  else if typ = 2 ∧ idx < 5 then some 2048
  else if typ = 3 ∧ idx < 16 then some 2048
  else if typ = 4 ∧ idx = 0 then some 64
  else if typ = 5 ∧ idx = 0 then some 32
  else if typ = 6 ∧ idx = 0 then some 64
  else if typ = 7 ∧ idx = 0 then some 160
  else none

/-- A shared ball (Table 20-2). -/
def sharedBall (j : Nat) : Bool := decide (24 ≤ j ∧ j ≤ 34)

/-- A PIN body names no fixed function on a ball that is not shared (R526). -/
def pinBodyOk (body : List Byte) : Bool :=
  (List.range 40).all fun j => sharedBall j || imgNum body (4 * j) 1 % 2 == 0

/-- The sections of an image: TYPE × 256 + INDEX with the body, or the offset of the first bad one. -/
def sections (img : List Byte) (stop : Nat) : Nat → Nat → List (Nat × List Byte) → Except Nat (Nat × List (Nat × List Byte))
  | 0, off, acc => .ok (off, acc.reverse)
  | n + 1, off, acc =>
    let typ := imgNum img off 1
    let idx := imgNum img (off + 1) 1
    let len := imgNum img (off + 4) 4
    let key := typ * 256 + idx
    let body := (img.drop (off + 8)).take len
    if stop < off + 8 + len ∨ sectLen typ idx ≠ some len ∨ acc.any (fun p => p.1 == key) ∨ (typ = 7 ∧ !pinBodyOk body) then
      .error off
    else sections img stop n (off + 8 + len) ((key, body) :: acc)

/-- The sections that an image must hold (Table 19-4). -/
def requiredSections (useW useE : Bool) : List Nat :=
  let west := if useW then (List.range 8).map (256 + ·) ++ [512, 513] else []
  let east := if useE then (List.range 8).map (264 + ·) ++ [514, 515] else []
  west ++ east ++ [516, 0x400, 0x500, 0x600, 0x700]

/-- The checks of R499, in order: CODE and OFFSET of JIG_LOAD_STAT, with the sections when all pass. `img` holds the bytes
from the image address to the end of its source, at most 1 MiB. -/
def jigCheck (img : List Byte) : Nat × Nat × List (Nat × List Byte) :=
  let total := imgNum img 8 4
  if img.length < 32 then (7, img.length, [])
  else if imgNum img 0 4 ≠ 0x3147494A then (1, 0, [])
  else if imgNum img 4 2 ≠ 1 then (2, 4, [])
  else if 0x100000 < total ∨ total < 36 then (3, 8, [])
  else if img.length < total then (7, img.length, [])
  else
    match sections img (total - 4) (imgNum img 14 2) 32 [] with
    | .error off => (4, off, [])
    | .ok (off, secs) =>
      let flags := imgNum img 12 1
      if (requiredSections (bitOf flags 0) (bitOf flags 1)).any fun k => !secs.any fun p => p.1 == k then (5, off, [])
      else if off ≠ total - 4 then (3, off, [])
      else if (crc32 (img.take off)).toNat ≠ imgNum img off 4 then (6, off, [])
      else (0, total, secs)

/-- The body of a section. -/
def sectBody (secs : List (Nat × List Byte)) (key : Nat) : List Byte := (secs.lookup key).getD []

/-! ### The pin multiplexer (R518 to R529) -/

/-- A change away from a fixed function cuts a strobe pulse or a UART1 character in progress (R522, R549). -/
def State.pinCut (s : State) (j t : Nat) : State :=
  if j = 32 then s.gateOff 6 t .pin else if j = 33 then s.gateOff 7 t .pin else s.uartPinCut j

/-- A ball's options and function are set; a change of FUNC runs PARK (R521, R522). -/
def State.pinSet (s : State) (j : Fin 40) (v t : Nat) : State :=
  let old := s.reg (Reg.JIG_PINj j)
  let s1 := s.setReg (Reg.JIG_PINj j) (BitVec.ofNat 32 (v % 128))
  if getBits old 0 1 = v % 2 then s1
  else
    let s2 : State := { s1 with jig := { s1.jig with park := s1.jig.park.set j (some t) } }
    if v % 2 = 0 then s2.pinCut j t else s2

/-- A write of a pin is refused for its ball. -/
def State.pinRefuse (s : State) (j : Fin 40) (f : Fld) : State := (s.raise f).setFld F.JIG_PIN_ERR_PIN j

/-- JIG_PINj and JIG_CLKr may be written: BOOT, SETUP and the capture modes (R527). -/
def State.jigWritable (s : State) : Bool := s.mode == .boot || s.mode.isRun

/-- A write of JIG_PINj (R11, R520, R521, R523, R527, R529). -/
def State.writePin (s : State) (j : Fin 40) (v : Word) (t : Nat) : State :=
  let s := s.atT t
  if !s.jigWritable then s
  else if bitOf v.toNat 0 && !sharedBall j then s
  else if s.parking j || s.jig.st == .loading then s.pinRefuse j F.JIG_PIN_ERR_BUSY
  else if !bitOf v.toNat 0 && decide (27 ≤ j.val ∧ j.val ≤ 29) && s.ballFixed j && s.capture &&
      s.fld F.ENC_TRIG_CFG_SEL == 2 then s.pinRefuse j F.JIG_PIN_ERR_CAPTURE
  else s.pinSet j (v.toNat % 128) t

/-- JIGW is at S0: the JIG_ registers answer (R519). -/
def State.jigOn (s : State) : Bool := s.domOn Dom.jigw

/-- JIG_PIN_WRITE. -/
def execJigPinWrite (j : Fin 40) (v : Word) (t : Nat) (s : State) : Host.Outcome State Fault Refusal :=
  if s.jigOn then .next (s.writePin j v t) else .next s

/-- JIG_PINj takes its reset value when VAON rises and on each entry to BOOT; a change runs PARK (R525). -/
def State.pinsReset (s : State) (t : Nat) : State :=
  (List.finRange 40).foldl (fun s (j : Fin 40) => s.pinSet j (if sharedBall j then 0x23 else 0x22) t) s

/-! ### Regional clock trees (R506 to R514) -/

/-- A tree that starts: its divider is at 0 (R509, R511, R512). -/
def State.treeStart (s : State) (r : Fin 4) (x : JigTree) (run : Bool) : JigTree :=
  { x with run := run, div := s.fld (F.JIG_CLKr_DIV r), cnt := 0, src := false }

/-- Replace one tree. -/
def State.setTree (s : State) (r : Fin 4) (x : JigTree) : State :=
  { s with jig := { s.jig with trees := s.jig.trees.set r x } }

/-- A write of JIG_CLKr; `fall` is the LCLK from the commit to the old output's first falling edge, when one comes within 64,
and `dead` says that the new source shows no edge. -/
def State.writeJigClk (s : State) (r : Fin 4) (v : Word) (fall : Option Nat) (dead : Bool) : State :=
  let x := s.jig.trees[r]
  if !s.jigWritable then s
  else if x.sw.isSome then s.setFld F.JIG_CLK_STAT_CLK_BUSY (s.fld F.JIG_CLK_STAT_CLK_BUSY ||| 2 ^ r.val)
  else
    let old := s.reg (Reg.JIG_CLKr r)
    let s1 := s.setReg (Reg.JIG_CLKr r) (v &&& 0x13FF)
    let en := bitOf v.toNat 12
    if getBits old 8 2 = getBits v 8 2 then (if en && !x.run then s1.setTree r (s1.treeStart r x (s.jig.st == .run)) else s1)
    else
      let held := match fall with
        | some n => decide (n ≤ 64)
        | none => false
      s1.setTree r { x with run := false, sw := some (getBits v 8 2, getBits v 0 8), held := held, waitNew := held && dead }

/-- JIG_CLK_SRC_SWITCH: a write that changes SRC (R509, R510, R514). -/
def execJigClkSrcSwitch (r : Fin 4) (v : Word) (fall : Option Nat) (dead : Bool) (s : State) :
    Host.Outcome State Fault Refusal :=
  if s.jigOn && getBits v 8 2 != s.fld (F.JIG_CLKr_SRC r) then .next (s.writeJigClk r v fall dead) else .next s

/-- JIG_CLK_DIV_CHANGE: a write that changes DIV alone (R508). -/
def execJigClkDivChange (r : Fin 4) (v : Word) (s : State) : Host.Outcome State Fault Refusal :=
  if s.jigOn && getBits v 8 2 == s.fld (F.JIG_CLKr_SRC r) && getBits v 12 1 == s.fld (F.JIG_CLKr_EN r) then
    .next (s.writeJigClk r v none false)
  else .next s

/-- JIG_CLK_ENABLE: a write that changes EN and not SRC (R511). -/
def execJigClkEnable (r : Fin 4) (v : Word) (s : State) : Host.Outcome State Fault Refusal :=
  if s.jigOn && getBits v 8 2 == s.fld (F.JIG_CLKr_SRC r) && getBits v 12 1 != s.fld (F.JIG_CLKr_EN r) then
    .next (s.writeJigClk r v none false)
  else .next s

/-- JIG_CLK_SWITCH_FORCE: no falling edge of the old output in 64 LCLK: held low at once, with FORCED (R510). -/
def execJigClkSwitchForce (r : Fin 4) (dead : Bool) (s : State) : Host.Outcome State Fault Refusal :=
  let x := s.jig.trees[r]
  if x.sw.isSome && !x.held then
    .next ((s.setTree r { x with held := true, waitNew := dead }).setFld F.JIG_CLK_STAT_FORCED
      (s.fld F.JIG_CLK_STAT_FORCED ||| 2 ^ r.val))
  else .next s

/-- JIG_CLK_SWITCH_DONE: two falling edges of the new source have come; the divider restarts and the output is released
(R509). -/
def execJigClkSwitchDone (r : Fin 4) (s : State) : Host.Outcome State Fault Refusal :=
  let x := s.jig.trees[r]
  if x.sw.isSome && x.held then
    .next (s.setTree r (s.treeStart r {} (s.bit (F.JIG_CLKr_EN r) && s.jig.st == .run)))
  else .next s

/-- SWITCHING and WAIT_NEW of JIG_CLK_STAT. -/
def State.viewClkStat (s : State) : Nat :=
  (List.finRange 4).foldl (fun a (r : Fin 4) =>
    let x := s.jig.trees[r]
    a + b2n x.held * 2 ^ r.val + b2n x.waitNew * 2 ^ (4 + r.val)) 0

/-! ### Loading and release (R500 to R502) -/

/-- Bytes from an address to the end of the sequencer store or of far memory, at most 1 MiB; none elsewhere (R501). -/
def State.jigSource (s : State) : List Byte :=
  let lo := s.fld F.JIG_RECFG_ADDR_LO
  let hi := s.fld F.JIG_RECFG_ADDR_HI
  if hi = 1 ∧ lo < 0x40000 ∧ s.domOn Dom.seq then SMap.getBytes zeroByte s.seqStore lo (0x40000 - lo)
  else if hi = 3 ∧ lo < s.memcCap ∧ s.memcReady then s.memcBytes lo (min 0x100000 (s.memcCap - lo))
  else []

/-- Every request on the ring target port, or waiting for it, is answered DECODE (R501). -/
def State.rtDrop (s : State) : State :=
  let code : RingResp := { code := .decode }
  let done (s : State) (p : Fin 16 × Byte) : State := s.respond p.1 p.2 code
  let s1 := match s.jig.rt with
    | some x => done s (x.stop, x.tag)
    | none => s
  let s2 := s.jig.rtWait.foldl done s1
  { s2 with jig := { s2.jig with rt := none, rtWait := [] } }

/-- The trees stop, and a source switch in progress ends (R511, R526). -/
def State.treesStop (s : State) : State := { s with jig := { s.jig with trees := Vector.replicate 4 {} } }

/-- JIG_CTRL.RECFG at an LCLK edge (R501, R529). -/
def State.jigRecfg (s : State) (t : Nat) : State :=
  let s := s.atT t
  if !s.mode.isRun then s
  else if s.jig.st = .loading then s.raise F.JIG_ERR_BUSY
  else
    let parkOne (s : State) (j : Fin 40) : State :=
      if s.ballFixed j then s else { s with jig := { s.jig with park := s.jig.park.set j (some t) } }
    let s := (List.finRange 40).foldl parkOne s
    let s := (s.endLine true).holderReset .jig 3 0
    let drop (e : RmEnt) : RmEnt := { e with discard := true }
    let rm := (s.jig.rm.filter (·.issued)).map drop
    State.rtDrop { s with jig := { s.jig with st := .loading, rm := rm } }

/-- JIG_RECFG. -/
def execJigRecfg (t : Nat) (s : State) : Host.Outcome State Fault Refusal :=
  if s.jigOn then .next (s.jigRecfg t) else .next s

/-- JIG_CTRL.RELEASE at an LCLK edge: the trees start from it, and asynchronous control acts at once (R500, R502, R504, R512). -/
def State.jigRelease (s : State) (t : Nat) : State :=
  let s := s.atT t
  if s.jig.st ≠ .init then s
  else if (s.jig.useW && !s.domOn Dom.jigw) || (s.jig.useE && !s.domOn Dom.jige) then s.raise F.JIG_ERR_HALF
  else
    let s1 : State := { s with jig := { s.jig with st := .run } }
    let s2 := (List.finRange 4).foldl (fun s (r : Fin 4) =>
      let x := s.jig.trees[r]
      s.setTree r (s.treeStart r x (s.bit (F.JIG_CLKr_EN r) && x.sw.isNone))) s1
    s2.fabSettle fabRounds

/-- JIG_RELEASE. -/
def execJigRelease (t : Nat) (s : State) : Host.Outcome State Fault Refusal :=
  if s.jigOn then .next (s.jigRelease t) else .next s

/-- The MEM sections fill the memories; an absent memory starts at 0. -/
def jigMems (secs : List (Nat × List Byte)) : List (Nat × Byte) :=
  (List.range 16).foldl (fun m i => SMap.setBytes zeroByte m (i * 0x800) (sectBody secs (0x300 + i))) []

/-- The pins, trees and crossbar take the PIN, CLOCK and XBAR sections (R494, R526). -/
def State.jigTake (s : State) (secs : List (Nat × List Byte)) (t : Nat) : State :=
  let pin := sectBody secs 0x700
  let clk := sectBody secs 0x600
  let xb := sectBody secs 0x500
  let s := (List.finRange 40).foldl (fun s (j : Fin 40) => s.pinSet j (imgNum pin (4 * j) 1) t) s.treesStop
  let s := (List.range 4).foldl (fun s r => s.setReg (Reg.JIG_CLKr r) (BitVec.ofNat 32 (imgNum clk (4 * r) 4) &&& 0x13FF)) s
  (List.range 32).foldl (fun s k => s.setReg (Reg.JIG_XBARk k) (BitVec.ofNat 32 (imgNum xb k 1) &&& 0xBF)) s

/-- The fabric with every register, memory and port at 0. -/
def Jig.blank (g : Jig) : Jig :=
  { g with cells := 0, outs := 0, cellClk := 0, mem := [], ports := Vector.replicate 32 {}, portClk := 0, rises := [], aEdge := none }

/-- The fabric with its registers and memories at their INIT and MEM values (R500). -/
def Jig.initial (g : Jig) : Jig := { g.blank with st := .init, cells := g.cells0, mem := g.mem0 }

/-- An image is loaded into the fabric: INIT when every check passes, and RUN with AUTO_REL (R499 to R501). The second
value says whether it passed. -/
def State.jigLoad (s : State) (img : List Byte) (t : Nat) : State × Bool :=
  let s := s.atT t
  let (code, off, secs) := jigCheck img
  let s := (s.setFld F.JIG_LOAD_STAT_CODE code).setFld F.JIG_LOAD_STAT_OFFSET off
  if code ≠ 0 then
    (State.treesStop { s with jig := { s.jig.blank with st := .unconf, design := {}, bodies := [] } }, false)
  else
    let flags := imgNum img 12 1
    let bodies := secs.filter fun p => p.1 < 0x300
    let g : Jig := { s.jig with
      useW := bitOf flags 0, useE := bitOf flags 1, autoRel := bitOf flags 2
      cells0 := BitVec.ofNat 512 (ofLeBytes (sectBody secs 0x400)), mem0 := jigMems secs
      bodies := bodies, design := Config.jigDesign (bodies.map fun p => (p.1, p.2.map (·.toNat))) }
    let s := (({ s with jig := g.initial } : State).jigTake secs t).fabSettle fabRounds
    let s := (s.inc F.JIG_STAT_LOADS).setFld F.JIG_USER_ID (imgNum img 16 4)
    (if bitOf flags 2 && s.mode != .boot then s.jigRelease t else s, true)

/-- JIG_LOAD_DONE: the image of a reconfiguration has been read and checked (R499, R501). -/
def execJigLoadDone (t : Nat) (s : State) : Host.Outcome State Fault Refusal :=
  if s.jig.st = .loading then
    let r := s.jigLoad s.jigSource t
    .next (if r.2 then r.1 else r.1.raise F.JIG_ERR_LOAD)
  else .next s

/-- The fabric runs and its used logic has clocks. -/
def State.jigRuns (s : State) : Bool := s.jig.st == .run && s.jigOn

/-- STATE, USE_W and USE_E of JIG_STAT. -/
def State.viewJigStat (s : State) : Nat :=
  (match s.jig.st with | .unconf => 0 | .loading => 1 | .init => 2 | .run => 3) + 4 * b2n s.jig.useW + 8 * b2n s.jig.useE

/-! ### The ring target port (R495) -/

/-- A request reaches user space: it joins the requests for the target port, or DECODE when the fabric does not run. -/
def State.rtArrive (s : State) (n : Fin 16) (tag : Byte) : Option State :=
  if s.jigRuns && !s.jig.rtWait.contains (n, tag) then
    some { s with jig := { s.jig with rtWait := s.jig.rtWait ++ [(n, tag)] } }
  else none

/-- A request has been taken by the target port or waits for it. -/
def State.rtHas (s : State) (n : Fin 16) (tag : Byte) : Bool :=
  s.jig.rtWait.contains (n, tag) || (s.jig.rt.map fun x => x.stop == n && x.tag == tag).getD false

/-- JIG_RT_REQUEST: the next request in arrival order is presented, word by word. -/
def execJigRtRequest (s : State) : Host.Outcome State Fault Refusal :=
  if !s.jigRuns || s.jig.rt.isSome then .next s
  else
    match s.jig.rtWait with
    | [] => .next s
    | (n, tag) :: rest =>
      match s.tagEnt? n tag with
      | none => .next { s with jig := { s.jig with rtWait := rest } }
      | some e =>
        let q := e.req
        let words := (List.range ((q.off % 4 + q.len + 3) / 4)).map fun i => (q.off / 4 + i) * 4
        let x : JigRt := { stop := n, tag := tag, req := q, words := words }
        .next { s with jig := { s.jig with rtWait := rest, rt := some x } }

/-- RT_BE of the word at an offset. -/
def JigRt.be (x : JigRt) (w : Nat) : List Bool :=
  (List.range 4).map fun i => decide (x.req.off ≤ w + i ∧ w + i < x.req.off + x.req.len)

/-- RT_WDATA of the word at an offset. -/
def JigRt.wdata (x : JigRt) (w : Nat) : List Byte :=
  (List.range 4).map fun i => if x.req.off ≤ w + i then x.req.data.getD (w + i - x.req.off) 0 else 0

/-- The target port answers its request. -/
def State.rtEnd (s : State) (x : JigRt) (r : RingResp) : State :=
  let s1 := s.respond x.stop x.tag r
  { s1 with jig := { s1.jig with rt := none } }

/-- JIG_RT_ACK: the fabric acknowledges the beat; RT_ERR ends the request DECODE, and the last beat ends it OK. -/
def execJigRtAck (err : Bool) (rdata : Word) (s : State) : Host.Outcome State Fault Refusal :=
  match s.jig.rt with
  | none => .next s
  | some x =>
    if err then .next (s.rtEnd x { code := .decode })
    else
      match x.words with
      | [] => .next (s.rtEnd x {})
      | w :: ws =>
        let picked := ((leBytes rdata.toNat 4).zip (x.be w)).filterMap fun p => if p.2 then some p.1 else none
        let data := if x.req.kind = .read then x.data ++ picked else []
        if ws.isEmpty then .next (s.rtEnd x { data := data })
        else
          let x' : JigRt := { x with words := ws, data := data }
          .next { s with jig := { s.jig with rt := some x' } }

/-- JIG_RT_TIMEOUT: no RT_ACK within RT_TMO LCLK. -/
def execJigRtTimeout (s : State) : Host.Outcome State Fault Refusal :=
  match s.jig.rt with
  | none => .next s
  | some x => .next (((s.rtEnd x { code := .decode }).raise F.JIG_ERR_RT_TMO).inc F.JIG_RT_TMO_CNT)

/-- A write of JIG_CFG: RT_TMO below 16 is ignored (Table 19-5). -/
def State.writeJigCfg (s : State) (v : Word) : State :=
  if getBits v 0 12 < 16 then s else s.setFld F.JIG_CFG_RT_TMO (getBits v 0 12)

/-! ### The ring master port and the lanes (R490, R497) -/

/-- JIG_RM_ISSUE: an access of the master port; a fifth waits, and an unaligned one returns DECODE without being issued. -/
def execJigRmIssue (addr : SysAddr) (write : Bool) (data : Word) (urg : Bool) (s : State) :
    Host.Outcome State Fault Refusal :=
  if !s.jigRuns then .next s
  else
    let a := addr.toNat
    let q : RingReq :=
      { src := 6, dst := Fin.ofNat 16 (a / 2 ^ 32), cls := if urg then .urgent else .control
        kind := if write then .write else .read, off := a % 2 ^ 32, len := 4
        data := if write then leBytes data.toNat 4 else [], client := .jig s.jig.rmId }
    let e : RmEnt := { req := q, resp := if a % 4 = 0 then none else some { code := .decode } }
    let s1 : State := { s with jig := { s.jig with rm := s.jig.rm ++ [e], rmId := s.jig.rmId + 1 } }
    .next (s1.rmSettle (s1.jig.rm.length + 1))

/-- JIG_RM_STAT.OUTST. -/
def State.viewRmStat (s : State) : Nat := min 4 s.jig.rm.length

/-- A pulse on one of SLIP, TAPUP and TAPDN acts: the fabric runs and no other of the lane's three pulses with it. -/
def State.lanePulse (s : State) (other : Bool) : Bool := s.jigRuns && !other

/-- LANE_SLIP. -/
def execLaneSlip (j : Fin 16) (other : Bool) (s : State) : Host.Outcome State Fault Refusal :=
  if s.lanePulse other then .next { s with jig := { s.jig with slip := s.jig.slip.set j ((s.jig.slip[j] + 1) % 8) } }
  else .next s

/-- LANE_TAPUP: a move beyond tap 63 does nothing. -/
def execLaneTapup (j : Fin 16) (other : Bool) (s : State) : Host.Outcome State Fault Refusal :=
  if s.lanePulse other then .next (s.addSat (F.JIG_TAPj j) 1) else .next s

/-- LANE_TAPDN: a move beyond tap 0 does nothing. -/
def execLaneTapdn (j : Fin 16) (other : Bool) (s : State) : Host.Outcome State Fault Refusal :=
  if s.lanePulse other then .next (s.setFld (F.JIG_TAPj j) (s.fld (F.JIG_TAPj j) - 1)) else .next s

end Sys2Proof.Machine
end

