-- ==== Sys2Proof/Machine/Kerf.lean ====
section
/-! DEFINITION. The Kerf coder (Chapter 14): cutting a store into blocks, prediction, quantisation and entropy coding, the
block header, lanes and their order. The hand-over to the egress link is in Machine/Egress.lean. -/

namespace Sys2Proof.Machine

/-! ### Prediction and quantisation (R357 to R359) -/

/-- The prediction inside an STT block from the west, north and north-west reconstructions (R358). -/
def kerfMesh (a b c : Nat) : Nat := if max a b ≤ c then min a b else if c ≤ min a b then max a b else a + b - c

/-- The prediction of pixel i from the reconstructed pixels before it, newest first. -/
def kerfPredict (tile : Bool) (n i : Nat) (past : List Nat) : Nat :=
  let back (k : Nat) : Nat := past.getD (k - 1) 0
  if i = 0 then 2 ^ (n - 1)
  else if !tile then back 1
  else if i < 16 then back 1
  else if i % 16 = 0 then back 16
  else kerfMesh (back 1) (back 16) (back 17)

/-- The quantised difference (R359). -/
def kerfQ (k x p : Nat) : Int :=
  let e : Int := (x : Int) - p
  let q : Int := ((e.natAbs + k) / (2 * k + 1) : Nat)
  if e < 0 then -q else q

/-- The reconstruction (R359). -/
def kerfRecon (n k p : Nat) (q : Int) : Nat :=
  let v : Int := p + q * (2 * k + 1)
  if v < 0 then 0 else min v.toNat (2 ^ n - 1)

/-! ### Entropy coding (R360, R361) -/

/-- The low n bits of a number, most significant first. -/
def bitsMsb (v : Nat) : Nat → List Bool
  | 0 => []
  | n + 1 => bitOf v n :: bitsMsb v n

/-- M from q (R360). -/
def kerfMap (q : Int) : Nat := if 0 ≤ q then 2 * q.toNat else 2 * q.natAbs - 1

/-- The parameter r: the smallest from 0 to n with N × 2^r ≥ A (R360). -/
def kerfR (n a cnt : Nat) : Nat := ((List.range n).find? fun r => a ≤ cnt * 2 ^ r).getD n

/-- The code of M (R361). -/
def kerfCode (n r m : Nat) : List Bool :=
  let u := m / 2 ^ r
  if u < 24 then List.replicate u false ++ (true :: bitsMsb m r)
  else List.replicate 24 false ++ (true :: bitsMsb m (n + 2))

/-- The adaptive state of one block: counts A and N, reconstructions newest first, largest error, bits newest first. -/
structure KerfAcc where
  a : Nat := 0
  cnt : Nat := 1
  idx : Nat := 0
  past : List Nat := []
  cert : Nat := 0
  bits : List Bool := []

/-- Code one pixel (R357 to R361). -/
def KerfAcc.pixel (c : KerfAcc) (tile : Bool) (n k x : Nat) : KerfAcc :=
  let p := kerfPredict tile n c.idx c.past
  let q := kerfQ k x p
  let xh := kerfRecon n k p q
  let m := kerfMap q
  let code := kerfCode n (kerfR n c.a c.cnt) m
  let a := c.a + m
  let cnt := c.cnt + 1
  { a := if cnt = 64 then a / 2 else a
    cnt := if cnt = 64 then 32 else cnt
    idx := c.idx + 1
    past := (xh :: c.past).take 17
    cert := max c.cert (max x xh - min x xh)
    bits := code.reverse ++ c.bits }

/-- Code the pixels of a block; all adaptive state starts afresh (R356, R360). -/
def kerfCodeAll (tile : Bool) (n k : Nat) (px : List Nat) : KerfAcc :=
  px.foldl (fun c x => c.pixel tile n k x) { a := max 2 ((2 ^ n + 32) / 64) }

/-- Bits packed most significant first, the last byte filled with zeros (R361). -/
def packBits : List Bool → List Byte
  | b7 :: b6 :: b5 :: b4 :: b3 :: b2 :: b1 :: b0 :: rest =>
    BitVec.ofNat 8 (128 * b2n b7 + 64 * b2n b6 + 32 * b2n b5 + 16 * b2n b4 + 8 * b2n b3 + 4 * b2n b2 + 2 * b2n b1 +
      b2n b0) :: packBits rest
  | [] => []
  | bs => [BitVec.ofNat 8 ((bs ++ List.replicate (8 - bs.length) false).foldl (fun v b => 2 * v + b2n b) 0)]

/-! ### Blocks (R356, R362 to R365) -/

/-- Block length in force for a store: 1,024 when 2,048 is asked of 16-bit pixels, 256 for a tile (R356). -/
def StoreBuf.blockLen (b : StoreBuf) (c : KrfCfg) : Nat :=
  if b.tile then 256 else if b.n = 16 ∧ c.blklen = 2048 then 1024 else c.blklen

/-- Blocks of a store. -/
def StoreBuf.blocks (b : StoreBuf) (c : KrfCfg) : Nat :=
  (b.pixels.length + b.blockLen c - 1) / b.blockLen c

/-- The payload of a block, its CERT, and whether it is RAW (R362 to R364, Table 14-1). -/
def KrfBlock.coded (b : KrfBlock) : List Byte × Nat × Bool :=
  let npix := b.pixels.length
  let acc := kerfCodeAll b.tile b.n b.cfg.near b.pixels
  let data := packBits acc.bits.reverse
  let raw := decide ((b.n * npix + 7) / 8 < data.length)
  let body := if raw then packBits (b.pixels.flatMap fun x => bitsMsb x b.n) else data
  let cert := if raw then 0 else acc.cert
  let hdr : List Byte :=
    [BitVec.ofNat 8 (b2n raw + 4 * b2n b.tile + 8 * b2n (!b.stamp.stamped) + 16 * b.ctx),
     BitVec.ofNat 8 (b.cfg.near + 16 * cert), BitVec.ofNat 8 (b.n - 1), BitVec.ofNat 8 b.stamp.cmpErr.toNat] ++
      leBytes b.start 2 ++ leBytes (npix - 1) 2 ++ [BitVec.ofNat 8 b.cfg.abound, 0] ++ leBytes b.idx 2 ++
      leBytes body.length 2 ++ [0, 0]
  (hdr ++ body, cert, raw)

/-! ### Lanes (R366 to R368, R371, R372) -/

/-- The settings of a context now (R365, R371). -/
def State.krfCfg (s : State) (c : Nat) : KrfCfg :=
  let record := s.bit (F.KRF_CTXc_CFG_CLASS c)
  { near := if record then 0 else s.fld (F.KRF_CTXc_CFG_NEAR c), record := record
    blklen := 256 * 2 ^ s.fld (F.KRF_CTXc_CFG_BLKLEN c), abound := s.fld (F.KRF_CTXc_CFG_ABOUND c) }

/-- The filled buffer of the oldest store that still has a block to start. -/
def State.krfBuf? (s : State) : Option (Fin 2) :=
  (List.finRange 2).foldl (fun acc i =>
    match s.storeBufs[i] with
    | none => acc
    | some b =>
      let more := match b.cfg with | some c => decide (b.nextBlk < b.blocks c) | none => true
      if b.ready && more then
        match acc with
        | none => some i
        | some j => match s.storeBufs[j] with
          | some c => if b.order < c.order then some i else some j
          | none => some i
      else acc) none

/-- The lowest free lane. -/
def State.krfLane? (s : State) : Option (Fin 4) := (List.finRange 4).find? fun i => s.lanes[i].isNone

/-- A store names a context with EN clear: it is discarded and counted, and its buffer is free (R372). -/
def State.krfDiscard (s : State) (i : Fin 2) : State :=
  (State.inc { s with storeBufs := s.storeBufs.set i none } F.KRF_DIS_CNT).raise F.KRF_STAT_DIS_EV

/-- The next block of a store starts in a lane. -/
def State.krfStart (s : State) (i : Fin 2) (b : StoreBuf) (c : KrfCfg) (lane : Fin 4) : State :=
  let len := b.blockLen c
  let blk : KrfBlock :=
    { order := b.order, idx := b.nextBlk, buf := i, pixels := (b.pixels.drop (b.nextBlk * len)).take len, n := b.n
      tile := b.tile, start := if b.tile then b.start else b.start + b.nextBlk * len, ctx := b.ctx, cfg := c
      stamp := b.stamp }
  { s with lanes := s.lanes.set lane (some blk)
           storeBufs := s.storeBufs.set i (some { b with cfg := some c, nextBlk := b.nextBlk + 1 }) }

/-- KERF_BLOCK_START: the next block of the oldest store starts in the lowest free lane; a store samples its context with
its first block (R366, R367, R371). With EGRESS not ON a store is lost and its buffer freed (log 24). -/
def execKerfBlockStart (s : State) : Host.Outcome State Fault Refusal :=
  match s.krfBuf? with
  | none => .next s
  | some i =>
    match s.storeBufs[i] with
    | none => .next s
    | some b =>
      if !s.domOn Dom.egress then .next { s with storeBufs := s.storeBufs.set i none }
      else
        match b.cfg, s.krfLane? with
        | some c, some lane => .next (s.krfStart i b c lane)
        | none, some lane =>
          if s.bit (F.KRF_CTXc_CFG_EN b.ctx) then
            let c := s.krfCfg b.ctx
            let s := s.raiseIf (b.n == 16 && c.blklen == 2048 && !b.tile) F.KRF_STAT_CLAMP
            .next (s.krfStart i b c lane)
          else .next (s.krfDiscard i)
        | none, none => if s.bit (F.KRF_CTXc_CFG_EN b.ctx) then .next s else .next (s.krfDiscard i)
        | some _, none => .next s

/-- A block of a store has been coded: the buffer is free after the last one (R367). -/
def State.krfCodedOne (s : State) (i : Fin 2) (order : Nat) : State :=
  match s.storeBufs[i] with
  | some b =>
    if b.order = order then
      let b1 : StoreBuf := { b with coded := b.coded + 1 }
      let all := match b.cfg with | some c => decide (b.blocks c ≤ b1.coded) | none => false
      { s with storeBufs := s.storeBufs.set i (if all then none else some b1) }
    else s
  | none => s

/-- KERF_BLOCK_DONE: the block of a lane has been coded; the link takes finished blocks in order while it has buffers, and
`held` is the SCLK for which lanes were held since the last count (R362, R364, R366 to R368). -/
def execKerfBlockDone (lane : Fin 4) (held : Nat) (s : State) : Host.Outcome State Fault Refusal :=
  match s.lanes[lane] with
  | some b =>
    if b.payload.isSome || !s.domOn Dom.egress then .next s
    else
      let r := b.coded
      let s : State := { s with lanes := s.lanes.set lane (some { b with payload := some r.1 }) }
      let s := (s.inc F.KRF_BLOCKS).addSat F.KRF_OUT_WAIT_CYC held
      let s := if r.2.2 then s.inc F.KRF_RAW_CNT else s
      let s := if s.fld F.KRF_MAXCERT < r.2.1 then s.setFld F.KRF_MAXCERT r.2.1 else s
      .next ((s.krfCodedOne b.buf b.order).krfHandover 4)
  | none => .next s

/-- Every lane and output is emptied without hand-over (R373). -/
def State.krfClear (s : State) : State :=
  let drop (b : StoreBuf) : Option StoreBuf := if b.nextBlk = 0 then some b else none
  { s with lanes := Vector.replicate 4 none, storeBufs := s.storeBufs.map fun b => b.bind drop }

/-- LANE_BUSY and OUT_WAIT of KRF_STAT (Table 14-7). -/
def State.viewKrfStat (s : State) : Nat :=
  let coding (i : Fin 4) : Bool := match s.lanes[i] with | some b => b.payload.isNone | none => false
  let waits (i : Fin 4) : Bool := match s.lanes[i] with | some b => b.payload.isSome | none => false
  (List.finRange 4).foldl (fun n i => n + (b2n (coding i)) * 2 ^ i.val) 0 +
    32 * b2n ((List.finRange 4).any waits)

end Sys2Proof.Machine
end

