-- ==== Sys2Proof/Machine/Domains.lean ====
section
/-! DEFINITION. The switched domains (Chapter 24, R615 to R618, R758): what each loses when it goes OFF, PWR_DOM_OFF, tiles
and SILL. -/

namespace Sys2Proof.Machine

/-- Ring registers of a domain, as address ranges; none for a tile, whose registers answer whatever its power (R221). -/
def domRegs (d : Nat) : List (Nat × Nat) :=
  if d = 64 then [(0x110000000, 0x110010000)]
  else if d = 65 then [(0x110010000, 0x110020000)]
  else if d = 66 then [(0x200000000, 0x300000000)]
  else if d = 68 then [(0x400000000, 0x500000000)]
  else if d = 69 then [(0x500000000, 0x600000000)]
  else if d = 70 then [(0x600000000, 0x600000054), (0x600000058, 0x600000300), (0x6000003A0, 0x700000000)]
  else if d = 72 then [(0x600000054, 0x600000058), (0x600000300, 0x6000003A0), (0x700000000, 0x700030000),
      (0x700040000, 0x800000000)]
  else if d = 73 then [(0x700030000, 0x700040000)]
  else if d = 74 then [(0x1000000, 0x1100000)]
  else []

/-- The registers of a domain take their reset values. -/
def State.domRegsReset (s : State) (d : Nat) : State := (domRegs d).foldl (fun s r => s.resetRegs r.1 r.2) s

/-- Set the state of a domain. -/
def State.setDom (s : State) (d : Fin 76) (x : DomState) : State := { s with dom := s.dom.set d x }

/-- The half's bays and memories are lost (R482, R502). -/
def State.jigHalfLose (s : State) (east : Bool) : State :=
  let lo := if east then 8 else 0
  let cells := if east then s.jig.cells &&& BitVec.ofNat 512 (2 ^ 256 - 1) else (s.jig.cells >>> 256) <<< 256
  let mem := SMap.clear (lo * 0x800) ((lo + 8) * 0x800) s.jig.mem
  { s with jig := { s.jig.blank with cells := cells, outs := if east then s.jig.outs &&& BitVec.ofNat 512 (2 ^ 256 - 1) else 0, mem := mem } }

/-- SEQ loses its contexts, store and pegs. -/
def State.seqLose (s : State) : State :=
  { s with tasks := Vector.replicate 8 {}, taskSt := Vector.replicate 8 .off, cur := 0, ran := [], ranUnits := 0
           seqStore := [], pegs := Vector.replicate 32 {} }

/-- What a domain beyond its registers loses when it goes OFF (R616). -/
def State.domLose (s : State) (d : Fin 76) : State :=
  let s := s.domRegsReset d
  if d.val < 64 then s.tileLose d.val
  else if d = Dom.seq then s.seqLose
  else if d = Dom.truss then State.trsEmpty { s with trs := {} }
  else if d = Dom.tally then { s with tly := { moveId := s.tly.moveId } }
  else if d = Dom.memc then (s.setFld F.MEMC_STAT_TRAINED 0).memcLose
  else if d = Dom.ingest then { s with ing := {} }
  else if d = Dom.egress then State.krfClear { s with egr := {} }
  else if d = Dom.jigw then State.jigHalfLose { s with jig := { s.jig with st := .unconf, rt := none, rtWait := [], rm := [] } } false
  else if d = Dom.jige then s.jigHalfLose true
  else if d = Dom.lineio then State.uart1Reset { s with lio := { ilkLow := s.lio.ilkLow } }
  else if d = Dom.dynak then { s with dyn := {} }
  else s

/-- A domain goes OFF. -/
def State.domOff (s : State) (d : Fin 76) : State := (s.domLose d).setDom d .off

/-- Replace bit c of a three-word domain mask. -/
def State.setDomMask (s : State) (a c : Nat) (b : Bool) : State :=
  let r := a + 4 * (c / 32)
  s.setReg r (setBits (s.reg r) (c % 32) 1 (b2n b))

/-- A change of a PWR_DOM_OFF bit is permitted now (R502, R617). -/
def State.domMayChange (s : State) (c : Nat) (off : Bool) : Bool :=
  if c < 64 then s.mode.isRun
  else
    s.mode == .setup &&
      (c == 69 || c == 73 || c == 75 || (c == 70 && !(off && s.jig.useW)) || (c == 71 && !(off && s.jig.useE)))

/-- EGRESS and DYNAK stop their links before they go off (R394, R373, R619). -/
def State.domQuit (s : State) (d : Fin 76) : State :=
  if d = Dom.egress then s.egrClear.krfClear else if d = Dom.dynak then s.dynDown else s

/-- One bit of a PWR_DOM_OFF write takes effect: a tile at the next macro-op boundary, SILL once drained, a half of the
fabric and the links at once. Out of S0 a domain that is switched on takes the state that the ladder gives it (R620). -/
def State.domChange (s : State) (d : Fin 76) (off : Bool) : State :=
  let s := s.setDomMask Reg.PWR_DOM_OFF_A d off
  if d.val < 64 then s
  else if off then (if d = Dom.sill then s else (s.domQuit d).domOff d)
  else if s.held.contains d.val then s
  else if s.ladder = .s0 ∨ s.ladKept s.ladder d.val then s.setDom d .on
  else State.setDom { s with lad := { s.lad with left := d.val :: s.lad.left } } d (ladDomState s.ladder d.val)

/-- A write of PWR_DOM_OFF_A, _B or _C (R617, R633). -/
def State.writeDomOff (s : State) (w : Nat) (v : Word) : State :=
  if s.phase != .stable then s.raise F.PWR_ERR_BUSY
  else
    let lo := 32 * w
    let s' := (List.finRange 76).foldl (fun s (d : Fin 76) =>
      if lo ≤ d.val ∧ d.val < lo + 32 then
        let b := bitOf v.toNat (d.val - lo)
        if b = s.domSwitchedOff d then s
        else if s.domMayChange d b then s.domChange d b
        else s.raise F.PWR_ERR_DOM_REFUSED
      else s) s
    s'.tilesSettle

/-- PWR_DOM_OFF_WRITE. -/
def execPwrDomOffWrite (w : Fin 3) (v : Word) (s : State) : Host.Outcome State Fault Refusal :=
  if s.mode = .unpowered then .next s else .next ((s.writeDomOff w v).trsAdvance 65)

/-- TILE_ON: a tile switched on reaches ON (R215, R618); so does one that a scribe release has freed. -/
def execTileOn (t : Fin 64) (s : State) : Host.Outcome State Fault Refusal :=
  if !s.tileOn t && !s.tileDown t && s.domOn Dom.truss && s.trs.exec.isNone && s.phase == .stable && s.ladder == .s0 then
    .next ((s.tileStart t).trsAdvance 65)
  else .next s

/-- SILL_DRAINED: the last flit on Sill has reached its NI, and the domain switched off goes OFF (R758). -/
def execSillDrained (s : State) : Host.Outcome State Fault Refusal :=
  if s.domSwitchedOff 75 && s.domOn Dom.sill && !s.sillBusy then .next (s.domOff Dom.sill) else .next s

/-- PWR_DOM_ON, one word (R616). -/
def State.viewDomOn (s : State) (w : Nat) : Nat :=
  (List.finRange 76).foldl (fun a (d : Fin 76) =>
    if d.val / 32 = w ∧ s.domOn d then a + 2 ^ (d.val % 32) else a) 0

/-- Record a request answered POWERED_DOWN in PWR_PD_HIT (R629). -/
def State.pdHit (s : State) (d : Nat) : State := s.setDomMask Reg.PWR_PD_HIT_A d true

end Sys2Proof.Machine
end

