-- ==== Sys2Proof/Machine/OtpRead.lean ====
section
/-! DEFINITION. What the counted settings and the factory region read (R662, R663, R667): values, slots left, and the
integrity check. -/

namespace Sys2Proof.Machine

/-- CRC-8 of a slot's value, as n bytes, lowest first. -/
def otpCrc (value n : Nat) : Byte := crc8 (leBytes value n)

/-- Value of the last committed slot, or the delivery value. -/
def otpLast (dflt : Nat) (slots : List OtpSlot) : Nat :=
  (slots.foldl (fun acc x => if x.committed then some x.value else acc) none).getD dflt

/-- OTP_HEAD: HEAD_ID in bits 4:0, ROLE in bit 8. -/
def State.otpHead (s : State) : Nat := otpLast 0 s.otp.head
/-- HEAD_ID. -/
def State.headId (s : State) : Nat := s.otpHead % 32
/-- The head is the bus master. -/
def State.busMaster (s : State) : Bool := bitOf s.otpHead 8
/-- OTP_BOOT_POLICY. -/
def State.bootPolicy (s : State) : Nat := otpLast 0 s.otp.bootPolicy
/-- OTP_KEY_REVOKE. -/
def State.keyRevoke (s : State) : Nat := otpLast 0 s.otp.revoke
/-- OTP_LOG_POLICY: CLEAR_EN is 1 on delivery. -/
def State.logPolicy (s : State) : Nat := otpLast 1 s.otp.logPolicy
/-- OTP_DEBUG_LOCK: 0 OPEN, 1 LOCKED, 2 SEALED. -/
def State.debugLock (s : State) : Nat := otpLast 0 s.otp.dbg
/-- The start threshold: THRESH, with 0 selecting 3. -/
def State.bootThresh (s : State) : Nat := if s.bootPolicy % 8 = 0 then 3 else s.bootPolicy % 8
/-- BOOT_POLICY.SIG_REQ. -/
def State.sigReq (s : State) : Bool := bitOf s.bootPolicy 3

/-- Hash in a KEY_HASH slot, when the slot is written and committed. -/
def State.keyHash (s : State) (k : Fin 4) : Option Nat := s.otp.keys[k].bind fun x => if x.committed then some x.value else none

/-- Key k is enrolled under a revocation mask (R667). -/
def State.keyEnrolled (s : State) (revoke : Nat) (k : Fin 4) : Bool := (s.keyHash k).isSome && !bitOf revoke k

/-- The enrolled key with a given hash. -/
def State.enrolledKey (s : State) (hash : Nat) : Option (Fin 4) :=
  (List.finRange 4).find? fun k => s.keyEnrolled s.keyRevoke k && s.keyHash k == some hash

/-- A committed slot's CRC fails. -/
def otpSlotBad (n : Nat) (x : OtpSlot) : Bool := x.committed && x.crc != otpCrc x.value n

/-- The OTP integrity check passes (R15, R663). -/
def State.otpOk (s : State) : Bool :=
  s.otp.factOk && !(s.otp.head.any (otpSlotBad 2) || s.otp.bootPolicy.any (otpSlotBad 1) || s.otp.revoke.any (otpSlotBad 1) ||
    s.otp.logPolicy.any (otpSlotBad 1) || s.otp.dbg.any (otpSlotBad 1) ||
    (List.finRange 4).any fun k => (s.otp.keys[k].map (otpSlotBad 32)).getD false)

/-- GRADE: 0x00 when the integrity check fails (R15). -/
def State.grade (s : State) : Byte := if s.otpOk then s.otp.grade else 0

/-- A slot as the factory wrote it. -/
def OtpSlot.made (value n : Nat) : OtpSlot := { value := value, crc := otpCrc value n }

/-- The store of a new part: GRADE 0x43, 0x49 or 0x58, its serial number, and, for a CRK16-X, the key hashes that its customer
ordered. That grade is delivered with its four KEY_HASH slots written, SIG_REQ set, and DEBUG_LOCK stepped to SEALED; the others
are delivered empty (R2, Table 0-1). -/
def Otp.delivery (grade : Byte) (serial : BitVec 64) (keys : Fin 4 → Nat) : Otp :=
  if grade = 0x58 then
    { grade := grade, serial := serial, bootPolicy := [.made 8 1], dbg := [.made 1 1, .made 2 1]
      keys := Vector.ofFn fun k => some (.made (keys k) 32) }
  else { grade := grade, serial := serial }

/-- The device right after VAON has risen, of a part as delivered: State.reset is this for a CRK16-C with serial number 0
(log 6). -/
def State.delivered (grade : Byte) (serial : BitVec 64) (keys : Fin 4 → Nat) : State :=
  { otp := Otp.delivery grade serial keys }

/-- CHIP_ID (Table 0-6). -/
def chipId : Nat := 0x4B16

/-- STEPPING (Table 0-6). -/
def chipStepping : Byte := 0xB1

/-- OTP_REMAIN (R665). -/
def State.viewOtpRemain (s : State) : Nat :=
  let free := (List.finRange 4).foldl (fun a (k : Fin 4) => a + b2n (s.otp.keys[k].isNone) * 2 ^ k.val) 0
  (8 - s.otp.head.length) + 16 * (4 - s.otp.bootPolicy.length) + 256 * (4 - s.otp.logPolicy.length) +
    4096 * (2 - s.otp.dbg.length) + 65536 * free

/-- OTP_KEY_STAT: the slots whose write reached DONE (R664, R667). -/
def State.viewKeyStat (s : State) : Nat :=
  (List.finRange 4).foldl (fun a (k : Fin 4) => a + b2n (s.keyHash k).isSome * 2 ^ k.val) 0

end Sys2Proof.Machine
end

