-- ==== Sys2Proof/Machine/Modes.lean ====
section
/-! DEFINITION. The major modes (Chapter 2): results, MODE records, the end of a session, and what each mode entry does. -/

namespace Sys2Proof.Machine

/-! ### Requesters (R45, R52, R607) -/

/-- Requester codes of a MODE record (Table 23-7). -/
def requesterCode : Requester → Nat
  | .host => 0 | .joist => 1 | .console => 2 | .bus => 3 | .seqIn => 4 | .caused => 5

/-- A mode result reaches its requester; a final code in MODE_RESULT sets IRQ_STATUS.RESULT (R45, R88). -/
def State.report (s : State) (who : Requester) (res det : Nat) : State :=
  let r : ReqResult := { result := BitVec.ofNat 4 res, detail := BitVec.ofNat 4 det }
  match who with
  | .host =>
    let s := { s with cp := { s.cp with modeResult := r } }
    if 2 ≤ res then s.irq 1 else s
  | .joist => { s with joistResult := r }
  | _ => s

/-- The result of a transition reaches everyone who asked for it. -/
def State.reportAll (s : State) (tr : Transit) (res : Nat) : State :=
  let s := s.report tr.by_ res 0
  match tr.also with
  | some who => s.report who res 0
  | none => s

/-- A ladder result reaches its requester (R627). -/
def State.reportLadder (s : State) (who : Requester) (res det : Nat) : State :=
  let r : ReqResult := { result := BitVec.ofNat 4 res, detail := BitVec.ofNat 4 det }
  match who with
  | .host => { s with cp := { s.cp with ladderResult := r } }
  | .joist => { s with joistLadderResult := r }
  | _ => s

/-- The MODE record of an accepted request or a caused transition (R52, Table 23-7). -/
def State.modeRecord (s : State) (dest : Mode) (who : Requester) (role now : Bool) : State :=
  s.pushLog 0x07 [BitVec.ofNat 8 s.mode.code.toNat, BitVec.ofNat 8 dest.code.toNat, BitVec.ofNat 8 (requesterCode who),
    BitVec.ofNat 8 (b2n role), BitVec.ofNat 8 (b2n now)]

/-- The transition in progress is overtaken: its requester sees SUPERSEDED (R48, R50). -/
def State.supersede (s : State) : State :=
  match s.transit with
  | some tr => State.reportAll { s with transit := none, lad := { s.lad with modeWait := false } } tr 6
  | none => s

/-- A wake fails: a mode request that waited for it is refused (R43, Table 2-3). -/
def State.modeUnwoken (s : State) : State :=
  match s.transit with
  | some tr =>
    if s.lad.modeWait then
      State.report { s with transit := none, lad := { s.lad with modeWait := false } } tr.by_ 4 6
    else s
  | none => s

/-- A ladder entry or exit, or a wait for quiescence, is overtaken (R633). -/
def State.ladderSupersede (s : State) : State :=
  match s.phase with
  | .stable => s
  | .waiting _ by_ | .entering _ by_ | .exiting _ by_ => State.reportLadder { s with phase := .stable } by_ 6 0

/-- MODE.LADDER as it reads (Table 2-4, Table 2-8). -/
def State.viewLadder (s : State) : Nat :=
  match s.mode with
  | .unpowered | .supervise => 7
  | .boot | .fallback => 0
  | _ => s.ladder.code

/-- MODE (Table 2-8). -/
def State.viewMode (s : State) : Nat :=
  s.mode.code.toNat + 8 * b2n s.role + 16 * s.viewLadder + 128 * b2n s.transit.isSome + 256 * b2n s.capture

/-- The head takes a mode: a change of MODE.CODE sets IRQ_STATUS.MODE_CHG (R32, R88). -/
def State.setMode (s : State) (m : Mode) (role : Bool) : State :=
  let s1 := if s.mode = m then s else s.irq 0
  { s1 with mode := m, role := role && m == .lockstep }

/-! ### The session's end (R74) -/

/-- Codes of the levels (R71, Table 27-4). -/
def levelCode : Level → Nat
  | .field => 0 | .service => 1 | .factory => 2

/-- An AUDIT record (Table 27-4). -/
def State.audit (s : State) (kind what : Nat) (level : Level) (res left : Nat) (key : Byte) (value epoch : Nat) : State :=
  s.pushLog 0x0B ([BitVec.ofNat 8 kind, BitVec.ofNat 8 what, BitVec.ofNat 8 (levelCode level), BitVec.ofNat 8 res,
    BitVec.ofNat 8 left, key] ++ leBytes value 4 ++ [BitVec.ofNat 8 epoch, 0, 0, 0])

/-- A level above another is lowered to it, with its AUDIT record (R675, R676). -/
def State.lowerTo (s : State) (l : Level) : State :=
  let x := s.cp.sess
  if levelCode l < levelCode x.level then
    let s1 := s.audit 4 (levelCode l) x.level 0 0xFF s.cp.svcKey 0 x.epoch.toNat
    let key : Byte := if l = .field then 0xFF else s.cp.svcKey
    { s1 with cp := { s1.cp with sess := { x with level := l }, svcKey := key } }
  else s

/-- A session that is active ends: ACTIVE clears, the level returns to FIELD, HOST's pegs break, and SESS_END sets. -/
def State.sessEnd (s : State) (expired : Bool) : State :=
  if s.cp.sess.active then
    let s := s.lowerTo .field
    let cp := { s.cp with sess := { s.cp.sess with active := false, level := .field, expired := expired }
                          svcKey := 0xFF, svcChal := [], svcResp := [] }
    (State.holderReset { s with cp := cp } .host 2 0).irq 3
  else s

/-- A window access in flight ends at a mode entry, with POWERED_DOWN (R74). -/
def State.windowCut (s : State) : State :=
  if s.cp.win.busy then
    State.irq { s with cp := { s.cp with win := { s.cp.win with busy := false, done := true, code := 2 } } } 2
  else s

/-- The session's end at an entry to SUPERVISE, BOOT or FALLBACK: MODE_RESULT reads 0 when a session ended (R52, R74). -/
def State.sessModeEnd (s : State) : State :=
  let cut := s.cp.sess.active
  let s := (s.sessEnd false).windowCut
  if cut then { s with cp := { s.cp with modeResult := {} } } else s

/-! ### Entry to SUPERVISE, BOOT and FALLBACK -/

/-- A scribe command ends: RESULT, the COUNT of a DRAIN or POISON, the DATA that a READ returns, and the DOMAIN record of any
command other than READ (R684, R693). -/
def State.scrEnd (s : State) (c : ScrCmd) (code count : Nat) (data : Option Word) : State :=
  let counts := c.op = 4 ∨ c.op = 5
  let s : State := { s with scr := none }
  let s :=
    if c.joist then
      let s := s.setFld F.PWR_SCR_STAT_RESULT code
      let s := match data with
        | some v => s.setReg Reg.PWR_SCR_DATA v
        | none => s
      if counts then s.setFld F.PWR_SCR_COUNT count else s
    else
      { s with cp := { s.cp with
          scrResult := BitVec.ofNat 4 code
          scrData := data.getD s.cp.scrData
          scrCount := if counts then BitVec.ofNat 16 count else s.cp.scrCount } }
  if c.op = 1 then s
  else
    s.pushLog 0x0D ([BitVec.ofNat 8 c.node, BitVec.ofNat 8 c.op, BitVec.ofNat 8 code,
      BitVec.ofNat 8 (b2n c.joist), c.level] ++ leBytes count 2 ++ [BitVec.ofNat 8 (b2n (code == 8))])

/-- A mode entry ends every hold and every bypass, and a running command ends MODE (R696). -/
def State.scribeCut (s : State) : State :=
  let s := match s.scr with
    | none => s
    | some c => s.scrEnd c 6 0 none
  { s with held := [], stopHeld := [], ni := s.ni.map fun x => { x with bypass := false } }

/-- The on-time of every channel is copied into the wear area (R657). -/
def State.lampCopy (s : State) : State :=
  if s.domOn Dom.lineio then { s with wear := { s.wear with lamp := s.lio.stb.map fun c => c.onNow s.now } } else s

/-- What every entry to SUPERVISE, BOOT or FALLBACK clears (R34, R96, R106, R107, R138, R145, R190, R243, R290, R349, R373, R394,
R457, R550, R617, R633, R693). -/
def State.modeClear (s : State) : State :=
  let s := (s.marksClear.strobesOff s.now).prsStop.encStop
  let s := { s with lio := { s.lio with expos := [], expoOn := false, wins := [] } }.captureOff
  let s := ((s.ingestClear.trsEmpty).tlyClear).egrClear.krfClear
  let s := ((s.dynDown.niClear).uartsModeEntry).pegsClear
  let s := s.sessModeEnd.scribeCut.ladderSupersede
  let s := ((s.setReg Reg.PWR_DOM_OFF_A 0).setReg Reg.PWR_DOM_OFF_B 0).setReg Reg.PWR_DOM_OFF_C 0
  { s with role := false, ladder := .s0, phase := .stable, lad := {} }

/-- Everything that the switched domains hold is lost (R36, R616): the AON state alone stays. -/
def State.coreLose (s : State) : State :=
  let s := s.seqLose
  let s := s.resetRegs 0x1000000 0x1000000000
  let s := ((s.setFld F.MEMC_STAT_TRAINED 0).setUart 1 {}).memcLose
  { s with dom := Vector.replicate 76 .off, lio := { ilkLow := s.lio.ilkLow }, ing := {}, egr := {}, dyn := {}, trs := {}, tly := {}
           stamp := {}, jig := {}, memc := { s.memc with errs := [], scrub := 0 }, ni := Vector.replicate 16 {}
           rings := Vector.replicate 12 (Vector.replicate 16 {}) }

/-- The root PLL is off (R638). -/
def State.pllOff (s : State) : State :=
  let s := (s.setFld F.CLK_STAT_LOCKED 0).setFld F.CLK_STAT_SWITCHING 0
  let s := (s.setFld F.CLK_STAT_HOLDOVER 0).setFld F.CLK_STAT_REF 0
  { s with clk := { s.clk with run := false } }

/-- The head enters SUPERVISE: every domain is off and PAGE is 0 (R17, R30, R36). -/
def State.superviseEntry (s : State) : State :=
  let s := ((s.modeClear).coreLose.pllOff).setMode .supervise false
  { s with cp := { s.cp with page := 0 }, transit := none }

/-- The tasks at an entry to BOOT: every register, PC and WMASK 0 and every task OFF; timers count on (R294, R328, R334). -/
def State.tasksBoot (s : State) : State :=
  let z (n : Fin 8) : Task :=
    let t := s.tasks[n]
    { gen := t.gen + 1, live := t.gen + 1, timerOn := t.timerOn }
  let s : State := { s with tasks := Vector.ofFn z, taskSt := Vector.replicate 8 .off, ranUnits := 0 }
  (List.finRange 8).foldl (fun s (n : Fin 8) => s.setFld (F.SEQ_Tn_WMASK n) 0) s

/-- The head enters BOOT (R21, R294, R328, R525, R550, R562, R665): the companding table ends, far memory is untrained,
the pins and UART1 take their reset values, and the start watchdog runs. From FALLBACK the encoders count again (R96). -/
def State.bootEntry (s : State) : State :=
  let fb := s.mode == .fallback
  let s := s.modeClear.tasksBoot.uart1Reset
  let s : State := { (if fb then s.encStart else s) with stamp := {} }
  let s := (s.pinsReset s.now).setFld F.EGR_CFG_HEAD_ID s.headId
  let s := (s.setFld F.MEMC_STAT_TRAINED 0).setFld F.PWR_BOOT_STAT_PHASE 1
  let s : State := { s with ing := { s.ing with cmp := none }, jig := { s.jig with st := .unconf, rt := none, rtWait := [], rm := [] }
                            sup := { s.sup with attempt := true, retryDue := false }, transit := none }
  s.treesStop.setMode .boot false

/-- UART1 as the console of FALLBACK: its reset settings, with both directions enabled (R571). -/
def State.uart1Console (s : State) : State := (s.uart1Reset.raise (F.UAn_CFG_RX_EN 1)).raise (F.UAn_CFG_TX_EN 1)

/-- The head enters FALLBACK with a reason: PLATE, SILL and LINEIO run, and every other domain is off (R33, R570, R755). -/
def State.fallbackEntry (s : State) (reason : Nat) : State :=
  let s := s.modeClear
  let keep (d : Fin 76) : Bool := d == Dom.plate || d == Dom.sill || d == Dom.lineio
  let s := (List.finRange 76).foldl (fun s d => if keep d then s.setDom d .on else s.domOff d) s
  let s := ((s.uart1Console).setMode .fallback false).irq 4
  { s with cp := { s.cp with fbReason := BitVec.ofNat 8 reason }, sup := { s.sup with attempt := false, retryDue := false }
           transit := none }

/-- The head enters SETUP at the end of a start (R565): the counter and FB_REASON clear, LCLK counts TIME from here, and the
encoders and the presence receiver start (R96, R138). -/
def State.setupEntry (s : State) : State :=
  let s := s.setMode .setup false
  let s := State.encStart { s with cp := { s.cp with bootCnt := 0, fbReason := 0 }, sup := { s.sup with attempt := false }
                                   bootEnd := s.now }
  s.prsSettle

/-! ### Capture entry and exit (R37 to R41, R100, R102, R106, R135, R422) -/

/-- The preconditions of Table 2-3: the DETAIL of the first failing row. An encoder without its balls is not selected (R98). -/
def State.capturePre (s : State) (m : Mode) (role : Bool) : Option Nat :=
  let sel := s.fld F.ENC_TRIG_CFG_SEL
  let chosen := sel != 3 && (sel != 2 || s.encBalls 2)
  let track := chosen && s.lio.divN != 0 && s.lio.divM != 0
  let own : Option Nat :=
    match m with
    | .freeRun => if s.fld F.ENC_LTIMER_LTIMER = 0 then some 2 else none
    | .track => if track then none else some 1
    | .lockstep =>
      if role then (if !s.dyn.up.trained then some 3 else if !s.dyn.calDone then some 4 else none)
      else if !track then some 1 else if !s.dyn.dn.trained then some 3 else none
    | _ => none
  match own with
  | some d => some d
  | none => if s.ladder == .s0 && s.phase == .stable then none else some 6

/-- A capture mode takes effect at an LCLK edge: the HWM and ACC of TRACK and of a LOCKSTEP master are loaded, the line
timer counts from here, and GATE_EN is read (R37, R38, R100, R102, R135). -/
def State.captureStart (s : State) (m : Mode) (role : Bool) (t : Nat) : State :=
  let low := s.ilk
  let s := ((s.atT t).setMode m role)
  let s : State := { s with capture := true, transit := none }
  let s := s.applyDiv
  let track := m == .track || (m == .lockstep && !role)
  let ph := s.fld F.ENC_DIV_PHASE_PHASE
  let s := if track then
      State.raiseIf { s with lio := { s.lio with hwm := s.trigPos, acc := if ph < s.lio.divN then ph else 0 } }
        (decide (s.lio.divN ≤ ph)) F.ENC_ERR_PHASE
    else s
  let per := s.fld F.ENC_LTIMER_LTIMER
  let s := { s with lio := { s.lio with ltBase := t, ltNext := if m = Mode.freeRun ∧ per ≠ 0 then some (t + per) else none } }
  let s := { s with dyn := { s.dyn with prevTarget := none, lastTarget := none, awaiting := [], lastNum := none, posFor := none
                                        freewheel := false, stopped := false, fwLines := 0
                                        lost := s.dyn.lost && role } }
  (s.gateEntry.clearEncFlags).ilkSettle low

/-- CAPTURE_ENTRY: the accepted capture mode takes effect (R35, R37). -/
def execCaptureEntry (t : Nat) (s : State) : Host.Outcome State Fault Refusal :=
  match s.transit with
  | some tr =>
    if s.mode = .setup ∧ tr.target.isCapture ∧ !s.lad.modeWait then
      .next ((s.captureStart tr.target tr.role t).report tr.by_ 2 0)
    else .next s
  | none => .next s

/-- The request for SETUP waits for no frame: with NOW, or once the frame that it found open has ended, its record
written (R39, R40, R182). -/
def State.frameOver (s : State) (tr : Transit) : Bool :=
  tr.now || match tr.frame with
    | some f => s.ing.frames.all fun x => x.num != f
    | none => s.ing.frames.isEmpty

/-- CAPTURE_EXIT: the request for SETUP takes effect at an LCLK edge: once the current frame has ended, at once when no frame
is open, or at once with NOW. A frame that still takes lines then closes early. A frame opened between a request that found
none and this edge is the current frame, and the request waits for it (R39, R40, R51, R145, R182, log 40). -/
def execCaptureExit (t : Nat) (s : State) : Host.Outcome State Fault Refusal :=
  match s.transit with
  | some tr =>
    if s.mode.isCapture ∧ tr.target = .setup ∧ !s.lad.modeWait then
      if s.frameOver tr then
        let s := s.atT t
        let s := if s.frameTaking then s.frameClose true false else s
        let s : State := { (s.captureOff.strobesQuit t) with transit := none }
        .next ((s.setMode .setup false).reportAll tr 2)
      else if tr.frame = none then .next { s with transit := some { tr with frame := s.openFrame } }
      else .next s
    else .next s
  | none => .next s

end Sys2Proof.Machine
end

