-- ==== Sys2Proof/Machine/Rails.lean ====
section
/-! DEFINITION. The rails (Chapter 23, R579 to R597, R601): up and down sequences, faults and reactions, warnings,
episodes, SEQ_IN and SEQ_OUT, attempts, failed starts, and the return to SUPERVISE. -/

namespace Sys2Proof.Machine

/-! ### Sets of rails (R582) -/

/-- Rails that name a member of a set in PARENT. -/
def State.children (s : State) (m : BitVec 24) : BitVec 24 :=
  (List.finRange 24).foldl (fun a r =>
    if (s.rails[r]).entry.parent &&& m = 0 then a else a ||| BitVec.ofNat 24 (2 ^ r.val)) 0

/-- A set with everything that hangs on it. -/
def State.withCone (s : State) (m : BitVec 24) : Nat → BitVec 24
  | 0 => m
  | n + 1 => s.withCone (m ||| s.children m) n

/-- One rail as a set. -/
def railBit (r : Fin 24) : BitVec 24 := BitVec.ofNat 24 (2 ^ r.val)

/-- The cone of a rail. -/
def State.cone (s : State) (r : Fin 24) : BitVec 24 := s.withCone (s.children (railBit r)) 24

/-- The rails with the PARENT masks that sequences in progress, and rails in service, have taken (R613). -/
def State.taken (s : State) : State :=
  let rest (x : Rail) : Bool := x.st == .off || x.st == .failed || x.st == .blocked
  let put (x : Rail) : Rail := if rest x then x else { x with entry := { x.entry with parent := x.act.parent } }
  { s with rails := s.rails.map put }

/-- The cone of a rail by those masks. -/
def State.liveCone (s : State) (r : Fin 24) : BitVec 24 := s.taken.cone r

/-- Rails 0 to 5. -/
def coreRails : BitVec 24 := 0x3F

/-- Rails that a predicate names, as a mask. -/
def State.railMask (s : State) (p : Rail → Bool) : BitVec 24 :=
  (List.finRange 24).foldl (fun a r => if p (s.rails[r]) then a ||| railBit r else a) 0

/-- PEN is asserted. -/
def Rail.pen (x : Rail) : Bool := x.st == .ramp || x.st == .good

/-- PEN is deasserted and the rail does not discharge. -/
def Rail.isOff (x : Rail) : Bool :=
  x.st == .off || x.st == .failed || x.st == .blocked || x.st == .waitParent || x.st == .delay

/-- Rails 0 to 5 are GOOD. -/
def State.coreGood (s : State) : Bool := coreRails &&& ~~~(s.railMask fun x => x.st == .good) == 0

/-- Rails 0 to 5 are down. -/
def State.coreDown (s : State) : Bool := coreRails &&& ~~~(s.railMask fun x => x.isOff) == 0

/-- Every rail is off. -/
def State.allDown (s : State) : Bool := (s.railMask fun x => !x.isOff) == 0

/-- Change every rail of a set. -/
def State.onRails (s : State) (m : BitVec 24) (g : Rail → Rail) : State :=
  let put (r : Fin 24) : Rail := if inMask m r then g (s.rails[r]) else s.rails[r]
  { s with rails := Vector.ofFn put }

/-- SEQ_OUT is asserted (R597). -/
def State.seqOut (s : State) : Bool :=
  s.sup.loaded && s.sup.seq != 2 && (s.railMask fun x => x.latched || (x.entry.en && x.st != .good)) == 0

/-- SUP_STATE.ROLE: this head is a bus master. -/
def State.viewSupState (s : State) : Nat :=
  s.sup.seq.toNat + 8 * b2n s.sup.seqIn + 16 * b2n s.seqOut + 32 * b2n s.busMaster + 64 * b2n s.sup.sysHalt + 128 * b2n s.sup.epiOpen

/-! ### Faults, episodes and their records (R590, R601, R607) -/

/-- Set bits of SUP_EV. -/
def State.supEv (s : State) (m : BitVec 6) : State := { s with sup := { s.sup with ev := s.sup.ev ||| m } }

/-- A fault opens an episode when none is open, counts in it, and is a supervisor warning (R596, R601). -/
def State.episode (s : State) (r : Fin 24) : State :=
  let p := s.sup
  let p := if p.epiOpen then { p with epiFaults := p.epiFaults + 1 }
    else { p with epiOpen := true, epiNum := p.epiNum + 1, epiRail := BitVec.ofNat 5 r.val, epiTime := s.aonMs, epiFaults := 1 }
  (State.supEv { s with sup := p } 1).supervisorWarning

/-- Payload bytes 6 to 12 of a RAIL_FAULT or RAIL_RETRY record. -/
def State.episodeBytes (s : State) : List Byte :=
  leBytes s.sup.epiNum.toNat 2 ++ [s.sup.epiRail.setWidth 8] ++
    leBytes (min (s.aonMs - s.sup.epiTime).toNat 0xFFFFFFFF) 4

/-- A fault with its RAIL_FAULT record: cause 1 UV, 2 OV, 3 PG_TMO, 4 DISCHARGE; phase 0 UP, 1 RUN, 2 DOWN; and the reaction
codes of Table 23-7. -/
def State.railFault (s : State) (r : Fin 24) (cause phase react : Nat) : State :=
  let s := s.episode r
  let s := s.setRail r { s.rails[r] with cause := BitVec.ofNat 3 cause }
  s.pushLog 0x02 ([BitVec.ofNat 8 r.val, BitVec.ofNat 8 cause, BitVec.ofNat 8 phase, BitVec.ofNat 8 react] ++
    leBytes (s.rails[r]).mv.toNat 2 ++ s.episodeBytes)

/-- The RAIL_RETRY record of a retry that has ended (R591). -/
def State.retryRecord (s : State) (r : Fin 24) (good : Bool) : State :=
  let x := s.rails[r]
  s.pushLog 0x03 ([BitVec.ofNat 8 r.val, BitVec.ofNat 8 x.retries, BitVec.ofNat 8 (b2n good), 0] ++
    leBytes x.offMs 2 ++ s.episodeBytes)

/-! ### The bus frames of this head (R598, R600) -/

/-- A bus frame (Table 23-3). -/
def busFrame (dst src cmd tag : Byte) (payload : List Byte) : List Byte :=
  let body := [dst, src, cmd, tag, BitVec.ofNat 8 payload.length] ++ payload
  0x55 :: body ++ leBytes (crc16 body).toNat 2

/-- A frame goes to the supervisor agent's transmitter on UART0 (R548). -/
def State.busSend (s : State) (dst cmd tag : Byte) (payload : List Byte) : State :=
  let u := s.uart[0]
  s.setUart 0 { u with agent := u.agent ++ busFrame dst (BitVec.ofNat 8 s.headId) cmd tag payload }

/-- A BUS record (Table 23-7). -/
def State.busRecord (s : State) (sent : Bool) (cmd peer res : Nat) : State :=
  s.pushLog 0x08 [BitVec.ofNat 8 (b2n sent), BitVec.ofNat 8 cmd, BitVec.ofNat 8 peer, BitVec.ofNat 8 res]

/-! ### Sequences (R583 to R589) -/

/-- An up sequence starts: each rail with EN set that is OFF, or BLOCKED, and has no latched fault waits for its parents. -/
def State.upStart (s : State) : State :=
  let g (x : Rail) : Rail :=
    if x.entry.en && !x.latched && (x.st == .off || x.st == .blocked) then { x with st := .waitParent, act := x.entry } else x
  State.railsWait (State.onRails { s with sup := { s.sup with seq := 1 } } 0xFFFFFF g) 24

/-- One rail joins a down sequence: a rail with PEN asserted waits for its turn, or goes off at once; one that has not
started, and a retry, returns to OFF (R586, R589, R611). -/
def Rail.downJoin (fast : Bool) (x : Rail) : Rail :=
  let x := { x with retrying := false, act := x.entry }
  if x.pen then { x with inDown := true, st := if fast then .discharge else x.st }
  else if x.st = .discharge then { x with inDown := true }
  else { x with st := .off }

/-- A down sequence over a set, of which a part goes off at once (R586, R592). -/
def State.downStart (s : State) (set fast : BitVec 24) : State :=
  let s := State.onRails { s with sup := { s.sup with seq := 2 } } (set &&& ~~~fast) (Rail.downJoin false)
  s.onRails fast (Rail.downJoin true)

/-- FALLBACK is entered, or kept, while the rails are on their way down: the down sequence ends and its rails come up again
(log 30). -/
def State.railsBack (s : State) : State :=
  if s.sup.seq = 2 then
    let back (x : Rail) : Rail := { x with inDown := false, st := if x.st == .discharge then .off else x.st }
    State.upStart (s.onRails 0xFFFFFF back)
  else s

/-- A full down begins: a master with AUTO_BCAST set broadcasts DOWN (R587, R600). -/
def State.fullDown (s : State) : State :=
  let s := if s.busMaster && s.sup.casc.getLsbD 2 then (s.busSend 0xFF 2 0 []).busRecord true 2 0xFF 0 else s
  s.downStart 0xFFFFFF 0

/-! ### Attempts, failed starts and the return to SUPERVISE (R35, R36, R562, R567, R568) -/

/-- An entry to SUPERVISE, BOOT or FALLBACK that a request asked for: a requester that the entry removes sees no result
(R52, R74). -/
def State.enterFor (s : State) (who : Requester) (enter : State → State) : State :=
  let kept := who == .host && !s.cp.sess.active
  let s1 := enter s
  if kept then s1.report .host 2 0
  else if who = .joist then { s1 with joistResult := {} } else s1

/-- The head goes to SUPERVISE: a transition in progress is superseded, the attempt stops, and the down set is rails 0 to 5
with their cones, or every rail (R36, R48, R587). -/
def State.superviseStart (s : State) (who : Requester) (full : Bool) : State :=
  let s := s.supersede.lampCopy
  let s : State := { s with sup := { s.sup with attempt := false } }
  let s := if s.mode = .supervise then s
    else
      let s := s.ladderSupersede
      State.modeRecord { s with transit := some { target := .supervise, by_ := who } } .supervise who false false
  if full then s.fullDown else s.downStart (s.withCone coreRails 24) 0

/-- An attempt begins (R562): BOOTS counts it, and rails come up for a start. A request that has waited for it is the
transition in progress already. -/
def State.attemptStart (s : State) (who : Requester) : State :=
  let s := if s.transit.isSome then s
    else State.modeRecord { s with transit := some { target := .boot, by_ := who } } .boot who false false
  let s : State := { s with sup := { s.sup with attempt := true, retryDue := false }
                            log := { s.log with boots := s.log.boots + 1 } }
  (s.setFld F.PWR_BOOT_STAT_PHASE 1).upStart

/-- The supervisor may begin an attempt now: in SUPERVISE, with no down sequence in progress. -/
def State.mayAttempt (s : State) : Bool :=
  let free := match s.transit with
    | some tr => tr.target == .boot
    | none => true
  s.mode == .supervise && free && !s.sup.attempt && s.sup.loaded && !s.sup.sysHalt && s.sup.seq != 2

/-- The start trigger has come to stand: an attempt begins, or follows the down sequence in progress (R568, R611). -/
def State.triggerStands (s : State) (who : Requester) : State :=
  if s.mayAttempt then s.attemptStart who
  else { s with sup := { s.sup with retryDue := true } }

/-- A failed start (R567): FALLBACK at the threshold when BOOT has been entered, else SUPERVISE, with the next attempt due
while the trigger stands (log 28). -/
def State.failedStart (s : State) (reason step : Nat) : State :=
  let c := min 7 (s.cp.bootCnt.toNat + 1)
  let s := s.pushLog 0x06 [BitVec.ofNat 8 reason, BitVec.ofNat 8 c, BitVec.ofNat 8 (s.fld F.PWR_BOOT_RES_A),
    BitVec.ofNat 8 (s.fld F.PWR_BOOT_RES_B), BitVec.ofNat 8 step]
  let s := { s with cp := { s.cp with bootLast := BitVec.ofNat 8 reason, bootCnt := BitVec.ofNat 3 c }
                    sup := { s.sup with attempt := false, retryDue := true }
                    boot := { s.boot with failedSlot := if step < 7 then none else s.boot.failedSlot } }
  let s := s.setFld F.PWR_BOOT_STAT_PHASE step
  if s.bootThresh ≤ c ∧ s.mode = .boot then
    ((s.supersede).modeRecord .fallback .caused false false).fallbackEntry reason
  else s.superviseStart .caused false

/-- The sequence in progress ends when its last rail is settled (R585, R586). -/
def State.seqEnd (s : State) : State :=
  let busy := s.railMask fun x => x.st == .waitParent || x.st == .delay || x.st == .ramp
  let downs := s.railMask fun x => x.inDown && !x.isOff
  if s.sup.seq = 1 ∧ busy = 0 then State.supEv { s with sup := { s.sup with seq := 0 } } 32
  else if s.sup.seq = 2 ∧ downs = 0 then
    State.onRails { s with sup := { s.sup with seq := 0 } } 0xFFFFFF (fun x => { x with inDown := false })
  else s

/-- BOOT is entered when rails 0 to 5 are GOOD, and SUPERVISE when they are down (Table 2-2). -/
def State.railsMode (s : State) : State :=
  match s.transit with
  | some tr =>
    if tr.target = .boot ∧ s.mode = .supervise ∧ s.sup.attempt ∧ s.coreGood then s.enterFor tr.by_ State.bootEntry
    else if tr.target = .supervise ∧ s.mode ≠ .supervise ∧ s.coreDown then s.enterFor tr.by_ State.superviseEntry
    else s
  | none => s

/-- SYSTEM reactions of the last 600 s, in ms of the AON counter. -/
def State.sysRecent (s : State) : List Nat :=
  let old := 600000
  s.sup.sysTimes.filter fun t => decide (s.aonMs.toNat < t + old)

/-- Once every rail is off after a SYSTEM reaction: a restart, or SYS_HALT (R594). -/
def State.sysSettle (s : State) : State :=
  if s.sup.sysDown && s.allDown then
    let p := { s.sup with sysDown := false, sysTimes := s.sysRecent }
    if s.sysRecent.length < 4 then { s with sup := { p with trigReq := true, retryDue := true } }
    else { s with sup := { p with sysHalt := true } }
  else s

/-- What follows a change of the rails: children start, sequences end, and BOOT or SUPERVISE is entered (R583, R585, R594). -/
def State.railsSettle (s : State) : State := ((s.railsWait 24).seqEnd).railsMode.sysSettle

/-- SYSTEM: a full down, and a restart or SYS_HALT once every rail is off (R594). -/
def State.systemDown (s : State) : State :=
  let s : State := { s with sup := { s.sup with sysDown := true, sysTimes := s.sup.sysTimes ++ [s.aonMs.toNat] } }
  (s.superviseStart .caused true).railsSettle

/-! ### Reactions (R584, R588, R590 to R595) -/

/-- The down set of a GROUP reaction (R592). -/
def State.groupSet (s : State) (r : Fin 24) : BitVec 24 :=
  let g := (s.rails[r]).entry.group
  let shared := s.railMask fun x => x.entry.group &&& g != 0
  s.withCone (shared ||| railBit r) 24

/-- The reaction in force: 0 IGNORE, 1 RETRY, 2 GROUP, 3 SYSTEM, 4 FAILED_START (R591, R593). -/
def State.effReact (s : State) (r : Fin 24) : Nat :=
  let x := s.rails[r]
  let base := if x.entry.react = 1 ∧ 3 ≤ x.retries then 2 else x.entry.react.toNat
  let set : BitVec 24 := if base = 0 then 0 else if base = 1 then railBit r else s.groupSet r
  let eff := if base = 3 ∨ set &&& coreRails ≠ 0 then 3 else base
  if eff = 3 ∧ s.sup.attempt then 4 else eff

/-- A reaction is carried out. -/
def State.react (s : State) (r : Fin 24) (code : Nat) : State :=
  let x := s.rails[r]
  if code = 1 then
    s.setRail r { x with st := .retryOff, retrying := true, offMs := 10 * 2 ^ x.retries, retries := x.retries + 1 }
  else if code = 2 then
    let set := s.groupSet r
    ((s.onRails set fun x => { x with latched := true }).downStart set (railBit r ||| s.cone r)).railsSettle
  else if code = 3 then s.systemDown
  else if code = 4 then (s.failedStart 3 (s.fld F.PWR_BOOT_STAT_PHASE)).railsSettle
  else s

/-- Rail 5 leaves GOOD: the outputs of the VIO33 bank go to high impedance; a strobe pulse cut this way yields no result
(R724). -/
def State.bankCut (s : State) (r : Fin 24) (code : Nat) : State :=
  if r.val = 5 ∧ code ≠ 0 then
    let s := (List.finRange 8).foldl (fun s n => s.gateOff n s.now .interlock) s
    { s with lio := { s.lio with marks := s.lio.marks.map fun m => { m with out := false } } }
  else s

/-- A running fault (R590). -/
def State.runningFault (s : State) (r : Fin 24) (cause : Nat) : State :=
  let code := s.effReact r
  ((s.railFault r cause 1 code).bankCut r code).react r code

/-- A retry fails: its record, and a further running fault (R591); a RETRY that goes on writes no second record (log 28). -/
def State.retryFailed (s : State) (r : Fin 24) (cause : Nat) : State :=
  let s := s.setRail r { s.rails[r] with st := .off, retrying := false, cause := BitVec.ofNat 3 cause }
  let code := s.effReact r
  let s1 := (s.episode r).retryRecord r false
  if code = 1 then s1.react r 1
  else
    let s2 := s.railFault r cause 1 code
    let s3 := s2.retryRecord r false
    s3.react r code

/-- A rail fails to come up (R584): it is FAILED, its cone is BLOCKED, and during an attempt the start fails where R566
says so. Rails 0 and 1 on the way out of S5 fail a start too (R631). -/
def State.failUp (s : State) (r : Fin 24) (cause : Nat) : State :=
  let core := decide (r.val < 6) || (s.rails[r]).entry.react == 3
  let s5 := decide (r.val < 2) && !s.lad.s5Down.isEmpty
  let start := (s.sup.attempt && core) || s5
  let cone := s.liveCone r
  let s := s.railFault r cause 0 (if start then 4 else 6)
  let s := s.setRail r { s.rails[r] with st := .failed, latched := true }
  let s := s.onRails cone fun x => if x.pen || x.st == .discharge then x else { x with st := .blocked }
  let s := if s5 then s.modeUnwoken else s
  if start then (s.failedStart 3 (s.fld F.PWR_BOOT_STAT_PHASE)).railsSettle else s.railsSettle

/-- A fault in a down sequence: the rail and its cone go off at once (R588). -/
def State.downCut (s : State) (r : Fin 24) (cause : Nat) : State :=
  let s := s.railFault r cause 2 5
  (s.onRails (railBit r ||| s.liveCone r) fun x => if x.pen then { x with st := .discharge, inDown := true } else x).railsSettle

/-- A rail named in a parent chain is under RETRY: faults of its cone get no reaction (R595). -/
def State.ancestorRetries (s : State) (r : Fin 24) : Bool :=
  (List.finRange 24).any fun p => (s.rails[p]).retrying && inMask (s.liveCone p) r

/-! ### The commands -/

/-- The supervisor runs: VAON is up and the table is loaded. -/
def State.supRuns (s : State) : Bool := s.mode != .unpowered && s.sup.loaded

/-- RAIL_ON_DELAY: ON_DLY ends and PEN asserts (R583). -/
def execRailOnDelay (r : Fin 24) (s : State) : Host.Outcome State Fault Refusal :=
  let x := s.rails[r]
  if s.supRuns && x.st == .delay then .next (s.setRail r { x with st := .ramp }) else .next s

/-- RAIL_GOOD: the rail has stayed in its window for DEGLITCH; it is GOOD even on the edge of PG_TMO (R583, R611). -/
def execRailGood (r : Fin 24) (s : State) : Host.Outcome State Fault Refusal :=
  let x := s.rails[r]
  if s.supRuns && x.st == .ramp && !x.inDown then
    let s1 := s.setRail r { x with st := .good, retrying := false, armed := true }
    let s2 := if x.retrying then s1.retryRecord r true else s1
    .next s2.railsSettle
  else .next s

/-- RAIL_PG_TIMEOUT: not GOOD within PG_TMO; no fault while an ancestor is under RETRY (R584, R591, R595). -/
def execRailPgTimeout (r : Fin 24) (s : State) : Host.Outcome State Fault Refusal :=
  let x := s.rails[r]
  if s.supRuns && x.st == .ramp && !x.inDown && !s.ancestorRetries r then
    if x.retrying then .next (s.retryFailed r 3) else .next (s.failUp r 3)
  else .next s

/-- RAIL_FAULT_CONDITION: UV or OV has persisted for DEGLITCH; par says that a parent's fault falls on the same edge
(R581, R588, R590, R595, R611). The UV comparator is watched while the rail is GOOD, the OV comparator while EN is set. -/
def execRailFaultCondition (r : Fin 24) (ov par : Bool) (s : State) : Host.Outcome State Fault Refusal :=
  let x := s.rails[r]
  let cause := if ov then 2 else 1
  if !s.supRuns || !x.entry.en then .next s
  else if x.inDown && (x.st == .good || (ov && !x.isOff)) then .next (s.downCut r cause)
  else if s.ancestorRetries r then .next s
  else if x.st = .ramp ∧ ov then
    if x.retrying then .next (s.retryFailed r 2) else .next (s.failUp r 2)
  else if x.st = .good then
    if par then .next (s.railFault r cause 1 6) else .next (s.runningFault r cause)
  else .next s

/-- RAIL_OFF_DELAY: every rail of the cone in the down set is off, OFF_DLY ends, and PEN deasserts (R586). -/
def execRailOffDelay (r : Fin 24) (s : State) : Host.Outcome State Fault Refusal :=
  let x := s.rails[r]
  let waits := (s.liveCone r) &&& (s.railMask fun y => y.inDown && !y.isOff)
  if s.supRuns && x.inDown && x.pen && waits == 0 then .next (s.setRail r { x with st := .discharge }) else .next s

/-- RAIL_DISCHARGE_TIMEOUT: 10 ms after PEN deasserted the rail counts as off, with a DISCHARGE fault (R586). -/
def execRailDischargeTimeout (r : Fin 24) (s : State) : Host.Outcome State Fault Refusal :=
  if s.supRuns && (s.rails[r]).st == .discharge then
    let s1 := s.railFault r 4 2 6
    .next (s1.setRail r { s1.rails[r] with st := .off }).railsSettle
  else .next s

/-- RAIL_RETRY_ON: the off time ends and PEN asserts again (R591). -/
def execRailRetryOn (r : Fin 24) (s : State) : Host.Outcome State Fault Refusal :=
  let x := s.rails[r]
  if s.supRuns && x.st == .retryOff then .next (s.setRail r { x with st := .ramp }) else .next s

/-- RETRIES_CLEAR: 10 s with no fault on the rail (R591). -/
def execRetriesClear (r : Fin 24) (s : State) : Host.Outcome State Fault Refusal :=
  let x := s.rails[r]
  if s.supRuns && !x.retrying then .next (s.setRail r { x with retries := 0 }) else .next s

/-- A reading outside WARN_MV of a GOOD rail: one WARN record per rail in 1,000 ms, WARN_CNT for the rest (R596). -/
def State.railWarn (s : State) (r : Fin 24) : State :=
  let x := s.rails[r]
  let again := match x.warnMs with
    | some t => decide ((s.aonMs - t).toNat < 1000)
    | none => false
  if again then
    let s := State.supervisorWarning { s with sup := { s.sup with warnCnt := s.sup.warnCnt + 1 } }
    (s.setRail r { x with armed := false }).supEv 2
  else
    (s.setRail r { x with armed := false, warnMs := some s.aonMs }).warn 0
      ([BitVec.ofNat 8 r.val] ++ leBytes x.mv.toNat 2 ++ leBytes x.act.nom.toNat 2)

/-- A conversion of one VMON input: MV takes it; a discharging rail below a tenth of NOM_MV is off; a GOOD rail may warn
(R581, R586, R596). -/
def State.railReading (s : State) (r : Fin 24) (mv : BitVec 12) : State :=
  let s1 := s.setRail r { s.rails[r] with mv := mv }
  let x := s1.rails[r]
  let off := (mv.toNat : Int) - x.act.nom.toNat
  let out := x.entry.warn != 0 && decide (x.entry.warn.toNat < off.natAbs)
  if x.st = .discharge ∧ mv.toNat * 10 < x.act.nom.toNat then (s1.setRail r { x with st := .off }).railsSettle
  else if x.st = .good ∧ out then (if x.armed then s1.railWarn r else s1)
  else s1.setRail r { x with armed := true }

/-- A conversion of VAON itself: below 3.050 V VAON_LOW sets, with one WARN record of source 7 until a reading of 3.100 V
(R751). -/
def State.vaonReading (s : State) (mv : BitVec 12) : State :=
  let s1 := s.setFld F.PWR_AON_STAT_VAON_MV mv.toNat
  if mv.toNat < 3050 then
    let s2 := s1.raise F.PWR_AON_STAT_VAON_LOW
    if s2.sup.vaonArmed then
      (State.warn { s2 with sup := { s2.sup with vaonArmed := false } } 7 ([0] ++ leBytes mv.toNat 2))
    else s2
  else if 3100 ≤ mv.toNat then { s1 with sup := { s1.sup with vaonArmed := true } } else s1

/-- RAIL_SAR_READING: a conversion of VMON input ch, or of VAON with ch = 24 (R596, R751). -/
def execRailSarReading (ch : Fin 25) (mv : BitVec 12) (s : State) : Host.Outcome State Fault Refusal :=
  if !s.supRuns then .next s
  else if h : ch.val < 24 then .next (s.railReading ⟨ch.val, h⟩ mv) else .next (s.vaonReading mv)

/-- EPISODE_CLOSE: 1,000 ms with no fault and no rail in RAMP under RETRY (R601). -/
def execEpisodeClose (s : State) : Host.Outcome State Fault Refusal :=
  let retry := s.railMask fun x => x.st == .ramp && x.retrying
  if s.supRuns && s.sup.epiOpen && retry == 0 then
    let offs := s.railMask fun x => x.entry.en && !x.pen
    let s1 := s.pushLog 0x04 (leBytes s.sup.epiNum.toNat 2 ++ [s.sup.epiRail.setWidth 8,
      BitVec.ofNat 8 (min s.sup.epiFaults 255)] ++ leBytes offs.toNat 3 ++ leBytes (s.aonMs - s.sup.epiTime).toNat 4)
    .next (State.supEv { s1 with sup := { s1.sup with epiOpen := false } } 4)
  else .next s

/-- SEQ_IN_ASSERT: with SEQ_IN_EN set the start trigger stands (R568, R597). -/
def execSeqInAssert (s : State) : Host.Outcome State Fault Refusal :=
  if s.mode = .unpowered ∨ s.sup.seqIn then .next s
  else
    let en := s.sup.casc.getLsbD 0
    let s1 : State := { s with sup := { s.sup with seqIn := true, trigIn := s.sup.trigIn || en } }
    if en && s1.mode == .supervise then .next (s1.triggerStands .seqIn).railsSettle else .next s1

/-- A DOWN: a full down, and the trigger of an UP or a request is withdrawn (R568, R587, R599). -/
def State.downCommand (s : State) (who : Requester) : State :=
  let s : State := { s with sup := { s.sup with trigReq := false, retryDue := false } }
  (s.superviseStart who true).railsSettle

/-- SEQ_IN_WITHDRAW: SEQ_IN has been deasserted for 10 ms; with SEQ_IN_EN set the trigger is withdrawn as by a DOWN
(R597). -/
def execSeqInWithdraw (s : State) : Host.Outcome State Fault Refusal :=
  if s.mode = .unpowered ∨ !s.sup.seqIn then .next s
  else
    let s1 : State := { s with sup := { s.sup with seqIn := false, trigIn := false } }
    if s.sup.casc.getLsbD 0 then .next (s1.downCommand .seqIn) else .next s1

/-- BOOT_RETRY_TIMER: 100 ms after rails 0 to 5 are down the next attempt begins, while the trigger stands (R568). -/
def execBootRetryTimer (s : State) : Host.Outcome State Fault Refusal :=
  if s.sup.retryDue && s.coreDown && s.mayAttempt && (s.sup.trigIn || s.sup.trigReq) then
    .next (s.attemptStart (if s.sup.trigIn then .seqIn else .caused)).railsSettle
  else .next s

end Sys2Proof.Machine
end

