-- ==== Sys2Proof/Machine/Wear.lean ====
section
/-! DEFINITION. Wear and temperature (Chapter 26): check monitors, the fit and its prediction, thermal steps, and lamp
on-time. -/

namespace Sys2Proof.Machine

/-! ### Check monitors (R648 to R652) -/

/-- Domain of a monitor (Table 26-1): a code of Table 24-1, or 0x7F for AON. -/
def monitorDom (i : Nat) : Nat :=
  if i < 64 then i
  else if i < 68 then 64 else if i < 72 then 65 else if i < 74 then 66 else if i < 76 then 67
  else if i < 78 then 68 else if i < 79 then 69 else if i < 80 then 70 else if i < 82 then 71
  else if i < 84 then 72 else if i < 86 then 73 else if i < 88 then 74 else if i < 90 then 75 else 0x7F

/-- A monitor's domain is ON. -/
def State.monitorOn (s : State) (i : Nat) : Bool :=
  if h : monitorDom i < 76 then s.domOn ⟨monitorDom i, h⟩ else true

/-- Integer square root, one bit at a time from bit n − 1. -/
def isqrtFrom (x : Nat) : Nat → Nat → Nat
  | 0, r => r
  | n + 1, r => if (r + 2 ^ n) * (r + 2 ^ n) ≤ x then isqrtFrom x n (r + 2 ^ n) else isqrtFrom x n r

/-- Floor of the square root of a number below 2^128. -/
def isqrt (x : Nat) : Nat := isqrtFrom x 64 0

/-- h^0.25 in units of 2^-16 (R650). -/
def fourthRoot (h : Nat) : Nat := isqrt (isqrt (h * 2 ^ 64))

/-- A counted sample joins a monitor's sums (R650). -/
def Monitor.count (m : Monitor) (x : Nat) (d : Int) : Monitor :=
  { drift := d, n := m.n + 1, sxd := m.sxd + x * d, sxx := m.sxx + x * x, sdd := m.sdd + (d * d).toNat, xLast := x }

/-- H_i = (800 ÷ a_i)^4 hours, with a_i = S_xd ÷ S_xx; none when a_i is not above 0 (R650). -/
def Monitor.life (m : Monitor) : Option Nat :=
  if m.sxd ≤ 0 then none
  else
    let a := m.sxd.toNat * 2 ^ 16
    some ((800 * m.sxx) ^ 4 / a ^ 4)

/-- r exceeds 1 ÷ q (R651): (S_dd − a·S_xd) ÷ N against (a·x_last)² ÷ q². -/
def Monitor.residualOver (m : Monitor) (q : Nat) : Bool :=
  let a : Int := m.sxd * 2 ^ 16
  let b : Int := m.sxx
  let lhs := q * q * ((m.sdd : Int) * b * 2 ^ 16 - a * m.sxd) * (b * 2 ^ 16)
  let rhs := (m.n : Int) * (a * m.xLast) * (a * m.xLast)
  decide (rhs < lhs)

/-- The worst monitor: the smallest predicted life, the lowest monitor among equals (R650). -/
def State.worst (s : State) : Option (Nat × Nat) :=
  (List.finRange 96).foldl (fun best i =>
    match (s.wear.mons[i]).life, best with
    | none, _ => best
    | some h, none => some (i.val, h)
    | some h, some (j, k) => if h < k then some (i.val, h) else some (j, k)) none

/-- WR_EOL_HOURS and WR_EOL_INFO after a sample (R651, R652). -/
def State.predict (s : State) : State :=
  match s.worst with
  | none => ((s.setReg Reg.WR_EOL_HOURS (if s.wear.eol then 0 else 0xFFFFFFFF)).setReg Reg.WR_EOL_INFO 0)
  | some (i, h) =>
    let m := s.wear.mons.toList.getD i {}
    let conf := if m.n < 168 then 0 else if m.residualOver 5 then 1 else if m.residualOver 20 then 2 else 3
    let left := if conf = 0 then 0xFFFFFFFF else min (h - s.wear.hours) 0xFFFFFFFF
    let left := if s.wear.eol then 0 else left
    (s.setReg Reg.WR_EOL_HOURS (BitVec.ofNat 32 left)).setReg Reg.WR_EOL_INFO
      (BitVec.ofNat 32 (conf + 256 * i + 65536 * monitorDom i))

/-- One monitor at a sample: skipped while its domain is not ON, discarded (none), or counted (R649). -/
def State.sampleOne (s : State) (x : Nat) (i : Fin 96) (d : Option Int) : State :=
  if !s.monitorOn i then s.raise F.WR_STAT_SKIP
  else
    match d with
    | none => s
    | some d => { s with wear := { s.wear with mons := s.wear.mons.set i ((s.wear.mons[i]).count x d) } }

/-- The lowest monitor whose counted drift has reached 800 (R652). -/
def State.worn (s : State) : Option (Fin 96) := (List.finRange 96).find? fun i => decide (800 ≤ (s.wear.mons[i]).drift)

/-- A sample of every monitor: the drift of each, or none where R649 discards it (R648 to R652). -/
def State.sample (s : State) (drifts : List (Option Int)) : State :=
  let x := fourthRoot s.wear.hours
  let s := (List.finRange 96).foldl (fun s i => s.sampleOne x i (drifts.getD i none)) s
  let s := s.raise F.WR_STAT_SAMPLE_EV
  let s := match s.worn with
    | some i =>
      if s.wear.eol then s
      else State.irq (State.warn { s with wear := { s.wear with eol := true } } 3 [BitVec.ofNat 8 i.val]) 6
    | none => s
  s.predict

/-- WEAR_HOUR: rails 0 and 1 have been GOOD for a further hour: the sample is taken, or deferred until S0 is reached, and
the lamp on-times are copied (R648, R657, R660). -/
def execWearHour (drifts : List (Option Int)) (s : State) : Host.Outcome State Fault Refusal :=
  if s.mode = .unpowered ∨ (s.rails[0]).st ≠ .good ∨ (s.rails[1]).st ≠ .good then .next s
  else
    let s := State.lampCopy { s with wear := { s.wear with hours := s.wear.hours + 1 } }
    if s.ladder = .s0 ∧ s.phase = .stable then .next (s.sample drifts)
    else .next { s with wear := { s.wear with due := true } }

/-- WR_CMi (Table 26-6). -/
def State.viewCm (s : State) (i : Fin 96) : Nat :=
  let m := s.wear.mons[i]
  (m.drift % 65536).toNat + 65536 * min m.n 65535

/-! ### Temperature (R653 to R656) -/

/-- T_lim (R653). -/
def State.tLim (s : State) : Int := if s.grade = 0x49 ∨ s.grade = 0x58 then 110 else 95

/-- Threshold of step k, 1 to 4 (Table 26-2). -/
def State.stepThr (s : State) (k : Nat) : Int :=
  if k = 1 then s.tLim - s.fld F.WR_CFG_WARN_MARGIN
  else if k = 2 then s.tLim - 5 else if k = 3 then s.tLim else s.tLim + 10

/-- Steps are left one below the other while T_hot is 3 °C below the threshold. -/
def State.stepDown (s : State) (t : Int) : Nat → Nat
  | 0 => 0
  | k + 1 => if t ≤ s.stepThr (k + 1) - 3 then s.stepDown t k else k + 1

/-- The step at a reading of T_hot. -/
def State.stepAt (s : State) (t : Int) : Nat :=
  let up := if s.stepThr 4 ≤ t then 4 else if s.stepThr 3 ≤ t then 3 else if s.stepThr 2 ≤ t then 2
    else if s.stepThr 1 ≤ t then 1 else 0
  if s.wear.step ≤ up then up else max up (s.stepDown t s.wear.step)

/-- The hottest valid sensor, the lowest among equals, with its reading. -/
def hottest : Nat → List (Option Int) → Option (Nat × Int)
  | _, [] => none
  | i, t :: ts =>
    match t, hottest (i + 1) ts with
    | none, r => r
    | some a, none => some (i, a)
    | some a, some (j, b) => if b ≤ a then some (i, a) else some (j, b)

/-- A sensor's register takes a reading; one that fails its self-check reads VALID = 0 (R656). -/
def State.setTs (s : State) (i : Nat) (t : Option Int) : State :=
  match t with
  | none => s.setFld (F.WR_TSs_VALID i) 0
  | some a => (s.setFld (F.WR_TSs_TEMP i) (a % 256).toNat).raise (F.WR_TSs_VALID i)

/-- The THERMAL record of a step change, or of a shutdown; T_hot is a free value when no sensor is valid (R656, log 29). -/
def State.thermalRecord (s : State) (old new : Nat) (why : Nat) : State :=
  let r := s.drawWord
  let t : Byte := match s.wear.tHot with
    | some a => BitVec.ofNat 8 (a % 256).toNat
    | none => r.1.truncate 8
  let s := if s.wear.tHot.isSome then s else r.2
  s.pushLog 0x0C [BitVec.ofNat 8 old, BitVec.ofNat 8 new, BitVec.ofNat 8 (s.fld F.WR_STAT_HOT), t, BitVec.ofNat 8 why]

/-- The thermal step changes (R656). -/
def State.setStep (s : State) (k : Nat) : State :=
  let old := s.wear.step
  if k = old then s
  else
    let s := ({ s with wear := { s.wear with step := k } } : State).raise F.WR_STAT_STEP_EV
    (s.setFld F.WR_STAT_STEP (min k 3)).irq 6 |>.thermalRecord old k (b2n (k == 4))

/-- SHUTDOWN acts at once in BOOT, SETUP and the capture modes (R655, R50). -/
def State.shutdown (s : State) : State :=
  if s.wear.step = 4 ∧ (s.mode = .boot ∨ s.mode.isRun) then
    (((s.supersede).modeRecord .fallback .caused false false).railsBack).fallbackEntry 7
  else s

/-- THERMAL_READING: the eight sensors are read (R653, R656). -/
def execThermalReading (temps : List (Option Int)) (s : State) : Host.Outcome State Fault Refusal :=
  if s.mode = .unpowered then .next s
  else
    let s := (List.range 8).foldl (fun s i => s.setTs i (temps.getD i none)) s
    match hottest 0 (temps.take 8) with
    | none => .next ((State.setStep { s with wear := { s.wear with tHot := none } } 3).shutdown)
    | some (i, t) =>
      let s := ({ s with wear := { s.wear with tHot := some t } } : State).setFld F.WR_STAT_HOT i
      .next (s.setStep (s.stepAt t)).shutdown

/-- A BOOT request from FALLBACK with FB_REASON 0x07 is too hot (R572, R655). -/
def State.tooHot (s : State) : Bool :=
  s.cp.fbReason == 7 &&
    match s.wear.tHot with
    | some t => decide (s.tLim - s.fld F.WR_CFG_RESTART_MARGIN < t)
    | none => true

/-- A write of WR_CFG: a margin outside its range is ignored (R659, R11). -/
def State.writeWrCfg (s : State) (v : Word) : State :=
  if getBits v 0 4 = 0 ∨ getBits v 8 5 < 10 then s else s.setReg Reg.WR_CFG (v &&& 0x1F0F)

/-- A write of WR_LAMPn_RATED. -/
def State.writeRated (s : State) (n : Fin 8) (v : Word) : State :=
  (s.setFld (F.WR_LAMPn_RATED n) (getBits v 0 24)).lampCheck n

/-- Step 10 of a start loads STBn_ONTIME from the copies (R657). -/
def State.lampLoad (s : State) : State :=
  (List.finRange 8).foldl (fun s n =>
    (s.setStb n { s.lio.stb[n] with ontime := s.wear.lamp[n] }).lampCheck n) s

end Sys2Proof.Machine
end

