-- ==== Sys2Proof/Machine/Requests.lean ====
section
/-! DEFINITION. Mode requests (R35, R43 to R52, R572) and the power ladder (R619 to R633): requests, quiescence, entry,
wakes and exit. -/

namespace Sys2Proof.Machine

/-- A write of a register that R71 protects, with no session: ignored, and CP_ERR.NOSESS sets. -/
def State.noSession (s : State) : State := s.cpError 2

/-! ### Mode requests -/

/-- The transitions of Table 2-2 that a request can trigger. -/
def modePermits (src dest : Mode) : Bool :=
  match src, dest with
  | .supervise, .boot => true
  | .boot, .fallback | .boot, .supervise => true
  | .setup, .boot | .setup, .freeRun | .setup, .track | .setup, .lockstep | .setup, .fallback | .setup, .supervise => true
  | .freeRun, .setup | .freeRun, .fallback | .freeRun, .supervise => true
  | .track, .setup | .track, .fallback | .track, .supervise => true
  | .lockstep, .setup | .lockstep, .fallback | .lockstep, .supervise => true
  | .fallback, .boot | .fallback, .supervise => true
  | _, _ => false

/-- An accepted request is carried out (Table 2-2). -/
def State.modeAccept (s : State) (who : Requester) (m : Mode) (role now : Bool) : State :=
  let s := (s.report who 1 0).modeRecord m who role now
  match m with
  | .fallback => (s.railsBack).enterFor who fun s => s.fallbackEntry 8
  | .supervise =>
    let s : State := { s with sup := { s.sup with trigReq := false, retryDue := false } }
    let s := s.lampCopy.ladderSupersede
    let s : State := { s with transit := some { target := .supervise, by_ := who }, sup := { s.sup with attempt := false } }
    (s.downStart (s.withCone coreRails 24) 0).railsSettle
  | .boot =>
    if s.mode = .supervise then
      let s : State := { s with transit := some { target := .boot, by_ := who }, sup := { s.sup with trigReq := true } }
      (s.triggerStands who).railsSettle
    else
      let cnt := if s.mode = .fallback then 0 else s.cp.bootCnt
      let s := s.enterFor who State.bootEntry
      { s with cp := { s.cp with bootCnt := cnt }, log := { s.log with boots := s.log.boots + 1 } }
  | _ => { s with transit := some { target := m, role := role, now := now, by_ := who, frame := s.openFrame } }

/-- The RESULT and DETAIL of a request that is not accepted; none when it is accepted (Table 2-5, R37, R45, R47, R572). The
ladder counts as settled: an entry that only waits for quiescence has left nothing. -/
def State.modeVerdict (s : State) (m : Mode) (role : Bool) : Option (Nat × Nat) :=
  if m = s.mode ∧ (m ≠ .lockstep ∨ role = s.role) then some (2, 0)
  else if !modePermits s.mode m then some (3, 0)
  else if m = .boot ∧ s.mode = .fallback ∧ s.tooHot then some (4, 7)
  else if m.isCapture then (State.capturePre { s with phase := .stable } m role).map fun d => (4, d)
  else none

/-- A request is judged with no transition in progress and the ladder at S0. A request that is not accepted changes nothing
but its result (R46); an accepted one ends a ladder entry that waits for quiescence (log 41). -/
def State.modeJudge (s : State) (who : Requester) (target : Nat) (role now : Bool) : State :=
  let m := Mode.ofCode target
  let role := role && m == .lockstep
  match s.modeVerdict m role with
  | some (res, det) =>
    let s := if m = .supervise ∧ res = 2 then { s with sup := { s.sup with trigReq := false } } else s
    s.report who res det
  | none => (s.ladderSupersede).modeAccept who m role now

/-- The device is not at S0, or on its way to or from it. -/
def State.ladderBusy (s : State) : Bool := s.ladder != .s0 || s.phase != .stable

/-- A mode request made out of S0 waits for the wake (R43). -/
def State.modeAsk (s : State) (who : Requester) (target : Nat) (role now : Bool) : State :=
  let m := Mode.ofCode target
  match s.phase with
  | .waiting .. => s.modeJudge who target role now
  | _ =>
    if s.ladderBusy then
      if m ≠ s.mode ∧ !modePermits s.mode m then s.report who 3 0
      else
        let s := s.report who 1 0
        State.wake { s with transit := some { target := m, role := role, now := now, by_ := who }
                            lad := { s.lad with modeWait := true } } 0 .caused
    else s.modeJudge who target role now

/-- A request for the mode that the transition in progress leaves, SUPERVISE or FALLBACK: the transition is superseded and the
head stays; rails on their way down come up again for FALLBACK (R48, R52, log 42). -/
def State.modeStay (s : State) (who : Requester) (now : Bool) : State :=
  if s.mode = .supervise then
    let s : State := { s with sup := { s.sup with trigReq := false, retryDue := false } }
    ((((s.modeRecord .supervise who false now).superviseStart who false).railsSettle)).report who 2 0
  else ((((s.supersede).modeRecord .fallback who false now).railsBack).railsSettle).report who 2 0

/-- A submitted request (R45, R48, R51): BUSY during a transition, except that FALLBACK and SUPERVISE supersede it, where
Table 2-2 has the transition, and a second request for SETUP adds NOW. TARGET 0b000 gets BUSY too: R48 names every new
request, and Table 2-5 refuses that target where a request is judged (log 43). -/
def State.modeRequest (s : State) (who : Requester) (target : Nat) (role now : Bool) : State :=
  match s.transit with
  | none => s.modeAsk who target role now
  | some tr =>
    let m := Mode.ofCode target
    if m = .setup ∧ tr.target = .setup ∧ now ∧ !tr.now then
      let tr := { tr with now := true, also := if who = tr.by_ then tr.also else some who }
      (State.report { s with transit := some tr } who 1 0).modeRecord .setup who false true
    else if m = .fallback ∨ m = .supervise then
      if m = s.mode then s.modeStay who now
      else if modePermits s.mode m then s.supersede.modeAsk who target role now
      else s.report who 3 0
    else s.report who 5 0

/-- What a write of MODE_REQ stores (R45). -/
def State.storeModeReq (s : State) (v : Byte) : State :=
  { s with cp := { s.cp with mrTarget := BitVec.ofNat 3 v.toNat, mrRole := bitOf v.toNat 3, mrNow := bitOf v.toNat 4 } }

/-- A commit of MODE_REQ (R45, R71). -/
def State.writeModeReq (s : State) (v : Byte) : State :=
  if !s.cp.sess.active then s.noSession
  else
    let s := s.storeModeReq v
    if bitOf v.toNat 7 then s.modeRequest .host (v.toNat % 8) (bitOf v.toNat 3) (bitOf v.toNat 4) else s

/-- MODE_REQ. A caused transition on the same PCLK edge wins: its command comes first, and the request gets BUSY, the session
having stood up to that edge (R50, log 44). -/
def execModeReq (v : Byte) (s : State) (caused : Bool := false) : Host.Outcome State Fault Refusal :=
  if s.mode = .unpowered then .next s
  else if caused && bitOf v.toNat 7 then .next ((s.storeModeReq v).report .host 5 0)
  else .next (s.writeModeReq v)

/-- Address of PWR_MODE_REQ (R56). -/
def pwrModeReqAddr : Nat := 0x10004

/-- What a write of PWR_MODE_REQ stores (R45, R56). -/
def State.storePwrModeReq (s : State) (v : Word) : State := s.setReg pwrModeReqAddr (v &&& 0x1F)

/-- A write of PWR_MODE_REQ (R45, R56). -/
def State.writePwrModeReq (s : State) (v : Word) : State :=
  let s := s.storePwrModeReq v
  if bitOf v.toNat 7 then s.modeRequest .joist (getBits v 0 3) (bitOf v.toNat 3) (bitOf v.toNat 4) else s

/-- PWR_MODE_REQ. -/
def execPwrModeReq (v : Word) (s : State) (caused : Bool := false) : Host.Outcome State Fault Refusal :=
  if !s.plateUp then .next s
  else if caused && bitOf v.toNat 7 then .next ((s.storePwrModeReq v).report .joist 5 0)
  else .next (s.writePwrModeReq v)

/-! ### Ladder: what each state keeps (R42, R619, R620) -/

/-- Domain of a stop's client; none for CTRL (Table 1-2, R615). Stop 6 has two halves: JIGW, which holds its ring ports, counts
(log 50). -/
def stopDomain (n : Nat) : Option (Fin 76) :=
  if n = 0 then none else if n = 1 then some Dom.seq else if n = 2 then some Dom.tally else if n = 3 then some Dom.memc
  else if n = 4 then some Dom.ingest else if n = 5 then some Dom.egress else if n = 6 then some Dom.jigw
  else if n = 7 then some Dom.lineio else some Dom.truss

/-- A ladder state that the mode permits (Table 2-4). -/
def State.ladPermits (s : State) (t : Ladder) : Bool :=
  match s.mode with
  | .setup => true
  | .freeRun | .track | .lockstep => decide (t.code < 3)
  | _ => false

/-- A stop's client leaves S0. -/
def State.stopLeaves (s : State) (t : Ladder) (n : Nat) : Bool :=
  match stopDomain n with
  | none => false
  | some d => !s.ladKept t d.val

/-- The first failing row of Table 24-5, as its DETAIL. -/
def State.quiescence (s : State) (t : Ladder) : Option Nat :=
  let deep := decide (3 ≤ t.code)
  let ring := (List.finRange 16).any fun n =>
    (s.ni[n]).tags.any fun e => s.stopLeaves t n.val || s.stopLeaves t e.req.dst.val
  let busy := s.trs.exec.isSome || !s.tly.moves.isEmpty || ring
  let queued := !s.trs.queue.isEmpty || s.storeBufs.toList.any (·.isSome) || s.tly.cmd.isSome ||
    (List.finRange 16).any fun n => !(s.ni[n]).tags.isEmpty
  let marks := (List.finRange 4).any fun m => !(s.lio.marks[m]).queue.isEmpty
  let far := s.bit F.TLY_CFG_FAR_EN
  let far4 := s.bit F.MEMC_STAT_TRAINED && far && s.bit F.PWR_RESUME_BASE_VALID
  let room := far || decide (s.benchUsed.length ≤ 4096 - s.yardUsed.length)
  let cone := s.withCone 3 24
  if busy then some 1
  else if deep && queued then some 1
  else if deep && marks then some 2
  else if decide (4 ≤ t.code) && !far4 then some 3
  else if t == .s3 && !room then some 3
  else if t == .s5 && (inMask cone 2 || inMask cone 3) then some 4
  else none

/-! ### Ladder: planes (R622, R623) -/

/-- A plane at YARD goes to its far page; with MEMC not able to take it, it is poisoned (R291). -/
def State.farPut (s : State) (v : Nat) : State :=
  let e := s.ent v
  if s.memcReady then
    let s1 := (s.memcWrite (s.farPage v) (leBytes (s.plane v).toNat 2048)).2
    (s1.setPlane v 0).setEnt v { e with level := .far, slot := 0 }
  else s.farAbort { plane := v } .poweredDown

/-- A free yard slot, made by an eviction of the plane used least recently where none is free (R275, R622). -/
def State.yardMake (s : State) : Nat × State :=
  match freeSlot 4096 s.yardUsed with
  | some k => (k, s)
  | none =>
    let all := s.atLevel .yard
    let free := all.filter fun p => !p.2.pinB && !p.2.pinY
    match lruPlane (if free.isEmpty then all else free) with
    | some (v, e) => (e.slot, s.farPut v)
    | none => (0, s)

/-- One BENCH plane moves to the yard. -/
def State.benchOut (s : State) (v : Nat) : State :=
  let r := s.yardMake
  r.2.setEnt v { r.2.ent v with level := .yard, slot := r.1 }

/-- Planes move at an entry to S3, S4 or S5. -/
def State.spill (s : State) (t : Ladder) : State :=
  let pick (l : PlaneLevel) := (s.atLevel l).map fun p => (p.1, p.2.slot)
  let s1 : State := { s with tly := { s.tly with savedBench := pick .bench, savedYard := pick .yard } }
  let s2 := (pick .bench).foldl (fun s p => s.benchOut p.1) s1
  if t = .s3 then s2 else ((s2.atLevel .yard).map fun p => p.1).foldl (fun s v => s.farPut v) s2

/-- A recorded plane returns to its level and slot; one that reads uncorrectable is poisoned (R291). -/
def State.planeBack (s : State) (l : PlaneLevel) (p : Nat × Nat) : State :=
  let e := s.ent p.1
  match e.level with
  | .yard => s.setEnt p.1 { e with level := l, slot := p.2 }
  | .far =>
    if e.poison then s
    else
      let r := s.memcRead (s.farPage p.1) 2048
      if r.1.code = .poison then r.2.farAbort { plane := p.1 } .poison
      else
        let v : Plane := BitVec.ofNat 16384 (ofLeBytes r.1.data)
        (r.2.setPlane p.1 v).setEnt p.1 { e with level := l, slot := p.2 }
  | _ => s

/-- The exit from S3 returns the recorded BENCH planes; in deterministic mode every exit restores the whole recorded
residency (R290, R622, R623). -/
def State.unspill (s : State) (t : Ladder) : State :=
  let det := s.bit F.TLY_CFG_MODE
  let yard (s : State) (p : Nat × Nat) : State := s.planeBack .yard p
  let bench (s : State) (p : Nat × Nat) : State := s.planeBack .bench p
  let away (s : State) (p : Nat × Nat) : Bool := (s.ent p.1).level == .far
  let s1 :=
    if t = .s3 then
      let s1 := s.tly.savedBench.foldl bench s
      if det then (s1.tly.savedYard.filter (away s1)).foldl yard s1 else s1
    else if (t = .s4 ∨ t = .s5) ∧ det then s.tly.savedBench.foldl bench (s.tly.savedYard.foldl yard s)
    else s
  { s1 with tly := { s1.tly with savedBench := [], savedYard := [] } }

/-! ### Ladder: entry (R619, R621, R626, R630) -/

/-- The domains that leave S0 for a target. -/
def State.ladLeaving (s : State) (t : Ladder) : List (Fin 76) :=
  (List.finRange 76).filter fun d => s.domOn d && !s.ladKept t d.val

/-- A domain out of S0 stops its links and its receiver; S3 to S5 clear the data of R621. -/
def State.ladClear (s : State) (t : Ladder) : State :=
  let out (d : Fin 76) : Bool := s.domOn d && !s.ladKept t d.val
  let deep := decide (3 ≤ t.code)
  let s1 := if out Dom.lineio then s.prsStop else s
  let s1 := if out Dom.dynak then s1.dynDown else s1
  let s1 := if out Dom.egress then (s1.setFld F.EGR_STAT_LINK_UP 0).setFld F.EGR_STAT_RX_SYNC 0 else s1
  if deep then
    let s2 := (s1.ingestClear.egrClear).krfClear
    ((s2.strobesOff s2.now).uart1Empty).encStop
  else s1

/-- The Jig at S4 and S5: the fabric falls back to INIT with its INIT and MEM values, and JIG pegs break (R626). -/
def State.jigSleep (s : State) : State :=
  if s.jig.st = .run ∨ s.jig.st = .init then
    let s := s.holderReset .jig 3 0
    State.treesStop { s with jig := { s.jig.initial with rm := [] } }
  else s

/-- Rails 0 and 1 and their cones go down for S5 (R630). -/
def State.s5Down (s : State) : State :=
  let set := s.withCone 3 24
  let on := (List.finRange 24).filter fun r => inMask set r && !(s.rails[r]).isOff
  State.downStart { s with lad := { s.lad with s5Down := on.map fun r => r.val } } set 0

/-- The save block goes to the resume area, whose layout is internal: the area's bytes are free values (R623, R624, log 5). -/
def State.saveBlock (s : State) : State := s.memcForget (s.memcKey (s.fld F.PWR_RESUME_BASE_BASE * 0x200000)) 0x200000

/-- The entry proceeds (R621 to R623, R627). -/
def State.ladderEnter (s : State) (t : Ladder) (who : Requester) : State :=
  let left := s.ladLeaving t
  let deep := decide (3 ≤ t.code)
  let s := if deep then s.spill t else s
  let s := if 4 ≤ t.code then s.saveBlock else s
  let s := s.ladClear t
  let s := if 4 ≤ t.code then s.jigSleep else s
  let s := left.foldl (fun s d => s.setDom d (ladDomState t d.val)) s
  let s := if deep then s.pllOff else s
  let s : State := { s with phase := .entering t who, lad := { s.lad with left := left.map fun d => d.val } }
  if t = .s5 then s.s5Down else s

/-- LADDER_QUIESCENT: the conditions of Table 24-5 hold. -/
def execLadderQuiescent (s : State) : Host.Outcome State Fault Refusal :=
  match s.phase with
  | .waiting t who => if s.quiescence t = none then .next (s.ladderEnter t who) else .next s
  | _ => .next s

/-- LADDER_QTMO: not met by PWR_QTMO: the hold is released and the request refused; met on that edge, it proceeds (R627,
R632). -/
def execLadderQtmo (s : State) : Host.Outcome State Fault Refusal :=
  match s.phase with
  | .waiting t who =>
    match s.quiescence t with
    | none => .next (s.ladderEnter t who)
    | some d => .next ((({ s with phase := .stable } : State).reportLadder who 4 d).trsAdvance 65)
  | _ => .next s

/-- LADDER_ENTRY_DONE: MODE.LADDER shows the target, after the given time in ns (R625, R630). -/
def execLadderEntryDone (ns : Nat) (s : State) : Host.Outcome State Fault Refusal :=
  match s.phase with
  | .entering t who =>
    if t = .s5 ∧ s.sup.seq = 2 then .next s
    else
      let s1 : State := { s with ladder := t, phase := .stable }
      .next (((s1.setFld F.PWR_ENTRY_NS (min ns 0xFFFFFFFF)).irq 0).reportLadder who 2 0)
  | _ => .next s

/-! ### Ladder: requests and wakes (R627, R628, R691) -/

/-- A target of S0: a wake, or DONE at once (R627, R628). -/
def State.ladderWake (s : State) (who : Requester) : State :=
  match s.phase with
  | .waiting .. => ((s.ladderSupersede).reportLadder who 2 0).trsAdvance 65
  | .exiting o .caused => State.reportLadder { s with phase := .exiting o who } who 1 0
  | .exiting .. => s.reportLadder who 5 0
  | .entering .. => (s.reportLadder who 1 0).wake 0 who
  | .stable => if s.ladder = .s0 then s.reportLadder who 2 0 else (s.reportLadder who 1 0).wake 0 who

/-- A submitted ladder request is judged (R42, R627, R691). -/
def State.ladderRequest (s : State) (who : Requester) (target : Nat) : State :=
  let t := Ladder.ofCode target
  if s.transit.isSome then s.reportLadder who 5 0
  else if target = 0 ∧ s.ladPermits .s0 then s.ladderWake who
  else if s.phase ≠ .stable then s.reportLadder who 5 0
  else if s.ladder ≠ .s0 ∨ !s.ladPermits t then
    (if target = 0 ∧ (s.mode = .boot ∨ s.mode = .fallback) then s.reportLadder who 2 0 else s.reportLadder who 3 0)
  else if !s.held.isEmpty then s.reportLadder who 4 1
  else State.reportLadder { s with phase := .waiting t who } who 1 0

/-- A commit of LADDER_REQ; a reserved TARGET is ignored (R11, R71, R627). -/
def State.writeLadderReq (s : State) (v : Byte) : State :=
  let t := v.toNat % 8
  if !s.cp.sess.active then s.noSession
  else if 5 < t then s
  else
    let s : State := { s with cp := { s.cp with lrTarget := BitVec.ofNat 3 t } }
    if bitOf v.toNat 7 then s.ladderRequest .host t else s

/-- LADDER_REQ. -/
def execLadderReq (v : Byte) (s : State) : Host.Outcome State Fault Refusal :=
  if s.mode = .unpowered then .next s else .next (s.writeLadderReq v)

/-- A write of PWR_LADDER_REQ (R11, R627). -/
def State.writePwrLadderReq (s : State) (v : Word) : State :=
  let t := getBits v 0 3
  if 5 < t then s
  else
    let s := s.setReg Reg.PWR_LADDER_REQ (v &&& 7)
    if bitOf v.toNat 7 then s.ladderRequest .joist t else s

/-- PWR_LADDER_REQ. -/
def execPwrLadderReq (v : Word) (s : State) : Host.Outcome State Fault Refusal :=
  if s.plateUp then .next (s.writePwrLadderReq v) else .next s

/-- WAKE_TIMER_EXPIRY: PWR_WAKE_TIMER ms since the state was reached (R628). -/
def execWakeTimerExpiry (s : State) : Host.Outcome State Fault Refusal :=
  if s.fld F.PWR_WAKE_TIMER ≠ 0 ∧ s.phase = .stable then .next (s.wake 1 .caused) else .next s

/-! ### Ladder: exit (R43, R44, R626, R631) -/

/-- A mode request that waited for the wake is judged. -/
def State.modeResume (s : State) : State :=
  match s.transit with
  | some tr =>
    if s.lad.modeWait then
      State.modeJudge { s with transit := none, lad := { s.lad with modeWait := false } } tr.by_ tr.target.code.toNat tr.role tr.now
    else s
  | none => s

/-- The device is back at S0: the domains are ON, planes are restored, the fabric may enter RUN, and a deferred wear sample
is taken (R622, R623, R626, R660). -/
def State.ladderBack (s : State) (o : Ladder) (who : Requester) (ns : Nat) (drifts : List (Option Int)) : State :=
  let was (d : Fin 76) : Bool := s.lad.left.contains d.val && !s.domSwitchedOff d
  let s1 : State := { s with dom := Vector.ofFn fun d => if was d then .on else s.dom[d]
                             ladder := .s0, phase := .stable, lad := { s.lad with left := [], s5Down := [] } }
  let s2 := (s1.setFld F.PWR_EXIT_NS (min ns 0xFFFFFFFF)).irq 0
  let s3 := (s2.unspill o).reportLadder who 2 0
  let s4 := if s3.jig.st = .init ∧ s3.jig.autoRel ∧ 4 ≤ o.code then s3.jigRelease s3.now else s3
  let s5 := if s4.domOn Dom.lineio ∧ 3 ≤ o.code then s4.encStart else s4
  let s5 := if was Dom.egress then s5.egrStart else s5
  let s5 := s5.prsSettle
  let s6 := if s5.wear.due then State.sample { s5 with wear := { s5.wear with due := false } } drifts else s5
  (s6.modeResume).trsAdvance 65

/-- A wake that no other rule answers fails: the ladder stays where it was, the PLL off and the rails of S5 down again (R43,
log 45). -/
def State.wakeFail (s : State) (o : Ladder) (who : Requester) : State :=
  let s := (s.modeUnwoken).reportLadder who 4 6
  let s : State := { s with phase := .stable, ladder := o }
  let s := if 3 ≤ o.code then s.pllOff else s
  if o = .s5 then s.s5Down else s

/-- A resume that fails its image check: everything in the switched domains is lost, and the K16 starts through BOOT; the
start counts as an attempt (R44, R569). A mode request that waited for the wake is refused (R43). -/
def State.resumeFail (s : State) (who : Requester) : State :=
  let s := (s.modeUnwoken.supersede).modeRecord .boot .caused false false
  let s := (s.reportLadder who 6 0).coreLose
  let s : State := { s with phase := .stable, ladder := .s0, log := { s.log with boots := s.log.boots + 1 } }
  s.bootEntry

/-- LADDER_EXIT_DONE: the exit is complete, after the given time in ns: the PLL is locked, and after S5 rails 0 and 1 are
GOOD; `image` says whether the save block and the image pass their check, `fails` that the wake fails (R43). -/
def execLadderExitDone (ns : Nat) (image : Bool) (drifts : List (Option Int)) (s : State) (fails : Bool := false) :
    Host.Outcome State Fault Refusal :=
  match s.phase with
  | .exiting o who =>
    let rails := s.lad.s5Down.isEmpty || ((s.rails[0]).st == .good && (s.rails[1]).st == .good)
    if fails then .next (s.wakeFail o who)
    else if rails && s.clk.run then
      if 4 ≤ o.code ∧ !image then .next (s.resumeFail who) else .next (s.ladderBack o who ns drifts)
    else .next s
  | _ => .next s

/-- PWR_LADDER_STAT. -/
def State.viewLadderStat (s : State) : Nat :=
  let p := match s.phase with | .entering .. => 8 | .exiting .. => 16 | _ => 0
  s.ladder.code + p

/-! ### The resume area (R624) -/

/-- A write of PWR_RESUME_BASE. -/
def State.writeResumeBase (s : State) (v : Word) : State :=
  let b := getBits v 21 11
  let lo := b * 2 ^ 21
  let far := s.fld F.TLY_FAR_BASE_BASE * 2 ^ 27
  let clash := decide (far < lo + 2 ^ 21) && decide (lo < far + 2 ^ 27)
  if s.mode = .setup ∧ lo + 2 ^ 21 ≤ s.memcCap ∧ !clash then
    (s.setFld F.PWR_RESUME_BASE_BASE b).raise F.PWR_RESUME_BASE_VALID
  else s.raise F.PWR_ERR_RESUME

/-- PWR_RESUME_BASE_WRITE. -/
def execPwrResumeBaseWrite (v : Word) (s : State) : Host.Outcome State Fault Refusal :=
  if s.plateUp then .next (s.writeResumeBase v) else .next s

end Sys2Proof.Machine
end

