-- ==== Sys2Proof/Machine/Otp.lean ====
section
/-! DEFINITION. Counted settings and access levels (Chapter 27): OTP writes, programming, the service challenge, and the
wear-area clear. -/

namespace Sys2Proof.Machine

/-! ### OTP writes (R662 to R669) -/

/-- SETTING codes (R680). -/
def settingCode : OtpSetting → Nat
  | .head => 1 | .bootPolicy => 2 | .keyHash _ => 3 | .keyRevoke => 4 | .logPolicy => 5 | .debugLock => 6

/-- Bytes of a setting's value. -/
def settingBytes : OtpSetting → Nat
  | .head => 2 | .keyHash _ => 32 | _ => 1

/-- Slots left for a setting. -/
def State.slotsLeft (s : State) : OtpSetting → Nat
  | .head => 8 - s.otp.head.length
  | .bootPolicy => 4 - s.otp.bootPolicy.length
  | .keyHash k => b2n (s.otp.keys[k]).isNone
  | .keyRevoke => 4 - s.otp.revoke.length
  | .logPolicy => 4 - s.otp.logPolicy.length
  | .debugLock => 2 - s.otp.dbg.length

/-- Change the last slot of a setting's row. -/
def onLast (g : OtpSlot → OtpSlot) : List OtpSlot → List OtpSlot
  | [] => []
  | [x] => [g x]
  | x :: xs => x :: onLast g xs

/-- Apply a change to the row of a setting. -/
def Otp.onRow (o : Otp) (f : List OtpSlot → List OtpSlot) : OtpSetting → Otp
  | .head => { o with head := f o.head }
  | .bootPolicy => { o with bootPolicy := f o.bootPolicy }
  | .keyHash k => { o with keys := o.keys.set k (f o.keys[k].toList).head? }
  | .keyRevoke => { o with revoke := f o.revoke }
  | .logPolicy => { o with logPolicy := f o.logPolicy }
  | .debugLock => { o with dbg := f o.dbg }

/-- Lowest level that may write a setting (Table 27-1). -/
def State.otpLevel (s : State) : OtpSetting → Level
  | .keyHash _ => if (List.finRange 4).any fun k => (s.keyHash k).isSome then .service else .field
  | _ => .service

/-- OTP_RESULT takes a code for a setting. -/
def State.otpResult (s : State) (setting code : Nat) : State :=
  s.setReg Reg.OTP_RESULT (BitVec.ofNat 32 (code + 16 * setting))

/-- A refused write: its code and its AUDIT record (R664, R676). -/
def State.otpRefuse (s : State) (x : OtpSetting) (value : Nat) (level : Level) (code : Nat) : State :=
  (s.otpResult (settingCode x) code).audit 1 (settingCode x) level code (s.slotsLeft x) s.cp.svcKey value s.cp.sess.epoch.toNat

/-- Why a write is refused, beyond its level: 4 EXHAUSTED, 5 ONEWAY, 6 LAST_KEY, 7 ORDER, 8 BAD, 9 MODE, 10 BUSY (R664 to
R669). -/
def State.otpJudge (s : State) (x : OtpSetting) (value : Nat) : Option Nat :=
  if s.mode ≠ .setup ∧ s.mode ≠ .fallback then some 9
  else if s.otp.prog.isSome then some 10
  else if s.slotsLeft x = 0 then some 4
  else
    match x with
    | .bootPolicy => if s.sigReq && !bitOf value 3 then some 5 else none
    | .keyRevoke =>
      if (List.range 4).any fun i => bitOf s.keyRevoke i && !bitOf value i then some 5
      else if (List.finRange 4).all fun k => !s.keyEnrolled value k then some 6 else none
    | .debugLock =>
      if value < s.debugLock then some 5 else if s.debugLock + 1 < value then some 7 else none
    | .keyHash _ => if value = 0 ∨ value = 2 ^ 256 - 1 then some 8 else none
    | _ => none

/-- A window write of a counted setting at a level: DECODE below the level of Table 27-1, else OK; an accepted write starts to
program the next slot (R662, R664). -/
def State.otpWrite (s : State) (x : OtpSetting) (value : Nat) (level : Level) : RespCode × State :=
  if levelCode level < levelCode (s.otpLevel x) then (.decode, s.otpRefuse x value level 3)
  else if x = .debugLock ∧ value = 3 then (.ok, s)
  else
    match s.otpJudge x value with
    | some code => (.ok, s.otpRefuse x value level code)
    | none =>
      let slot : OtpSlot := { value := value, crc := otpCrc value (settingBytes x), committed := false }
      let p : OtpProg := { setting := x, value := value, level := level, key := s.cp.svcKey, epoch := s.cp.sess.epoch }
      let o := s.otp.onRow (fun row => row ++ [slot]) x
      (.ok, State.otpResult { s with otp := { o with prog := some p } } (settingCode x) 1)

/-- A host session may write through the window: the CTRL client answers, and the session's level goes with the write. -/
def State.otpHost (s : State) (x : OtpSetting) (value : Nat) : State :=
  if s.cp.sess.active && s.plateUp then (s.otpWrite x value s.cp.sess.level).2 else s

/-- OTP_HEAD_WRITE. -/
def execOtpHeadWrite (v : Word) (s : State) : Host.Outcome State Fault Refusal :=
  .next (s.otpHost .head (v &&& 0x11F).toNat)

/-- OTP_BOOT_POLICY_WRITE. -/
def execOtpBootPolicyWrite (v : Word) (s : State) : Host.Outcome State Fault Refusal :=
  .next (s.otpHost .bootPolicy (v &&& 0x3F).toNat)

/-- OTP_KEY_HASH_WRITE: byte i of the hash is bits 8i + 7 to 8i. -/
def execOtpKeyHashWrite (k : Fin 4) (hash : BitVec 256) (s : State) : Host.Outcome State Fault Refusal :=
  .next (s.otpHost (.keyHash k) hash.toNat)

/-- OTP_KEY_REVOKE_WRITE. -/
def execOtpKeyRevokeWrite (v : Word) (s : State) : Host.Outcome State Fault Refusal :=
  .next (s.otpHost .keyRevoke (v &&& 0xF).toNat)

/-- OTP_LOG_POLICY_WRITE. -/
def execOtpLogPolicyWrite (v : Word) (s : State) : Host.Outcome State Fault Refusal :=
  .next (s.otpHost .logPolicy (v &&& 1).toNat)

/-- OTP_DEBUG_LOCK_WRITE. -/
def execOtpDebugLockWrite (v : Word) (s : State) : Host.Outcome State Fault Refusal :=
  .next (s.otpHost .debugLock (v &&& 3).toNat)

/-- What a setting that has reached DONE lowers: a session granted with a key now revoked, and FACTORY once SEALED (R668,
R669). -/
def State.otpLower (s : State) (x : OtpSetting) : State :=
  match x with
  | .keyRevoke => if s.cp.svcKey.toNat < 4 ∧ bitOf s.keyRevoke s.cp.svcKey.toNat then s.lowerTo .field else s
  | .debugLock => if s.debugLock = 2 ∧ s.cp.sess.level = .factory then s.lowerTo .service else s
  | _ => s

/-- OTP_PROGRAM_DONE: the slot is committed and read from now on (R664, R676). -/
def execOtpProgramDone (s : State) : Host.Outcome State Fault Refusal :=
  match s.otp.prog with
  | none => .next s
  | some p =>
    let o := s.otp.onRow (onLast fun x => { x with committed := true }) p.setting
    let s1 := State.otpResult { s with otp := { o with prog := none } } (settingCode p.setting) 2
    let s2 := s1.audit 0 (settingCode p.setting) p.level 2 (s1.slotsLeft p.setting) p.key p.value p.epoch.toNat
    .next (s2.otpLower p.setting)

/-- OTP_FACT_CMD.WEAR_CLEAR at a level: the wear area is cleared at FACTORY (R652, R670). -/
def State.writeFactCmd (s : State) (v : Word) (level : Level) : RespCode × State :=
  let e := s.cp.sess.epoch.toNat
  if level ≠ .factory then (.decode, (s.otpResult 7 3).audit 1 7 level 3 0xFF s.cp.svcKey v.toNat e)
  else if bitOf v.toNat 0 then
    let w := { s.wear with mons := Vector.replicate 96 {}, hours := 0, lamp := Vector.replicate 8 0, eol := false }
    let s1 := (State.otpResult { s with wear := w } 7 2).audit 0 7 level 2 0xFF s.cp.svcKey v.toNat e
    (.ok, (s1.setReg Reg.WR_EOL_HOURS 0xFFFFFFFF).setReg Reg.WR_EOL_INFO 0)
  else (.ok, s)

/-- WEAR_CLEAR. -/
def execWearClear (s : State) : Host.Outcome State Fault Refusal :=
  if s.cp.sess.active && s.plateUp then .next (s.writeFactCmd 1 s.cp.sess.level).2 else .next s

/-! ### The service challenge (R671 to R675) -/

/-- A 32-byte nonce of the random source: free values (log 5). -/
def State.nonce (s : State) : List Byte × State :=
  ((List.range 8).flatMap fun i => leBytes (Config.freeWord (s.freeCtr + i)).toNat 4, { s with freeCtr := s.freeCtr + 8 })

/-- The challenge block (Table 27-3). -/
def State.challenge (s : State) (nonce : List Byte) (l : Level) : List Byte :=
  nonce ++ leBytes s.otp.serial.toNat 8 ++ leBytes chipId 2 ++ [chipStepping, s.grade, BitVec.ofNat 8 s.cp.sess.epoch.toNat,
    BitVec.ofNat 8 (levelCode l), 0, 0]

/-- START within 60 s of the last failure, with four or more consecutive ones, is locked out (R674). -/
def State.svcLocked (s : State) : Bool :=
  decide (4 ≤ s.cp.svcFails.toNat) &&
    match s.cp.svcFailMs with
    | some t => decide ((s.aonMs - t).toNat < 60000)
    | none => false

/-- START (R671, R674). -/
def State.svcStart (s : State) (l : Level) : State :=
  if s.svcLocked then { s with cp := { s.cp with svcResult := 7 } }
  else
    let r := s.nonce
    { r.2 with cp := { r.2.cp with svcChal := s.challenge r.1 l, svcLevel := l, svcResp := [], svcResult := 1 } }

/-- SUBMIT: verification starts and the challenge is discarded (R673). -/
def State.svcSubmit (s : State) : State :=
  { s with cp := { s.cp with svcRun := some (s.cp.svcLevel, s.cp.svcChal, s.cp.svcResp), svcChal := [], svcResult := 2 } }

/-- A commit of SVC_CTRL: DROP alone when it is set. LEVEL 0b11, and with START LEVEL 0b00, is a reserved encoding: the whole
write is ignored (R11, R71, R678). LEVEL belongs to START: SUBMIT and DROP are written with it at 0b00 (Table 27-8, log 49). -/
def State.writeSvcCtrl (s : State) (v : Byte) : State :=
  let b := bitOf v.toNat
  let l := v.toNat / 8 % 4
  if !s.cp.sess.active then s.noSession
  else if l = 3 then s
  else if b 2 then s.lowerTo .field
  else if b 0 && l == 0 then s
  else
    let s := if b 0 then s.svcStart (if l = 1 then .service else .factory) else s
    if b 1 then s.svcSubmit else s

/-- SVC_START: a write of SVC_CTRL with START. -/
def execSvcStart (factory : Bool) (s : State) : Host.Outcome State Fault Refusal :=
  if s.mode = .unpowered then .next s else .next (s.writeSvcCtrl (if factory then 0x11 else 0x09))

/-- SVC_SUBMIT. -/
def execSvcSubmit (s : State) : Host.Outcome State Fault Refusal :=
  if s.mode = .unpowered then .next s else .next (s.writeSvcCtrl 0x02)

/-- SVC_DROP. -/
def execSvcDrop (s : State) : Host.Outcome State Fault Refusal :=
  if s.mode = .unpowered then .next s else .next (s.writeSvcCtrl 0x04)

/-- A write of SVC_DATA appends a byte, up to 128 (R672). -/
def State.writeSvcData (s : State) (v : Byte) : State :=
  if !s.cp.sess.active then s.noSession
  else if s.cp.svcResp.length < 128 then { s with cp := { s.cp with svcResp := s.cp.svcResp ++ [v] } } else s

/-- SVC_DATA. -/
def execSvcData (v : Byte) (s : State) : Host.Outcome State Fault Refusal :=
  if s.mode = .unpowered then .next s else .next (s.writeSvcData v)

/-- The key of a response grants a level: its slot, or 0xFE for the factory key; none when it does not match (R673). -/
def State.svcKeyOf (s : State) (l : Level) (resp : List Byte) : Option Byte :=
  let hash := sha256 (resp.take 64)
  if l = .factory then (if hash = Config.factoryKeyHash then some 0xFE else none)
  else (s.enrolledKey (ofLeBytes hash)).map fun k => BitVec.ofNat 8 k.val

/-- The result of a verification: 3 GRANTED with the key, 4 BAD_SIG, 5 NO_KEY, 6 SEALED, 8 STALE (R673, R678). -/
def State.svcJudge (s : State) (l : Level) (chal resp : List Byte) : Nat × Byte :=
  let live := s.cp.sess.active && chal.getD 44 0xFF == BitVec.ofNat 8 s.cp.sess.epoch.toNat
  if chal.isEmpty || !live then (8, 0xFF)
  else if l = .factory ∧ s.debugLock = 2 then (6, 0xFF)
  else if resp.length < 128 then (5, 0xFF)
  else
    match s.svcKeyOf l resp with
    | none => (5, 0xFF)
    | some k => if ecdsaVerify (resp.take 64) (resp.drop 64) (sha256 chal) then (3, k) else (4, 0xFF)

/-- SVC_VERIFY_DONE: the result of the verification, with SVC_FAILS and the AUDIT record (R673, R674, R676). -/
def execSvcVerifyDone (s : State) : Host.Outcome State Fault Refusal :=
  match s.cp.svcRun with
  | none => .next s
  | some (l, chal, resp) =>
    let r := s.svcJudge l chal resp
    let x := s.cp.sess
    let cp := { s.cp with svcRun := none, svcResult := BitVec.ofNat 4 r.1 }
    if r.1 = 8 then .next { s with cp := cp }
    else if r.1 = 3 then
      let s1 : State := { s with cp := { cp with svcFails := 0, svcKey := r.2, sess := { x with level := l } } }
      .next (s1.audit 2 (levelCode l) x.level 3 0xFF r.2 0 x.epoch.toNat)
    else
      let fails := if r.1 = 6 then cp.svcFails else BitVec.ofNat 8 (min (cp.svcFails.toNat + 1) 255)
      let at_ := if r.1 = 6 then cp.svcFailMs else some s.aonMs
      let s1 : State := { s with cp := { cp with svcFails := fails, svcFailMs := at_ } }
      .next (s1.audit 3 (levelCode l) x.level r.1 0xFF s.cp.svcKey 0 x.epoch.toNat)

/-- CHALLENGE_EXPIRY: 60 s have passed since START (R674). -/
def execChallengeExpiry (s : State) : Host.Outcome State Fault Refusal :=
  if s.cp.svcChal.isEmpty then .next s else .next { s with cp := { s.cp with svcChal := [] } }

end Sys2Proof.Machine
end

