-- ==== Sys2Proof/Machine/Supervisor.lean ====
section
/-! DEFINITION. The supervisor (Chapter 23): log records, SUP_CMD, rail-entry commits, the supervisor bus, and the rise and
fall of VAON. -/

namespace Sys2Proof.Machine

/-! ### Log records (R602 to R609) -/

/-- A record as 32 bytes (Table 23-5). -/
def logBytes (seq : Nat) (boots : Half) (lost : Bool) (r : LogRec) : List Byte :=
  let body := leBytes seq 4 ++ leBytes r.ms.toNat 6 ++ leBytes boots.toNat 2 ++ [r.typ, BitVec.ofNat 8 (b2n lost)] ++
    (r.payload ++ List.replicate 14 0).take 14
  body ++ leBytes (crc16 body).toNat 2 ++ [0x00, 0x5A]

/-- Log slot of a sequence number. -/
def logSlot (seq : Nat) : Nat := (seq + 1023) % 1024

/-- The 32 bytes of a slot. -/
def State.slotBytes (s : State) (k : Nat) : List Byte := SMap.getBytes erasedByte s.log.store (32 * k) 32

/-- A slot holds a valid record. -/
def recValid (bs : List Byte) : Bool :=
  bs.getD 31 0xFF == 0x5A && ofLeBytes ((bs.drop 28).take 2) == (crc16 (bs.take 28)).toNat

/-- A record is written as the next sequence number (R603, R605, R608). -/
def State.writeLog (s : State) (r : LogRec) : State :=
  let seq := (s.log.newest + 1).toNat
  let bs := logBytes seq s.log.boots s.log.lostPend r
  let log := { s.log with store := SMap.setBytes erasedByte s.log.store (32 * logSlot seq) bs, newest := BitVec.ofNat 32 seq
                          lostPend := false }
  let s1 : State := { s with log := log }
  if s.log.thr.toNat ≤ r.sev.toNat then s1.irq 5 else s1

/-- LOG_RECORD_WRITE: the supervisor writes the oldest waiting record. -/
def execLogRecordWrite (s : State) : Host.Outcome State Fault Refusal :=
  if s.supRuns then
    match s.log.queue with
    | [] => .next s
    | r :: rs => .next (State.writeLog { s with log := { s.log with queue := rs } } r)
  else .next s

/-- RESULT of reading the slot for a sequence number: 0 OK, 1 TORN, 2 GONE; with its bytes (R608). -/
def State.logRead (s : State) (seq : Nat) : Nat × List Byte :=
  let bs := s.slotBytes (logSlot seq)
  (if !recValid bs then 1 else if ofLeBytes (bs.take 4) = seq then 0 else 2, bs)

/-- A commit of LOG_RSEQ (R608). -/
def State.writeLogRseq (s : State) (v : Word) : State :=
  let r := s.logRead v.toNat
  { s with log := { s.log with rseq := v, lrec := r.2, rstat := BitVec.ofNat 2 r.1 } }

/-- Writes of page 1 by the host need a session (R71, R612). -/
def State.pageOne (s : State) (f : State → State) : Host.Outcome State Fault Refusal :=
  if s.mode = .unpowered then .next s
  else if s.cp.sess.active then .next (f s) else .next s.noSession

/-- The control port's staging copy of a page 1 register takes the bytes of a commit (R68). -/
def State.cpStaged (s : State) (base : Nat) (bs : List Byte) : State :=
  { s with sup := { s.sup with cpPath := { s.sup.cpPath with staged := Assoc.setMany s.sup.cpPath.staged base bs } } }

/-- LOG_RSEQ_COMMIT. -/
def execLogRseqCommit (v : Word) (s : State) : Host.Outcome State Fault Refusal :=
  s.pageOne fun s => (s.writeLogRseq v).cpStaged 0x60 (leBytes v.toNat 4)

/-! ### The rail table (R579, R582, R610, R612, R613) -/

/-- Bytes 0 to 16 of a rail entry (Table 23-14). -/
def RailEntry.bytes (e : RailEntry) : List Byte :=
  [BitVec.ofNat 8 (b2n e.en + 2 * b2n e.od + 4 * b2n e.pol + 8 * e.react.toNat), e.onDly, e.offDly, e.pgTmo] ++
    leBytes e.parent.toNat 3 ++ [e.group] ++ leBytes e.nom.toNat 2 ++ leBytes e.uv.toNat 2 ++ leBytes e.ov.toNat 2 ++
    leBytes e.warn.toNat 2 ++ [e.deglitch]

/-- The entry that 17 bytes hold. -/
def RailEntry.ofBytes (bs : List Byte) : RailEntry :=
  let g (i : Nat) : Byte := bs.getD i 0
  let n (i k : Nat) : Nat := ofLeBytes ((bs.drop i).take k)
  let f := (g 0).toNat
  { en := bitOf f 0, od := bitOf f 1, pol := bitOf f 2, react := BitVec.ofNat 2 (f / 8), onDly := g 1, offDly := g 2
    pgTmo := g 3, parent := BitVec.ofNat 24 (n 4 3), group := g 7, nom := BitVec.ofNat 12 (n 8 2)
    uv := BitVec.ofNat 12 (n 10 2), ov := BitVec.ofNat 12 (n 12 2), warn := BitVec.ofNat 12 (n 14 2), deglitch := g 16 }

/-- The live table. -/
def State.railTable (s : State) : List RailEntry := s.rails.toList.map fun x => x.entry

/-- CRC-16 of a table. -/
def tableCrc (t : List RailEntry) : Half := crc16 (t.flatMap RailEntry.bytes)

/-- An entry may be committed for a rail (R582, R610, R613). -/
def State.entryOk (s : State) (r : Fin 24) (e : RailEntry) : Bool :=
  let old := (s.rails[r]).entry
  let s1 := s.setRail r { s.rails[r] with entry := e }
  e.pgTmo != 0 && decide (e.uv < e.nom) && decide (e.nom < e.ov) && !inMask e.parent r && !inMask (s1.cone r) r &&
    ((s.rails[r]).st == .off || (e.en == old.en && e.od == old.od && e.pol == old.pol))

/-- A commit of RT_ENTRY for a rail, at a level (R612, R613). -/
def State.commitEntry (s : State) (r : Nat) (e : RailEntry) (level : Level) : State :=
  if level = .field then { s with sup := { s.sup with rtLevel := true } }
  else if h : r < 24 then
    let r : Fin 24 := ⟨r, h⟩
    if s.entryOk r e then s.setRail r { s.rails[r] with entry := e } else { s with sup := { s.sup with rtBad := true } }
  else s

/-- RT_ENTRY_COMMIT: the host commits bytes 0 to 16 for the rail in its RT_SEL. -/
def execRtEntryCommit (bytes : BitVec 136) (s : State) : Host.Outcome State Fault Refusal :=
  s.pageOne fun s =>
    let sel := s.sup.cpPath.rtSel.toNat
    let s1 := s.commitEntry sel (RailEntry.ofBytes (leBytes bytes.toNat 17)) s.cp.sess.level
    s1.cpStaged 0x20 ((arrayIdx? 24 sel).map fun r => (s1.rails[r]).entry.bytes).toList.flatten

/-- RT_SEL takes a rail, 0 to 23, and uncommitted entry bytes are discarded (R11, R612). -/
def SupPath.select (p : SupPath) (v : Nat) : SupPath :=
  if 23 < v % 32 then p else { p with rtSel := BitVec.ofNat 5 v, staged := SMap.clear 0x20 0x31 p.staged }

/-- RT_SEL_WRITE. -/
def execRtSelWrite (v : Byte) (s : State) : Host.Outcome State Fault Refusal :=
  s.pageOne fun s => { s with sup := { s.sup with cpPath := s.sup.cpPath.select v.toNat } }

/-- Every rail takes an entry of a table. -/
def State.loadTable (s : State) (t : List RailEntry) : State :=
  let put (r : Fin 24) : Rail := { s.rails[r] with entry := t.getD r.val {} }
  { s with rails := Vector.ofFn put }

/-- A CONFIG record: kind 0 saved, 1 loaded, 2 default used (Table 23-7). -/
def State.configRecord (s : State) (kind : Nat) (level : Level) (crc : Half) : State :=
  s.pushLog 0x09 ([BitVec.ofNat 8 kind, BitVec.ofNat 8 (levelCode level)] ++ leBytes crc.toNat 2)

/-! ### SUP_CMD (R587, R600, R609, R612, R613) -/

/-- A command ends with a result: 2 DONE, 3 REFUSED_LEVEL, 4 REFUSED_STATE, 5 NO_REPLY, 6 BUS_ERR; SUP_EV.CMD_DONE sets. -/
def State.supDone (s : State) (res : Nat) : State :=
  State.supEv { s with sup := { s.sup with cmdRes := BitVec.ofNat 4 res } } 16

/-- CLEAR: latched faults and SYS_HALT clear. -/
def State.supClear (s : State) : State :=
  let g (x : Rail) : Rail :=
    { x with latched := false, st := if x.st == .failed || x.st == .blocked then .off else x.st }
  State.onRails { s with sup := { s.sup with sysHalt := false } } 0xFFFFFF g

/-- SAVE: the table in force is saved with its CRC. -/
def State.supSave (s : State) (level : Level) : State :=
  let crc := tableCrc s.railTable
  (State.configRecord { s with sup := { s.sup with saved := some (s.railTable, crc) } } 0 level crc).supDone 2

/-- LOAD: while every rail is OFF, the saved table replaces the live one. -/
def State.supLoad (s : State) (level : Level) : State :=
  if (s.railMask fun x => x.st != .off) ≠ 0 then s.supDone 4
  else
    match s.sup.saved with
    | some (t, crc) =>
      if tableCrc t = crc then
        let s1 := s.loadTable t
        (State.configRecord { s1 with sup := { s1.sup with rtDefault := false } } 1 level crc).supDone 2
      else s.supDone 4
    | none => s.supDone 4

/-- LOG_CLEAR: every slot is erased and a LOG_CLEAR record is written as SEQ 1, while LOG_POLICY permits it (R609). -/
def State.supLogClear (s : State) (level : Level) : State :=
  if s.logPolicy % 2 = 0 then s.supDone 3
  else
    let r : LogRec := { typ := 0x0A, ms := s.aonMs, sev := 1
                        payload := BitVec.ofNat 8 (levelCode level) :: leBytes s.log.newest.toNat 4 }
    (State.writeLog { s with log := { s.log with store := [], newest := 0, boots := 0 } } r).supDone 2

/-- BUS_SEND: a master sends BUS_OP to BUS_DST; a broadcast carries only UP, DOWN or CLEAR and gets no reply (R600). -/
def State.supBusSend (s : State) : State :=
  let op := s.sup.busOp.toNat
  let all := s.sup.busDst == 0xFF
  let cast := op == 1 || op == 2 || op == 5
  if !s.busMaster || op = 0 || 5 < op || (all && !cast) then s.supDone 4
  else
    let tag := s.sup.busTag
    let body := if op = 4 then leBytes s.log.rseq.toNat 4 else []
    let s1 := State.busSend { s with sup := { s.sup with busTag := tag + 1 } } s.sup.busDst (BitVec.ofNat 8 op) tag body
    if all then (s1.busRecord true op 0xFF 0).supDone 2
    else
      let q : BusReq := { dst := s.sup.busDst, cmd := op, tag := tag, payload := body }
      { s1 with sup := { s1.sup with busReq := some q, cmdRes := 1 } }

/-- A write of SUP_CMD at a level: ignored while BUSY; SAVE, LOAD and LOG_CLEAR need SERVICE (R612). -/
def State.supCmd (s : State) (code : Nat) (level : Level) : State :=
  if s.sup.cmdRes = 1 ∨ code = 0 ∨ 7 < code then s
  else if (code = 4 ∨ code = 5 ∨ code = 6) ∧ level = .field then s.supDone 3
  else if code = 1 then
    if s.sup.seq = 2 then s.supDone 4 else (s.upStart.railsSettle).supDone 2
  else if code = 2 then (s.downCommand .caused).supDone 2
  else if code = 3 then s.supClear.supDone 2
  else if code = 4 then s.supSave level
  else if code = 5 then s.supLoad level
  else if code = 6 then s.supLogClear level
  else s.supBusSend

/-- The host writes SUP_CMD on page 1. -/
def State.hostSupCmd (s : State) (code : Nat) : Host.Outcome State Fault Refusal :=
  s.pageOne fun s => s.supCmd code s.cp.sess.level

/-- SUP_RESTORE. -/
def execSupRestore (s : State) : Host.Outcome State Fault Refusal := s.hostSupCmd 1
/-- SUP_DOWN. -/
def execSupDown (s : State) : Host.Outcome State Fault Refusal := s.hostSupCmd 2
/-- SUP_CLEAR. -/
def execSupClear (s : State) : Host.Outcome State Fault Refusal := s.hostSupCmd 3
/-- SUP_SAVE. -/
def execSupSave (s : State) : Host.Outcome State Fault Refusal := s.hostSupCmd 4
/-- SUP_LOAD. -/
def execSupLoad (s : State) : Host.Outcome State Fault Refusal := s.hostSupCmd 5
/-- SUP_LOG_CLEAR. -/
def execSupLogClear (s : State) : Host.Outcome State Fault Refusal := s.hostSupCmd 6
/-- SUP_BUS_SEND. -/
def execSupBusSend (s : State) : Host.Outcome State Fault Refusal := s.hostSupCmd 7

/-! ### The supervisor bus (R598 to R600) -/

/-- A request frame reaches this head: it is a powered slave, and DST names it or all heads. -/
def State.busHears (s : State) (dst : Byte) : Bool :=
  s.supRuns && !s.busMaster && (dst == 0xFF || dst.toNat == s.headId)

/-- The reply to a request; none to a broadcast. -/
def State.busAnswer (s : State) (dst src tag : Byte) (cmd res : Nat) (data : List Byte) : State :=
  if dst = 0xFF then s else s.busSend src (BitVec.ofNat 8 (cmd + 128)) tag (BitVec.ofNat 8 res :: data)

/-- A received UP, DOWN or CLEAR is logged as a BUS record (R599). -/
def State.busTaken (s : State) (cmd : Nat) (src : Byte) (res : Nat) : State := s.busRecord false cmd src.toNat res

/-- BUS_UP. -/
def execBusUp (dst src tag : Byte) (s : State) : Host.Outcome State Fault Refusal :=
  if s.busHears dst then
    let leaving := match s.transit with
      | some tr => tr.target == .supervise
      | none => false
    if s.mode == .supervise || leaving then
      let s1 := (s.busTaken 1 src 0).busAnswer dst src tag 1 0 []
      .next ((State.triggerStands { s1 with sup := { s1.sup with trigReq := true } } .bus).railsSettle)
    else .next ((s.busTaken 1 src 1).busAnswer dst src tag 1 1 [])
  else .next s

/-- BUS_DOWN: the reply, then a full down. -/
def execBusDown (dst src tag : Byte) (s : State) : Host.Outcome State Fault Refusal :=
  if s.busHears dst then .next (((s.busTaken 2 src 0).busAnswer dst src tag 2 0 []).downCommand .bus) else .next s

/-- The 12 bytes of a STATUS reply (Table 23-13, BUS_RX). -/
def State.busStatus (s : State) : List Byte :=
  let good := s.railMask fun x => x.st == .good
  let latch := s.railMask fun x => x.latched
  [BitVec.ofNat 8 s.mode.code.toNat, BitVec.ofNat 8 s.viewSupState] ++ leBytes good.toNat 3 ++ leBytes latch.toNat 3 ++
    leBytes s.log.newest.toNat 4

/-- BUS_STATUS. -/
def execBusStatus (dst src tag : Byte) (s : State) : Host.Outcome State Fault Refusal :=
  if s.busHears dst then .next (s.busAnswer dst src tag 3 0 s.busStatus) else .next s

/-- BUS_LOG_READ: LOG_RSTAT and the record of a sequence number. -/
def execBusLogRead (dst src tag : Byte) (seq : Word) (s : State) : Host.Outcome State Fault Refusal :=
  if s.busHears dst then
    let r := s.logRead seq.toNat
    .next (s.busAnswer dst src tag 4 0 (BitVec.ofNat 8 (2 * r.1) :: r.2))
  else .next s

/-- BUS_CLEAR. -/
def execBusClear (dst src tag : Byte) (s : State) : Host.Outcome State Fault Refusal :=
  if s.busHears dst then .next (((s.busTaken 5 src 0).supClear).busAnswer dst src tag 5 0 []) else .next s

/-- BUS_RESERVED_CMD: a request with command code 0, 6 or 7 is ignored and answered BAD. -/
def execBusReservedCmd (dst src tag : Byte) (cmd : BitVec 3) (s : State) : Host.Outcome State Fault Refusal :=
  if s.busHears dst && (cmd == 0 || cmd == 6 || cmd == 7) then .next (s.busAnswer dst src tag cmd.toNat 2 []) else .next s

/-- A request of this master has ended: BUS records of UP, DOWN and CLEAR, and the command's result (Table 23-7). -/
def State.busEnd (s : State) (q : BusReq) (record res : Nat) : State :=
  let s : State := { s with sup := { s.sup with busReq := none } }
  let s := if q.cmd = 1 ∨ q.cmd = 2 ∨ q.cmd = 5 then s.busRecord true q.cmd q.dst.toNat record else s
  s.supDone res

/-- BUS_REPLY: the reply to the request that waits, by its TAG: RESULT, then data into BUS_RX or LOG_REC (R600, R612). -/
def execBusReply (src tag : Byte) (payload : List Byte) (s : State) : Host.Outcome State Fault Refusal :=
  match s.sup.busReq with
  | some q =>
    if s.supRuns && q.tag == tag && q.dst == src && decide (1 ≤ payload.length) && decide (payload.length ≤ 40) then
      let res := (payload.getD 0 2).toNat
      let data := payload.drop 1
      if res = 2 then .next (s.busEnd q 3 6)
      else if q.cmd = 3 ∧ res = 0 then
        .next ((State.supEv { s with sup := { s.sup with busRx := data.take 12 } } 8).busEnd q 0 2)
      else if q.cmd = 4 ∧ res = 0 then
        let st := BitVec.ofNat 2 ((data.getD 0 0).toNat / 2)
        .next (State.busEnd { s with log := { s.log with lrec := (data.drop 1).take 32, rstat := st } } q 0 2)
      else .next (s.busEnd q (min res 1) 2)
    else .next s
  | none => .next s

/-- BUS_REPLY_TIMEOUT: 1 ms without a reply: the request is sent twice more before NO_REPLY (R600). -/
def execBusReplyTimeout (s : State) : Host.Outcome State Fault Refusal :=
  match s.sup.busReq with
  | some q =>
    if !s.supRuns then .next s
    else if q.sends < 3 then
      let s1 := s.busSend q.dst (BitVec.ofNat 8 q.cmd) q.tag q.payload
      .next { s1 with sup := { s1.sup with busReq := some { q with sends := q.sends + 1 } } }
    else .next (s.busEnd q 2 5)
  | none => .next s

/-! ### VAON (R35, R579, R604, R605, R643, R663, R729) -/

/-- What the head keeps without VAON: the non-volatile stores and the levels that the board drives. -/
def State.cold (s : State) : State :=
  { mode := .unpowered, pending := s.pending, freeCtr := s.freeCtr
    log := { store := s.log.store, boots := s.log.boots, vaonRises := s.log.vaonRises }
    sup := { saved := s.sup.saved }
    flash := { s.flash with op := none }
    otp := { s.otp with prog := none, hashStage := [] }
    wear := { mons := s.wear.mons, hours := s.wear.hours, lamp := s.wear.lamp, eol := s.wear.eol }
    lio := { ilkLow := s.lio.ilkLow } }

/-- A record whose write the fall of VAON cuts: erased, then bytes 0 to 27 and 30, then the CRC (R603). -/
def tornBytes (bs : List Byte) (steps : Nat) : List Byte :=
  let e (n : Nat) : List Byte := List.replicate n 0xFF
  if steps = 0 then e 32
  else if steps = 1 then bs.take 28 ++ e 2 ++ [0x00] ++ e 1
  else if steps = 2 then bs.take 31 ++ e 1
  else bs

/-- VAON_FALL: the K16 is UNPOWERED. `writing` gives the steps done of a record's write in progress, and `held` says whether
VAON stays at or above 2.50 V for 150 µs, which completes that write and an OTP slot (R605, R663, R678, R729). -/
def execVaonFall (writing : Option (Fin 4)) (held : Bool) (s : State) : Host.Outcome State Fault Refusal :=
  if s.mode = .unpowered then .next s
  else
    let store := match writing, s.log.queue with
      | some k, r :: _ =>
        let seq := (s.log.newest + 1).toNat
        let bs := logBytes seq s.log.boots s.log.lostPend r
        SMap.setBytes erasedByte s.log.store (32 * logSlot seq) (if held then bs else tornBytes bs k.val)
      | _, _ => s.log.store
    let otp := match s.otp.prog with
      | some p => if held then s.otp.onRow (onLast fun x => { x with committed := true }) p.setting else s.otp
      | none => s.otp
    .next (State.cold { s with otp := otp, log := { s.log with store := store } })

/-- Sequence number of the newest valid record: every slot is scanned (R604). -/
def State.logScan (s : State) : Nat :=
  (s.log.store.filter fun p => p.1 % 32 == 31 && p.2 == 0x5A).foldl (fun best p =>
    let bs := s.slotBytes (p.1 / 32)
    if recValid bs then max best (ofLeBytes (bs.take 4)) else best) 0

/-- The rail table is loaded: the saved copy, or the default table with DEFAULT and a CONFIG record (R579). -/
def State.tableLoad (s : State) : State :=
  let dflt (s : State) : State :=
    let s1 := s.loadTable (RailEntry.defaults)
    (State.configRecord { s1 with sup := { s1.sup with rtDefault := true } } 2 .field (tableCrc s1.railTable))
  match s.sup.saved with
  | some (t, crc) => if tableCrc t = crc then s.loadTable t else dflt s
  | none => dflt s

/-- VAON_RISE: the head enters SUPERVISE, scans the log, queues the POWERON record and loads the rail table. -/
def execVaonRise (s : State) : Host.Outcome State Fault Refusal :=
  if s.mode = .unpowered ∨ (s.mode = .supervise ∧ !s.sup.loaded) then
    let s : State := if s.mode = .unpowered then { s with mode := .supervise } else s
    let rises := s.log.vaonRises + 1
    let s : State := { s with log := { s.log with newest := BitVec.ofNat 32 s.logScan, vaonRises := rises } }
    let s := s.pushLog 0x01 (BitVec.ofNat 8 (s.fld F.CLK_AON_STAT_SRC) :: leBytes rises.toNat 2)
    let s := s.tableLoad
    .next { s with sup := { s.sup with loaded := true } }
  else .next s

end Sys2Proof.Machine
end

