-- ==== Sys2Proof/Machine/Flash.lean ====
section
/-! DEFINITION. The boot flash (R556, R573, R574) and the console of FALLBACK (R571). -/

namespace Sys2Proof.Machine

/-! ### Reading and writing the device (log 31) -/

/-- Bytes of the flash; addresses beyond the device read free values. -/
def State.flashBytes (s : State) (a n : Nat) : List Byte :=
  (List.range n).map fun i =>
    if a + i < s.flash.size then SMap.get erasedByte s.flash.store (a + i) else Config.freeByte (s.freeCtr + i)

/-- Store bytes in the device; those beyond it are lost. -/
def State.flashPut (s : State) (a : Nat) (bs : List Byte) : State :=
  let kept := bs.take (s.flash.size - a)
  { s with flash := { s.flash with store := SMap.setBytes erasedByte s.flash.store a kept } }

/-- The bytes of PWR_FL_BUF. -/
def State.flBuf (s : State) (n : Nat) : List Byte :=
  ((List.range 64).flatMap fun i => leBytes (s.reg (Reg.PWR_FL_BUF i)).toNat 4).take n

/-- Replace the first bytes of PWR_FL_BUF. -/
def State.setFlBuf (s : State) (bs : List Byte) : State :=
  let all := bs ++ (s.flBuf 256).drop bs.length
  (List.range 64).foldl (fun s i =>
    s.setReg (Reg.PWR_FL_BUF i) (BitVec.ofNat 32 (ofLeBytes ((all.drop (4 * i)).take 4)))) s

/-! ### PWR_FL_CMD (R573, R574) -/

/-- An operation ends with a code. -/
def State.flEnd (s : State) (code : Nat) : State :=
  let s : State := { s with flash := { s.flash with op := none } }
  ((s.setFld F.PWR_FL_STAT_BUSY 0).setFld F.PWR_FL_STAT_CODE code).raise F.PWR_FL_STAT_DONE

/-- A range of flash addresses touches the slot from which the head started, in SETUP or a capture mode. -/
def State.flLocked (s : State) (a n : Nat) : Bool :=
  s.mode.isRun &&
    match s.boot.slot with
    | some b =>
      let lo := b2n b * 0x2000000
      decide (a < lo + 0x2000000) && decide (lo < a + n)
    | none => false

/-- An operation is asked for: BUSY, ALIGN, LOCKED, or it runs. -/
def State.flStart (s : State) (op : FlOp) (len : Nat) : State :=
  let a := s.fld F.PWR_FL_ADDR
  if s.mode = .boot ∨ s.bit F.PWR_FL_STAT_BUSY then s.setFld F.PWR_FL_STAT_CODE 4
  else
    let n := if op = .erase then 0x10000 else len + 1
    let misaligned := (op == .program && decide (256 < a % 256 + n)) || (op == .erase && decide (a % 0x10000 ≠ 0))
    if misaligned then s.flEnd 2
    else if op != .read && s.flLocked a n then s.flEnd 1
    else
      let data := if op = .program then s.flBuf n else List.replicate n 0xFF
      (State.raise { s with flash := { s.flash with op := some (op, a, data) } } F.PWR_FL_STAT_BUSY).setFld F.PWR_FL_STAT_CODE 0

/-- A write of PWR_FL_CMD; OP 0 is reserved (R11). -/
def State.writeFlCmd (s : State) (v : Word) : State :=
  let op := getBits v 0 2
  let len := getBits v 8 8
  if op = 1 then s.flStart .read len
  else if op = 2 then s.flStart .program len
  else if op = 3 then s.flStart .erase len
  else s

/-- FL_READ. -/
def execFlRead (len : Byte) (s : State) : Host.Outcome State Fault Refusal :=
  if s.plateUp then .next (s.flStart .read len.toNat) else .next s

/-- FL_PROGRAM. -/
def execFlProgram (len : Byte) (s : State) : Host.Outcome State Fault Refusal :=
  if s.plateUp then .next (s.flStart .program len.toNat) else .next s

/-- FL_ERASE; LEN has no part in it. -/
def execFlErase (len : Byte) (s : State) : Host.Outcome State Fault Refusal :=
  if s.plateUp then .next (s.flStart .erase len.toNat) else .next s

/-- FL_OP_DONE: the operation is complete. -/
def execFlOpDone (s : State) : Host.Outcome State Fault Refusal :=
  match s.flash.op with
  | none => .next s
  | some (op, a, data) =>
    match op with
    | .read => .next (State.flEnd { (s.setFlBuf (s.flashBytes a data.length)) with freeCtr := s.freeCtr + data.length } 0)
    | .program | .erase => .next ((s.flashPut a data).flEnd 0)

/-- FL_OP_TIMEOUT: the operation has not completed within 4 s; the bytes it was to change hold free values, as the manual
states none (log 33). -/
def execFlOpTimeout (s : State) : Host.Outcome State Fault Refusal :=
  match s.flash.op with
  | none => .next s
  | some (op, a, data) =>
    let free := (List.range data.length).map fun i => Config.freeByte (s.freeCtr + i)
    let s1 : State := { s with freeCtr := s.freeCtr + data.length }
    match op with
    | .read => .next ((s1.setFlBuf free).flEnd 3)
    | .program | .erase => .next ((s1.flashPut a free).flEnd 3)

/-! ### The console (R571, Table 22-5) -/

/-- One hex digit in ASCII. -/
def hexDigit (n : Nat) : Byte := if n % 16 < 10 then BitVec.ofNat 8 (48 + n % 16) else BitVec.ofNat 8 (55 + n % 16)

/-- A byte as two hex digits. -/
def hexByte (b : Byte) : List Byte := [hexDigit (b.toNat / 16), hexDigit b.toNat]

/-- A reply line, ended by CR LF, joins the characters that the console agent sends on UART1. -/
def State.consoleLine (s : State) (line : List Byte) : State :=
  let u := s.uart[(1 : Fin 2)]
  s.setUart 1 { u with agent := u.agent ++ line ++ [13, 10] }

/-- CONSOLE_S: "FB=rr CNT=c SLOT=s A=a B=b" (log 34). -/
def execConsoleS (s : State) : Host.Outcome State Fault Refusal :=
  if s.mode = .fallback then
    .next (s.consoleLine ([70, 66, 61] ++ hexByte s.cp.fbReason ++ [32, 67, 78, 84, 61, hexDigit s.cp.bootCnt.toNat] ++
      [32, 83, 76, 79, 84, 61, hexDigit (s.fld F.PWR_BOOT_STAT_SLOT)] ++ [32, 65, 61, hexDigit (s.fld F.PWR_BOOT_RES_A)] ++
      [32, 66, 61, hexDigit (s.fld F.PWR_BOOT_RES_B)]))
  else .next s

/-- "?", the reply to anything else. -/
def State.consoleAnswer (s : State) : State := s.consoleLine [63]

/-- CONSOLE_L: the newest n records, newest first; n outside 1 to 16 is not a command of Table 22-5 (log 34). -/
def execConsoleL (n : Nat) (s : State) : Host.Outcome State Fault Refusal :=
  if s.mode = .fallback then
    if n = 0 ∨ 16 < n then .next s.consoleAnswer
    else
      let count := min n s.log.newest.toNat
      .next ((List.range count).foldl (fun t i =>
        t.consoleLine ((s.slotBytes (logSlot (s.log.newest.toNat - i))).flatMap hexByte)) s)
  else .next s

/-- CONSOLE_B: a request for BOOT under R572. -/
def execConsoleB (s : State) : Host.Outcome State Fault Refusal :=
  if s.mode = .fallback then .next (s.modeRequest .console 2 false false) else .next s

/-- CONSOLE_B_SLOT: BOOT_NEXT names a slot, then as B. -/
def execConsoleBSlot (slotB : Bool) (s : State) : Host.Outcome State Fault Refusal :=
  if s.mode = .fallback then
    let next : BitVec 2 := if slotB then 2 else 1
    .next (State.modeRequest { s with cp := { s.cp with bootNext := next } } .console 2 false false)
  else .next s

/-- CONSOLE_UNKNOWN. -/
def execConsoleUnknown (s : State) : Host.Outcome State Fault Refusal :=
  if s.mode = .fallback then .next s.consoleAnswer else .next s

end Sys2Proof.Machine
end

