-- ==== Sys2Proof/Machine/JoistDecode.lean ====
section
/-! DEFINITION. Fetching and decoding of a Joist instruction (R296 to R303, R325): prefixes, opcode classes, operand bytes and
the causes of Table 12-5, and the end of a wait inside an instruction (R338). -/

namespace Sys2Proof.Machine

/-- The format classes of Table 12-1. -/
inductive JClass where
  | n | r1 | r2 | r3 | ri16 | rri16 | ri32 | br | j24 | cj | mem | amo | arr
  deriving DecidableEq, Repr

/-- The class of an opcode (Table 12-3); none for a reserved one. -/
def jClass (op : Nat) : Option JClass :=
  if op ≤ 0x01 then some .n
  else if op = 0x02 then some .r2
  else if op = 0x03 then some .r1
  else if op = 0x08 ∨ op = 0x0A then some .r2
  else if op = 0x09 then some .r1
  else if 0x10 ≤ op ∧ op ≤ 0x25 then some .r3
  else if op = 0x28 ∨ op = 0x29 then some .r2
  else if (0x30 ≤ op ∧ op ≤ 0x36) ∨ (0x38 ≤ op ∧ op ≤ 0x3B) then some .rri16
  else if op = 0x3C then some .ri32
  else if op = 0x3D then some .ri16
  else if 0x40 ≤ op ∧ op ≤ 0x42 then some .br
  else if op = 0x44 then some .j24
  else if op = 0x45 then some .cj
  else if op = 0x46 then some .r1
  else if op = 0x47 then some .r2
  else if (0x50 ≤ op ∧ op ≤ 0x54) ∨ (0x58 ≤ op ∧ op ≤ 0x5A) then some .mem
  else if 0x60 ≤ op ∧ op ≤ 0x65 then some .amo
  else if 0x70 ≤ op ∧ op ≤ 0x75 then some .r3
  else if op = 0x76 ∨ op = 0x77 then some .r2
  else none

/-- Operand bytes of a class without LONG. -/
def JClass.len : JClass → Nat
  | .n => 0 | .r1 => 1 | .r2 => 2 | .r3 => 3 | .ri16 => 3 | .rri16 => 4 | .ri32 => 5 | .br => 3 | .j24 => 3 | .cj => 4
  | .mem => 5 | .amo => 6 | .arr => 5

/-- Operand bytes whose bits [7:5] are reserved: those that name a register or a peg (R297). -/
def JClass.regBytes : JClass → List Nat
  | .n => [] | .r1 => [0] | .r2 => [0, 1] | .r3 => [0, 1, 2] | .ri16 => [0] | .rri16 => [0, 1] | .ri32 => [0] | .br => [0]
  | .j24 => [] | .cj => [0] | .mem => [0, 1] | .amo => [0, 1, 3] | .arr => [3, 4]

/-- One decoded instruction: its prefixes, opcode and operand bytes, the address after it, and the first cause of Table 12-5
that it meets, 0 for none. -/
structure JInstr where
  arr : Bool := false
  atom : Bool := false
  urg : Bool := false
  repi : Bool := false
  repn : Bool := false
  /-- Register that counts a repetition. -/
  nn : Nat := 0
  /-- The opcode or macro-op OP; none when the instruction ends before it. -/
  op : Option Nat := none
  ob : List Nat := []
  next : Nat := 0
  cause : Nat := 0
  deriving DecidableEq, Repr

/-- Operand byte i. -/
def JInstr.b (x : JInstr) (i : Nat) : Nat := x.ob.getD i 0

/-- Register number in operand byte i. -/
def JInstr.r (x : JInstr) (i : Nat) : Nat := x.b i % 32

/-- A repetition prefix stands. -/
def JInstr.rep (x : JInstr) : Bool := x.repi || x.repn

/-- Operand bytes i to i + n − 1 as a number, lowest byte first. -/
def JInstr.imm (x : JInstr) (i n : Nat) : Nat := ofLeBytes (((x.ob.drop i).take n).map (BitVec.ofNat 8))

/-- The same, sign-extended to 32 bits. -/
def JInstr.simm (x : JInstr) (i n : Nat) : Word := BitVec.signExtend 32 (BitVec.ofNat (8 * n) (x.imm i n))

/-- What the prefix bytes give: flags, how many bytes, which prefixes were seen, and the causes met. -/
structure JPre where
  x : JInstr := {}
  used : Nat := 0
  seen : List Nat := []
  causes : List Nat := []
  /-- Bytes after the prefixes; none when the store ends within them. -/
  rest : Option (List Nat) := none

/-- A prefix byte is taken: BAD_PREFIX for a reserved or repeated one, for REPI with REPN, and beyond three bytes. -/
def JPre.take (p : JPre) (b : Nat) (bytes : Nat) (x : JInstr) : JPre :=
  let known := b == 0xE1 || b == 0xE4 || b == 0xEC || b == 0xE8 || b == 0xE9
  let both := (b == 0xE8 && p.seen.contains 0xE9) || (b == 0xE9 && p.seen.contains 0xE8)
  let bad := !known || p.seen.contains b || both || decide (3 < p.used + bytes)
  { p with x := x, used := p.used + bytes, seen := b :: p.seen, causes := if bad then 2 :: p.causes else p.causes }

/-- Take the prefix bytes of an instruction (R300 to R302). The byte after ARR is the macro-op OP. -/
def jPrefixes (p : JPre) : List Nat → JPre
  | [] => { p with causes := 5 :: p.causes }
  | 0xE1 :: bs => { p.take 0xE1 1 { p.x with arr := true } with rest := some bs }
  | 0xE4 :: bs => jPrefixes (p.take 0xE4 1 { p.x with atom := true }) bs
  | 0xEC :: bs => jPrefixes (p.take 0xEC 1 { p.x with urg := true }) bs
  | [0xE8] =>
    let q := p.take 0xE8 2 { p.x with repi := true }
    { q with causes := 5 :: q.causes }
  | [0xE9] =>
    let q := p.take 0xE9 2 { p.x with repn := true }
    { q with causes := 5 :: q.causes }
  | 0xE8 :: nn :: bs =>
    let q := p.take 0xE8 2 { p.x with repi := true, nn := nn % 32 }
    jPrefixes { q with causes := if 32 ≤ nn then 4 :: q.causes else q.causes } bs
  | 0xE9 :: nn :: bs =>
    let q := p.take 0xE9 2 { p.x with repn := true, nn := nn % 32 }
    jPrefixes { q with causes := if 32 ≤ nn then 4 :: q.causes else q.causes } bs
  | b :: bs =>
    if 0xE0 ≤ b ∧ b ≤ 0xEF then jPrefixes (p.take b 1 p.x) bs
    else { p with rest := some (b :: bs) }

/-- A repetition prefix is accepted on an opcode (Table 12-2). -/
def repAccepts (c : JClass) (op : Nat) : Bool :=
  c == .arr || (c != .n && c != .br && c != .j24 && c != .cj && !within 0x02 op 0x0A && op != 0x46 && op != 0x47)

/-- The prefixes are accepted on the class (R301). -/
def JInstr.prefixOk (x : JInstr) (c : JClass) (op : Nat) : Bool :=
  (x.atom == (c == .amo)) && (!x.urg || c == .mem || c == .amo) && (!x.rep || repAccepts c op)

/-- A reserved bit of the operand bytes is set (R297, R299, Table 12-3). -/
def JInstr.reservedSet (x : JInstr) (c : JClass) (op : Nat) : Bool :=
  c.regBytes.any (fun i => decide (32 ≤ x.b i)) || ((c == .mem || c == .amo) && decide (64 ≤ x.b 2)) ||
    (within 0x34 op 0x36 && c == .rri16 && decide (32 ≤ x.imm 2 2))

/-- The lowest cause of a list: the first of Table 12-5. -/
def firstCause (l : List Nat) : Nat := l.foldl (fun m c => if m = 0 ∨ c < m then c else m) 0

/-- The opcode and operand bytes after the prefixes. -/
def JPre.finish (p : JPre) (pc : Nat) : JInstr :=
  match p.rest with
  | none => { p.x with cause := firstCause p.causes }
  | some [] =>
    let pre := if !p.x.arr || p.x.prefixOk .arr 0 then [] else [3]
    { p.x with cause := firstCause (5 :: pre ++ p.causes) }
  | some (op :: bs) =>
    match if p.x.arr then some JClass.arr else jClass op with
    | none => { p.x with op := some op, cause := firstCause (1 :: p.causes) }
    | some c =>
      let long := (c == .mem || c == .amo) && bitOf (bs.getD 2 0) 5
      let len := c.len + 2 * b2n long
      let x : JInstr := { p.x with op := some op, ob := bs.take len, next := pc + p.used + 1 + len }
      let fetch := if bs.length < len then [5] else []
      let bits := if x.reservedSet c op then [4] else []
      let pre := if x.prefixOk c op then [] else [3]
      let ill := if !x.arr && op == 0x42 && decide (1 ≤ bs.length) && x.r 0 == 0 then [1] else []
      { x with cause := firstCause (fetch ++ bits ++ pre ++ ill ++ p.causes) }

/-- Bytes of the sequencer store from an address, at most n and none beyond its end. -/
def State.codeBytes (s : State) (pc : Nat) (n : Nat) : List Nat :=
  (SMap.getBytes zeroByte s.seqStore pc (min n (0x40000 - pc))).map (·.toNat)

/-- The instruction at a task's PC. -/
def State.jFetch (s : State) (n : Fin 8) : JInstr :=
  let pc := (s.tasks[n]).pc.toNat
  (jPrefixes {} (s.codeBytes pc 24)).finish pc

/-- The bytes that spell an instruction: prefix bytes, then the opcode, then its operand bytes (R297, R300 to R302). -/
def JInstr.encode (x : JInstr) : List Nat :=
  let rep := if x.repi then [0xE8, x.nn] else if x.repn then [0xE9, x.nn] else []
  (if x.atom then [0xE4] else []) ++ (if x.urg then [0xEC] else []) ++ rep ++ (if x.arr then [0xE1] else []) ++ x.op.toList ++ x.ob

/-- Operand bytes of a class; the LONG bit of the loc byte adds two (R299). -/
def JInstr.operandLen (x : JInstr) (c : JClass) : Nat := c.len + 2 * b2n ((c == .mem || c == .amo) && bitOf (x.b 2) 5)

/-- An instruction at an address is well-formed: its opcode is not reserved, its prefixes obey R301 and stand where Table 12-2
accepts them, no reserved bit is set, and its fields lie in their ranges. -/
def JInstr.wf (x : JInstr) (pc : Nat) : Bool :=
  match x.op with
  | none => false
  | some op =>
    match if x.arr then some JClass.arr else jClass op with
    | none => false
    | some c =>
      decide (op < 256) && x.ob.all (fun b => decide (b < 256)) && x.ob.length == x.operandLen c && !x.reservedSet c op &&
        x.prefixOk c op && !(x.repi && x.repn) && decide (x.nn < 32) && (x.rep || x.nn == 0) &&
        decide (b2n x.atom + b2n x.urg + 2 * b2n x.rep + b2n x.arr ≤ 3) && (x.arr || op != 0x42 || x.r 0 != 0) &&
        x.next == pc + x.encode.length && x.cause == 0

/-- The class of a decoded instruction. -/
def JInstr.cls (x : JInstr) : Option JClass := if x.arr then some .arr else x.op.bind jClass

/-- Registers that an instruction reads or writes, the count of a repetition to come included (R232). -/
def JInstr.touches (x : JInstr) (fresh : Bool) : List Nat :=
  let op := x.op.getD 0
  let bytes := match x.cls with
    | none => []
    | some c => if !x.arr && (op == 0x08 || op == 0x0A) then [0] else if !x.arr && op == 0x09 then [] else c.regBytes
  bytes.map x.r ++ (if x.rep && fresh then [x.nn] else [])

/-- An instruction is marked "int." in Table 12-3. -/
def JInstr.internal (x : JInstr) : Bool :=
  !x.arr && (match x.op with | some op => within 0x1C op 0x1F || op == 0x76 || op == 0x77 | none => false)

/-! ### The end of a wait inside an instruction (R225, R232, R309, R311, R338) -/

/-- A blocking access finds no free tag at SEQ's NI: every tag is taken, or spoken for by what stands in its bridge. -/
def State.seqTagsFull (s : State) : Bool := decide (256 ≤ s.ni[1].tags.length + s.ni[1].bridge.length)

/-- The Truss accepts no push now. -/
def State.pushBlocked (s : State) : Bool := !s.domOn Dom.truss || decide (64 ≤ s.trs.queue.length)

/-- The instruction at a task's PC reads or writes a pending register. -/
def State.pendBlocked (s : State) (n : Fin 8) : Bool :=
  ((s.jFetch n).touches (s.tasks[n]).rep.isNone).any fun r => (s.tasks[n]).pend.contains r

/-- What a task waits for inside an instruction has come. -/
def State.waitEnded (s : State) (n : Fin 8) : Bool :=
  match (s.tasks[n]).wait with
  | .pending => !s.pendBlocked n
  | .rsync => (s.tasks[n]).inflight == 0
  | .truss => !s.pushBlocked
  | .tag => !s.seqTagsFull
  | .internal => s.taskSt[n] == .wait
  | _ => false

/-- Tasks whose wait inside an instruction has ended issue again: READY from WAIT, or at once when still selected. A task
that stands at an internal step keeps that point until it goes on or another task comes in (R338). -/
def State.settleWaits (s : State) : State :=
  let go (n : Fin 8) : Bool := s.waitEnded n && (s.taskSt[n] == .wait || s.taskSt[n] == .run)
  let task (n : Fin 8) : Task := if go n then { s.tasks[n] with wait := .none } else s.tasks[n]
  let st (n : Fin 8) : TaskSt := if go n && s.taskSt[n] == .wait then .ready else s.taskSt[n]
  { s with tasks := Vector.ofFn task, taskSt := Vector.ofFn st }

end Sys2Proof.Machine
end

