-- ==== Sys2Proof/Machine/Pins.lean ====
section
/-! DEFINITION. What the K16 drives on its balls (R107, R112, R122, R164, R418, R518 to R522, R539, R580, R717 to R719, R722).
Supplies, drive strength and slew have no level (R720, R725). -/

namespace Sys2Proof.Machine

/-- What stands on one ball from inside: high impedance, a level, or what a test-access instruction sets from the boundary
register, whose layout is a file outside the spec (R721). -/
inductive BallOut where
  | hiZ | low | high | boundary
  deriving DecidableEq, Repr

/-- A push-pull output at a level. -/
def BallOut.level (v : Bool) : BallOut := if v then .high else .low

/-- A push-pull output that is active or not, active low with `pol` set. -/
def BallOut.active (pol act : Bool) : BallOut := .level (act != pol)

/-- An open-drain output: pulled low, or released. -/
def BallOut.drain : BallOut → BallOut
  | .low => .low
  | _ => .hiZ

/-! ### Banks (R718, R719, R722) -/

/-- A ball on the bank of a rail: high impedance while the rail is not GOOD; a test-access instruction that acts controls every
ball of a powered bank. -/
def State.ball (s : State) (bank : Fin 24) (out : BallOut) : BallOut :=
  if s.mode = .unpowered ∨ (s.rails[bank]).st ≠ .good then .hiZ
  else if s.tapActs then (if s.tap.instr = .highz then .hiZ else .boundary) else out

/-- A ball on the bank VAON. -/
def State.ballAon (s : State) (out : BallOut) : BallOut :=
  if s.mode = .unpowered then .hiZ
  else if s.tapActs then (if s.tap.instr = .highz then .hiZ else .boundary) else out

/-- LINEIO has not been ON since its bank came up (Table 30-5, log 70). -/
def State.lineioFresh (s : State) : Bool := !s.domOn Dom.lineio && (s.mode == .supervise || s.mode == .boot)

/-- A ball of its own of LINEIO on VIO33, rail 5. -/
def State.ballLio (s : State) (out : BallOut) : BallOut := s.ball 5 (if s.lineioFresh then .hiZ else out)

/-! ### The outputs of LINEIO -/

/-- EXPO at its ball (R107). -/
def State.expoOut (s : State) : BallOut := .active (s.bit F.ENC_TRIG_CFG_EXPO_POL) s.lio.expoOn

/-- A MARK output: a pulse keeps the POL of its start (R112). -/
def State.markOut (s : State) (m : Fin 4) : BallOut :=
  let x := s.lio.marks[m]
  .active (if x.out then x.pol else s.bit (F.MARKm_CFG_POL m)) x.out

/-- The gate of a strobe channel (R144, R164). -/
def State.gateOut (s : State) (n : Fin 8) : BallOut := .active (s.bit (F.STBn_CFG_POL n)) (s.lio.stb[n]).gate.isSome

/-- The chip that PTX shows: that of the code period in progress, under the settings taken at its start (R122, R137). -/
def State.ptxChip (s : State) : Bool × Bool :=
  let p := s.lio.prs
  let cfg := (if s.now < p.perT + 99200 then p.cfg else (p.next.map (·.1)).getD p.cfg).toNat
  (p.running && (prsChips 31 (cfg / 2 ^ 13 % 32)).getD ((s.now - p.perT) % 99200 / 3200) false, bitOf cfg 22)

/-- PTX; off while the receiver does not run. -/
def State.ptxOut (s : State) : BallOut :=
  if s.lio.prs.running then .active s.ptxChip.2 s.ptxChip.1 else .active (s.bit F.PRS_CFG_PTX_POL) false

/-- TXD of a UART: high while no character is sent; within a character its bits follow in time, which no command tells, and the
level is free (R539, log 5). -/
def State.txdOut (s : State) (u : Fin 2) : BallOut :=
  if s.uart[u].txCur.isSome then .level (Config.freeBit s.freeCtr) else .high

/-- DE of a UART (R539, R540). -/
def State.deOut (s : State) (u : Fin 2) : BallOut := .active (s.bit (F.UAn_CFG_DE_POL u)) s.uart[u].de

/-- The fixed function of a shared ball (Table 20-2); its inputs drive nothing. -/
def State.fixedOut (s : State) (j : Nat) : BallOut :=
  match j with
  | 24 => s.txdOut 1
  | 26 => s.deOut 1
  | 30 => s.markOut 2
  | 31 => s.markOut 3
  | 32 => s.gateOut 6
  | 33 => s.gateOut 7
  | 34 => s.ptxOut
  | _ => .hiZ

/-- A ball has changed hands within 5 LCLK: the new function's output does not apply yet (R521). -/
def State.parkingOut (s : State) (j : Fin 40) : Bool := (s.jig.park[j]).any fun t => decide (s.now < t + 5)

/-- A JIO ball (R518 to R521): its fixed function's output, or the fabric's while its output enable is 1. -/
def State.jioOut (s : State) (j : Fin 40) : BallOut :=
  s.ball (if j.val < 16 then 4 else 5)
    (if s.parkingOut j || s.lineioFresh then .hiZ
     else if s.ballFixed j then (if 24 ≤ j.val ∧ j.val ≤ 34 then s.fixedOut j else .hiZ)
     else if s.hardOut (.jioEn j) then .level (s.hardOut (.jioOut j)) else .hiZ)

/-! ### Every output ball whose level the spec gives -/

/-- The output balls of Table 30-2 that carry a level. -/
inductive Ball where
  | expo | mark (m : Fin 2) | gate (n : Fin 6) | gorN | jio (j : Fin 40) | pen (r : Fin 24) | u0Txd | u0De | cpIrqN
  deriving DecidableEq, Repr

/-- A PEN ball: high impedance until the table is loaded, whatever the test-access port holds; then the level of OD and POL,
inactive whenever its rail is not enabled (R580, R724). -/
def State.penOut (s : State) (r : Fin 24) : BallOut :=
  let x := s.rails[r]
  let out := BallOut.active x.entry.pol x.pen
  if s.sup.loaded then s.ballAon (if x.entry.od then out.drain else out) else .hiZ

/-- What the K16 puts on a ball. GOR_N is pulled low while GORN_OUT and GOR_OUT are 1 (R418), CP_IRQ_N while an enabled
interrupt stands (R76). -/
def State.ballOut (s : State) : Ball → BallOut
  | .expo => s.ballLio s.expoOut
  | .mark m => s.ballLio (s.markOut (m.castLE (by decide)))
  | .gate n => s.ballLio (s.gateOut (n.castLE (by decide)))
  | .gorN => s.ballLio (if s.bit F.DYN_CFG_GORN_OUT && s.trs.gorOut then .low else .hiZ)
  | .jio j => s.jioOut j
  | .pen r => s.penOut r
  | .u0Txd => s.ballAon (s.txdOut 0)
  | .u0De => s.ballAon (s.deOut 0)
  | .cpIrqN => s.ballAon (if s.irqLine then .low else .hiZ)

/-- JIG_PINj.LEVEL: the level of the ball, which is free where the K16 does not drive it (log 5). -/
def State.jioLevel (s : State) (j : Fin 40) : Bool :=
  match s.jioOut j with
  | .high => true
  | .low => false
  | _ => Config.freeBit s.freeCtr

end Sys2Proof.Machine
end

