-- ==== Sys2Proof/Machine/Views.lean ====
section
/-! DEFINITION. What the ring registers read as (R9, R20, R54): the stored word together with the fields that follow the
state of their block. Reading a value here has no effect; Access adds the effects of a ring read. -/

namespace Sys2Proof.Machine

/-- The stored word with the bits of a number beside it. -/
def State.regOr (s : State) (a n : Nat) : Word := s.reg a ||| BitVec.ofNat 32 n

/-- The two words of a position. -/
def posWord (p : Pos) (hi : Bool) : Word := BitVec.ofNat 32 (if hi then p.toNat / 2 ^ 32 else p.toNat)

/-- A bit per element of a list of flags. -/
def flagBits (l : List Bool) : Nat := l.foldr (fun b n => b2n b + 2 * n) 0

/-! ### Stop CTRL -/

/-- CLK_ (Table 25-5). -/
def State.viewClk (s : State) (a : Nat) : Word :=
  if a = Reg.CLK_AON_MS_LO then posWord s.aonMs false
  else if a = Reg.CLK_AON_MS_HI then posWord s.aonMs true
  else s.reg a

/-- PWR_ (R56, R90, Tables 22-11, 24-11, 28-10, 30-9, 31-12). -/
def State.viewPwr (s : State) (a : Nat) : Word :=
  if a = 0x10000 then BitVec.ofNat 32 s.viewMode
  else if a = pwrModeReqAddr then s.reg a
  else if a = 0x10008 then BitVec.ofNat 32 (s.joistResult.result.toNat + 16 * s.joistResult.detail.toNat)
  else if a = Reg.PWR_LADDER_RESULT then
    BitVec.ofNat 32 (s.joistLadderResult.result.toNat + 16 * s.joistLadderResult.detail.toNat)
  else if a = Reg.PWR_LADDER_STAT then BitVec.ofNat 32 s.viewLadderStat
  else if a = Reg.PWR_DOM_ON_A then BitVec.ofNat 32 (s.viewDomOn 0)
  else if a = Reg.PWR_DOM_ON_B then BitVec.ofNat 32 (s.viewDomOn 1)
  else if a = Reg.PWR_DOM_ON_C then BitVec.ofNat 32 (s.viewDomOn 2)
  else if a = Reg.PWR_SCR_STAT then
    s.regOr a (b2n (match s.scr with | some c => c.joist | none => false))
  else s.reg a

/-- WR_ (Table 26-6). -/
def State.viewWr (s : State) (a : Nat) : Word :=
  if a = Reg.WR_STAT then s.regOr a (8 * b2n s.wear.eol)
  else if a = Reg.WR_HOURS then BitVec.ofNat 32 s.wear.hours
  else
    match arrayIdx? 96 ((a - Reg.WR_CMi 0) / 4) with
    | some i => if Reg.WR_CMi 0 ≤ a then BitVec.ofNat 32 (s.viewCm i) else s.reg a
    | none => s.reg a

/-- Word w of a key hash. -/
def State.viewKeyHash (s : State) (k w : Nat) : Word :=
  match arrayIdx? 4 k with
  | some k =>
    match s.keyHash k with
    | some v => BitVec.ofNat 32 (v / 2 ^ (32 * w))
    | none => 0
  | none => 0

/-- OTP_ (Table 27-11). -/
def State.viewOtp (s : State) (a : Nat) : Word :=
  let n (x : Nat) : Word := BitVec.ofNat 32 x
  if a = Reg.OTP_STAT then n (b2n s.otpOk + 2 * b2n s.otp.prog.isSome)
  else if a = Reg.OTP_REMAIN then n s.viewOtpRemain
  else if a = Reg.OTP_HEAD then n s.otpHead
  else if a = Reg.OTP_BOOT_POLICY then n s.bootPolicy
  else if a = Reg.OTP_LOG_POLICY then n s.logPolicy
  else if a = Reg.OTP_DEBUG_LOCK then n s.debugLock
  else if a = Reg.OTP_KEY_STAT then n s.viewKeyStat
  else if a = Reg.OTP_KEY_REVOKE then n s.keyRevoke
  else if 0x40020 ≤ a ∧ a < 0x400A0 then s.viewKeyHash ((a - 0x40020) / 32) ((a - 0x40020) / 4 % 8)
  else if a = 0x400A0 then n s.otp.serial.toNat
  else if a = 0x400A4 then n (s.otp.serial.toNat / 2 ^ 32)
  else s.reg a

/-- UAn_ (Tables 21-5 and 21-6), at an offset in the block of UART n. UAn_RXD shows what a read would return. -/
def State.viewUart (s : State) (n : Fin 2) (a off : Nat) : Word :=
  if off = 0xC then s.regOr a (s.viewUartStat n)
  else if off = 0x10 then (s.readRxd n).1
  else if off = 0x18 then BitVec.ofNat 32 (s.viewDescBal n)
  else if 0x100 ≤ off ∧ off < 0x200 ∧ off % 16 = 12 then
    match arrayIdx? 16 ((off - 0x100) / 16) with
    | some d => BitVec.ofNat 32 (s.viewDescStat n d)
    | none => 0
  else s.reg a

/-- NI_ of stop n (Tables 1-7 and 17-7). CLIENT_ON is 1 while the client domain is ON: at HOLD and RET it reads 0 (log 50). -/
def State.viewNi (s : State) (n : Fin 16) (a off : Nat) : Word :=
  if off = 0 then
    let on := match stopDomain n.val with
      | some d => s.domOn d
      | none => true
    BitVec.ofNat 32 (n.val + 16 * b2n on)
  else if off = 8 then s.regOr a (s.viewNiStat n)
  else if off = 0xC then BitVec.ofNat 32 (s.viewTagBal n)
  else if off = 0x10 then BitVec.ofNat 32 (s.viewTagStale n)
  else if 0x30 ≤ off ∧ off < 0x40 ∧ off % 4 = 0 then BitVec.ofNat 32 (s.viewCred n (bitOf off 3) (bitOf off 2))
  else s.reg a

/-! ### Stop SEQ -/

/-- STATE codes of SEQ_Tn_STAT (Table 13-10). -/
def taskStCode : TaskSt → Nat
  | .off => 0 | .ready => 1 | .run => 2 | .wait => 3

/-- The instruction-set registers of task n (Table 12-8); PC and gk are those of its last preemption point (R326, R327). -/
def State.viewTaskIsa (s : State) (n : Fin 8) (a off : Nat) : Word :=
  let t := s.tasks[n]
  if off = 0 then BitVec.ofNat 32 ((t.snap.map (·.1)).getD t.pc).toNat
  else if off = 4 then BitVec.ofNat 32 (t.rep.getD 0)
  else if off = 8 then BitVec.ofNat 32 (flagBits ((List.range 32).map fun k => t.pend.contains k))
  else if off = 0x20 then BitVec.ofNat 32 t.outst
  else s.reg a

/-- SEQ_, at an offset in the block (Tables 12-8, 13-9 and 13-10, R327). -/
def State.viewSeq (s : State) (a off : Nat) : Word :=
  if off = 4 then BitVec.ofNat 32 (s.cur.val + 8 * b2n s.runTask.isNone)
  else if off = 0x30 then BitVec.ofNat 32 (s.pegCount .free + 256 * s.pegCount .held + 65536 * s.pegCount .broken)
  else if 0x100 ≤ off ∧ off < 0x180 then
    match arrayIdx? 32 ((off - 0x100) / 4) with
    | some p => BitVec.ofNat 32 (s.pegs[p]).view
    | none => 0
  else if 0x200 ≤ off ∧ off < 0x300 ∧ off % 0x20 = 0xC then
    match arrayIdx? 8 ((off - 0x200) / 0x20) with
    | some n => s.regOr a (taskStCode s.settleWaits.taskSt[n])
    | none => 0
  else if 0x400 ≤ off ∧ off < 0x600 then
    match arrayIdx? 8 ((off - 0x400) / 0x40) with
    | some n => s.viewTaskIsa n a ((off - 0x400) % 0x40)
    | none => 0
  else if 0x1000 ≤ off ∧ off < 0x1400 then
    match arrayIdx? 8 ((off - 0x1000) / 0x80), arrayIdx? 32 ((off - 0x1000) / 4 % 32) with
    | some n, some k => (((s.tasks[n]).snap.map (·.2)).getD (s.tasks[n]).g)[k]
    | _, _ => 0
  else s.reg a

/-- TRS_ (Tables 8-10, 9-12 and 10-9). -/
def State.viewTrs (s : State) (a : Nat) : Word :=
  if a = Reg.TRS_QSTAT then BitVec.ofNat 32 s.viewQstat
  else if a = Reg.TRS_TILE_ON_LO then BitVec.ofNat 32 s.viewTilesOn
  else if a = Reg.TRS_TILE_ON_HI then BitVec.ofNat 32 (s.viewTilesOn / 2 ^ 32)
  else if a = Reg.TRS_GOR_TILES_LO then s.reg a &&& BitVec.ofNat 32 s.viewTilesOn
  else if a = Reg.TRS_GOR_TILES_HI then s.reg a &&& BitVec.ofNat 32 (s.viewTilesOn / 2 ^ 32)
  else s.reg a

/-! ### Stops TALLY, INGEST and EGRESS -/

/-- TLY_ (Table 11-6). -/
def State.viewTly (s : State) (a : Nat) : Word :=
  let n (x : Nat) : Word := BitVec.ofNat 32 x
  if a = Reg.TLY_BAL_BENCH then n (s.benchBal.1 + 1024 * s.benchBal.2.1 + 1048576 * s.benchBal.2.2)
  else if a = Reg.TLY_BAL_YARD_LO then n (s.yardBal.1 + 65536 * s.yardBal.2.1)
  else if a = Reg.TLY_BAL_YARD_HI then n s.yardBal.2.2
  else if a = Reg.TLY_BAL_FAR_FREE then n s.farBal.1
  else if a = Reg.TLY_BAL_FAR_HELD then n s.farBal.2.1
  else if a = Reg.TLY_BAL_FAR_MOVING then n s.farBal.2.2.1
  else if a = Reg.TLY_BAL_FAR_POISON then n s.farBal.2.2.2
  else if a = Reg.TLY_INFLIGHT then n s.tly.moves.length
  else if a = Reg.TLY_PIN_CNT then n (s.pinCounts.1 + 65536 * s.pinCounts.2)
  else if a = Reg.TLY_MAP_ENT then n (s.viewMapEnt (s.fld F.TLY_MAP_SEL))
  else s.reg a

/-- ING_ (Table 7-9). -/
def State.viewIng (s : State) (a : Nat) : Word :=
  if a = Reg.ING_SLOTS then BitVec.ofNat 32 s.viewSlots
  else if a = Reg.ING_STAT then s.regOr a (256 * b2n (!s.ing.frames.isEmpty))
  else s.reg a

/-- KRF_ and EGR_ (Tables 14-7 and 15-9). -/
def State.viewEgr (s : State) (a : Nat) : Word :=
  let n (x : Nat) : Word := BitVec.ofNat 32 x
  if a = Reg.KRF_STAT then s.regOr a s.viewKrfStat
  else if a = Reg.EGR_BUF_BAL then
    n (s.egrCount .free + 256 * s.egrCount .queued + 65536 * s.egrCount .inflight)
  else if a = Reg.EGR_SEQ then n (s.egr.nextSeq.toNat + 65536 * s.egr.limit.toNat)
  else if a = Reg.EGR_SUMACC then n (match s.egr.sumAcc with | some x => x.count | none => 0)
  else if a = Reg.EGR_DROPACC then n (match s.egr.dropAcc with | some x => x.count | none => 0)
  else s.reg a

/-! ### Stops JIG and LINEIO -/

/-- JIG_ (Tables 19-9 and 20-3). -/
def State.viewJig (s : State) (a : Nat) : Word :=
  if a = Reg.JIG_ID then s.reg a
  else if a = Reg.JIG_STAT then s.regOr a s.viewJigStat
  else if a = Reg.JIG_RM_STAT then BitVec.ofNat 32 s.viewRmStat
  else if a = Reg.JIG_CLK_STAT then s.regOr a s.viewClkStat
  else if Reg.JIG_PINj 0 ≤ a then
    match arrayIdx? 40 ((a - Reg.JIG_PINj 0) / 4) with
    | some j => s.regOr a (65536 * b2n (s.parking j) + 131072 * b2n (s.jioLevel j))
    | none => s.reg a
  else s.reg a

/-- ENC_ and MARK registers (Tables 4-4 to 4-6). -/
def State.viewEnc (s : State) (a : Nat) : Word :=
  let enc (n : Fin 3) : Word :=
    if a = Reg.ENCn_POS_LO n then posWord (s.lio.enc[n]).pos false
    else if a = Reg.ENCn_POS_HI n then posWord (s.lio.enc[n]).pos true
    else s.reg a
  let mark (m : Fin 4) : Word :=
    if a = Reg.MARKm_STAT m then
      let q := (s.lio.marks[m]).queue.length
      BitVec.ofNat 32 (64 - q + 256 * q + 65536 * b2n (s.markPinOff m))
    else s.reg a
  if a = Reg.ENC_STAT then s.regOr a (b2n s.viewRev)
  else if Reg.ENCn_CFG 0 ≤ a ∧ a < Reg.ENCn_CFG 3 then
    (if a < Reg.ENCn_CFG 1 then enc 0 else if a < Reg.ENCn_CFG 2 then enc 1 else enc 2)
  else if Reg.MARKm_CFG 0 ≤ a ∧ a < Reg.MARKm_CFG 4 then
    (if a < Reg.MARKm_CFG 1 then mark 0 else if a < Reg.MARKm_CFG 2 then mark 1
     else if a < Reg.MARKm_CFG 3 then mark 2 else mark 3)
  else s.reg a

/-- STB_ (Tables 6-4 and 6-5). -/
def State.viewStb (s : State) (a : Nat) : Word :=
  if a = Reg.STB_GSTAT then s.regOr a (b2n (s.ilkWatched && s.ilk))
  else
    match (List.finRange 8).find? fun n => decide (Reg.STBn_CFG n.val ≤ a) && decide (a < Reg.STBn_CFG (n.val + 1)) with
    | some n =>
      if a = Reg.STBn_STAT n then s.regOr a (256 * b2n (s.stbPinOff n))
      else if a = Reg.STBn_ONTIME_LO n then posWord ((s.lio.stb[n]).onNow s.now) false
      else if a = Reg.STBn_ONTIME_HI n then posWord ((s.lio.stb[n]).onNow s.now) true
      else s.reg a
    | none => s.reg a

/-- PRS_ (Table 5-5). -/
def State.viewPrs (s : State) (a : Nat) : Word :=
  if a = Reg.PRS_STAT then s.regOr a (16 * b2n (!s.ballFixed 34))
  else if a = Reg.PRS_EQ_STAT then BitVec.ofNat 32 s.lio.prs.queue.length
  else s.reg a

/-- DYN_ (Table 16-5). -/
def State.viewDyn (s : State) (a : Nat) : Word :=
  let d := s.dyn
  if a = Reg.DYN_STAT then
    s.regOr a (flagBits [d.up.trained, d.dn.trained, d.calDone, d.srcDn, d.freewheel, d.stopped] + 256 * d.hop.toNat)
  else if a = Reg.DYN_CAL then BitVec.ofNat 32 (2 * b2n d.calBusy)
  else if a = Reg.DYN_FINE then BitVec.ofNat 32 d.fine.toNat
  else if a = Reg.DYN_GTIME_LO then posWord (s.groupTime s.now) false
  else if a = Reg.DYN_GTIME_HI then posWord (s.groupTime s.now) true
  else if a = Reg.DYN_MPOS_LO then posWord d.mpos false
  else if a = Reg.DYN_MPOS_HI then posWord d.mpos true
  else if a = Reg.DYN_CMD_RX_LO then posWord d.cmdRx false
  else if a = Reg.DYN_CMD_RX_HI then posWord d.cmdRx true
  else s.reg a

/-! ### Bents -/

/-- Tile and bent registers (Table 8-11), at an offset in bent b. -/
def State.viewBent (s : State) (b off : Nat) : Word :=
  if off = 0xF000 then
    BitVec.ofNat 32 (flagBits ((List.range 8).map fun k =>
      match arrayIdx? 64 (8 * b + k) with
      | some t => s.viewTileGor t != 0
      | none => false))
  else
    match arrayIdx? 64 (8 * b + off / 0x1000), off % 0x1000 with
    | some t, 0 => if off < 0x8000 then BitVec.ofNat 32 (t.val + 256 * b + 65536 * b2n (s.tileOn t)) else 0
    | some t, 4 => if off < 0x8000 then BitVec.ofNat 32 (s.viewTileSticky t) else 0
    | some t, 8 => if off < 0x8000 then BitVec.ofNat 32 (s.viewTileGor t) else 0
    | _, _ => 0

/-! ### The whole space -/

/-- What the word at an aligned system address reads as, outside the SUP_ block and the memories. -/
def State.viewReg (s : State) (a : Nat) : Word :=
  if a < 0x10000 then s.viewClk a
  else if a < 0x20000 then s.viewPwr a
  else if a < 0x30000 then 0
  else if a < 0x40000 then s.viewWr a
  else if a < 0x50000 then s.viewOtp a
  else if a < 0x60000 then s.viewUart 0 a (a - 0x50000)
  else if a < 0x70000 then s.reg a
  else if a < 0x1000000 then 0
  else if a < 0x1100000 then
    match arrayIdx? 16 ((a - 0x1000000) / 0x10000) with
    | some n => s.viewNi n a (a % 0x10000)
    | none => 0
  else if a < 0x110000000 then 0
  else if a < 0x110010000 then s.viewSeq a (a - 0x110000000)
  else if a < 0x110020000 then s.viewTrs a
  else if a < 0x200000000 then 0
  else if a < 0x300000000 then s.viewTly a
  else if a < 0x500000000 then s.viewIng a
  else if a < 0x600000000 then s.viewEgr a
  else if a < 0x700000000 then s.viewJig a
  else if a < 0x700010000 then s.viewEnc a
  else if a < 0x700020000 then s.viewStb a
  else if a < 0x700030000 then s.viewPrs a
  else if a < 0x700040000 then s.viewDyn a
  else if a < 0x700050000 then s.viewUart 1 a (a - 0x700040000)
  else if a < 0x800000000 then 0
  else s.viewBent (a / 0x100000000 - 8) (a % 0x100000000)

end Sys2Proof.Machine
end

