-- ==== Sys2Proof/Machine/PageViews.lean ====
section
/-! DEFINITION. What the byte registers of the control-port pages read as (R64, Tables 0-6, 2-8, 3-5, 3-6, 22-10, 23-13, 24-10,
27-10, 28-9, 29-8), whole register by whole register. -/

namespace Sys2Proof.Machine

/-! ### Multi-byte registers (R67) -/

/-- The multi-byte registers of a page: base and length. -/
def pageWide : Nat → List (Nat × Nat)
  | 0 => [(0x00, 2), (0x04, 2), (0x0A, 2), (0x0C, 2), (0x20, 48)]
  | 1 => [(0x00, 3), (0x03, 3), (0x06, 3), (0x12, 2), (0x14, 6), (0x1B, 2), (0x20, 17), (0x38, 2), (0x40, 32), (0x60, 4),
      (0x65, 4), (0x69, 4), (0x6D, 2), (0x6F, 2), (0x73, 12)]
  | 2 => [(0x00, 5), (0x08, 4)]
  | _ => [(0x00, 3), (0x0A, 5), (0x0F, 2), (0x14, 4), (0x18, 2), (0x20, 10), (0x2A, 2), (0x2C, 2), (0x30, 2)]

/-- Base and length of the register that a page address belongs to. -/
def pageSpan (p a : Nat) : Nat × Nat :=
  ((pageWide p).find? fun r => decide (r.1 ≤ a) && decide (a < r.1 + r.2)).getD (a, 1)

/-! ### Page 0 -/

/-- STATUS (Table 3-5). -/
def State.viewStatus (s : State) : Nat :=
  flagBits [s.mode.isRun, s.cp.sess.active, decide (s.log.ack.toNat < s.log.newest.toNat), decide (1 ≤ s.wear.step),
    s.cp.win.busy, s.ilkWatched && s.ilk, s.dyn.up.trained || s.dyn.dn.trained, s.cp.cpErr != 0]

/-- SESS_STATUS (Table 3-5). -/
def State.viewSess (s : State) : Nat :=
  let x := s.cp.sess
  b2n x.active + 2 * levelCode x.level + 8 * b2n x.expired + 16 * x.epoch.toNat

/-- RESULT and DETAIL of a result register. -/
def ReqResult.view (r : ReqResult) : Nat := r.result.toNat + 16 * r.detail.toNat

/-- Registers of page 0. -/
def State.pageZero (s : State) (a : Nat) : Nat :=
  let c := s.cp
  match a with
  | 0x00 => chipId
  | 0x02 => chipStepping.toNat
  | 0x03 => s.grade.toNat
  | 0x04 => s.viewMode
  | 0x06 => c.mrTarget.toNat + 8 * b2n c.mrRole + 16 * b2n c.mrNow
  | 0x07 => c.modeResult.view
  | 0x08 => s.viewStatus
  | 0x09 => c.fbReason.toNat
  | 0x0A => c.irqStatus.toNat
  | 0x0C => c.irqEnable.toNat
  | 0x0E => b2n c.crcEn + 2 * b2n c.aincOff
  | 0x0F => c.cpErr.toNat
  | 0x11 => c.sess.tmo.toNat
  | 0x12 => s.viewSess
  | 0x13 => c.doorbell.toNat
  | 0x14 => c.bootCnt.toNat + 16 * s.bootThresh
  | 0x15 => c.bootInfo.toNat
  | 0x16 => c.bootLast.toNat
  | 0x17 => c.bootNext.toNat
  | 0x18 => c.lrTarget.toNat
  | 0x19 => c.ladderResult.view
  | 0x1B => c.svcResult.toNat
  | 0x1D => c.svcFails.toNat
  | 0x20 => ofLeBytes c.svcChal
  | _ => 0

/-! ### Page 1, for the control port's path or the ring's (R612 to R614) -/

/-- RT_STAT: DIRTY shows that the live table differs from the saved copy. -/
def State.viewRtStat (s : State) : Nat :=
  let dirty := match s.sup.saved with
    | some (t, _) => decide (t ≠ s.railTable)
    | none => decide (RailEntry.defaults ++ List.replicate 18 {} ≠ s.railTable)
  flagBits [s.sup.rtDefault, dirty, s.sup.rtBad, s.sup.rtLevel]

/-- STATE codes of a rail entry (Table 23-14). -/
def RailSt.code : RailSt → Nat
  | .off => 0 | .waitParent => 1 | .delay => 2 | .ramp => 3 | .good => 4 | .retryOff => 5 | .failed => 6 | .blocked => 7
  | .discharge => 8

/-- Registers of page 1 under RT_SEL. -/
def State.pageSup (s : State) (sel : Nat) (a : Nat) : Nat :=
  let u := s.sup
  let rail (f : Rail → Nat) : Nat := match arrayIdx? 24 sel with | some r => f s.rails[r] | none => 0
  match a with
  | 0x00 => (s.railMask fun x => x.pen).toNat
  | 0x03 => (s.railMask fun x => x.st == .good).toNat
  | 0x06 => (s.railMask fun x => x.latched).toNat
  | 0x09 => s.viewSupState
  | 0x0B => u.cmdRes.toNat
  | 0x0C => u.ev.toNat
  | 0x0D => s.log.thr.toNat
  | 0x0E => u.casc.toNat
  | 0x0F => u.cascDly.toNat
  | 0x10 => sel
  | 0x11 => s.viewRtStat
  | 0x12 => match u.saved with | some (_, crc) => crc.toNat | none => 0
  | 0x14 => u.epiTime.toNat
  | 0x1A => u.epiRail.toNat
  | 0x1B => u.epiNum.toNat
  | 0x20 => rail fun x => ofLeBytes x.entry.bytes
  | 0x38 => rail fun x => x.mv.toNat
  | 0x3A => rail fun x => x.st.code
  | 0x3B => rail fun x => x.retries % 4 + 16 * x.cause.toNat
  | 0x40 => ofLeBytes s.log.lrec
  | 0x60 => s.log.rseq.toNat
  | 0x64 => 2 * s.log.rstat.toNat
  | 0x65 => s.log.newest.toNat
  | 0x69 => s.log.ack.toNat
  | 0x6D => s.log.lost.toNat
  | 0x6F => u.warnCnt.toNat
  | 0x71 => u.busDst.toNat
  | 0x72 => u.busOp.toNat
  | 0x73 => ofLeBytes u.busRx
  | _ => 0

/-! ### Page 2 -/

/-- WIN_CTRL and WIN_STATUS (Table 3-6). -/
def Window.viewCtrl (w : Window) : Nat :=
  2 * b2n w.dir + 4 * w.size.toNat + 16 * b2n w.autoinc + 32 * b2n w.wait + 64 * b2n w.stream

def Window.viewStatus (w : Window) : Nat :=
  b2n w.done + 2 * b2n w.busy + 4 * w.code.toNat + 32 * b2n w.align + 64 * b2n w.overrun

/-- Registers of page 2. -/
def State.pageWin (s : State) (a : Nat) : Nat :=
  let w := s.cp.win
  match a with
  | 0x00 => w.addr.toNat
  | 0x05 => w.viewCtrl
  | 0x06 => w.viewStatus
  | 0x08 => w.data.toNat
  | _ => 0

/-! ### Page 3 (R682, R697, R710) -/

/-- A stored register is not zero. -/
def State.nz (s : State) (a : Nat) : Bool := s.reg a != 0

/-- FAULT_SUM (Table 28-2): a condition in a domain that is not ON contributes 0. -/
def State.viewFaultSum (s : State) : Nat :=
  let anyOf (n : Nat) (p : Nat → Bool) : Bool := (List.range n).any p
  let lio := s.domOn Dom.lineio
  let egr := s.domOn Dom.egress
  let stb := (List.finRange 8).any fun n => s.stbFault n || s.bit (F.STBn_STAT_DISABLED n)
  let ni := (List.finRange 16).any fun n =>
    getBits (s.reg (Reg.NI_STAT n)) 8 3 != 0 || s.viewTagStale n != 0 || (s.ni[n]).bypass
  flagBits [
    lio && (s.nz Reg.ENC_ERR || anyOf 3 fun n => s.bit (F.ENCn_STAT_IMPLAUS n) || s.bit (F.ENCn_STAT_ZERR n)),
    lio && (anyOf 4 fun m => s.nz (Reg.MARKm_FULL_DROP m) || s.nz (Reg.MARKm_LATE m)),
    lio && (s.bit F.PRS_STAT_BLINDED || s.bit F.PRS_STAT_FORCED || s.nz Reg.PRS_ERR),
    lio && stb,
    s.domOn Dom.ingest && (s.bit F.ING_STAT_STARVED || s.nz Reg.ING_ERR || s.nz Reg.ING_DISCARD_FULL ||
      s.nz Reg.ING_MISSING),
    s.domOn Dom.truss && (s.bit F.TRS_ERR_VALID || s.nz Reg.TRS_STICKY),
    s.domOn Dom.tally && (s.nz Reg.TLY_ERR || s.bit F.TLY_MISS_PLANE_VALID || s.bit F.TLY_POISON_PLANE_VALID),
    s.domOn Dom.seq && ((anyOf 8 fun n => s.bit (F.SEQ_Tn_FAULT_VALID n)) || getBits (s.reg Reg.SEQ_PEG_ERR) 0 3 != 0),
    s.domOn Dom.plate && ni,
    s.domOn Dom.memc && (s.nz Reg.MEMC_ERR || s.bit F.MEMC_STAT_UE_EV || s.bit F.MEMC_STAT_HOT),
    egr && (s.bit F.EGR_STAT_RX_LOST || s.nz Reg.EGR_ERR || s.nz Reg.EGR_DROP_CNT),
    s.domOn Dom.dynak && (s.bit F.DYN_STAT_LOST_EV || s.bit F.DYN_STAT_TIME_ERR || s.nz Reg.DYN_ERR),
    (s.domOn Dom.jigw && (s.nz Reg.JIG_ERR || s.fld F.JIG_CLK_STAT_FORCED != 0)) ||
      (lio && (s.bit F.JIG_PIN_ERR_BUSY || s.bit F.JIG_PIN_ERR_CAPTURE)),
    s.bit (F.UAn_STAT_OVR_EV 0) || s.bit (F.UAn_STAT_DESC_ERR 0) ||
      (lio && (s.bit (F.UAn_STAT_OVR_EV 1) || s.bit (F.UAn_STAT_DESC_ERR 1))),
    s.bit F.CLK_STAT_LOST_EV || s.bit F.CLK_STAT_REF_BAD || s.bit F.CLK_STAT_HOLDOVER,
    decide (2 ≤ s.wear.step) || s.wear.eol || s.nz Reg.WR_LAMP_EOL,
    !s.held.isEmpty]

/-- A bit for each number of a list. -/
def maskOf (l : List Nat) : Nat := l.foldl (fun m n => m ||| 2 ^ n) 0

/-- Registers of page 3. -/
def State.pageDiag (s : State) (a : Nat) : Nat :=
  let c := s.cp
  match a with
  | 0x00 => s.viewFaultSum
  | 0x08 => c.scrNode.toNat
  | 0x09 => c.scrOp.toNat
  | 0x0A => c.scrAddr.toNat
  | 0x0F => c.scrArg.toNat
  | 0x11 => b2n (match s.scr with | some x => !x.joist | none => false) + 16 * c.scrResult.toNat
  | 0x14 => c.scrData.toNat
  | 0x18 => c.scrCount.toNat
  | 0x20 => maskOf s.held
  | 0x2A => flagBits (s.ni.toList.map fun x => x.bypass)
  | 0x2C => maskOf s.stopHeld
  | 0x30 => c.balFault.toNat
  | _ => 0

/-- Page 3 does not answer in SUPERVISE and in S5 (Table 2-6). -/
def State.pageThreeShut (s : State) : Bool := s.mode == .supervise || s.ladder == .s5

/-- A whole register of a page, by its base address; PAGE answers on every page (R64). -/
def State.pageReg (s : State) (p base : Nat) : Nat :=
  if base = 0x7F then s.cp.page.toNat
  else
    match p with
    | 0 => s.pageZero base
    | 1 => s.pageSup s.sup.cpPath.rtSel.toNat base
    | 2 => s.pageWin base
    | _ => if s.pageThreeShut then 0 else s.pageDiag base

/-- Byte i of a number. -/
def byteOf (v i : Nat) : Byte := BitVec.ofNat 8 (v / 256 ^ i)

end Sys2Proof.Machine
end

