-- ==== Sys2Proof/Machine/Scribe.lean ====
section
/-! DEFINITION. The scribe chain (Chapter 28, R683 to R696): commands of the host and of Joist, their judgement at the
commit, and their node actions at completion. -/

namespace Sys2Proof.Machine

/-! ### Addresses, nodes and stops -/

/-- The switched domain that holds a ring register; none for registers in AON. -/
def regDomain (a : Nat) : Option (Fin 76) :=
  if 0x800000000 ≤ a then
    let t := 8 * (a / 0x100000000 - 8) + a % 0x100000000 / 0x1000
    if h : t < 64 then (if a % 0x100000000 < 0x8000 then some ⟨t, by omega⟩ else some Dom.truss) else some Dom.truss
  else (List.finRange 76).find? fun d => (domRegs d).any fun r => decide (r.1 ≤ a) && decide (a < r.2)

/-- An aligned address holds a register (Table 1-6, R54). -/
def isReg (a : Nat) : Bool :=
  ((Reg.row? a).isSome && a != Reg.UA0_BAUD_AON 1) || a == 0x10000 || a == 0x10004 || a == 0x10008 || a == 0x1000C ||
    (decide (0x20000 ≤ a) && decide (a < 0x20080))

/-- A byte of the SUP_ block, live (R614). -/
def State.supByte (s : State) (a : Nat) : Byte :=
  let r := pageSpan 1 (a % 128)
  byteOf (s.pageSup s.sup.ringPath.rtSel.toNat r.1) (a % 128 - r.1)

/-- The word at an aligned register address, the SUP_ block included. -/
def State.viewWord (s : State) (a : Nat) : Word :=
  if 0x20000 ≤ a ∧ a < 0x20080 then
    BitVec.ofNat 32 (ofLeBytes ((List.range 4).map fun i => s.supByte (a - 0x20000 + i)))
  else s.viewReg a

/-- The stop of a stop node (R683). -/
def nodeStop (node : Nat) : Option (Fin 16) := if node < 0x50 then none else arrayIdx? 16 (node - 0x50)

/-- The domain of a domain node. -/
def nodeDom (node : Nat) : Option (Fin 76) := arrayIdx? 76 node

/-- Stop d of an ARG mask receives no request and answers none: it is in bypass, its client domain is held, or that domain
is not ON (R687). -/
def State.stopQuiet (s : State) (d : Fin 16) : Bool :=
  s.ni[d].bypass || (match stopDomain d with
    | some x => !s.domOn x || s.held.contains x.val
    | none => false)

/-- Every stop of ARG is quiet. -/
def State.argQuiet (s : State) (arg : Half) : Bool :=
  (List.finRange 16).all fun d => !arg.getLsbD d || s.stopQuiet d

/-! ### Judgement at the commit (R684 to R692) -/

/-- The mode permits the command (R691). -/
def State.scrModeOk (s : State) (op : Nat) : Bool :=
  (s.mode.isRun || s.mode == .boot || (s.mode == .fallback && op == 1)) && s.ladder == .s0 && s.phase == .stable

/-- OP is a code of Table 28-3; a write with another is ignored whole (R11). -/
def scrOpOk (op : Nat) : Bool := within 1 op 7

/-- OP and node fit each other (Tables 28-3 and 28-6, R690). -/
def scrNodeOk (op node : Nat) : Bool :=
  if op = 1 then true
  else if 2 ≤ op ∧ op ≤ 5 then (nodeStop node).isSome
  else if op = 6 then ((nodeDom node).isSome && node != 74 && node != 75) || (nodeStop node).isSome
  else if op = 7 then (nodeDom node).isSome || (nodeStop node).isSome
  else false

/-- A Joist command names a part of Joist's own path (R692, log 37). -/
def scrSelf (c : ScrCmd) : Bool :=
  c.joist &&
    (if c.op = 1 then regDomain c.addr == some Dom.seq || regDomain c.addr == some Dom.truss
     else c.node == 64 || c.node == 65 || c.node == 0x50 || c.node == 0x51 ||
       ((c.op == 4 || c.op == 5) && (c.arg.getLsbD 0 || c.arg.getLsbD 1)))

/-- The code that a command is judged with; 1 when it goes on to its node action. -/
def State.scrJudge (s : State) (c : ScrCmd) : Nat :=
  if !s.scrModeOk c.op then 6
  else if !scrNodeOk c.op c.node then 7
  else if scrSelf c then 5
  else if c.op = 6 ∧ s.capture ∧ (c.node = 72 ∨ c.node = 73 ∨ c.node = 68) then 6
  else if (c.op = 4 ∨ c.op = 5) ∧ !s.argQuiet c.arg then 4
  else
    match nodeStop c.node with
    | some n => if c.op = 6 ∧ !s.ni[n].bypass then 4 else 1
    | none => 1

/-- A command is committed (R684): refused with IN_USE while another runs. -/
def State.scribeCommit (s : State) (c : ScrCmd) : State :=
  if s.scr.isSome then
    if c.joist then s.setFld F.PWR_SCR_STAT_RESULT 9 else { s with cp := { s.cp with scrResult := 9 } }
  else State.ilkSettle { s with scr := some { c with code := s.scrJudge c } } s.ilk

/-- The level that a write of page 3 needs (R669). -/
def State.pageThreeLevel (s : State) : Nat := if s.debugLock = 0 then 0 else 1

/-- A page 3 write of the host takes effect: session, page answering, level (R71, Table 2-6, R669). -/
def State.pageThreeMay (s : State) : Bool :=
  s.cp.sess.active && !s.pageThreeShut && decide (s.pageThreeLevel ≤ levelCode s.cp.sess.level)

/-- GO of SCRIBE_OP with what the page 3 registers hold. -/
def State.scribeHost (s : State) : State :=
  s.scribeCommit { op := s.cp.scrOp.toNat, node := s.cp.scrNode.toNat, addr := s.cp.scrAddr.toNat, arg := s.cp.scrArg
                   level := BitVec.ofNat 8 (levelCode s.cp.sess.level) }

/-- GO of PWR_SCR_CMD with what the PWR_SCR_ registers hold. -/
def State.scribeJoist (s : State) : State :=
  s.scribeCommit { op := s.fld F.PWR_SCR_CMD_OP, joist := true, node := s.fld F.PWR_SCR_CMD_NODE
                   addr := s.fld F.PWR_SCR_ADDR_LO + s.fld F.PWR_SCR_ADDR_HI * 2 ^ 32
                   arg := BitVec.ofNat 16 (s.fld F.PWR_SCR_ARG), level := 0xFF }

/-- A command row: the requester writes its registers and commits. -/
def State.scribeAsk (s : State) (joist : Bool) (op : Nat) (node : BitVec 7) (addr : SysAddr) (arg : Half) : State :=
  if joist then
    if s.plateUp then
      let s := (s.setFld F.PWR_SCR_CMD_OP op).setFld F.PWR_SCR_CMD_NODE node.toNat
      let s := (s.setFld F.PWR_SCR_ADDR_LO addr.toNat).setFld F.PWR_SCR_ADDR_HI (addr.toNat / 2 ^ 32)
      (s.setFld F.PWR_SCR_ARG arg.toNat).scribeJoist
    else s
  else if !s.cp.sess.active then s.noSession
  else if s.pageThreeMay then
    State.scribeHost { s with cp := { s.cp with scrOp := BitVec.ofNat 4 op, scrNode := node, scrAddr := addr, scrArg := arg } }
  else s

/-- SCRIBE_READ. -/
def execScribeRead (joist : Bool) (addr : SysAddr) (s : State) : Host.Outcome State Fault Refusal :=
  .next (s.scribeAsk joist 1 0 addr 0)

/-- SCRIBE_BYPASS_ON. -/
def execScribeBypassOn (joist : Bool) (node : BitVec 7) (s : State) : Host.Outcome State Fault Refusal :=
  .next (s.scribeAsk joist 2 node 0 0)

/-- SCRIBE_BYPASS_OFF. -/
def execScribeBypassOff (joist : Bool) (node : BitVec 7) (s : State) : Host.Outcome State Fault Refusal :=
  .next (s.scribeAsk joist 3 node 0 0)

/-- SCRIBE_DRAIN. -/
def execScribeDrain (joist : Bool) (node : BitVec 7) (arg : Half) (s : State) : Host.Outcome State Fault Refusal :=
  .next (s.scribeAsk joist 4 node 0 arg)

/-- SCRIBE_POISON. -/
def execScribePoison (joist : Bool) (node : BitVec 7) (arg : Half) (s : State) : Host.Outcome State Fault Refusal :=
  .next (s.scribeAsk joist 5 node 0 arg)

/-- SCRIBE_RESET_HOLD. -/
def execScribeResetHold (joist : Bool) (node : BitVec 7) (s : State) : Host.Outcome State Fault Refusal :=
  .next (s.scribeAsk joist 6 node 0 0)

/-- SCRIBE_RESET_RELEASE. -/
def execScribeResetRelease (joist : Bool) (node : BitVec 7) (s : State) : Host.Outcome State Fault Refusal :=
  .next (s.scribeAsk joist 7 node 0 0)

/-! ### READ (R685) -/

/-- What a READ answers: its code and data. -/
def State.scrRead (s : State) (a : Nat) : Nat × Option Word :=
  if a % 4 ≠ 0 ∨ !isReg a then (3, none)
  else
    match regDomain a with
    | some d => if s.domOn d then (1, some (s.viewWord a)) else (2, some 0)
    | none => (1, some (s.viewWord a))

/-! ### Stops (R686, R687, R689) -/

/-- Packets in the router buffers of a stop are discarded, with those that pass it just then: they are lost (log 67). -/
def State.routerDrop (s : State) (d : Fin 16) (lost : List (Fin 16 × Byte)) : State :=
  let held := s.routerHolds d
  let s := (held.map (·.2) ++ lost).foldl (fun s p => s.packetLost p.1 p.2) s
  held.foldl (fun s p => s.eject p.1 p.2.1 p.2.2) s

/-- Put a stop in bypass, or end it; the same state again does nothing. -/
def State.setBypass (s : State) (n : Fin 16) (b : Bool) (lost : List (Fin 16 × Byte)) : State :=
  if s.ni[n].bypass = b then s
  else
    let s := s.routerDrop n lost
    s.setNi n { s.ni[n] with bypass := b }

/-- Tags of an NI retire, and their packets leave the rings. -/
def State.tagsDrop (s : State) (n : Fin 16) (hit : TagEnt → Bool) : State :=
  let x := s.ni[n]
  (x.tags.filter hit).foldl (fun s e => s.packetDrop n e) (s.setNi n { x with tags := x.tags.filter fun e => !hit e })

/-- DRAIN: stale tags of the named destinations retire; the count of them (R687). -/
def State.drain (s : State) (n : Fin 16) (arg : Half) : Nat × State :=
  let hit (e : TagEnt) : Bool := e.stale && arg.getLsbD e.req.dst
  (s.ni[n].tags.countP hit, s.tagsDrop n hit)

/-- Retire tags of an NI and answer POISON to their clients. -/
def State.poisonTags (s : State) (n : Fin 16) (hit : TagEnt → Bool) : State :=
  let gone := s.ni[n].tags.filter hit
  gone.foldl (fun s e => s.answerCode n e.req .poison) (s.tagsDrop n hit)

/-- POISON: outstanding requests to the named destinations are answered POISON and their tags retire; the count of them. -/
def State.poisonStop (s : State) (n : Fin 16) (arg : Half) : Nat × State :=
  let hit (e : TagEnt) : Bool := !e.stale && arg.getLsbD e.req.dst
  (s.ni[n].tags.countP hit, s.poisonTags n hit)

/-- A stop is held in reset: its buffers, credits and tags clear, and every outstanding request is answered POISON (R689). -/
def State.holdStop (s : State) (n : Fin 16) (lost : List (Fin 16 × Byte)) : State :=
  if s.stopHeld.contains n.val then s
  else
    let s := ((s.routerDrop n lost).poisonTags n fun e => !e.stale).tagsDrop n fun _ => true
    { s with stopHeld := n.val :: s.stopHeld }

/-! ### Domains (R688, Table 28-4) -/

/-- The registers of a domain at a hold: RW fields keep their values, every other field takes its reset value. -/
def State.holdRegs (s : State) (d : Nat) : State :=
  let inDom (a : Nat) : Bool := (domRegs d).any fun r => decide (r.1 ≤ a) && decide (a < r.2)
  let s1 : State := { s with rsnaps := s.rsnaps.filter fun p => !inDom p.1 }
  (s.regs.filter fun p => inDom p.1).foldl (fun s p =>
    let rw : Word := BitVec.ofNat 32 (match Reg.row? p.1 with | some r => r.rw | none => 0)
    s.setReg p.1 ((p.2 &&& rw) ||| (Reg.resetWord p.1 &&& ~~~rw))) s1

/-- SEQ: the core and every context clear, and the waiting Truss entries of every task go. Ring accesses already issued
retire their tags as their responses come, and those are discarded; the store and the pegs stay. -/
def State.holdSeq (s : State) : State :=
  let s := (List.finRange 8).foldl (fun s (n : Fin 8) => s.holderReset (.task n) 1 0) s
  let s := s.trsDiscard fun _ => true
  let mine (q : RingReq) : Bool := match q.client with | .task .. => true | _ => false
  let x := s.ni[1]
  let s := s.setNi 1 { x with bridge := x.bridge.filter fun q => !mine q, inbox := x.inbox.filter fun p => !mine p.1 }
  let out (n : Fin 8) : Nat := x.tags.countP fun e =>
    match e.req.client with | .task m .. => m == n | _ => false
  let z (n : Fin 8) : Task := { gen := (s.tasks[n]).gen + 1, live := (s.tasks[n]).gen + 1, outst := out n }
  let s : State := { s with tasks := Vector.ofFn z, taskSt := Vector.replicate 8 .off, cur := 0, ran := [], ranUnits := 0 }
  (List.finRange 8).foldl (fun s (n : Fin 8) =>
    (s.setFld (F.SEQ_Tn_WMASK n) 0).setReg (Reg.SEQ_Tn_TIMER n) 0) (s.trsAdvance 65)

/-- TRUSS: the queue and the store buffers empty without count, the executing macro-op is abandoned, and pending POPC and
TOKEN registers receive 0xFFFF_FFFF. -/
def State.holdTruss (s : State) : State :=
  let ws := (match s.trs.exec with | some x => [x.word] | none => []) ++ s.trs.queue
  let s := s.loadlDrop.execDrop.trsEmpty
  let s : State := { s with trs := { s.trs with gorOut := false } }
  ws.foldl (fun s w => s.deliverFail w) s

/-- TALLY: moves are abandoned, every plane is ZERO, pins, the working set and MODE clear, and a head whose page-in has
begun is discarded as under a flush. -/
def State.holdTally (s : State) : State :=
  let s :=
    match s.trs.queue with
    | w :: _ =>
      if s.trs.head = HeadSt.fresh then s
      else ((s.dropHead).add F.TRS_DISCARD_CNT 1).deliverFail w
    | [] => s
  let id := s.tly.moveId
  let s := s.tlyClear
  let x := s.ni[2]
  State.setNi { s with tly := { s.tly with moveId := id } } 2 { x with bridge := [] }

/-- MEMC: TRAINED clears; when self-refresh is not reached the contents are lost and every FAR plane is POISON. -/
def State.holdMemc (s : State) (lost : Bool) : State :=
  let s := s.setFld F.MEMC_STAT_TRAINED 0
  if lost then
    let s := s.memcLose
    if s.domOn Dom.tally then
      ((s.atLevel .far).filter fun p => !p.2.moving).foldl (fun s p => s.farAbort { plane := p.1 } .poison) s
    else s
  else s

/-- JIGW or JIGE: the fabric goes to UNCONF with its pins parked, and JIG pegs break (R501). -/
def State.holdJig (s : State) : State :=
  let parkOne (s : State) (j : Fin 40) : State :=
    if s.ballFixed j then s else { s with jig := { s.jig with park := s.jig.park.set j (some s.now) } }
  let s := (List.finRange 40).foldl parkOne s
  let s := (s.endLine true).holderReset .jig 4 0
  let drop (e : RmEnt) : RmEnt := { e with discard := true }
  let rm := (s.jig.rm.filter (·.issued)).map drop
  let s := s.rtDrop.treesStop
  { s with jig := { s.jig.blank with st := .unconf, design := {}, bodies := [], rm := rm } }

/-- LINEIO: gates off, the receiver stopped, UART1 and the mark queues emptied, positions and HWM 0; what RW registers set
stays (R621). -/
def State.holdLineio (s : State) : State :=
  let s := (((s.strobesOff s.now).prsStop).uart1Empty).marksClear
  let keep (c : Strobe) : Strobe := { iset := c.iset, ofs := c.ofs, w := c.w, dac := c.dac, ontime := c.ontime, rem := c.rem }
  let l := s.lio
  { s with lio := { ilkLow := l.ilkLow, divN := l.divN, divM := l.divM, stb := l.stb.map keep
                    prs := { cfg := l.prs.cfg, lag := l.prs.lag, thr := l.prs.thr } } }

/-- What a domain does at the hold (Table 28-4); `lost`: MEMC did not reach self-refresh. -/
def State.holdDomain (s : State) (d : Fin 76) (lost : Bool) : State :=
  if d.val < 64 then State.tilesSettle { s with held := d.val :: s.held }
  else
    let s := s.holdRegs d
    let s :=
      if d = Dom.seq then s.holdSeq
      else if d = Dom.truss then s.holdTruss
      else if d = Dom.tally then s.holdTally
      else if d = Dom.memc then s.holdMemc lost
      else if d = Dom.ingest then s.ingestClear
      else if d = Dom.egress then s.egrClear.krfClear
      else if d = Dom.jigw ∨ d = Dom.jige then s.holdJig
      else if d = Dom.lineio then s.holdLineio
      else if d = Dom.dynak then State.dynDown { s with dyn := {} }
      else s
    State.setDom { s with held := d.val :: s.held } d .off

/-- MEMC runs Table 18-3 again at a release (R472, R695): a step that fails leaves a free code of 1 to 5, channel and rank
in MEMC_TRAIN_STAT, a configuration that is not listed fails with code 6, and the time is a free value. -/
def State.memcRetrain (s : State) (fails : Bool) : State :=
  let r := s.drawWord
  let fail : Word := r.1 % 5 + 1 + (r.1 &&& 0x30)
  let code : Word := if s.memcCap = 0 then 6 else if fails then fail else 0
  let s' := r.2.setReg Reg.MEMC_TRAIN_STAT (code + (r.1 &&& 0xFFFF0000))
  if code = 0 then s'.raise F.MEMC_STAT_TRAINED else s'

/-- What a domain does at the release: it is ON again unless PWR_DOM_OFF has switched it off; `fails`: MEMC does not
train. -/
def State.releaseDomain (s : State) (d : Fin 76) (fails : Bool) : State :=
  let s : State := { s with held := s.held.filter (· != d.val) }
  if s.domSwitchedOff d then s
  else if h : d.val < 64 then (if s.trs.exec.isNone then (s.tileStart ⟨d.val, h⟩).trsAdvance 65 else s)
  else
    let s := s.setDom d .on
    if d = Dom.seq then
      if s.boot.slot.isSome then
        (s.setTask 0 { s.tasks[0] with pc := s.boot.entry }).setTaskSt 0 .ready
      else s
    else if d = Dom.memc then s.memcRetrain fails
    else if d = Dom.egress then s.egrStart
    else if d = Dom.lineio then (if s.mode.isRun then s.encStart.prsSettle else s)
    else s.trsAdvance 65

/-! ### Completion (R684) -/

/-- A command whose judgement passed does its node action: its code, count and data, and the state. -/
def State.scrAct (s : State) (c : ScrCmd) (fails : Bool) (lost : List (Fin 16 × Byte)) : Nat × Nat × Option Word × State :=
  if c.op = 1 then let r := s.scrRead c.addr; (r.1, 0, r.2, s)
  else
    match nodeStop c.node with
    | some n =>
      if c.op = 2 then (1, 0, none, s.setBypass n true lost)
      else if c.op = 3 then (1, 0, none, s.setBypass n false lost)
      else if c.op = 4 then let r := s.drain n c.arg; (1, r.1, none, r.2)
      else if c.op = 5 then let r := s.poisonStop n c.arg; (1, r.1, none, r.2)
      else if c.op = 6 then (1, 0, none, s.holdStop n lost)
      else (1, 0, none, { s with stopHeld := s.stopHeld.filter (· != n.val) })
    | none =>
      match nodeDom c.node with
      | none => (7, 0, none, s)
      | some d =>
        if c.op = 6 then
          if s.held.contains d.val then (1, 0, none, s)
          else if s.domOn d then (if d = Dom.memc ∧ fails then 8 else 1, 0, none, s.holdDomain d fails)
          else (1, 0, none, { s with held := d.val :: s.held })
        else if s.held.contains d.val then (1, 0, none, s.releaseDomain d fails)
        else (1, 0, none, s)

/-- A tile hold waits for the macro-op boundary (R696). -/
def State.scrWaits (s : State) (c : ScrCmd) : Bool :=
  c.code == 1 && c.op == 6 && decide (c.node < 64) && s.trs.exec.isSome

/-- SCRIBE_COMPLETE: the running command does its node action and ends. `fails`: MEMC does not reach self-refresh at a hold,
or does not train at a release. `lost`: requests whose packets stood in the router buffers that the command discards. -/
def execScribeComplete (fails : Bool) (lost : List (Fin 16 × Byte)) (s : State) : Host.Outcome State Fault Refusal :=
  match s.scr with
  | none => .next s
  | some c =>
    if c.code ≠ 1 then .next (s.scrEnd c c.code 0 none)
    else if s.scrWaits c then .next s
    else
      let r := s.scrAct c fails lost
      .next (r.2.2.2.scrEnd c r.1 r.2.1 r.2.2.1)

end Sys2Proof.Machine
end

