-- ==== Sys2Proof/Machine/SupPage.lean ====
section
/-! DEFINITION. Byte accesses to the page 1 registers, from the control port and from the SUP_ block on the ring, each with
its own RT_SEL, staging copies and snapshots (R67, R68, R612 to R614). -/

namespace Sys2Proof.Machine

/-- The path of an access: the ring's, or the control port's. -/
def Sup.path (u : Sup) (ring : Bool) : SupPath := if ring then u.ringPath else u.cpPath

/-- Replace one path. -/
def State.setPath (s : State) (ring : Bool) (p : SupPath) : State :=
  { s with sup := if ring then { s.sup with ringPath := p } else { s.sup with cpPath := p } }

/-- A counter of page 1 that has been read to its highest byte loses what its snapshot held (log 36). -/
def State.supClearRc (s : State) (base old : Nat) : State :=
  if base = 0x6D then { s with log := { s.log with lost := s.log.lost - BitVec.ofNat 16 old } }
  else if base = 0x6F then { s with sup := { s.sup with warnCnt := s.sup.warnCnt - BitVec.ofNat 16 old } }
  else s

/-- A byte as a read shows it: the lowest byte of a multi-byte register takes the snapshot that its higher bytes come from. -/
def State.supPeek (s : State) (ring : Bool) (a : Nat) : Byte × State :=
  let (base, len) := pageSpan 1 a
  let p := s.sup.path ring
  let live := s.pageSup p.rtSel.toNat base
  if len = 1 then (byteOf live 0, s)
  else if a = base then
    (byteOf live 0, s.setPath ring
      { p with snaps := Assoc.setMany p.snaps base ((List.range len).map fun i => byteOf live i)
               unread := if base = 0x6D ∨ base = 0x6F then base :: p.unread.filter (· != base) else p.unread })
  else ((p.snaps.lookup a).getD (byteOf live (a - base)), s)

/-- What the read of a byte clears: a counter whose highest byte has been read, once for each snapshot (R9, R70, log 36). -/
def State.supRcClear (s : State) (ring : Bool) (a : Nat) : State :=
  let (base, len) := pageSpan 1 a
  let p := s.sup.path ring
  let shown (i : Nat) : Byte := (p.snaps.lookup (base + i)).getD 0
  if p.unread.contains base ∧ a = base + len - 1 then
    (s.setPath ring { p with unread := p.unread.filter (· != base) }).supClearRc base (ofLeBytes ((List.range len).map shown))
  else s

/-- A read of one byte. -/
def State.supRead (s : State) (ring : Bool) (a : Nat) : Byte × State :=
  let r := s.supPeek ring a
  (r.1, r.2.supRcClear ring a)

/-- The writable multi-byte registers of page 1. -/
def supStaged (base : Nat) : Bool := base == 0x20 || base == 0x60 || base == 0x69

/-- A byte of a staging copy of page 1: what was written or last committed, else the entry of RT_SEL, or 0 (R68). -/
def State.supStage (s : State) (ring : Bool) (base i : Nat) : Byte :=
  let p := s.sup.path ring
  (p.staged.lookup (base + i)).getD (if base = 0x20 then byteOf (s.pageSup p.rtSel.toNat base) i else 0)

/-- After a commit the staging copy equals the register (R68). -/
def State.supRestage (s : State) (ring : Bool) (base len : Nat) : State :=
  let p := s.sup.path ring
  let live := s.pageSup p.rtSel.toNat base
  s.setPath ring { p with staged := Assoc.setMany p.staged base ((List.range len).map fun i => byteOf live i) }

/-- A multi-byte register commits. -/
def State.supCommit (s : State) (ring : Bool) (base : Nat) (bs : List Byte) (level : Level) : State :=
  if base = 0x20 then s.commitEntry (s.sup.path ring).rtSel.toNat (RailEntry.ofBytes bs) level
  else if base = 0x60 then s.writeLogRseq (BitVec.ofNat 32 (ofLeBytes bs))
  else { s with log := { s.log with ack := BitVec.ofNat 32 (ofLeBytes bs) } }

/-- A write of one byte at a level (R612). -/
def State.supWrite (s : State) (ring : Bool) (a : Nat) (v : Byte) (level : Level) : State :=
  let u := s.sup
  let p := u.path ring
  let (base, len) := pageSpan 1 a
  if supStaged base then
    let s1 := s.setPath ring { p with staged := Assoc.set p.staged a v }
    if a = base + len - 1 then
      (s1.supCommit ring base ((List.range len).map fun i => s1.supStage ring base i) level).supRestage ring base len
    else s1
  else if a = 0x0A then s.supCmd (v.toNat % 16) level
  else if a = 0x0C then { s with sup := { u with ev := u.ev &&& ~~~(v.truncate 6) } }
  else if a = 0x0D then { s with log := { s.log with thr := v.truncate 2 } }
  else if a = 0x0E then { s with sup := { u with casc := v.truncate 3 } }
  else if a = 0x0F then { s with sup := { u with cascDly := v } }
  else if a = 0x10 then s.setPath ring (p.select v.toNat)
  else if a = 0x11 then
    { s with sup := { u with rtBad := u.rtBad && !v.getLsbD 2, rtLevel := u.rtLevel && !v.getLsbD 3 } }
  else if a = 0x71 then { s with sup := { u with busDst := v } }
  else if a = 0x72 then (if within 1 (v.toNat % 8) 5 then { s with sup := { u with busOp := v.truncate 3 } } else s)
  else s

end Sys2Proof.Machine
end

