-- ==== Sys2Proof/Machine/RegWrite.lean ====
section
/-! DEFINITION. Writes of ring registers, block by block (R9, R11, R754): registers whose write acts, and the ranges that
their home chapters answer with "write ignored (R11)". -/

namespace Sys2Proof.Machine

/-! ### Plain registers -/

/-- A plain write: RW bits covered take the data, W1C bits written 1 clear. -/
def RegRow.plain (r : RegRow) (old cov d : Word) : Word :=
  let rw : Word := BitVec.ofNat 32 r.rw &&& cov
  ((old &&& ~~~rw) ||| (d &&& rw)) &&& ~~~(d &&& cov &&& BitVec.ofNat 32 r.w1c)

/-- Index and offset of an address in an array of n register groups. -/
def group? (n base stride a : Nat) : Option (Fin n × Nat) :=
  if a < base then none else (arrayIdx? n ((a - base) / stride)).map fun i => (i, (a - base) % stride)

/-- The merged value of a register whose write is plain is allowed by its limits table (R11). -/
def plainOk (a : Nat) (v : Word) : Bool :=
  let f (lo w : Nat) := getBits v lo w
  let enc := match group? 3 (Reg.ENCn_CFG 0) 0x40 a with
    | some (_, 0) => within 4 (f 8 10) 1000 && f 0 2 != 3
    | _ => true
  let mark := match group? 4 (Reg.MARKm_CFG 0) 0x40 a with
    | some (_, 0) => f 2 2 != 3
    | _ => true
  let stb := match group? 8 (Reg.STBn_CFG 0) 0x40 a with
    | some (_, 0x00) => f 16 4 != 0
    | some (_, 0x08) => within 200 (f 0 22) 4000000
    | some (_, 0x10) => within 160 (f 0 10) 800
    | some (_, 0x14) => f 0 8 != 0 && f 8 8 != 0
    | _ => true
  enc && mark && stb &&
    (a != Reg.ING_FRAME_LEN || within 16 (f 0 17) 65536) && (a != Reg.ING_LTMO || within 1000 (f 0 22) 4000000) &&
    (a != Reg.ING_LDWAIT || within 0 (f 0 10) 1000) && (a != Reg.TRS_ARR_CFG || within 64 (f 0 15) 16384) &&
    (a != Reg.EGR_IMG_WAIT || within 0 (f 0 10) 1000) && (a != Reg.DYN_LEAD || within 64 (f 0 14) 16000) &&
    (a != Reg.DYN_FW_MAX || within 1 (f 0 11) 1024) && (a != Reg.DYN_GWIN || f 0 16 != 0) &&
    (a != Reg.MEMC_RETRAIN || (f 0 8 != 0 && f 8 8 != 0 && f 16 8 != 0)) && (a != Reg.MEMC_ARB || f 0 4 != 0) &&
    (a != Reg.PWR_QTMO || f 0 16 != 0)

/-! ### Stop CTRL -/

/-- PWR_HOST_DOORBELL: the code, IRQ_STATUS.DOORBELL, and DB_OVER when the last code has not been read (R77). -/
def State.writeDoorbell (s : State) (v : Byte) : State :=
  let s := if s.cp.doorbellRead then s else s.cpError 3
  State.irq { s with cp := { s.cp with doorbell := v, doorbellRead := false } } 7

/-- HOST_DOORBELL: a ring write of PWR_HOST_DOORBELL. -/
def execHostDoorbell (v : Byte) (s : State) : Host.Outcome State Fault Refusal :=
  if s.mode = .unpowered then .next s else .next (s.writeDoorbell v)

/-- A write of PWR_SCR_CMD: one with a reserved OP is ignored (R11); GO commits the command. -/
def State.writeScrCmd (s : State) (v : Word) : State :=
  if scrOpOk (getBits v 8 4) then
    let s := s.setReg Reg.PWR_SCR_CMD (v &&& 0xF7F)
    if bitOf v.toNat 31 then s.scribeJoist else s
  else s

/-- CLK_, PWR_ and WR_ registers whose write acts. -/
def State.actCtrl (s : State) (a : Nat) (v : Word) : Option State :=
  if a = Reg.CLK_CFG then some (s.writeClkCfg v)
  else if a = pwrModeReqAddr then some (s.writePwrModeReq v)
  else if a = 0x1000C then some (s.writeDoorbell (v.truncate 8))
  else if a = Reg.PWR_LADDER_REQ then some (s.writePwrLadderReq v)
  else if a = Reg.PWR_DOM_OFF_A then some ((s.writeDomOff 0 v).trsAdvance 65)
  else if a = Reg.PWR_DOM_OFF_B then some ((s.writeDomOff 1 v).trsAdvance 65)
  else if a = Reg.PWR_DOM_OFF_C then some (s.writeDomOff 2 v)
  else if a = Reg.PWR_RESUME_BASE then some (s.writeResumeBase v)
  else if a = Reg.PWR_FL_CMD then some (s.writeFlCmd v)
  else if a = Reg.PWR_SCR_CMD then some (s.writeScrCmd v)
  else if a = Reg.WR_CFG then some (s.writeWrCfg v)
  else
    match group? 8 (Reg.WR_LAMPn_RATED 0) 4 a with
    | some (n, _) => some (s.writeRated n v)
    | none => none

/-- One word of a key hash: the write that covers the last byte commits the 32 bytes (R667, log 38). -/
def State.writeKeyHash (s : State) (k : Fin 4) (i : Nat) (cov d : Word) (level : Level) : RespCode × State :=
  if levelCode level < levelCode (s.otpLevel (.keyHash k)) then (.decode, s.otpRefuse (.keyHash k) 0 level 3)
  else
    let put (l : List (Nat × Byte)) (j : Nat) : List (Nat × Byte) :=
      if getBits cov (8 * j) 8 = 0 then l else Assoc.set l (32 * k.val + 4 * i + j) (byteOf d.toNat j)
    let staged := (List.range 4).foldl put s.otp.hashStage
    if i = 7 ∧ getBits cov 24 8 ≠ 0 then
      let bs := (List.range 32).map fun j => (staged.lookup (32 * k.val + j)).getD 0
      let rest := staged.filter fun p => p.1 / 32 != k.val
      State.otpWrite { s with otp := { s.otp with hashStage := rest } } (.keyHash k) (ofLeBytes bs) level
    else (.ok, { s with otp := { s.otp with hashStage := staged } })

/-- OTP_ registers: only a window write may reach a setting or OTP_FACT_CMD (R662, R670). -/
def State.actOtp (s : State) (q : RingReq) (a : Nat) (cov d v : Word) : Option (RespCode × State) :=
  let own (r : RespCode × State) : Option (RespCode × State) := if q.client = .window then some r else some (.decode, s)
  if a = Reg.OTP_HEAD then own (s.otpWrite .head (v &&& 0x11F).toNat q.level)
  else if a = Reg.OTP_BOOT_POLICY then own (s.otpWrite .bootPolicy (v &&& 0x3F).toNat q.level)
  else if a = Reg.OTP_LOG_POLICY then own (s.otpWrite .logPolicy (v &&& 1).toNat q.level)
  else if a = Reg.OTP_DEBUG_LOCK then own (s.otpWrite .debugLock (v &&& 3).toNat q.level)
  else if a = Reg.OTP_KEY_REVOKE then own (s.otpWrite .keyRevoke (v &&& 0xF).toNat q.level)
  else if a = Reg.OTP_FACT_CMD then own (s.writeFactCmd v q.level)
  else
    match group? 4 0x40020 32 a with
    | some (k, o) => own (s.writeKeyHash k (o / 4) cov d q.level)
    | none => none

/-- UAn_ registers whose write acts, at an offset in the block of UART n. -/
def State.actUart (s : State) (n : Fin 2) (off : Nat) (v : Word) : Option State :=
  if off = 0x00 then some (s.writeUartCfg n v)
  else if off = 0x04 then some (s.writeUartBaud n v)
  else if off = 0x08 then some (s.writeUartDe n v)
  else if off = 0x14 then some (s.writeTxd n v)
  else if off = 0x28 then some (s.writeUartBaudAon n v)
  else
    match group? 16 0x100 0x10 off with
    | some (d, 0) => some (s.writeDescAddr n d false v)
    | some (d, 4) => some (s.writeDescAddr n d true v)
    | some (d, 8) => some (s.writeDescCtrl n d v)
    | _ => none

/-- NI_ registers whose write acts, at an offset in the block of stop n. -/
def State.actNi (s : State) (n : Fin 16) (off : Nat) (v : Word) : Option State :=
  if off = 4 then some (s.writeNiCfg n v)
  else if 0x100 ≤ off ∧ off < 0x200 then some (s.writeRoute n ((off - 0x100) / 4) v)
  else none

/-! ### Stops SEQ, TALLY, INGEST and EGRESS -/

/-- The party of SEQ_PEG_REQ that a request comes from (R344). -/
def pegParty? (q : RingReq) : Option PegParty :=
  match q.client with
  | .window => some .host
  | .jig _ => some .jig
  | .supv => some .supv
  | _ => none

/-- A write of SEQ_PEG_REQ: any other source is answered DECODE; OP 0 is reserved (R11). -/
def State.writePegReq (s : State) (q : RingReq) (v : Word) : RespCode × State :=
  match pegParty? q with
  | none => (.decode, s)
  | some p =>
    let op := getBits v 8 2
    if op = 0 then (.ok, s) else (.ok, s.pegRequest p op (Fin.ofNat 32 (getBits v 0 5)))

/-- SEQ_ registers whose write acts, at an offset in the block. -/
def State.actSeq (s : State) (q : RingReq) (off : Nat) (v : Word) : Option (RespCode × State) :=
  if off = 0x08 then some (.ok, s.writeEvPost v)
  else if off = 0x20 then some (s.writePegReq q v)
  else
    match group? 8 0x200 0x20 off with
    | some (n, 0x00) => some (.ok, s.writeTaskCtrl n v)
    | some (n, 0x08) => some (.ok, s.writeTaskPri n v)
    | some (n, 0x18) => some (.ok, s.writeTaskTimer n v)
    | _ => none

/-- TLY_ registers whose write acts. -/
def State.actTly (s : State) (a : Nat) (v : Word) : Option State :=
  if a = Reg.TLY_CFG then some (s.writeTlyCfg v)
  else if a = Reg.TLY_FAR_BASE then some (s.writeTlyFarBase v)
  else if a = Reg.TLY_CMD then some (s.writeTlyCmd (getBits v 0 4))
  else
    match group? 16 (Reg.TLY_WSi_A 0) 8 a with
    | some (i, 0) => some (s.writeTlyWs i false v)
    | some (i, 4) => some (s.writeTlyWs i true v)
    | _ => none

/-- ING_, KRF_ and EGR_ registers whose write acts. -/
def State.actFlow (s : State) (a : Nat) (v : Word) : Option State :=
  if a = Reg.ING_CFG then some (s.writeIngCfg v)
  else if a = Reg.ING_CMP_CTRL then some (s.writeCmpCtrl v)
  else if a = Reg.EGR_CFG then some (s.writeEgrCfg v)
  else if a = Reg.EGR_BUF_CFG then some (s.writeEgrBufCfg v)
  else none

/-! ### Stops JIG and LINEIO -/

/-- A ring write of JIG_CLKr. Whether the old output falls within 64 LCLK, and whether the new source shows edges, is on the
board: free values. -/
def State.ringJigClk (s : State) (r : Fin 4) (v : Word) : State :=
  let fall := if Config.freeBit s.freeCtr then some 0 else none
  State.writeJigClk { s with freeCtr := s.freeCtr + 2 } r v fall (Config.freeBit (s.freeCtr + 1))

/-- A write of JIG_CTRL: RECFG leaves the fabric LOADING, and a RELEASE in the same write finds no INIT. -/
def State.writeJigCtrl (s : State) (v : Word) : State :=
  let s := if bitOf v.toNat 0 then s.jigRecfg s.now else s
  if bitOf v.toNat 1 then s.jigRelease s.now else s

/-- JIG_ registers whose write acts. -/
def State.actJig (s : State) (a : Nat) (v : Word) : Option State :=
  if a = Reg.JIG_CTRL then some (s.writeJigCtrl v)
  else if a = Reg.JIG_CFG then some (s.writeJigCfg v)
  else
    match group? 4 (Reg.JIG_CLKr 0) 4 a, group? 40 (Reg.JIG_PINj 0) 4 a with
    | some (r, _), _ => some (s.ringJigClk r v)
    | none, some (j, _) => some (s.writePin j v s.now)
    | none, none => none

/-- A write of MARKm_NOW that reaches LINEIO now (R110, R755). -/
def State.writeMarkNow (s : State) (m : Fin 4) (v : Word) : State :=
  if s.mode = .fallback then s.inc (F.MARKm_DISCARD m)
  else (s.atT (s.now + 2)).markPulse m (getBits v 0 16) (s.now + 2)

/-- ENC_ and MARK registers whose write acts. -/
def State.actEnc (s : State) (a : Nat) (v : Word) : Option State :=
  if a = Reg.ENC_TRIG_CFG then some (s.writeTrigCfg v)
  else if a = Reg.ENC_DIV_M then some (s.writeDivM v)
  else if a = Reg.ENC_LTIMER then some (s.writeLtimer v s.now)
  else
    match group? 3 (Reg.ENCn_CFG 0) 0x40 a, group? 4 (Reg.MARKm_CFG 0) 0x40 a with
    | some (n, 0x08), _ => some (s.writePosHi n v)
    | none, some (m, 0x08) => some (s.writeMarkQ m v)
    | none, some (m, 0x0C) => some (s.writeMarkNow m v)
    | _, _ => none

/-- STB_, PRS_ and DYN_ registers whose write acts. -/
def State.actLineio (s : State) (a : Nat) (v : Word) : Option State :=
  if a = Reg.PRS_CFG then some (s.writePrs .cfg v)
  else if a = Reg.PRS_LAG then some (s.writePrs .lag v)
  else if a = Reg.PRS_THR then some (s.writePrs .thr v)
  else if a = Reg.DYN_CAL then some (s.writeDynCal v)
  else if a = Reg.DYN_CMD_TX_HI then some (s.writeCmdTxHi v)
  else
    match group? 8 (Reg.STBn_CFG 0) 0x40 a with
    | some (n, 0x20) => some (s.writeOntimeHi n v)
    | some (n, 0x38) => some (s.writeStbTest n v s.now)
    | _ => none

/-- What follows a plain write: the fault bits of a strobe channel. -/
def State.afterPlain (s : State) (a : Nat) : State :=
  match group? 8 (Reg.STBn_CFG 0) 0x40 a with
  | some (n, 0x00) => s.stbFaultUpdate n
  | some (n, 0x18) => s.stbFaultUpdate n
  | _ => s

/-! ### One register -/

/-- The write of a register that acts; none when its write is plain. -/
def State.actReg (s : State) (q : RingReq) (a : Nat) (cov d v : Word) : Option (RespCode × State) :=
  let ok (r : Option State) : Option (RespCode × State) := r.map fun s => (.ok, s)
  if a < 0x40000 then ok (s.actCtrl a v)
  else if a < 0x50000 then s.actOtp q a cov d v
  else if a < 0x60000 then ok (s.actUart 0 (a - 0x50000) v)
  else if a < 0x70000 then (if a = Reg.MEMC_CFG then some (.ok, s.raise F.MEMC_ERR_CFG) else none)
  else if a < 0x1000000 then none
  else if a < 0x1100000 then
    match group? 16 0x1000000 0x10000 a with
    | some (n, off) => ok (s.actNi n off v)
    | none => none
  else if a < 0x110010000 then (if 0x110000000 ≤ a then s.actSeq q (a - 0x110000000) v else none)
  else if a = Reg.TRS_CTRL then some (.ok, s.writeTrsCtrl v)
  else if a < 0x300000000 then ok (s.actTly a v)
  else if a < 0x600000000 then ok (s.actFlow a v)
  else if a < 0x700000000 then ok (s.actJig a v)
  else if a < 0x700010000 then ok (s.actEnc a v)
  else if a < 0x700040000 then ok (s.actLineio a v)
  else if a < 0x700050000 then ok (s.actUart 1 (a - 0x700040000) v)
  else none

/-- A write of the covered bytes of the register at an aligned address (R10, R11, R20, R754). -/
def State.regWrite (s : State) (q : RingReq) (a : Nat) (cov d : Word) : RespCode × State :=
  let row := Reg.row? a
  let wo : Word := BitVec.ofNat 32 (match row with | some r => r.wo | none => 0)
  let v := (s.viewReg a &&& ~~~cov &&& ~~~wo) ||| (d &&& cov)
  match s.actReg q a cov d v with
  | some r => r
  | none =>
    match row with
    | some r => if plainOk a v then (.ok, (s.setReg a (r.plain (s.reg a) cov d)).afterPlain a) else (.ok, s)
    | none => (.ok, s)

end Sys2Proof.Machine
end

