-- ==== Sys2Proof/Machine/Access.lean ====
section
/-! DEFINITION. What a request does at its destination stop (R19 to R22, R33, R175, R270, R312, R433, R455, R496, R754): reads
and writes of registers, stores and buffers, with their response. The fabric's user space answers later (Machine/Jig.lean). -/

namespace Sys2Proof.Machine

/-! ### The address space (Table 1-1, R20) -/

/-- An offset lies in a range in use at a stop; far memory answers for itself. -/
def offsetInUse (stop off : Nat) : Bool :=
  if stop = 0 then decide (off < 0x70000) || within 0x1000000 off 0x10FFFFF
  else if stop = 1 then decide (off < 0x40000) || within 0x10000000 off 0x1001FFFF
  else if stop = 2 then decide (off < 0x10000)
  else if stop = 3 then true
  else if stop = 4 then decide (off < 0x10000) || within 0x10000000 off 0x101FFFFF
  else if stop = 5 then decide (off < 0x20000)
  else if stop = 7 then decide (off < 0x50000)
  else decide (off < 0x10000) || within 0x10000000 off 0x1FFFFFFF

/-- The client domain that must be ON for an access, beyond CTRL and the NI registers (R22, R221, R455); the client logic of the
bent stops is in TRUSS (Table 24-1). -/
def accessDomain (stop off : Nat) : Option (Fin 76) :=
  if stop = 1 then (if off < 0x10010000 then some Dom.seq else some Dom.truss)
  else if stop = 2 then some Dom.tally
  else if stop = 3 then some Dom.memc
  else if stop = 4 then some Dom.ingest
  else if stop = 5 then some Dom.egress
  else if stop = 6 then
    if 0xC000 ≤ off ∧ off < 0x10000 then some Dom.jige
    else if off < 0x10000 then some ((regDomain (0x600000000 + off)).getD Dom.jigw)
    else some Dom.jigw
  else if stop = 7 then (if 0x30000 ≤ off ∧ off < 0x40000 then some Dom.dynak else some Dom.lineio)
  else if 8 ≤ stop then some Dom.truss
  else none

/-- The domain that PWR_PD_HIT records for a request: for a tile's registers, and its part of the yard port, the tile (R629). -/
def hitDomain (stop off : Nat) : Option (Fin 76) :=
  if 8 ≤ stop ∧ ¬(0x8000 ≤ off ∧ off < 0x10000) then arrayIdx? 76 (8 * (stop - 8) + min (off / 0x1000) 7) else accessDomain stop off

/-- A request is answered POWERED_DOWN: FALLBACK, or a client domain that is not ON (R33, R455). -/
def State.accessDown (s : State) (stop off : Nat) : Bool :=
  (s.mode == .fallback && stop != 0 && stop != 7) ||
    (match accessDomain stop off with
      | some d => !s.domOn d
      | none => false)

/-! ### Words and bytes -/

/-- Ones in bytes lo to hi − 1 of a word. -/
def byteMask (lo hi : Nat) : Word := maskBits (8 * lo) (8 * (hi - lo))

/-- The aligned words that len bytes from an address touch. -/
def spanWords (a len : Nat) : List Nat := (List.range ((a + len + 3) / 4 - a / 4)).map fun i => (a / 4 + i) * 4

/-- First and last byte, exclusive, of a span within the word at w. -/
def spanLo (a w : Nat) : Nat := a - w
def spanHi (a len w : Nat) : Nat := min 4 (a + len - w)

/-! ### Reads of a register (R9, R383, R541, R754) -/

/-- The RS registers that the read of a register captures: those that follow one that is not RS itself. -/
def snapTargets (a : Nat) : List Nat :=
  let rs (x : Nat) : Bool := match Reg.row? x with | some r => r.rs != 0 | none => false
  if rs a then [] else [a + 4, a + 8, a + 12].takeWhile rs

/-- The covered bytes of the register at an aligned address are read. -/
def State.regRead (s : State) (a : Nat) (cov : Word) : Word × State :=
  let row := Reg.row? a
  let mask (g : RegRow → Nat) : Word := BitVec.ofNat 32 (match row with | some r => g r | none => 0)
  let rs := mask RegRow.rs
  let rc := mask RegRow.rc
  let v := s.viewReg a
  let v := match s.rsnaps.lookup a with
    | some x => (v &&& ~~~rs) ||| (x &&& rs)
    | none => v
  let s1 := (snapTargets a).foldl (fun t x => { t with rsnaps := Assoc.set t.rsnaps x (s.viewReg x) }) s
  let s2 := if rc &&& ~~~cov = 0 ∧ rc ≠ 0 then s1.setReg a (s1.reg a &&& ~~~rc) else s1
  if a = Reg.EGR_ENQ_GO then
    let r := s2.egrEnqueue
    (BitVec.ofNat 32 r.1, r.2.setFld F.EGR_ENQ_GO_RESULT r.1)
  else if a = Reg.UAn_RXD 0 ∨ a = Reg.UAn_RXD 1 then
    let n : Fin 2 := if a = Reg.UAn_RXD 0 then 0 else 1
    let r := s2.readRxd n
    (r.1, r.2.setUart n { r.2.uart[n] with rxd := r.1 })
  else if Reg.JIG_PINj 0 ≤ a ∧ a ≤ Reg.JIG_PINj 39 then (v, { s2 with freeCtr := s2.freeCtr + 1 })
  else (v, s2)

/-! ### Spans of registers -/

/-- Read the bytes of a span, word by word. -/
def State.regsRead (s : State) (a len : Nat) : List Nat → List Byte × State
  | [] => ([], s)
  | w :: ws =>
    let lo := spanLo a w
    let hi := spanHi a len w
    let (v, s) := s.regRead w (byteMask lo hi)
    let (bs, s) := s.regsRead a len ws
    (((leBytes v.toNat 4).drop lo).take (hi - lo) ++ bs, s)

/-- Write the bytes of a span, word by word; the first response other than OK ends the access. -/
def State.regsWrite (s : State) (q : RingReq) (a len : Nat) (data : List Byte) : List Nat → RespCode × State
  | [] => (.ok, s)
  | w :: ws =>
    let lo := spanLo a w
    let hi := spanHi a len w
    let d := BitVec.ofNat 32 (ofLeBytes (data.take (hi - lo)) * 2 ^ (8 * lo))
    match s.regWrite q w (byteMask lo hi) d with
    | (.ok, s) => s.regsWrite q a len (data.drop (hi - lo)) ws
    | r => r

/-- Read bytes of the SUP_ block. -/
def State.supReads (s : State) (a : Nat) : Nat → List Byte × State
  | 0 => ([], s)
  | n + 1 =>
    let (b, s) := if a < 0x7F then s.supRead true a else (0, s)
    let (bs, s) := s.supReads (a + 1) n
    (b :: bs, s)

/-- Write bytes of the SUP_ block. -/
def State.supWrites (s : State) (a : Nat) (level : Level) : List Byte → State
  | [] => s
  | b :: bs => (if a < 0x7F then s.supWrite true a b level else s).supWrites (a + 1) level bs

/-- A write of SUP_ bytes that commits RT_ENTRY without SERVICE is refused for its level (R75, R612). -/
def supShut (a len : Nat) (level : Level) : Bool := level == .field && decide (a ≤ 0x30) && decide (0x30 < a + len)

/-! ### Memories -/

/-- The sequencer store. -/
def State.seqBytes (s : State) (off len : Nat) : List Byte := SMap.getBytes zeroByte s.seqStore off len

/-- Store bytes into the sequencer store. -/
def State.seqPut (s : State) (off : Nat) (bs : List Byte) : State :=
  { s with seqStore := SMap.setBytes zeroByte s.seqStore off bs }

/-- A byte of the header store (R176). -/
def State.hdrByte (s : State) (o : Nat) : Byte :=
  match arrayIdx? 128 (o / 0x20) with
  | some k => ((s.ing.hdr[k]).bytes).getD (o % 0x20) 0
  | none => 0

/-- An AMO at the sequencer store (R312). -/
def State.seqAmo (s : State) (off op : Nat) (operand cmp : Word) : RingResp × State :=
  let old := s.seqBytes off 4
  let new := amoValue op (BitVec.ofNat 32 (ofLeBytes old)) operand cmp
  ({ data := old }, s.seqPut off (leBytes new.toNat 4))

/-! ### The access -/

/-- A READ at an offset in use whose client is up. -/
def State.doRead (s : State) (stop off len : Nat) : RingResp × State :=
  let a := stop * 2 ^ 32 + off
  if stop = 0 ∧ 0x20000 ≤ off ∧ off < 0x30000 then
    let r := s.supReads (off - 0x20000) len
    ({ data := r.1 }, r.2)
  else if stop = 1 ∧ off < 0x40000 then ({ data := s.seqBytes off len }, s)
  else if stop = 4 ∧ 0x1000 ≤ off ∧ off < 0x2000 then
    ({ data := (List.range len).map fun i => s.hdrByte (off - 0x1000 + i) }, s)
  else if stop = 4 ∧ 0x10000000 ≤ off then ({ data := SMap.getBytes zeroByte s.ing.store (off - 0x10000000) len }, s)
  else if stop = 6 ∧ 0x8000 ≤ off then
    match s.jigMemRead (off - 0x8000) len with
    | some bs => ({ data := bs }, s)
    | none => ({ code := .decode }, s)
  else if 8 ≤ stop ∧ 0x10000000 ≤ off then ({ code := .decode }, s)
  else
    let r := s.regsRead a len (spanWords a len)
    ({ data := r.1 }, r.2)

/-- A WRITE at an offset in use whose client is up. -/
def State.doWrite (s : State) (q : RingReq) (stop off len : Nat) : RingResp × State :=
  let a := stop * 2 ^ 32 + off
  let data := q.data.take len
  if stop = 0 ∧ 0x20000 ≤ off ∧ off < 0x30000 then
    ({ code := if supShut (off - 0x20000) len q.level then .decode else .ok }, s.supWrites (off - 0x20000) q.level data)
  else if stop = 1 ∧ off < 0x40000 then ({}, s.seqPut off data)
  else if stop = 4 ∧ ((0x1000 ≤ off ∧ off < 0x2000) ∨ 0x10000000 ≤ off) then ({ code := .decode }, s)
  else if stop = 6 ∧ 0x8000 ≤ off then
    match s.jigMemWrite (off - 0x8000) data with
    | some s' => ({}, s')
    | none => ({ code := .decode }, s)
  else if 8 ≤ stop ∧ 0x10000000 ≤ off then ({ code := .decode }, s)
  else
    let r := s.regsWrite q a len data (spanWords a len)
    ({ code := r.1 }, r.2)

/-- A request is performed at its destination client, which is not the fabric's user space. -/
def State.access (s : State) (q : RingReq) : RingResp × State :=
  let stop := q.dst.val
  if s.accessDown stop q.off then
    ({ code := .poweredDown }, match hitDomain stop q.off with | some d => s.pdHit d | none => s)
  else if stop = 3 then s.memcPerform q
  else if 128 < q.off % 128 + q.len ∨ !offsetInUse stop q.off then ({ code := .decode }, s)
  else
    match q.kind with
    | .read => s.doRead stop q.off q.len
    | .write => s.doWrite q stop q.off q.len
    | .amo op =>
      if stop = 1 ∧ q.off < 0x40000 ∧ q.off % 4 = 0 ∧ op.toNat < 6 then
        s.seqAmo q.off op.toNat (BitVec.ofNat 32 (ofLeBytes (q.data.take 4))) q.cmp
      else ({ code := .decode }, s)

/-- The request is for the fabric's user space (Table 1-1). -/
def isFabric (q : RingReq) : Bool := q.dst == 6 && within 0x10000000 q.off 0x1FFFFFFF

/-! ### The register file's own command -/

/-- REGISTER_WRITE: the window writes a whole register at an aligned address, with the session's level (R9 to R11). -/
def execRegisterWrite (addr : SysAddr) (v : Word) (s : State) : Host.Outcome State Fault Refusal :=
  let a := addr.toNat / 4 * 4
  let q : RingReq := { dst := Fin.ofNat 16 (a / 2 ^ 32), kind := .write, off := a % 2 ^ 32, len := 4, data := leBytes v.toNat 4
                       level := s.cp.sess.level }
  if s.cp.sess.active && s.plateUp && isReg a then .next (s.access q).2 else .next s

end Sys2Proof.Machine
end

