-- ==== Sys2Proof/Machine/Perform.lean ====
section
/-! DEFINITION. A request at its destination NI (R436, R441, R453, R455, R456): RING_REQUEST_ARRIVAL and, for far memory,
MEMC_REQUEST. -/

namespace Sys2Proof.Machine

/-- A request of a class stands at stop MEMC. -/
def State.memcWaits (s : State) (c : RingClass) : Bool :=
  [false, true].any fun sill => (s.rings[channel sill c false][(3 : Fin 16)].buf.head?.any fun r => r.dst == 3)

/-- MEMC may start a request of a class: an URGENT one goes first, and CONTROL has WEIGHT turns for each turn of BULK while
both wait (R466). -/
def State.memcMay (s : State) (c : RingClass) : Bool :=
  let both := s.memcWaits .control && s.memcWaits .bulk
  let due := decide (s.fld F.MEMC_ARB_WEIGHT ≤ s.memc.turn)
  match c with
  | .urgent => true
  | .control => !s.memcWaits .urgent && !(both && due)
  | .bulk => !s.memcWaits .urgent && !(both && !due)

/-- MEMC has taken a request of a class: its turns while both classes wait. -/
def State.memcTurn (s : State) (c : RingClass) : State :=
  match c with
  | .urgent => s
  | .control => { s with memc := { s.memc with turn := if s.memcWaits .bulk then s.memc.turn + 1 else 0 } }
  | .bulk => { s with memc := { s.memc with turn := 0 } }

/-- The request of an entry is on its way and stands at its destination's router behind nothing of its channel (R446, R447), and no
earlier request of its stop to the same destination, in the same class and on the same ring, is still to arrive (R453); and MEMC may start it (R466). -/
def State.arrivesNext (s : State) (n : Fin 16) (e : TagEnt) : Bool :=
  let waits (x : TagEnt) : Bool :=
    x.st == .sent && x.req.dst == e.req.dst && x.req.cls == e.req.cls && x.sill == e.sill && !s.rtHas n x.tag
  ((s.ni[n].tags.find? waits).any fun x => x.tag == e.tag) && s.atRouter e.channel e.req.dst n e.tag &&
    (e.req.dst != 3 || s.memcMay e.req.cls)

/-- The destination client performs the request and answers; a request into the fabric's user space waits for the target
port, or is answered DECODE when the fabric does not run. -/
def State.performReq (s : State) (n : Fin 16) (tag : Byte) (q : RingReq) : State :=
  let fabric := isFabric q && !s.accessDown 6 q.off && decide (q.off % 128 + q.len ≤ 128)
  let answered (s : State) (r : RingResp) : State := s.respond n tag r
  if fabric then
    match q.kind, s.rtArrive n tag with
    | .amo _, _ => answered s { code := .decode }
    | _, some s' =>
      match s'.tagEnt? n tag with
      | some e => s'.packetDrop n e
      | none => s'
    | _, none => answered s { code := .decode }
  else
    let s := if q.dst = 3 then s.memcTurn q.cls else s
    let r := s.access q
    answered r.2 r.1

/-- The request with a tag of a stop reaches its destination. -/
def State.arrive (s : State) (n : Fin 16) (tag : Byte) (bad : Option (Fin 16)) (p : RingReq → Bool) : State :=
  match s.tagEnt? n tag with
  | none => s
  | some e =>
    let q := e.req
    if !s.plateUp || !p q || !s.arrivesNext n e then s
    else
      match bad, decide (q.dst = n) with
      | some b, false => (s.inc (F.NI_HDR_ERR b)).packetLost n tag
      | _, _ =>
        if s.ni[q.dst].bypass || s.stopHeld.contains q.dst.val then
          (s.inc (F.NI_BYPASS_DROP q.dst)).packetLost n tag
        else s.performReq n tag q

/-- RING_REQUEST_ARRIVAL: the request with a tag of stop n reaches its destination, which performs it; with `bad` its header
fails at that stop's router. -/
def execRingRequestArrival (n : Fin 16) (tag : Byte) (bad : Option (Fin 16)) (s : State) : Host.Outcome State Fault Refusal :=
  .next (s.arrive n tag bad fun _ => true)

/-- MEMC_REQUEST: the same for a request to far memory, after bits of stored words have gone bad: pairs of a word's offset
and its number of bits (R466, R479). -/
def execMemcRequest (n : Fin 16) (tag : Byte) (flips : List (Nat × Nat)) (s : State) : Host.Outcome State Fault Refusal :=
  .next ((s.memcFlip flips).arrive n tag none fun q => q.dst == 3)

end Sys2Proof.Machine
end

