-- ==== Sys2Proof/Machine/Boot.lean ====
section
/-! DEFINITION. Starting the head (Chapter 22, R555 to R568): slot headers, the choice of a slot, MEMC training, sections,
digest and signature, the Jig image, the INIT script, and the entry to SETUP. -/

namespace Sys2Proof.Machine

/-! ### Headers and sections (R556 to R558, R575) -/

/-- A section entry (R558). -/
structure ImgSect where
  typ : Nat := 0
  off : Nat := 0
  len : Nat := 0
  dest : Nat := 0
  /-- Bytes 1 to 3. -/
  rsvd : Nat := 0
  deriving DecidableEq, Repr

/-- The base of a slot: A false, B true. -/
def slotBase (b : Bool) : Nat := if b then 0x2000000 else 0

/-- Section entry i of a header. -/
def hdrSect (h : List Byte) (i : Nat) : ImgSect :=
  let o := 32 + 16 * i
  { typ := imgNum h o 1, rsvd := imgNum h (o + 1) 3, off := imgNum h (o + 4) 4, len := imgNum h (o + 8) 4
    dest := imgNum h (o + 12) 4 }

/-- The sections of a header. -/
def hdrSects (h : List Byte) : List ImgSect := (List.range (imgNum h 17 1)).map (hdrSect h)

/-- The MEMC_CFG word of a header. -/
def hdrCfg (h : List Byte) : Word := BitVec.ofNat 32 (imgNum h 24 4)

/-- One section against its row of Table 22-2; the capacity is that of the header's own configuration, when it is allowed. -/
def sectOk (cfg : Word) (total : Nat) (x : ImgSect) : Bool :=
  let cap := memcUsable cfg * 0x100000
  let row :=
    if x.typ = 1 then decide (1 ≤ x.len ∧ x.len ≤ 0x40000 ∧ x.dest + x.len ≤ 0x40000)
    else if x.typ = 2 then x.dest == 0
    else if x.typ = 3 then decide (x.len % 16 = 0 ∧ x.len ≤ 0x4000 ∧ x.dest = 0)
    else if x.typ = 4 then decide (x.len % 16 = 0 ∧ x.len ≤ 0xC000 ∧ x.dest = 0)
    else if x.typ = 5 then
      decide (x.len % 16 = 0 ∧ x.dest % 128 = 0) && ((memcInstalled cfg).isNone || decide (x.dest + x.len ≤ cap))
    else false
  row && x.rsvd == 0 && decide (320 ≤ x.off ∧ x.off % 16 = 0 ∧ x.off + x.len ≤ total)

/-- Sections stand in ascending order and do not overlap. -/
def sectsAscend : List ImgSect → Bool
  | x :: y :: ys => decide (x.off < y.off ∧ x.off + x.len ≤ y.off) && sectsAscend (y :: ys)
  | _ => true

/-- Sections of each type: exactly one JOIST and JIG, at most one UCODE and INIT, at most four FARDATA. -/
def sectCounts (l : List ImgSect) : Bool :=
  let n (k : Nat) : Nat := l.countP fun x => x.typ == k
  decide (n 1 = 1 ∧ n 2 = 1 ∧ n 3 ≤ 1 ∧ n 4 ≤ 1 ∧ n 5 ≤ 4)

/-- A header passes Tables 22-1 and 22-2, with every reserved field 0. -/
def headerOk (h : List Byte) : Bool :=
  let n := imgNum h 17 1
  let total := imgNum h 8 4
  let l := hdrSects h
  imgNum h 0 4 == 0x4236314B && imgNum h 4 2 == 1 && imgNum h 6 2 == 0x140 && decide (total ≤ 0x2000000) &&
    decide (imgNum h 16 1 < 2) && decide (2 ≤ n ∧ n ≤ 6) && imgNum h 18 2 == 0 && decide (imgNum h 20 4 < 0x40000) &&
    imgNum h 28 4 == 0 && imgNum h (32 + 16 * n) (96 - 16 * n) == 0 && imgNum h 288 32 == 0 &&
    l.all (sectOk (hdrCfg h) total) && sectsAscend l && sectCounts l

/-- The header of a slot, when the slot is present in the device and the header passes (R556). -/
def State.slotHeader (s : State) (b : Bool) : Option (List Byte) :=
  let h := s.flashBytes (slotBase b) 320
  if slotBase b + 0x2000000 ≤ s.flash.size ∧ headerOk h then some h else none

/-! ### Slot selection (R561) -/

/-- The slot that goes first. -/
def State.firstSlot (s : State) (a b : Option (List Byte)) : Bool :=
  let seq (h : Option (List Byte)) : Nat := (h.map fun h => imgNum h 12 4).getD 0
  if s.cp.bootNext = 1 then false
  else if s.cp.bootNext = 2 then true
  else
    match s.boot.failedSlot with
    | some x => !x
    | none =>
      let sel := s.bootPolicy / 16 % 4
      if sel = 1 then false else if sel = 2 then true else decide (seq a < seq b)

/-- Step 4: both headers are read and judged, BOOT_NEXT clears, and the slots to try stand in order, each with its header;
the first value is the slot that the order puts first. A later slot whose MEMC_CFG word differs fails (R555, R561). -/
def State.bootHeaders (s : State) : Bool × List (Bool × List Byte) × State :=
  let a := s.slotHeader false
  let b := s.slotHeader true
  let first := s.firstSlot a b
  let l := ([first, !first].map fun x => (x, if x then b else a)).filterMap fun p => p.2.map fun h => (p.1, h)
  let l := match l with
    | [x, y] => if hdrCfg y.2 = hdrCfg x.2 then l else [x]
    | _ => l
  let seq (x : Bool) : Nat := ((l.lookup x).map fun h => imgNum h 12 4).getD 0
  let res (x : Bool) : Nat := if (l.lookup x).isSome then 0 else 2
  let s := (s.setFld F.PWR_BOOT_RES_A (res false)).setFld F.PWR_BOOT_RES_B (res true)
  let s := (s.setFld F.PWR_BOOT_SEQA (seq false)).setFld F.PWR_BOOT_SEQB (seq true)
  let s := s.setFld F.PWR_BOOT_STAT_FLMODE (if s.flash.sfdp then (if s.flash.dtr then 2 else 1) else 0)
  (first, l, { s with cp := { s.cp with bootNext := 0 }, boot := { s.boot with failedSlot := none } })

/-! ### Steps 3 and 5: domains, and memory training (R463, R464, R471, R472, R648) -/

/-- Every switched domain is ON; a tile that was off starts as R215 states. -/
def State.bootDomains (s : State) : State :=
  (List.finRange 76).foldl (fun s d =>
    if s.domOn d then s
    else if h : d.val < 64 then s.tileStart ⟨d.val, h⟩
    else s.setDom d .on) s

/-- Step 5: MEMC_CFG is loaded and the memory trained, or not: `fail` holds FAIL in bits 2:0, CH in bit 4, RANK in bit 5. -/
def State.memcTrain (s : State) (cfg : Word) (us fail : Nat) : Bool × State :=
  let s := (s.setReg Reg.MEMC_CFG (cfg &&& 0xF3F)).setFld F.MEMC_CAP (memcUsable cfg)
  let stat (f : Nat) : Word := BitVec.ofNat 32 (f + 65536 * min us 65535)
  if (memcInstalled cfg).isNone then (false, s.setReg Reg.MEMC_TRAIN_STAT (stat 6))
  else if fail % 8 ≠ 0 then (false, s.setReg Reg.MEMC_TRAIN_STAT (stat (fail % 64 &&& 0x37)))
  else (true, (s.setReg Reg.MEMC_TRAIN_STAT (stat 0)).raise F.MEMC_STAT_TRAINED)

/-! ### Steps 6 and 7: sections, digest and signature (R558 to R560, R563) -/

/-- The bytes of a section of a slot. -/
def State.sectBytes (s : State) (b : Bool) (x : ImgSect) : List Byte := s.flashBytes (slotBase b + x.off) x.len

/-- The bytes of the first section of a type; none when the image has no such section. -/
def State.sectOf (s : State) (b : Bool) (h : List Byte) (typ : Nat) : Option (List Byte) :=
  ((hdrSects h).find? fun x => x.typ == typ).map (s.sectBytes b)

/-- Sections with a destination are placed; the Jig image, UCODE and INIT wait for the slot to pass. -/
def State.placeSects (s : State) (b : Bool) (h : List Byte) : State :=
  (hdrSects h).foldl (fun s x =>
    if x.typ = 1 then s.seqPut x.dest (s.sectBytes b x)
    else if x.typ = 5 then s.memcStore x.dest (s.sectBytes b x)
    else s) s

/-- DIGEST matches (R559). -/
def State.digestOk (s : State) (b : Bool) (h : List Byte) : Bool :=
  sha256 (h.take 128 ++ (hdrSects h).flatMap (s.sectBytes b)) == (h.drop 128).take 32

/-- The signature of an image is to be checked (R560). -/
def State.sigWanted (s : State) (h : List Byte) : Bool :=
  s.sigReq || (imgNum h 16 1 == 1 && (List.finRange 4).any fun k => (s.keyHash k).isSome)

/-- The signature check passes (R560). -/
def State.sigOk (s : State) (h : List Byte) : Bool :=
  let key := (h.drop 160).take 64
  imgNum h 16 1 == 1 && (s.enrolledKey (ofLeBytes (sha256 key))).isSome &&
    ecdsaVerify key ((h.drop 224).take 64) ((h.drop 128).take 32)

/-- The result of a slot whose sections have been read: 1 OK, 3 DIGEST, 4 SIGNATURE. -/
def State.slotJudge (s : State) (b : Bool) (h : List Byte) : Nat :=
  if !s.digestOk b h then 3 else if s.sigWanted h && !s.sigOk h then 4 else 1

/-- The slots are tried in order until one passes (R562, R563). -/
def State.bootSlots (s : State) : List (Bool × List Byte) → Option (Bool × List Byte) × State
  | [] => (none, s)
  | (b, h) :: rest =>
    let r := s.slotJudge b h
    let s := (s.placeSects b h).setFld (if b then F.PWR_BOOT_RES_B else F.PWR_BOOT_RES_A) r
    if r = 1 then (some (b, h), { s with boot := { s.boot with failedSlot := some b } }) else s.bootSlots rest

/-- The reason when no slot passed: 0x02 when every slot failed only its signature, else 0x01 (Table 22-4, R576). -/
def State.badReason (s : State) : Nat := if s.fld F.PWR_BOOT_RES_A = 4 ∧ s.fld F.PWR_BOOT_RES_B = 4 then 2 else 1

/-! ### Step 10: the INIT script (R564) -/

/-- An access of the script, at level SERVICE; the fabric's user space does not run yet. -/
def State.scriptAccess (s : State) (a : Nat) (w : Option Word) : RingResp × State :=
  let q : RingReq := { dst := Fin.ofNat 16 (a / 2 ^ 32), kind := if w.isSome then .write else .read, off := a % 2 ^ 32, len := 4
                       data := leBytes (w.getD 0).toNat 4, level := .service, client := .supv }
  if isFabric q then ({ code := .decode }, s) else s.access q

/-- One error of the script. -/
def State.scriptErr (s : State) (bad : Bool) : State := if bad then s.inc F.PWR_BOOT_INIT_ERRS else s

/-- One record: whether the script goes on, and the state after. -/
def State.scriptRecord (s : State) (r : List Byte) : Bool × State :=
  let a := imgNum r 0 5 % 2 ^ 36
  let op := imgNum r 5 1
  let data : Word := BitVec.ofNat 32 (imgNum r 8 4)
  let mask : Word := BitVec.ofNat 32 (imgNum r 12 4)
  if 4 < op then (false, s.raise F.PWR_BOOT_INIT_BAD_OP)
  else
    let s := s.inc F.PWR_BOOT_INIT_DONE
    if op = 0 then (false, s)
    else if op = 1 then
      let x := s.scriptAccess a (some data)
      (true, x.2.scriptErr (x.1.code != .ok))
    else if op = 4 then (true, s)
    else
      let x := s.scriptAccess a none
      let old : Word := BitVec.ofNat 32 (ofLeBytes x.1.data)
      if x.1.code ≠ .ok then (true, x.2.scriptErr true)
      else if op = 2 then
        let y := x.2.scriptAccess a (some ((old &&& ~~~mask) ||| (data &&& mask)))
        (true, y.2.scriptErr (y.1.code != .ok))
      else (true, x.2.scriptErr (old &&& mask != data))

/-- The script, until it ends or a request of its own has ended the attempt. -/
def State.runScript (s : State) (bs : List Byte) : Nat → State
  | 0 => s
  | n + 1 =>
    let r := s.scriptRecord (bs.take 16)
    if r.1 && r.2.mode == .boot then r.2.runScript (bs.drop 16) n else r.2

/-! ### Steps 8 to 11 -/

/-- TRS_UCODE_ID: 0 without a patch; with one, the level is a free value, as the manual does not say where the section holds
it (log 5). -/
def State.ucodeApply (s : State) (u : Option (List Byte)) : State :=
  match u with
  | none => s.setReg Reg.TRS_UCODE_ID 0
  | some _ => let r := s.drawWord; r.2.setReg Reg.TRS_UCODE_ID (r.1 &&& 0xFFFF)

/-- Step 11 (R565): SETUP, with T0 READY at ENTRY. -/
def State.bootDone (s : State) (b alt signed : Bool) (h : List Byte) (t ms : Nat) : State :=
  let s := (s.atT t).setupEntry
  let entry : BitVec 18 := BitVec.ofNat 18 (imgNum h 20 4)
  let s := (s.setFld F.PWR_BOOT_STAT_PHASE 11).setFld F.PWR_BOOT_STAT_SLOT (b2n b)
  let s := s.setFld F.PWR_BOOT_STAT_TIME_MS (min ms 65535)
  let s := (s.setTask 0 { s.tasks[(0 : Fin 8)] with pc := entry }).setTaskSt 0 .ready
  let s : State := { s with cp := { s.cp with bootInfo := BitVec.ofNat 3 (b2n b + 2 * b2n alt + 4 * b2n signed) }
                            boot := { failedSlot := none, slot := some b, entry := entry } }
  if s.jig.autoRel then s.jigRelease t else s

/-- A failed start from BOOT. -/
def State.bootFail (s : State) (reason step : Nat) : State := (s.failedStart reason step).railsSettle

/-- Steps 8 to 11 for a slot that has passed; after 2,000 ms the start watchdog prevails (R566, R576). -/
def State.bootFinish (s : State) (b first : Bool) (h : List Byte) (t ms : Nat) : State :=
  let j := s.jigLoad ((s.sectOf b h 2).getD []) t
  if !j.2 then j.1.bootFail 5 8
  else
    let s := (j.1.ucodeApply (s.sectOf b h 3)).lampLoad.setReg Reg.PWR_BOOT_INIT 0
    let script := (s.sectOf b h 4).getD []
    let s := s.runScript script (script.length / 16)
    if s.mode ≠ .boot ∨ !s.sup.attempt then { s with boot := { s.boot with failedSlot := none } }
    else if 2000 < ms then s.bootFail 4 10
    else s.bootDone b (b != first) (s.sigWanted h) h t ms

/-- Steps 4 to 11. -/
def State.bootSteps (s : State) (t ms trainUs trainFail : Nat) : State :=
  let (first, slots, s) := s.bootHeaders
  match slots with
  | [] => s.bootFail 1 4
  | (_, h) :: _ =>
    let r := s.memcTrain (hdrCfg h) trainUs trainFail
    if !r.1 then r.2.bootFail 6 5
    else
      match r.2.bootSlots slots with
      | (some (b, h), s) => s.bootFinish b first h t ms
      | (none, s) => s.bootFail s.badReason 7

/-- BOOT_ATTEMPT: in BOOT, the attempt goes on from step 2. With an OTP failure it ends in FALLBACK, and before PLL lock it waits
at step 3. `t` is the LCLK edge and `ms` the time from the entry to BOOT at which it reaches SETUP; `trainUs` and `trainFail`
say how training goes, and `drifts` what the check monitors measure (R562, R648). -/
def execBootAttempt (t ms trainUs : Nat) (trainFail : BitVec 6) (drifts : List (Option Int)) (s : State) :
    Host.Outcome State Fault Refusal :=
  if s.mode ≠ .boot ∨ !s.sup.attempt then .next s
  else if !s.otpOk then
    .next (((s.setFld F.PWR_BOOT_STAT_PHASE 2).modeRecord .fallback .caused false false).fallbackEntry 9)
  else if !s.clk.run then .next (s.setFld F.PWR_BOOT_STAT_PHASE 3)
  else .next ((s.bootDomains.sample drifts).bootSteps t ms trainUs trainFail.toNat)

/-- START_WATCHDOG_EXPIRY: 2,000 ms after the entry to BOOT the start fails with reason 0x04, at the step it has reached
(R566). -/
def execStartWatchdogExpiry (s : State) : Host.Outcome State Fault Refusal :=
  if s.mode = .boot ∧ s.sup.attempt then .next (s.bootFail 4 (s.fld F.PWR_BOOT_STAT_PHASE)) else .next s

end Sys2Proof.Machine
end

