-- ==== Sys2Proof/Machine/Joist.lean ====
section
/-! DEFINITION. The Joist instruction set (Chapter 12, R228, R329 to R338): the issue of the RUN task's next instruction,
repetition, faults, and one meaning per opcode. A command of an opcode is the event that this instruction issues; where the
RUN task's next instruction is another, or none can issue, it changes nothing (log 1). -/

namespace Sys2Proof.Machine

/-! ### Registers of a task (R294) -/

/-- Read g[r]; g0 reads 0. -/
def State.jReg (s : State) (n : Fin 8) (r : Nat) : Word := if r = 0 then 0 else ((s.tasks[n]).g.toList).getD r 0

/-- Write g[r]; a write to g0 is discarded. -/
def State.jSet (s : State) (n : Fin 8) (r : Nat) (v : Word) : State :=
  if r = 0 then s else s.setTask n { s.tasks[n] with g := (s.tasks[n]).g.setIfInBounds r v }

/-- Register named by operand byte i. -/
def JInstr.read (x : JInstr) (s : State) (n : Fin 8) (i : Nat) : Word := s.jReg n (x.r i)

/-- Write the register named by operand byte 0. -/
def JInstr.put (x : JInstr) (s : State) (n : Fin 8) (v : Word) : State := s.jSet n (x.r 0) v

/-! ### Issue, repetition and faults (R313 to R317, R325) -/

/-- What one execution of an instruction does. -/
inductive JOut where
  /-- It is done. -/
  | go (s : State)
  /-- It is done, and the PC takes the address (R294, R304). -/
  | jump (pc : Nat) (s : State)
  /-- It waits: it will be executed in full when the wait ends (R338). -/
  | hold (w : JWait) (s : State)

/-- What an instruction of a task does, its PC already moved past it. -/
abbrev JBody := State → Fin 8 → JInstr → JOut

/-- Move a task's PC and remaining iterations. -/
def State.jMove (s : State) (n : Fin 8) (pc : Nat) (rep : Option Nat) : State :=
  s.setTask n { s.tasks[n] with pc := BitVec.ofNat 18 pc, rep := rep }

/-- A task waits inside an instruction: its PC and remaining iterations stand at the wait (R338). -/
def State.jHold (s : State) (n : Fin 8) (w : JWait) (pc : Nat) (rep : Option Nat) : State :=
  let s1 := s.jMove n pc rep
  s1.setTask n { s1.tasks[n] with wait := w }

/-- A REPN run turns into one that runs as REPI (R315, R316). -/
def State.jDemote (s : State) (n : Fin 8) (c : Bool) : State := s.raiseIf c (F.SEQ_Tn_WARN_REPN_DEMOTED n)

/-- Execute one iteration, or with `burst` all k that remain without a preemption point (R313 to R316). -/
def jIterate (body : JBody) (n : Fin 8) (x : JInstr) (pc : Nat) (burst : Bool) : Nat → State → State
  | 0, s => s
  | k + 1, s =>
    let left := if k = 0 then none else some k
    let here := if x.rep then some (k + 1) else none
    if (x.touches false).any fun r => (s.tasks[n]).pend.contains r then (s.jHold n .pending pc here).jDemote n burst
    else
      let gen := (s.tasks[n]).gen
      match body (s.jMove n (if k = 0 then x.next else pc) left) n x with
      | .go s' => if burst && s'.taskSt[n] == .run && (s'.tasks[n]).gen == gen then jIterate body n x pc burst k s' else s'
      | .jump dest s' => s'.jMove n dest none
      | .hold w s' => (s'.jHold n w pc here).jDemote n burst

/-- An instruction without a fault issues. -/
def State.jRun (s : State) (n : Fin 8) (x : JInstr) (body : JBody) : State :=
  let t := s.tasks[n]
  let pc := t.pc.toNat
  if !x.rep then jIterate body n x pc false 1 s
  else
    match t.rep with
    | some k => jIterate body n x pc false k s
    | none =>
      if t.pend.contains x.nn then s.jHold n .pending pc none
      else
        let k := (s.jReg n x.nn).toNat
        if k = 0 then s.jMove n x.next none
        else
          let burst := x.repn && decide (k ≤ 16) && !x.internal
          jIterate body n x pc burst k (s.jDemote n (x.repn && !burst))

/-- An instruction fault: captured while VALID is clear; the task is aborted (R325, R341). -/
def State.jFault (s : State) (n : Fin 8) (x : JInstr) : State :=
  let s := if s.bit (F.SEQ_Tn_FAULT_VALID n) then s
    else ((s.setFld (F.SEQ_Tn_FAULT_CAUSE n) x.cause).setFld (F.SEQ_Tn_FAULT_PC n) (s.tasks[n]).pc.toNat).raise
      (F.SEQ_Tn_FAULT_VALID n)
  s.taskAbort n 2

/-- The command of an opcode, or of a push for none, is the one that issues an instruction. One that has no known opcode
faults under any command. -/
def JInstr.taken (x : JInstr) (key : Option Nat) : Bool :=
  x.cls.isNone || (match key with | none => x.arr | some k => !x.arr && x.op == some k)

/-- The task that can issue: RUN, not to be preempted, and not waiting inside an instruction but at an internal step. -/
def State.jReady (s : State) : Option (Fin 8) :=
  if s.domOn Dom.seq && !s.preemptDue then
    match s.runTask with
    | some n => if (s.tasks[n]).wait = .none ∨ (s.tasks[n]).wait = .internal then some n else none
    | none => none
  else none

/-- An instruction begins to issue: PC and registers stand as at the last preemption point until it ends (R326, R327), and
the task is the last to issue (R352). -/
def State.jBegin (s : State) (n : Fin 8) : State :=
  let t := s.tasks[n]
  State.setTask { s with cur := n } n { t with wait := .none, snap := some (t.pc, t.g) }

/-- The instruction has ended, at a preemption point, where an ABORT takes effect (R318, R341). -/
def State.jEnd (s : State) (n : Fin 8) : State :=
  let t := s.tasks[n]
  let s := s.setTask n { t with snap := none, abortDue := false }
  if t.abortDue then s.taskAbort n 1 else s

/-- The RUN task issues its next instruction, when that has the opcode of the command. -/
def State.jIssue (s : State) (key : Option Nat) (body : JBody) : State :=
  let s1 := s.settleWaits
  match s1.jReady with
  | none => s
  | some n =>
    let x := s1.jFetch n
    if !x.taken key then s
    else if x.cause ≠ 0 then State.jFault { s1 with cur := n } n x
    else ((s1.jBegin n).jRun n x body).jEnd n

/-! ### Task control (R330, R332, R333, R311, R344 to R347) -/

/-- Instruction NOP. -/
def execNop (s : State) : Host.Outcome State Fault Refusal := .next (s.jIssue (some 0x00) fun s _ _ => .go s)

/-- Instruction END. -/
def execEndTask (s : State) : Host.Outcome State Fault Refusal :=
  .next (s.jIssue (some 0x01) fun s n _ => .go (s.taskEnd n))

/-- A WAIT completes: the events of a mask go to rd and clear in EV. -/
def State.jWaitDone (s : State) (n : Fin 8) (x : JInstr) (m : Nat) : State :=
  let ev := s.fld (F.SEQ_Tn_EV n)
  let s := s.setFld (F.SEQ_Tn_EV n) (ev &&& (1023 - m))
  let s := (s.setFld (F.SEQ_Tn_WMASK n) 0).setTask n { s.tasks[n] with woken := false }
  x.put s n (BitVec.ofNat 32 (ev &&& m))

/-- WAIT rd, rs. -/
def jWait : JBody := fun s n x =>
  let m := getBits (x.read s n 1) 0 10
  if (s.tasks[n]).woken then .go (s.jWaitDone n x (s.fld (F.SEQ_Tn_WMASK n)))
  else if m = 0 then
    let s := (x.put s n 0).setTaskSt n .ready
    .go (s.setTask n { s.tasks[n] with wait := .yield })
  else if s.fld (F.SEQ_Tn_EV n) &&& m ≠ 0 then .go (s.jWaitDone n x m)
  else .hold .event ((s.setFld (F.SEQ_Tn_WMASK n) m).setTaskSt n .wait)

/-- Instruction WAIT. -/
def execWait (s : State) : Host.Outcome State Fault Refusal := .next (s.jIssue (some 0x02) jWait)

/-- RSYNC rd: waits for every ring access of the task, then returns and clears the recorded code. -/
def jRsync : JBody := fun s n x =>
  if (s.tasks[n]).inflight ≠ 0 then .hold .rsync s
  else
    let c := s.fld (F.SEQ_Tn_RCODE_CODE n)
    .go (x.put ((s.setReg (Reg.SEQ_Tn_RCODE n) 0).setReg (Reg.SEQ_Tn_RFAIL_OFS n) 0) n (BitVec.ofNat 32 c))

/-- Instruction RSYNC. -/
def execRsync (s : State) : Host.Outcome State Fault Refusal := .next (s.jIssue (some 0x03) jRsync)

/-- Peg number in operand byte i. -/
def JInstr.peg (x : JInstr) (i : Nat) : Fin 32 := Fin.ofNat 32 (x.b i)

/-- Instruction PEG.ACQ. -/
def execPegAcq (s : State) : Host.Outcome State Fault Refusal :=
  .next (s.jIssue (some 0x08) fun s n x =>
    let r := s.pegAcq (x.peg 1) (.task n)
    .go (x.put r.2 n (BitVec.ofNat 32 r.1)))

/-- Instruction PEG.REL. -/
def execPegRel (s : State) : Host.Outcome State Fault Refusal :=
  .next (s.jIssue (some 0x09) fun s n x => .go (s.pegRel (x.peg 0) (.task n)))

/-- Instruction PEG.MEND. -/
def execPegMend (s : State) : Host.Outcome State Fault Refusal :=
  .next (s.jIssue (some 0x0A) fun s n x =>
    let r := s.pegMend (x.peg 1) (.task n)
    .go (x.put r.2 n (BitVec.ofNat 32 r.1)))

/-! ### Arithmetic, logic and compares (Table 12-3, R295, R305) -/

/-- rd ← f of rs1 and rs2. -/
def jAlu3 (f : Word → Word → Word) : JBody := fun s n x => .go (x.put s n (f (x.read s n 1) (x.read s n 2)))

/-- rd ← f of rs. -/
def jAlu2 (f : Word → Word) : JBody := fun s n x => .go (x.put s n (f (x.read s n 1)))

/-- rd ← f of rs and imm16. -/
def jAluImm (f : Word → BitVec 16 → Word) : JBody := fun s n x =>
  .go (x.put s n (f (x.read s n 1) (BitVec.ofNat 16 (x.imm 2 2))))

/-- 1 or 0 as a word. -/
def boolWord (b : Bool) : Word := if b then 1 else 0

/-- Instruction ADD. -/
def execAdd (s : State) : Host.Outcome State Fault Refusal := .next (s.jIssue (some 0x10) (jAlu3 fun a b => a + b))
/-- Instruction SUB. -/
def execSub (s : State) : Host.Outcome State Fault Refusal := .next (s.jIssue (some 0x11) (jAlu3 fun a b => a - b))
/-- Instruction AND. -/
def execAnd (s : State) : Host.Outcome State Fault Refusal := .next (s.jIssue (some 0x12) (jAlu3 fun a b => a &&& b))
/-- Instruction OR. -/
def execOr (s : State) : Host.Outcome State Fault Refusal := .next (s.jIssue (some 0x13) (jAlu3 fun a b => a ||| b))
/-- Instruction XOR. -/
def execXor (s : State) : Host.Outcome State Fault Refusal := .next (s.jIssue (some 0x14) (jAlu3 fun a b => a ^^^ b))
/-- Instruction ANDN: rs1 AND NOT rs2. -/
def execAndn (s : State) : Host.Outcome State Fault Refusal := .next (s.jIssue (some 0x15) (jAlu3 fun a b => a &&& ~~~b))
/-- Instruction SHL. -/
def execShl (s : State) : Host.Outcome State Fault Refusal :=
  .next (s.jIssue (some 0x16) (jAlu3 fun a b => a <<< (b.toNat % 32)))
/-- Instruction SHR. -/
def execShr (s : State) : Host.Outcome State Fault Refusal :=
  .next (s.jIssue (some 0x17) (jAlu3 fun a b => a >>> (b.toNat % 32)))
/-- Instruction SAR. -/
def execSar (s : State) : Host.Outcome State Fault Refusal :=
  .next (s.jIssue (some 0x18) (jAlu3 fun a b => a.sshiftRight (b.toNat % 32)))
/-- Instruction MUL. -/
def execMul (s : State) : Host.Outcome State Fault Refusal := .next (s.jIssue (some 0x19) (jAlu3 fun a b => a * b))
/-- Instruction MULHU. -/
def execMulhu (s : State) : Host.Outcome State Fault Refusal :=
  .next (s.jIssue (some 0x1A) (jAlu3 fun a b => BitVec.ofNat 32 (a.toNat * b.toNat / 2 ^ 32)))
/-- Instruction MULHS. -/
def execMulhs (s : State) : Host.Outcome State Fault Refusal :=
  .next (s.jIssue (some 0x1B) (jAlu3 fun a b => BitVec.ofInt 32 ((a.toInt * b.toInt) / 2 ^ 32)))

/-- Quotient and remainder (R305, Table 10-2), and the warnings DIVZ and OVF. -/
def divResult (signed : Bool) (a b : Word) : Word × Word × Bool × Bool :=
  if b = 0 then
    (if signed then (if a.slt 0 then 0x80000000 else 0x7FFFFFFF) else 0xFFFFFFFF, a, true, false)
  else if signed then
    if a = 0x80000000 ∧ b = 0xFFFFFFFF then (0x80000000, 0, false, true)
    else (BitVec.ofInt 32 (a.toInt.tdiv b.toInt), BitVec.ofInt 32 (a.toInt.tmod b.toInt), false, false)
  else (BitVec.ofNat 32 (a.toNat / b.toNat), BitVec.ofNat 32 (a.toNat % b.toNat), false, false)

/-- An instruction marked "int." in Table 12-3: at one of its `points` internal steps it may stand at a preemption point,
`cut` steps after it last did, and it resumes there (R303, R318, R338, log 63); else it runs to its end. -/
def jSteps (points : Nat) (cut : Option Nat) (body : JBody) : JBody := fun s n x =>
  let t := s.tasks[n]
  let on (k : Nat) : Bool := decide (0 < k ∧ t.steps + k ≤ points)
  match cut.filter on with
  | some k => .hold .internal (s.setTask n { t with steps := t.steps + k })
  | none => body (s.setTask n { t with steps := 0 }) n x

/-- A division writes its quotient or remainder and sets its warning. -/
def jDiv (signed rem : Bool) (cut : Option Nat) : JBody := jSteps 8 cut fun s n x =>
  let r := divResult signed (x.read s n 1) (x.read s n 2)
  .go (x.put ((s.raiseIf r.2.2.1 (F.SEQ_Tn_WARN_DIVZ n)).raiseIf r.2.2.2 (F.SEQ_Tn_WARN_OVF n)) n (if rem then r.2.1 else r.1))

/-- Instruction DIVU. -/
def execDivu (s : State) (cut : Option Nat := none) : Host.Outcome State Fault Refusal := .next (s.jIssue (some 0x1C) (jDiv false false cut))
/-- Instruction REMU. -/
def execRemu (s : State) (cut : Option Nat := none) : Host.Outcome State Fault Refusal := .next (s.jIssue (some 0x1D) (jDiv false true cut))
/-- Instruction DIVS. -/
def execDivs (s : State) (cut : Option Nat := none) : Host.Outcome State Fault Refusal := .next (s.jIssue (some 0x1E) (jDiv true false cut))
/-- Instruction REMS. -/
def execRems (s : State) (cut : Option Nat := none) : Host.Outcome State Fault Refusal := .next (s.jIssue (some 0x1F) (jDiv true true cut))

/-- Instruction SEQ. -/
def execSeq (s : State) : Host.Outcome State Fault Refusal :=
  .next (s.jIssue (some 0x20) (jAlu3 fun a b => boolWord (a == b)))
/-- Instruction SNE. -/
def execSne (s : State) : Host.Outcome State Fault Refusal :=
  .next (s.jIssue (some 0x21) (jAlu3 fun a b => boolWord (a != b)))
/-- Instruction SLTU. -/
def execSltu (s : State) : Host.Outcome State Fault Refusal :=
  .next (s.jIssue (some 0x22) (jAlu3 fun a b => boolWord (a.ult b)))
/-- Instruction SGEU. -/
def execSgeu (s : State) : Host.Outcome State Fault Refusal :=
  .next (s.jIssue (some 0x23) (jAlu3 fun a b => boolWord (!a.ult b)))
/-- Instruction SLT. -/
def execSlt (s : State) : Host.Outcome State Fault Refusal :=
  .next (s.jIssue (some 0x24) (jAlu3 fun a b => boolWord (a.slt b)))
/-- Instruction SGE. -/
def execSge (s : State) : Host.Outcome State Fault Refusal :=
  .next (s.jIssue (some 0x25) (jAlu3 fun a b => boolWord (!a.slt b)))

/-- Leading zeros among the low n bits of a number. -/
def leadingZeros (v : Nat) : Nat → Nat
  | 0 => 0
  | n + 1 => if bitOf v n then 0 else 1 + leadingZeros v n

/-- Instruction CLZ. -/
def execClz (s : State) : Host.Outcome State Fault Refusal :=
  .next (s.jIssue (some 0x28) (jAlu2 fun a => BitVec.ofNat 32 (leadingZeros a.toNat 32)))
/-- Instruction BITC. -/
def execBitc (s : State) : Host.Outcome State Fault Refusal :=
  .next (s.jIssue (some 0x29) (jAlu2 fun a => BitVec.ofNat 32 (popBV a)))

/-- Instruction ADDI. -/
def execAddi (s : State) : Host.Outcome State Fault Refusal :=
  .next (s.jIssue (some 0x30) (jAluImm fun a i => a + i.signExtend 32))
/-- Instruction ANDI. -/
def execAndi (s : State) : Host.Outcome State Fault Refusal :=
  .next (s.jIssue (some 0x31) (jAluImm fun a i => a &&& i.zeroExtend 32))
/-- Instruction ORI. -/
def execOri (s : State) : Host.Outcome State Fault Refusal :=
  .next (s.jIssue (some 0x32) (jAluImm fun a i => a ||| i.zeroExtend 32))
/-- Instruction XORI. -/
def execXori (s : State) : Host.Outcome State Fault Refusal :=
  .next (s.jIssue (some 0x33) (jAluImm fun a i => a ^^^ i.zeroExtend 32))
/-- Instruction SHLI. -/
def execShli (s : State) : Host.Outcome State Fault Refusal :=
  .next (s.jIssue (some 0x34) (jAluImm fun a i => a <<< (i.toNat % 32)))
/-- Instruction SHRI. -/
def execShri (s : State) : Host.Outcome State Fault Refusal :=
  .next (s.jIssue (some 0x35) (jAluImm fun a i => a >>> (i.toNat % 32)))
/-- Instruction SARI. -/
def execSari (s : State) : Host.Outcome State Fault Refusal :=
  .next (s.jIssue (some 0x36) (jAluImm fun a i => a.sshiftRight (i.toNat % 32)))
/-- Instruction SEQI. -/
def execSeqi (s : State) : Host.Outcome State Fault Refusal :=
  .next (s.jIssue (some 0x38) (jAluImm fun a i => boolWord (a == i.signExtend 32)))
/-- Instruction SNEI. -/
def execSnei (s : State) : Host.Outcome State Fault Refusal :=
  .next (s.jIssue (some 0x39) (jAluImm fun a i => boolWord (a != i.signExtend 32)))
/-- Instruction SLTI. -/
def execSlti (s : State) : Host.Outcome State Fault Refusal :=
  .next (s.jIssue (some 0x3A) (jAluImm fun a i => boolWord (a.slt (i.signExtend 32))))
/-- Instruction SLTIU: with the immediate zero-extended. -/
def execSltiu (s : State) : Host.Outcome State Fault Refusal :=
  .next (s.jIssue (some 0x3B) (jAluImm fun a i => boolWord (a.ult (i.zeroExtend 32))))
/-- Instruction LI. -/
def execLi (s : State) : Host.Outcome State Fault Refusal :=
  .next (s.jIssue (some 0x3C) fun s n x => .go (x.put s n (BitVec.ofNat 32 (x.imm 1 4))))
/-- Instruction LUI. -/
def execLui (s : State) : Host.Outcome State Fault Refusal :=
  .next (s.jIssue (some 0x3D) fun s n x => .go (x.put s n (BitVec.ofNat 32 (x.imm 1 2 * 65536))))

/-! ### Branches and jumps (R304) -/

/-- The target of a displacement of len bytes from operand byte i; it wraps within the 18-bit PC (log 39). -/
def JInstr.target (x : JInstr) (i len : Nat) : Nat := (BitVec.ofNat 32 x.next + x.simm i len).toNat % 2 ^ 18

/-- Branch when a condition holds. -/
def jBranch (x : JInstr) (c : Bool) (s : State) : JOut := if c then .jump (x.target 1 2) s else .go s

/-- Instruction BZ. -/
def execBz (s : State) : Host.Outcome State Fault Refusal :=
  .next (s.jIssue (some 0x40) fun s n x => jBranch x (x.read s n 0 == 0) s)
/-- Instruction BNZ. -/
def execBnz (s : State) : Host.Outcome State Fault Refusal :=
  .next (s.jIssue (some 0x41) fun s n x => jBranch x (x.read s n 0 != 0) s)
/-- Instruction DBNZ. -/
def execDbnz (s : State) : Host.Outcome State Fault Refusal :=
  .next (s.jIssue (some 0x42) fun s n x =>
    let v := x.read s n 0 - 1
    jBranch x (v != 0) (x.put s n v))
/-- Instruction J. -/
def execJ (s : State) : Host.Outcome State Fault Refusal :=
  .next (s.jIssue (some 0x44) fun s _ x => .jump (x.target 0 3) s)
/-- Instruction CALL: rd takes the address of the next instruction. -/
def execCall (s : State) : Host.Outcome State Fault Refusal :=
  .next (s.jIssue (some 0x45) fun s n x => .jump (x.target 1 3) (x.put s n (BitVec.ofNat 32 x.next)))
/-- Instruction JR. -/
def execJr (s : State) : Host.Outcome State Fault Refusal :=
  .next (s.jIssue (some 0x46) fun s n x => .jump ((x.read s n 0).toNat % 2 ^ 18) s)
/-- Instruction JALR. -/
def execJalr (s : State) : Host.Outcome State Fault Refusal :=
  .next (s.jIssue (some 0x47) fun s n x =>
    .jump ((x.read s n 1).toNat % 2 ^ 18) (x.put s n (BitVec.ofNat 32 x.next)))

/-! ### Memory access (R306 to R312, R317) -/

/-- The first response other than OK since the last RSYNC is recorded (R311). -/
def State.jRecord (s : State) (n : Fin 8) (stop off : Nat) (c : RespCode) : State :=
  if c = .ok ∨ s.fld (F.SEQ_Tn_RCODE_CODE n) ≠ 0 then s
  else ((s.setFld (F.SEQ_Tn_RCODE_CODE n) (respCode c)).setFld (F.SEQ_Tn_RCODE_STOP n) stop).setReg
    (Reg.SEQ_Tn_RFAIL_OFS n) (BitVec.ofNat 32 off)

/-- The value that a load or AMO writes from the bytes of its response. -/
def JoistUse.value (u : JoistUse) (bs : List Byte) : Word :=
  let v := ofLeBytes bs
  match u with
  | .byte => BitVec.ofNat 32 (v % 2 ^ 8)
  | .half => BitVec.ofNat 32 (v % 2 ^ 16)
  | .byteS => (BitVec.ofNat 8 v).signExtend 32
  | .halfS => (BitVec.ofNat 16 v).signExtend 32
  | _ => BitVec.ofNat 32 v

/-- A response makes a register pending until it comes: that of every AMO, and of a load that uses the rings, but none that is
not issued (R308, R309). -/
def respHeard (u : JoistUse) (stop r : Nat) (c : RespCode) : Bool :=
  r != 0 && c != .refusedNotag && (u == .amo || (u != .store && stop != 1))

/-- An access gives a response at once: a non-OK one is recorded, and a load or AMO writes its register, with RESP where the
register was pending for it (R308, R331, log 64). -/
def State.jAnswer (s : State) (n : Fin 8) (u : JoistUse) (r stop off : Nat) (a : RingResp) : State :=
  let s := s.jRecord n stop off a.code
  if u = .store then s
  else
    let s := s.jSet n r (if a.code = .ok then u.value a.data else 0)
    if respHeard u stop r a.code then s.setEvent n 8 else s

/-- A request enters the rings (R307 to R309): its register becomes pending, and the access counts until its response. -/
def State.jIssueRing (s : State) (n : Fin 8) (u : JoistUse) (r : Nat) (q : RingReq) : State :=
  let t := s.tasks[n]
  let pend := if u = .store ∨ r = 0 then t.pend else t.pend ++ [r]
  (s.setTask n { t with pend := pend, inflight := t.inflight + 1, outst := t.outst + 1 }).bridgePush 1 [q]

/-- A MEM or AMO access of a task: local at stop 1, else by ring. -/
def State.jAccess (s : State) (n : Fin 8) (x : JInstr) (u : JoistUse) (r : Nat) (size off : Nat) (kind : ReqKind)
    (data : List Byte) (cmp : Word) : JOut :=
  let stop := x.b 2 % 16
  let nb := bitOf (x.b 2) 4
  let q : RingReq := { src := 1, dst := Fin.ofNat 16 stop, cls := if x.urg then .urgent else .control, kind := kind, off := off
                       len := size, data := data, cmp := cmp, nb := nb, client := .task n (s.tasks[n]).gen r u }
  if off % size ≠ 0 then .go (s.jAnswer n u r stop off { code := .decode })
  else if stop = 1 then
    let a := s.access q
    .go (a.2.jAnswer n u r stop off a.1)
  else if s.seqTagsFull then
    if nb then .go ((s.inc (F.NI_REFUSE_COUNT 1)).jAnswer n u r stop off { code := .refusedNotag })
    else .hold .tag s
  else .go (s.jIssueRing n u r q)

/-- The offset of an access: the base register and the displacement from operand byte i. -/
def JInstr.offset (x : JInstr) (s : State) (n : Fin 8) (i : Nat) : Nat :=
  (x.read s n 1 + x.simm i (if bitOf (x.b 2) 5 then 4 else 2)).toNat

/-- A MEM instruction; under a repetition the base register moves on after each iteration (R317). -/
def jMem (u : JoistUse) (size : Nat) : JBody := fun s n x =>
  let kind := if u = .store then ReqKind.write else ReqKind.read
  let data := if u = .store then leBytes (x.read s n 0).toNat size else []
  match s.jAccess n x u (x.r 0) size (x.offset s n 3) kind data 0 with
  | .go s' => .go (if x.rep then s'.jSet n (x.r 1) (s'.jReg n (x.r 1) + BitVec.ofNat 32 size) else s')
  | out => out

/-- Instruction LD.B. -/
def execLdB (s : State) : Host.Outcome State Fault Refusal := .next (s.jIssue (some 0x50) (jMem .byte 1))
/-- Instruction LD.H. -/
def execLdH (s : State) : Host.Outcome State Fault Refusal := .next (s.jIssue (some 0x51) (jMem .half 2))
/-- Instruction LD.W. -/
def execLdW (s : State) : Host.Outcome State Fault Refusal := .next (s.jIssue (some 0x52) (jMem .word 4))
/-- Instruction LD.BS. -/
def execLdBs (s : State) : Host.Outcome State Fault Refusal := .next (s.jIssue (some 0x53) (jMem .byteS 1))
/-- Instruction LD.HS. -/
def execLdHs (s : State) : Host.Outcome State Fault Refusal := .next (s.jIssue (some 0x54) (jMem .halfS 2))
/-- Instruction ST.B. -/
def execStB (s : State) : Host.Outcome State Fault Refusal := .next (s.jIssue (some 0x58) (jMem .store 1))
/-- Instruction ST.H. -/
def execStH (s : State) : Host.Outcome State Fault Refusal := .next (s.jIssue (some 0x59) (jMem .store 2))
/-- Instruction ST.W. -/
def execStW (s : State) : Host.Outcome State Fault Refusal := .next (s.jIssue (some 0x5A) (jMem .store 4))

/-- An AMO: rd, base, loc, rv (R312). -/
def jAmo (op : BitVec 3) : JBody := fun s n x =>
  s.jAccess n x .amo (x.r 0) 4 (x.offset s n 4) (.amo op) (leBytes (x.read s n 3).toNat 4) (x.read s n 0)

/-- Instruction SWAP. -/
def execSwap (s : State) : Host.Outcome State Fault Refusal := .next (s.jIssue (some 0x60) (jAmo 0))
/-- Instruction AADD. -/
def execAadd (s : State) : Host.Outcome State Fault Refusal := .next (s.jIssue (some 0x61) (jAmo 1))
/-- Instruction AAND. -/
def execAand (s : State) : Host.Outcome State Fault Refusal := .next (s.jIssue (some 0x62) (jAmo 2))
/-- Instruction AOR. -/
def execAor (s : State) : Host.Outcome State Fault Refusal := .next (s.jIssue (some 0x63) (jAmo 3))
/-- Instruction AXOR. -/
def execAxor (s : State) : Host.Outcome State Fault Refusal := .next (s.jIssue (some 0x64) (jAmo 4))
/-- Instruction CAS: g[rv] is written where the old word equals g[rd]. -/
def execCas (s : State) : Host.Outcome State Fault Refusal := .next (s.jIssue (some 0x65) (jAmo 5))

/-! ### Packed decimal (R319 to R322) -/

/-- Nibble i of a word. -/
def nib (x : Word) (i : Nat) : Nat := getBits x (4 * i) 4

/-- A word of digits, digit 0 first. -/
def ofNibs : List Nat → Nat
  | [] => 0
  | d :: ds => d % 16 + 16 * ofNibs ds

/-- PADD from digit i: the digits that remain, with the carry in, and the carry out. -/
def paddFrom (a b : Word) (i dc : Nat) : Nat → List Nat × Nat
  | 0 => ([], dc)
  | k + 1 =>
    let v := nib a i + nib b i + dc
    let r := paddFrom a b (i + 1) (if 10 ≤ v then 1 else 0) k
    ((if 10 ≤ v then v - 10 else v) :: r.1, r.2)

/-- PSUB from digit i, with the borrow in. -/
def psubFrom (a b : Word) (i bw : Nat) : Nat → List Nat × Nat
  | 0 => ([], bw)
  | k + 1 =>
    let neg := decide (nib a i < nib b i + bw)
    let v := nib a i + (if neg then 10 else 0) + 16 - (nib b i + bw)
    let r := psubFrom a b (i + 1) (b2n neg) k
    (v % 16 :: r.1, r.2)

/-- The nibble-carry word of a + b (R320). -/
def nibbleCarry (a b : Word) : Word :=
  let carry (i : Nat) : Nat := (getBits a 0 (4 * i + 4) + getBits b 0 (4 * i + 4)) / 2 ^ (4 * i + 4)
  BitVec.ofNat 32 (ofNibs ((List.range 8).map carry))

/-- DADJ from digit i, with dc and cp. -/
def dadjFrom (s c : Word) (i dc cp : Nat) : Nat → List Nat
  | 0 => []
  | k + 1 =>
    let ci := getBits c (4 * i) 1
    let v : Int := (nib s i : Int) + 16 * ci - cp + dc
    let big := decide (10 ≤ v)
    ((if big then v - 10 else v) % 16).toNat :: dadjFrom s c (i + 1) (b2n big) ci k

/-- A word has a nibble above 9. -/
def badBcd (x : Word) : Bool := (List.range 8).any fun i => decide (9 < nib x i)

/-- A packed-decimal instruction of two sources, which warns of a nibble above 9 (R322). -/
def jBcd (f : Word → Word → Word) : JBody := fun s n x =>
  let a := x.read s n 1
  let b := x.read s n 2
  .go (x.put (s.raiseIf (badBcd a || badBcd b) (F.SEQ_Tn_WARN_BCD_INV n)) n (f a b))

/-- The sum of nibble i × 10^i, for the nibbles from i on. -/
def packedValue (x : Word) (i : Nat) : Nat → Nat
  | 0 => 0
  | k + 1 => nib x i * 10 ^ i + packedValue x (i + 1) k

/-- The decimal digits of a number, as nibbles, lowest first. -/
def decimalNibs (v : Nat) : Nat → List Nat
  | 0 => []
  | k + 1 => v % 10 :: decimalNibs (v / 10) k

/-- Instruction PADD. -/
def execPadd (s : State) : Host.Outcome State Fault Refusal :=
  .next (s.jIssue (some 0x70) (jBcd fun a b => BitVec.ofNat 32 (ofNibs (paddFrom a b 0 0 8).1)))
/-- Instruction PSUB. -/
def execPsub (s : State) : Host.Outcome State Fault Refusal :=
  .next (s.jIssue (some 0x71) (jBcd fun a b => BitVec.ofNat 32 (ofNibs (psubFrom a b 0 0 8).1)))
/-- Instruction PCY.A. -/
def execPcyA (s : State) : Host.Outcome State Fault Refusal :=
  .next (s.jIssue (some 0x72) (jBcd fun a b => BitVec.ofNat 32 (paddFrom a b 0 0 8).2))
/-- Instruction PCY.S. -/
def execPcyS (s : State) : Host.Outcome State Fault Refusal :=
  .next (s.jIssue (some 0x73) (jBcd fun a b => BitVec.ofNat 32 (psubFrom a b 0 0 8).2))
/-- Instruction NCY. -/
def execNcy (s : State) : Host.Outcome State Fault Refusal := .next (s.jIssue (some 0x74) (jAlu3 nibbleCarry))
/-- Instruction DADJ. -/
def execDadj (s : State) : Host.Outcome State Fault Refusal :=
  .next (s.jIssue (some 0x75) (jAlu3 fun a c => BitVec.ofNat 32 (ofNibs (dadjFrom a c 0 0 0 8))))
/-- Instruction P2B. -/
def execP2b (s : State) (cut : Option Nat := none) : Host.Outcome State Fault Refusal :=
  .next (s.jIssue (some 0x76) <| jSteps 2 cut fun s n x =>
    let a := x.read s n 1
    .go (x.put (s.raiseIf (badBcd a) (F.SEQ_Tn_WARN_BCD_INV n)) n (BitVec.ofNat 32 (packedValue a 0 8))))
/-- Instruction B2P. -/
def execB2p (s : State) (cut : Option Nat := none) : Host.Outcome State Fault Refusal :=
  .next (s.jIssue (some 0x77) <| jSteps 3 cut fun s n x =>
    let v := (x.read s n 1).toNat
    .go (x.put (s.raiseIf (decide (10 ^ 8 ≤ v)) (F.SEQ_Tn_WARN_BCD_OVR n)) n
      (BitVec.ofNat 32 (ofNibs (decimalNibs (v % 10 ^ 8) 8)))))

/-! ### Pushes (R224, R225, R228, R232) -/

/-- The word that a push carries: W0 from OP and three operand bytes, W1 and W2 from registers. -/
def JInstr.word (x : JInstr) (s : State) (n : Fin 8) : MacroWord :=
  { w0 := BitVec.ofNat 32 (x.op.getD 0 + 2 ^ 8 * x.imm 0 3), w1 := x.read s n 3, w2 := x.read s n 4, task := n
    gen := (s.tasks[n]).gen }

/-- ARR: the word enters the queue, and the register that POPC or TOKEN names becomes pending; a full queue stalls. -/
def jPush : JBody := fun s n x =>
  let w := x.word s n
  let r := w.opt % 32
  let t := s.tasks[n]
  let s1 := if w.delivers && r != 0 then s.setTask n { t with pend := t.pend ++ [r] } else s
  if s.domOn Dom.truss then
    match s1.trsPush? w with
    | some s2 => .go s2
    | none => .hold .truss s
  else .hold .truss s

/-- Instruction ARR: a push. -/
def execArrPush (s : State) : Host.Outcome State Fault Refusal := .next (s.jIssue none jPush)

/-! ### Responses and the context switch (R308, R311, R337, R342) -/

/-- The client of a request is a task. -/
def ReqClient.isTask : ReqClient → Bool
  | .task .. => true
  | _ => false

/-- The response to an access of a task is delivered, unless its run was aborted: it then only retires (R308, R311, R342). -/
def State.jDeliver (s : State) (q : RingReq) (a : RingResp) : State :=
  match q.client with
  | .task n gen r u =>
    let t := s.tasks[n]
    let s := s.setTask n { t with outst := t.outst - 1 }
    if gen < t.live then s
    else
      let t := s.tasks[n]
      let s := (s.setTask n { t with inflight := t.inflight - 1 }).jRecord n q.dst.val q.off a.code
      if u = .store then s else s.taskDeliver n gen r (if a.code = .ok then u.value a.data else 0)
  | _ => s

/-- JOIST_RING_RESPONSE: the oldest response that stands for Joist at SEQ's NI. -/
def execJoistRingResponse (s : State) : Host.Outcome State Fault Refusal :=
  let x := s.ni[1]
  match x.inbox.find? fun p => p.1.client.isTask with
  | some p => .next ((s.setNi 1 { x with inbox := x.inbox.eraseP fun p => p.1.client.isTask }).jDeliver p.1 p.2)
  | none => .next s

/-- CONTEXT_SWITCH: `took` is the time in SCLK from the preemption request to the start of the switch. -/
def execContextSwitch (took : Nat) (s : State) : Host.Outcome State Fault Refusal :=
  if s.domOn Dom.seq then .next (s.settleWaits.contextSwitch took) else .next s

end Sys2Proof.Machine
end

