-- ==== Sys2Proof/Machine/Window.lean ====
section
/-! DEFINITION. The host session (R71 to R75) and the page 2 window (R78 to R85, R89). -/

namespace Sys2Proof.Machine

/-! ### Sessions -/

/-- OPEN: a session starts at FIELD; an active one goes on, its timer restarted (R72, R73: the timer is the event
SESSION_EXPIRY). -/
def State.sessOpen (s : State) : State :=
  let x := s.cp.sess
  if x.active then s
  else
    let y : Session := { x with active := true, level := .field, expired := false, epoch := x.epoch + 1 }
    { s with cp := { s.cp with sess := y } }

/-- A commit of SESS_CTRL: CLOSE before OPEN; KEEP restarts the timer only (R72). -/
def State.writeSessCtrl (s : State) (v : Byte) : State :=
  let s := if v.getLsbD 1 then s.sessEnd false else s
  if v.getLsbD 0 then s.sessOpen else s

/-- SESS_OPEN. -/
def execSessOpen (s : State) : Host.Outcome State Fault Refusal :=
  if s.mode = .unpowered then .next s else .next (s.writeSessCtrl 1)

/-- SESS_CLOSE. -/
def execSessClose (s : State) : Host.Outcome State Fault Refusal :=
  if s.mode = .unpowered then .next s else .next (s.writeSessCtrl 2)

/-- SESS_KEEP. -/
def execSessKeep (s : State) : Host.Outcome State Fault Refusal :=
  if s.mode = .unpowered then .next s else .next (s.writeSessCtrl 4)

/-- SESSION_EXPIRY: the timer reaches SESS_TMO × 10 ms. -/
def execSessionExpiry (s : State) : Host.Outcome State Fault Refusal := .next (s.sessEnd true)

/-! ### A window access (R78 to R81, R83, R66) -/

/-- Change the window. -/
def State.setWin (s : State) (w : Window) : State := { s with cp := { s.cp with win := w } }

/-- Bytes of a SIZE. -/
def winBytes (size : BitVec 2) : Nat := if size = 0 then 1 else if size = 1 then 2 else 4

/-- Reset value of a byte of a writable multi-byte register (Tables 3-5, 3-6, 28-9 and 29-8): its staging copy's too (log 46). -/
def stageReset (p a : Nat) : Byte := if p = 0 ∧ a = 0x0C then 0x11 else 0

/-- The staging copy of a register of the pages 0, 2 and 3 (R68). -/
def State.stageCopy (s : State) (p base len : Nat) : Nat :=
  ofLeBytes ((List.range len).map fun i => (s.cp.staged.lookup (p * 128 + base + i)).getD (stageReset p (base + i)))

/-- A staging copy takes the bytes of a value: those of a commit, after which it equals the register (R68). -/
def State.restage (s : State) (p base len v : Nat) : State :=
  { s with cp := { s.cp with staged := Assoc.setMany s.cp.staged (p * 128 + base) ((List.range len).map fun i => byteOf v i) } }

/-- The staged WIN_DATA, which a write sends (R68, R78). -/
def State.winStaged (s : State) : Word := BitVec.ofNat 32 (s.stageCopy 2 8 4)

/-- An access ends: DONE, CODE and IRQ_STATUS.WIN_DONE. -/
def State.winEnd (s : State) (code : RespCode) : State :=
  (s.setWin { s.cp.win with busy := false, done := true, code := BitVec.ofNat 3 (respCode code) }).irq 2

/-- The request of an access at GO, which carries the session's level (R75, R79, R80). -/
def State.winReq (s : State) : RingReq :=
  let w := s.cp.win
  let a := w.addr.toNat
  let n := winBytes w.size
  { src := 0, dst := Fin.ofNat 16 (a / 2 ^ 32), cls := .control, kind := if w.dir then .write else .read, off := a % 2 ^ 32
    len := n, data := if w.dir then leBytes s.winStaged.toNat n else [], level := s.cp.sess.level, nb := !w.wait
    client := .window }

/-- GO, or a stream trigger. AUTOINC is taken as it stands at GO, like DIR and SIZE (log 47). -/
def State.winStart (s : State) : State :=
  let w := s.cp.win
  if w.busy then s.setWin { w with overrun := true }
  else
    let s1 := s.setWin { w with done := false }
    if s.mode = .supervise ∨ s.ladder = .s5 then s1.winEnd .poweredDown
    else if w.size = 3 then s1.winEnd .decode
    else if w.addr.toNat % winBytes w.size ≠ 0 then (s1.setWin { s1.cp.win with align := true }).winEnd .decode
    else
      (s1.setWin { s1.cp.win with busy := true, fDir := w.dir, fSize := w.size, fAuto := w.autoinc, addrHit := false }).bridgePush
        0 [s.winReq]

/-- A commit of WIN_CTRL. -/
def State.writeWinCtrl (s : State) (v : Byte) : State :=
  let b := v.getLsbD
  let s1 := s.setWin { s.cp.win with dir := b 1, size := v.extractLsb' 2 2, autoinc := b 4, wait := b 5, stream := b 6 }
  if b 0 then s1.winStart else s1

/-- A commit of WIN_DATA (R82). -/
def State.writeWinData (s : State) (v : Word) : State :=
  let s1 := s.setWin { s.cp.win with data := v }
  if s1.cp.win.stream && s1.cp.win.dir then s1.winStart else s1

/-- A commit of WIN_ADDR; the access in flight then makes no advance (R81). -/
def State.writeWinAddr (s : State) (v : SysAddr) : State :=
  s.setWin { s.cp.win with addr := v, addrHit := s.cp.win.addrHit || s.cp.win.busy }

/-- WIN_DATA's highest byte has been read (R82). -/
def State.winStreamRead (s : State) : State := if s.cp.win.stream && !s.cp.win.dir then s.winStart else s

/-- WIN_GO: a commit of WIN_CTRL with GO set. -/
def execWinGo (v : Byte) (s : State) : Host.Outcome State Fault Refusal :=
  if s.mode = .unpowered then .next s
  else if !s.cp.sess.active then .next s.noSession
  else .next (s.writeWinCtrl (v ||| 1))

/-- WIN_STREAM_WRITE: a commit of WIN_DATA's highest byte, with the value that its staging copy then holds. -/
def execWinStreamWrite (v : Word) (s : State) : Host.Outcome State Fault Refusal :=
  if s.mode = .unpowered then .next s
  else if !s.cp.sess.active then .next s.noSession
  else .next ((s.restage 2 8 4 v.toNat).writeWinData v)

/-- WIN_STREAM_READ: WIN_DATA's highest byte is read. -/
def execWinStreamRead (s : State) : Host.Outcome State Fault Refusal :=
  if s.mode = .unpowered then .next s else .next s.winStreamRead

/-! ### The response (R81, R84) -/

/-- What WIN_DATA holds after an access ends with a response. -/
def Window.dataAfter (w : Window) (r : RingResp) : Word :=
  if w.fDir || r.code == .refusedNotag then w.data
  else if r.code = .ok then BitVec.ofNat 32 (ofLeBytes (r.data.take (winBytes w.fSize)))
  else 0

/-- WIN_ADDR after it: advanced within bits 31:0. -/
def Window.addrAfter (w : Window) (r : RingResp) : SysAddr :=
  if w.fAuto && !w.addrHit && r.code == .ok then
    let a := w.addr.toNat
    BitVec.ofNat 36 (a / 2 ^ 32 * 2 ^ 32 + (a + winBytes w.fSize) % 2 ^ 32)
  else w.addr

/-- An access in flight receives its response. WIN_DATA takes the data; its staging copy stays as it was written (R68, log 46). -/
def State.winAnswer (s : State) (r : RingResp) : State :=
  let w := s.cp.win
  if !w.busy then s
  else
    (s.setWin { w with data := w.dataAfter r, addr := w.addrAfter r }).winEnd r.code

/-- The client of a request is the window. -/
def ReqClient.isWindow : ReqClient → Bool
  | .window => true
  | _ => false

/-- WIN_COMPLETE: the response that stands for the window at CTRL's NI. -/
def execWinComplete (s : State) : Host.Outcome State Fault Refusal :=
  let x := s.ni[0]
  match x.inbox.find? fun p => p.1.client.isWindow with
  | some p => .next ((s.setNi 0 { x with inbox := x.inbox.eraseP fun p => p.1.client.isWindow }).winAnswer p.2)
  | none => .next s

end Sys2Proof.Machine
end

