-- ==== Sys2Proof/Machine/Cport.lean ====
section
/-! DEFINITION. Control-port transfers (R57 to R71, R86, R87): framing, reads with their snapshots, and staged writes that
commit at the rise of CP_CS_N. -/

namespace Sys2Proof.Machine

/-! ### Reads (R64, R67, R70, R82) -/

/-- A byte as a read shows it. Reading the lowest byte of a multi-byte register takes the snapshot of its higher bytes. -/
def State.cpPeek (s : State) (p a : Nat) : Byte × State :=
  if a = 0x7F then (BitVec.ofNat 8 s.cp.page.toNat, s)
  else if p = 1 then s.supPeek false a
  else if p = 3 ∧ s.pageThreeShut then (0, s)
  else
    let (base, len) := pageSpan p a
    let live := s.pageReg p base
    if len = 1 then (byteOf live 0, s)
    else if a = base then
      let snaps := Assoc.setMany s.cp.snaps (p * 128 + base) ((List.range len).map fun i => byteOf live i)
      (byteOf live 0, { s with cp := { s.cp with snaps := snaps } })
    else ((s.cp.snaps.lookup (p * 128 + a)).getD (byteOf live (a - base)), s)

/-- The RC clear that follows once a byte has been shifted out (R70, R77). -/
def State.cpClear (s : State) (p a : Nat) : State :=
  if p = 0 ∧ a = 0x13 then { s with cp := { s.cp with doorbell := 0, doorbellRead := true } }
  else if p = 1 ∧ a ≠ 0x7F then s.supRcClear false a
  else s

/-- A byte is shifted out: with CRC_EN clear its RC clear follows at once. -/
def State.cpReadByte (s : State) (p a : Nat) (now : Bool) : Byte × State :=
  let r := s.cpPeek p a
  let s1 := if now then r.2.cpClear p a else r.2
  (r.1, if p = 2 ∧ a = 0x0B then s1.winStreamRead else s1)

/-- The addresses of the data bytes of a transfer (R60). -/
def cpAddrs (fixed : Bool) (a n : Nat) : List Nat := (List.range n).map fun i => if fixed then a else (a + i) % 128

/-- The data bytes of a read. -/
def State.cpReads (s : State) (p : Nat) (now : Bool) : List Nat → List Byte × State
  | [] => ([], s)
  | a :: l =>
    let r := s.cpReadByte p a now
    let t := r.2.cpReads p now l
    (r.1 :: t.1, t.2)

/-- DOORBELL_CODE_READ: a read that shifts out DOORBELL_CODE completely. -/
def execDoorbellCodeRead (s : State) : Host.Outcome State Fault Refusal :=
  if s.mode = .unpowered then .next s
  else
    let r := s.cpReadByte 0 0x13 true
    .next { r.2 with cp := { r.2.cp with sdo := [BitVec.ofNat 8 s.viewStatus, r.1] } }

/-! ### Writes (R64, R68, R71) -/

/-- An address of pages 1 to 3 holds a register. -/
def pageHolds (p a : Nat) : Bool :=
  if p = 1 then within 0x00 a 0x1C || within 0x20 a 0x7E
  else if p = 2 then within 0x00 a 0x06 || within 0x08 a 0x0B
  else within 0x00 a 0x02 || within 0x08 a 0x11 || within 0x14 a 0x19 || within 0x20 a 0x2D || within 0x30 a 0x31

/-- A write of a byte of a multi-byte register changes its staging copy; that of the highest byte commits the whole copy, which
then equals the register (R68). -/
def State.cpStage (s : State) (p base len a : Nat) (v : Byte) (commit : State → Nat → State) : State :=
  let s1 : State := { s with cp := { s.cp with staged := Assoc.set s.cp.staged (p * 128 + a) v } }
  if a = base + len - 1 then
    let s2 := commit s1 (s1.stageCopy p base len)
    s2.restage p base len (s2.pageReg p base)
  else s1

/-- The page 0 registers (Tables 2-8, 3-5, 22-10, 24-10, 27-10). -/
def State.writePageZero (s : State) (a : Nat) (v : Byte) : State :=
  if a = 0x06 then s.writeModeReq v
  else if a = 0x0A ∨ a = 0x0B then
    s.cpStage 0 0x0A 2 a v fun s x =>
      { s with cp := { s.cp with irqStatus := s.cp.irqStatus &&& ~~~(BitVec.ofNat 9 x) } }
  else if a = 0x0C ∨ a = 0x0D then
    s.cpStage 0 0x0C 2 a v fun s x => { s with cp := { s.cp with irqEnable := BitVec.ofNat 9 x } }
  else if a = 0x0E then { s with cp := { s.cp with crcEn := v.getLsbD 0, aincOff := v.getLsbD 1 } }
  else if a = 0x0F then { s with cp := { s.cp with cpErr := s.cp.cpErr &&& ~~~(v.truncate 4) } }
  else if a = 0x10 then s.writeSessCtrl v
  else if a = 0x11 then (if v = 0 then s else { s with cp := { s.cp with sess := { s.cp.sess with tmo := v } } })
  else if a = 0x17 then
    if !s.cp.sess.active then s.noSession
    else if v.toNat % 4 = 3 then s
    else { s with cp := { s.cp with bootNext := v.truncate 2 } }
  else if a = 0x18 then s.writeLadderReq v
  else if a = 0x1A then s.writeSvcCtrl v
  else if a = 0x1C then s.writeSvcData v
  else s

/-- The page 2 registers (Table 3-6). -/
def State.writePageWin (s : State) (a : Nat) (v : Byte) : State :=
  if a ≤ 0x04 then s.cpStage 2 0 5 a v fun s x => s.writeWinAddr (BitVec.ofNat 36 x)
  else if a = 0x05 then s.writeWinCtrl v
  else if a = 0x06 then
    let w := s.cp.win
    s.setWin { w with align := w.align && !v.getLsbD 5, overrun := w.overrun && !v.getLsbD 6 }
  else if 0x08 ≤ a then s.cpStage 2 8 4 a v fun s x => s.writeWinData (BitVec.ofNat 32 x)
  else s

/-- The page 3 registers (Tables 28-9 and 29-8). -/
def State.writePageDiag (s : State) (a : Nat) (v : Byte) : State :=
  if !s.pageThreeMay then s
  else if a = 0x08 then { s with cp := { s.cp with scrNode := v.truncate 7 } }
  else if a = 0x09 then
    if scrOpOk (v.toNat % 16) then
      let s : State := { s with cp := { s.cp with scrOp := v.truncate 4 } }
      if v.getLsbD 7 then s.scribeHost else s
    else s
  else if 0x0A ≤ a ∧ a ≤ 0x0E then
    s.cpStage 3 0x0A 5 a v fun s x => { s with cp := { s.cp with scrAddr := BitVec.ofNat 36 x } }
  else if a = 0x0F ∨ a = 0x10 then
    s.cpStage 3 0x0F 2 a v fun s x => { s with cp := { s.cp with scrArg := BitVec.ofNat 16 x } }
  else if a = 0x30 ∨ a = 0x31 then
    s.cpStage 3 0x30 2 a v fun s x =>
      { s with cp := { s.cp with balFault := s.cp.balFault &&& ~~~(BitVec.ofNat 11 x) } }
  else s

/-- One staged byte commits. -/
def State.cpWriteByte (s : State) (p a : Nat) (v : Byte) : State :=
  if a = 0x7F then { s with cp := { s.cp with page := v.truncate 2 } }
  else if p = 0 then s.writePageZero a v
  else if !pageHolds p a then s
  else if !s.cp.sess.active then s.noSession
  else if p = 1 then s.supWrite false a v s.cp.sess.level
  else if p = 2 then s.writePageWin a v
  else s.writePageDiag a v

/-- The writes of a transfer commit in ascending order of their addresses; writes to one address keep their order (R62). -/
def State.cpCommit (s : State) (p : Nat) (ws : List (Nat × Byte)) : State :=
  ((List.range 128).flatMap fun a => ws.filter fun w => w.1 == a).foldl (fun s w => s.cpWriteByte p w.1 w.2) s

/-! ### Transfers (R57, R58, R61, R86, R87) -/

/-- CP_SDO carried these bytes. -/
def State.setSdo (s : State) (bs : List Byte) : State := { s with cp := { s.cp with sdo := bs } }

/-- Zero bytes on CP_SDO. -/
def quiet (n : Nat) : List Byte := List.replicate n 0

/-- The bits of a byte that was not completed are discarded, with CP_ERR.FRAME. -/
def State.cpPart (s : State) (partBit : Bool) : State := if partBit then s.cpError 1 else s

/-- A transfer with CRC_EN clear, after its command byte. -/
def State.cpPlain (s : State) (write : Bool) (p : Nat) (addrs : Nat → List Nat) (rest : List Byte) : State :=
  let st := BitVec.ofNat 8 s.viewStatus
  if write then (s.cpCommit p ((addrs rest.length).zip rest)).setSdo (st :: quiet rest.length)
  else
    let r := s.cpReads p true (addrs rest.length)
    r.2.setSdo (st :: r.1)

/-- A read with CRC_EN set: n bytes asked for, of which `rest` clocks some, and then the CRC byte of the K16. -/
def State.cpCrcRead (s : State) (p n : Nat) (addrs : Nat → List Nat) (head : List Byte) (crc : Byte) (rest : List Byte)
    (partBit : Bool) : State :=
  let st := BitVec.ofNat 8 s.viewStatus
  let m := min n rest.length
  let whole := decide (n < rest.length)
  let tail (c : Byte) : List Byte := if whole then c :: quiet (rest.length - n - 1) else []
  if crc8 head ≠ crc then
    ((s.cpError 0).setSdo ([st, 0, 0] ++ quiet m ++ tail (crc8 (head ++ quiet n) ^^^ 0xFF))).cpPart (partBit && !whole)
  else
    let r := s.cpReads p false (addrs m)
    let s1 := if whole then (addrs m).foldl (fun s a => s.cpClear p a) r.2 else r.2
    (s1.setSdo ([st, 0, 0] ++ r.1 ++ tail (crc8 (head ++ r.1)))).cpPart (partBit && !whole)

/-- A transfer with CRC_EN set, after its command byte. -/
def State.cpCrc (s : State) (write : Bool) (p : Nat) (addrs : Nat → List Nat) (cmd : Byte) (rest : List Byte)
    (partBit : Bool) : State :=
  let st := BitVec.ofNat 8 s.viewStatus
  let bad (s : State) : State := (s.cpError 1).setSdo (st :: quiet rest.length)
  match rest with
  | [] => bad s
  | count :: rest' =>
    let n := count.toNat % 128 + 1
    if write then
      if partBit || rest'.length != n + 1 then bad s
      else if crc8 (cmd :: count :: rest'.take n) ≠ rest'.getD n 0 then (s.cpError 0).setSdo (st :: quiet rest.length)
      else (s.cpCommit p ((addrs n).zip (rest'.take n))).setSdo (st :: quiet rest.length)
    else
      match rest' with
      | [] => bad s
      | crc :: more => s.cpCrcRead p n addrs [cmd, count] crc more partBit

/-- One transfer: the whole bytes that the host shifted in, under the PAGE, CRC_EN and AINC_OFF in force when it began (R60,
R63, R65). A transfer in which no whole byte is clocked does nothing but what a part of a byte does, with CRC_EN set too: it has
no command byte, so R87 names none of its ends (log 48). -/
def State.cpTransfer (s : State) (sent : List Byte) (partBit : Bool) : State :=
  match sent with
  | [] => s.cpPart partBit
  | cmd :: rest =>
    let addrs := cpAddrs s.cp.aincOff (cmd.toNat % 128)
    let write := cmd.getLsbD 7
    let p := s.cp.page.toNat
    if s.cp.crcEn then s.cpCrc write p addrs cmd rest partBit
    else (s.cpPlain write p addrs rest).cpPart partBit

/-- CP_TRANSFER: `partBit` says that the transfer ended part-way through a further byte. -/
def execCpTransfer (sent : List Byte) (partBit : Bool) (s : State) : Host.Outcome State Fault Refusal :=
  if s.mode = .unpowered then .next s else .next (s.cpTransfer sent partBit)

end Sys2Proof.Machine
end

