-- ==== Sys2Proof/Machine/MacroOps.lean ====
section
/-! DEFINITION. The macro-ops (Chapters 9 and 10): what each writes, the flags it sets, and its duration. A command
ARR_<op> starts and executes the ready head of that operation; what shows at its end waits for MACROOP_COMPLETE. -/

namespace Sys2Proof.Machine

/-- Any subcode: the operation has none. -/
def anySub (_ : Nat) : Bool := true

/-! ### Copies, constants and moves -/

/-- Write D(n) in the active PEs from a value for each PE, in 2 + n ACLK. -/
def runField (n : Nat) (g : Nat → Nat) (w : MacroWord) (s : State) : Exec × State :=
  ({ cyc := 2 + n }, s.writeField w.d s.active g n)

/-- ARR_MOV: D(n) ← S1(n). -/
def execArrMov (s : State) : Host.Outcome State Fault Refusal :=
  s.arrRun Op.mov anySub fun w s =>
    let a := s.field w.s1 w.n
    runField w.n (fun p => fieldVal a p) w s

/-- ARR_BOOL: D(n) ← F(S1(n), S2(n)), bit by bit (R195). -/
def execArrBool (s : State) : Host.Outcome State Fault Refusal :=
  s.arrRun Op.bool anySub fun w s =>
    let a := s.field w.s1 w.n
    let b := s.field w.s2 w.n
    runField w.n (fun p => boolField w.f (fieldVal a p) (fieldVal b p) w.n) w s

/-- ARR_SETC: D(n) ← the constant W2, zero above bit 31. -/
def execArrSetc (s : State) : Host.Outcome State Fault Refusal :=
  s.arrRun Op.setc anySub fun w s => runField w.n (fun _ => w.w2.toNat) w s

/-- ARR_SHL: S1(n) shifted up by X planes, zeros entering. -/
def execArrShl (s : State) : Host.Outcome State Fault Refusal :=
  s.arrRun Op.shl anySub fun w s =>
    let a := s.field w.s1 w.n
    runField w.n (fun p => fieldVal a p * 2 ^ w.x) w s

/-- ARR_SHR: S1(n) shifted down by X planes, zeros entering. -/
def execArrShr (s : State) : Host.Outcome State Fault Refusal :=
  s.arrRun Op.shr anySub fun w s =>
    let a := s.field w.s1 w.n
    runField w.n (fun p => fieldVal a p / 2 ^ w.x) w s

/-- ARR_SAR: as SHR, copies of S1's top plane entering. -/
def execArrSar (s : State) : Host.Outcome State Fault Refusal :=
  s.arrRun Op.sar anySub fun w s =>
    let a := s.field w.s1 w.n
    runField w.n (fun p => ofSigned w.n (toSigned w.n (fieldVal a p) / 2 ^ w.x)) w s

/-- ARR_NBR: each PE takes the field of its neighbour (R200 to R204, R214, R230). -/
def execArrNbr (s : State) : Host.Outcome State Fault Refusal :=
  s.arrRun Op.nbr anySub fun w s =>
    let a := s.field w.s1 w.n
    let len := s.fld F.TRS_ARR_CFG_CHAIN_LEN
    let on := s.tileMask
    let g (p : Nat) : Nat :=
      match nbrSource w.opt len p with
      | .pe q => if on.getLsbD q then fieldVal a q else 0
      | .zero => 0
    runField w.n g w s

/-! ### Activity (R197, R231) -/

/-- Write A in every PE of every powered tile, in 3 ACLK. -/
def runAct (x : Plane) (s : State) : Exec × State :=
  let m := s.tileMask
  ({ cyc := 3 }, { s with trs := { s.trs with a := (s.trs.a &&& ~~~m) ||| (x &&& m) } })

/-- ARR_ACT_LD: A ← S1. -/
def execArrActLd (s : State) : Host.Outcome State Fault Refusal :=
  s.arrRun Op.act (· == 0) fun w s => runAct (s.plane w.s1) s

/-- ARR_ACT_AND: A ← A AND S1. -/
def execArrActAnd (s : State) : Host.Outcome State Fault Refusal :=
  s.arrRun Op.act (· == 1) fun w s => runAct (s.trs.a &&& s.plane w.s1) s

/-- ARR_ACT_OR: A ← A OR S1. -/
def execArrActOr (s : State) : Host.Outcome State Fault Refusal :=
  s.arrRun Op.act (· == 2) fun w s => runAct (s.trs.a ||| s.plane w.s1) s

/-- ARR_ACT_ANDN: A ← A AND NOT S1. -/
def execArrActAndn (s : State) : Host.Outcome State Fault Refusal :=
  s.arrRun Op.act (· == 3) fun w s => runAct (s.trs.a &&& ~~~s.plane w.s1) s

/-- ARR_ACT_ALL: A ← 1. -/
def execArrActAll (s : State) : Host.Outcome State Fault Refusal :=
  s.arrRun Op.act (· == 4) fun _ s => runAct (Plane.uniform true) s

/-- ARR_ACT_ST: D ← A, written in every PE of a powered tile whatever its A. -/
def execArrActSt (s : State) : Host.Outcome State Fault Refusal :=
  s.arrRun Op.act (· == 5) fun w s => ({ cyc := 3 }, s.writePlane w.d s.tileMask s.trs.a)

/-- ARR_ACT_TILE: A is kept in the tiles from X[5:0] to X[13:8]. -/
def execArrActTile (s : State) : Host.Outcome State Fault Refusal :=
  s.arrRun Op.act (· == 6) fun w s =>
    let m := Plane.ofFn fun p => decide (w.x % 64 ≤ peTile p ∧ peTile p ≤ w.x / 256 % 64)
    runAct (s.trs.a &&& m) s

/-- ARR_IDX: D(n) ← chain position, row, column or tile, by subcode. -/
def execArrIdx (s : State) : Host.Outcome State Fault Refusal :=
  s.arrRun Op.idx anySub fun w s =>
    let g (p : Nat) : Nat :=
      if w.f = 0 then peChain p else if w.f = 1 then peRow p else if w.f = 2 then peCol p else peTile p
    runField w.n g w s

/-! ### Addition and comparison (R250) -/

/-- ARR_ADD: D(n) ← S1(n) + S2(n) modulo 2^n. -/
def execArrAdd (s : State) : Host.Outcome State Fault Refusal :=
  s.arrRun Op.add anySub fun w s =>
    let a := s.field w.s1 w.n
    let b := s.field w.s2 w.n
    ({ cyc := 3 + w.n }, s.writeField w.d s.active (fun p => fieldVal a p + fieldVal b p) w.n)

/-- ARR_SUB: D(n) ← S1(n) − S2(n) modulo 2^n. -/
def execArrSub (s : State) : Host.Outcome State Fault Refusal :=
  s.arrRun Op.sub anySub fun w s =>
    let a := s.field w.s1 w.n
    let b := s.field w.s2 w.n
    ({ cyc := 3 + w.n }, s.writeField w.d s.active (fun p => fieldVal a p + 2 ^ w.n - fieldVal b p) w.n)

/-- A comparison cc of n-bit values: 0 EQ, 1 NE, 2 LTU, 3 GEU, 4 LT, 5 GE. -/
def cmpHolds (cc n x y : Nat) : Bool :=
  if cc = 0 then x == y
  else if cc = 1 then x != y
  else if cc = 2 then decide (x < y)
  else if cc = 3 then decide (y ≤ x)
  else if cc = 4 then decide (toSigned n x < toSigned n y)
  else decide (toSigned n y ≤ toSigned n x)

/-- ARR_CMP: D(1) ← 1 where the comparison holds. -/
def execArrCmp (s : State) : Host.Outcome State Fault Refusal :=
  s.arrRun Op.cmp anySub fun w s =>
    let a := s.field w.s1 w.n
    let b := s.field w.s2 w.n
    ({ cyc := 3 + w.n },
      s.writePlane w.d s.active (Plane.ofFn fun p => cmpHolds w.f w.n (fieldVal a p) (fieldVal b p)))

/-! ### Multiplication (R247, R251, R252) -/

/-- MULU's duration (Table 10-1). -/
def muluCyc (n m k : Nat) : Nat := 4 + (m - k) + (n + 1) * k

/-- ARR_MULU: the exact unsigned product. -/
def execArrMulu (s : State) : Host.Outcome State Fault Refusal :=
  s.arrRun Op.mulu anySub fun w s =>
    let a := s.field w.s1 w.n
    let b := s.field w.s2 w.m
    let k := maxOver s.active (fun p => bitLen (fieldVal b p)) 16384
    ({ cyc := muluCyc w.n w.m k, scan := some (false, k) },
      s.writeField w.d s.active (fun p => fieldVal a p * fieldVal b p) (w.n + w.m))

/-- ARR_MULS: the exact signed product. -/
def execArrMuls (s : State) : Host.Outcome State Fault Refusal :=
  s.arrRun Op.muls anySub fun w s =>
    let a := s.field w.s1 w.n
    let b := s.field w.s2 w.m
    let k := maxOver s.active (fun p => bitLen (toSigned w.m (fieldVal b p)).natAbs) 16384
    ({ cyc := muluCyc w.n w.m k + 2 * (w.n + w.m), scan := some (false, k) },
      s.writeField w.d s.active
        (fun p => ofSigned (w.n + w.m) (toSigned w.n (fieldVal a p) * toSigned w.m (fieldVal b p))) (w.n + w.m))

/-- ARR_MULA: the product without the partial-product bits of columns 0 to s − 1. -/
def execArrMula (s : State) : Host.Outcome State Fault Refusal :=
  s.arrRun Op.mula anySub fun w s =>
    let a := s.field w.s1 w.n
    let b := s.field w.s2 w.m
    let k := maxOver s.active (fun p => bitLen (fieldVal b p)) 16384
    ({ cyc := muluCyc w.n w.m k - w.x * k / 2, scan := some (false, k) },
      s.writeField w.d s.active (fun p => mulaField (fieldVal a p) (fieldVal b p) w.x w.m) (w.n + w.m))

/-! ### Division (R248, R253 to R256) -/

/-- DIVU's duration (Table 10-1). -/
def divuCyc (n m z : Nat) : Nat := 6 + z + (n - z) * (m + 2)

/-- Add the flags of the active PEs to the sticky planes. -/
def State.stick (s : State) (ovf divz inv : Plane) : State :=
  { s with trs := { s.trs with ovf := s.trs.ovf ||| ovf, divz := s.trs.divz ||| divz, inv := s.trs.inv ||| inv } }

/-- A division: what one PE writes and whether it sets DIVZ and OVF, over k destination planes. -/
def runDiv (w : MacroWord) (k cyc z : Nat) (g : Nat → Nat × Bool × Bool) (s : State) : Exec × State :=
  let m := s.active
  let divz := Plane.ofFn (fun p => (g p).2.1) &&& m
  let ovf := Plane.ofFn (fun p => (g p).2.2) &&& m
  ({ cyc := cyc, scan := some (true, z), ovf := ovf != 0, divz := divz != 0 },
    (s.writeField w.d m (fun p => (g p).1) k).stick ovf divz 0)

/-- The term z of a division: leading zeros of the largest dividend magnitude (R248, R249). -/
def divZ (s : State) (n : Nat) (mag : Nat → Nat) : Nat := n - maxOver s.active (fun p => bitLen (mag p)) 16384

/-- ARR_DIVU: the unsigned quotient. -/
def execArrDivu (s : State) : Host.Outcome State Fault Refusal :=
  s.arrRun Op.divu anySub fun w s =>
    let a := s.field w.s1 w.n
    let b := s.field w.s2 w.m
    let z := divZ s w.n (fieldVal a)
    runDiv w w.n (divuCyc w.n w.m z) z
      (fun p => let r := divUnsigned w.n w.m (fieldVal a p) (fieldVal b p); (r.1, r.2.2.1, false)) s

/-- ARR_REMU: the unsigned remainder. -/
def execArrRemu (s : State) : Host.Outcome State Fault Refusal :=
  s.arrRun Op.remu anySub fun w s =>
    let a := s.field w.s1 w.n
    let b := s.field w.s2 w.m
    let z := divZ s w.n (fieldVal a)
    runDiv w w.m (divuCyc w.n w.m z) z
      (fun p => let r := divUnsigned w.n w.m (fieldVal a p) (fieldVal b p); (r.2.1, r.2.2.1, r.2.2.2)) s

/-- ARR_DIVS: the signed quotient, truncated toward zero. -/
def execArrDivs (s : State) : Host.Outcome State Fault Refusal :=
  s.arrRun Op.divs anySub fun w s =>
    let a := s.field w.s1 w.n
    let b := s.field w.s2 w.m
    let z := divZ s w.n fun p => (toSigned w.n (fieldVal a p)).natAbs
    runDiv w w.n (divuCyc w.n w.m z + 2 * (w.n + 1)) z
      (fun p => let r := divSigned w.n w.m (fieldVal a p) (fieldVal b p); (r.1, r.2.2.1, r.2.2.2.1)) s

/-- ARR_REMS: the signed remainder, with the sign of the dividend. -/
def execArrRems (s : State) : Host.Outcome State Fault Refusal :=
  s.arrRun Op.rems anySub fun w s =>
    let a := s.field w.s1 w.n
    let b := s.field w.s2 w.m
    let z := divZ s w.n fun p => (toSigned w.n (fieldVal a p)).natAbs
    runDiv w w.m (divuCyc w.n w.m z + 2 * (w.n + 1)) z
      (fun p => let r := divSigned w.n w.m (fieldVal a p) (fieldVal b p); (r.2.1, r.2.2.1, r.2.2.2.2)) s

/-! ### Reductions -/

/-- ARR_GOR: the global OR of S1 over the active PEs (R205 to R208); with GOR_RTZ, GOR_OUT goes to 0 at the start. -/
def execArrGor (s : State) : Host.Outcome State Fault Refusal :=
  s.arrRun Op.gor anySub fun w s =>
    let x := s.plane w.s1 &&& s.active
    let tiles : BitVec 64 := BitVec.ofNat 64 (natOfBits (fun t => x &&& tilePlane t != 0) 64)
    let s1 : State := if s.bit F.TRS_ARR_CFG_GOR_RTZ then
        State.setFld { s with trs := { s.trs with gorOut := false } } F.TRS_GOR_OUT 0 else s
    ({ cyc := 12, gor := some (x != 0, tiles) }, s1)

/-- ARR_POPC: the number of active PEs with S1 = 1, due in a register of the pushing task (R232). -/
def execArrPopc (s : State) : Host.Outcome State Fault Refusal :=
  s.arrRun Op.popc anySub fun w s =>
    ({ cyc := 24, deliver := some (w.opt % 32, BitVec.ofNat 32 (popBV (s.plane w.s1 &&& s.active))) }, s)

/-! ### Lines in and out -/

/-- ARR_LOADL: the complete burst is transferred into planes (R180, R184, R278). -/
def execArrLoadl (s : State) : Host.Outcome State Fault Refusal :=
  match s.arrRun Op.loadl anySub fun w s =>
    let lw := s.loadlW
    let c := s.tly.clock
    ({ cyc := 8 + w.x % 32 * (8 * lw + 2 + 32 * b2n (bitOf w.opt 0)), w := lw, burst := s.trs.loadl, used := c },
      { s.touch (footprint (w.fields lw)) with trs := { s.trs with loadl := none } }) with
  | .next s' => .next (if s.trs.exec.isSome then s' else s'.loadlStep)
  | o => o

/-- A store reads pixels into the lowest free buffer, with the stamp of R355, or the one before it (R371). -/
def State.storeInto (s : State) (b : StoreBuf) : State :=
  match s.freeStoreBuf with
  | some i =>
    { s with storeBufs := s.storeBufs.set i (some { b with stamp := s.trs.edgeStamp.getD s.stamp, order := s.storeOrder })
             storeOrder := s.storeOrder + 1 }
  | none => s

/-- ARR_STL: a segment of the chain is read into a store buffer (R233, R237). -/
def execArrStl (s : State) : Host.Outcome State Fault Refusal :=
  s.arrRun Op.stl anySub fun w s =>
    let a := s.field w.s1 w.n
    let px := (List.range (w.x % 32768)).map fun i => fieldVal a (chainPe (w.s2 + i))
    ({ cyc := 2 + w.n }, s.storeInto { pixels := px, n := w.n, start := w.s2, ctx := w.opt % 16 })

/-- ARR_STT: one tile, in mesh order, is read into a store buffer (R233, R237). -/
def execArrStt (s : State) : Host.Outcome State Fault Refusal :=
  s.arrRun Op.stt anySub fun w s =>
    let a := s.field w.s1 w.n
    let t := w.x % 64
    let px := (List.range 256).map fun i => fieldVal a (256 * t + i)
    ({ cyc := 2 + w.n }, s.storeInto { pixels := px, n := w.n, tile := true, start := t, ctx := w.opt % 16 })

/-! ### Import, flags and tokens -/

/-- ARR_CVTF: binary32 to n-bit fixed point (R257, R258, R260). -/
def execArrCvtf (s : State) : Host.Outcome State Fault Refusal :=
  s.arrRun Op.cvtf anySub fun w s =>
    let a := s.field w.s1 32
    let g (p : Nat) := cvtf w.n w.x (fieldVal a p)
    let m := s.active
    let ovf := Plane.ofFn (fun p => (g p).2.1) &&& m
    let inv := Plane.ofFn (fun p => (g p).2.2.1) &&& m
    let qnan := Plane.ofFn (fun p => (g p).2.2.2) &&& m
    ({ cyc := 16 + 6 * (w.n + 25), ovf := ovf != 0, inv := inv != 0, qnan := qnan != 0 },
      (s.writeField w.d m (fun p => (g p).1) w.n).stick ovf 0 inv)

/-- ARR_STK_CLEAR: the flags selected by OPT clear in the active PEs (R262). -/
def execArrStkClear (s : State) : Host.Outcome State Fault Refusal :=
  s.arrRun Op.stk (· == 0) fun w s =>
    let keep := ~~~s.active
    let c (bit : Nat) (x : Plane) : Plane := if bitOf w.opt bit then x &&& keep else x
    ({ cyc := 3 }, { s with trs := { s.trs with ovf := c 0 s.trs.ovf, divz := c 1 s.trs.divz, inv := c 2 s.trs.inv } })

/-- ARR_STK_READ: D(1) ← the flag that OPT selects. -/
def execArrStkRead (s : State) : Host.Outcome State Fault Refusal :=
  s.arrRun Op.stk (· == 1) fun w s =>
    let x := if w.opt % 4 = 0 then s.trs.ovf else if w.opt % 4 = 1 then s.trs.divz else s.trs.inv
    ({ cyc := 3 }, s.writePlane w.d s.active x)

/-- ARR_TOKEN: W2 is due in a register of the pushing task; with DRAIN, once both store buffers are idle (R232). -/
def execArrToken (s : State) : Host.Outcome State Fault Refusal :=
  s.arrRun Op.token anySub fun w s => ({ cyc := 1, deliver := some (w.opt % 32, w.w2), drain := bitOf w.opt 5 }, s)

end Sys2Proof.Machine
end

