-- ==== Sys2Proof/Machine/Tap.lean ====
section
/-! DEFINITION. The test-access port (R721, R722). -/

namespace Sys2Proof.Machine

/-- EXTEST, CLAMP and HIGHZ are judged as they load (R722). -/
def State.tapLoad (s : State) (i : TapInstr) : State :=
  let controls := i == .extest || i == .clamp || i == .highz
  let may := (s.mode == .setup || s.mode == .fallback) && s.scr.isNone
  { s with tap := { s.tap with instr := i, acts := controls && may } }

/-- A TAP instruction loads while VAON is up; a low ILK_N that the instruction before it hid acts now (R157). -/
def State.tapInstr (s : State) (i : TapInstr) : Host.Outcome State Fault Refusal :=
  if s.mode = .unpowered then .next s else .next ((s.tapLoad i).ilkSettle s.ilk)

/-- TAP_EXTEST. -/
def execTapExtest (s : State) : Host.Outcome State Fault Refusal := s.tapInstr .extest

/-- TAP_CLAMP. -/
def execTapClamp (s : State) : Host.Outcome State Fault Refusal := s.tapInstr .clamp

/-- TAP_HIGHZ. -/
def execTapHighz (s : State) : Host.Outcome State Fault Refusal := s.tapInstr .highz

/-- TAP_BYPASS: the balls return to functional control. -/
def execTapBypass (s : State) : Host.Outcome State Fault Refusal := s.tapInstr .bypass

/-- TAP_SAMPLE_PRELOAD: the bits shifted in are preloaded into the boundary register (log 35). -/
def execTapSamplePreload (bits : List Bool) (s : State) : Host.Outcome State Fault Refusal :=
  if s.mode = .unpowered then .next s
  else .next ((State.tapLoad { s with tap := { s.tap with boundary := bits } } .samplePreload).ilkSettle s.ilk)

end Sys2Proof.Machine
end

