-- ==== Sys2Proof/Machine/Dispatch.lean ====
section
/-! DEFINITION. The dispatch: one arm per command. -/

namespace Sys2Proof.Machine

/-- The effect of a command on everything but the queue. -/
def exec (i : Instr) (s : State) : Host.Outcome State Fault Refusal :=
  match i with
  | .vaonRise => Sys2Proof.Machine.execVaonRise s
  | .vaonFall writing held => Sys2Proof.Machine.execVaonFall writing held s
  | .modeReq v caused => Sys2Proof.Machine.execModeReq v s caused
  | .pwrModeReq v caused => Sys2Proof.Machine.execPwrModeReq v s caused
  | .captureEntry t => Sys2Proof.Machine.execCaptureEntry t s
  | .captureExit t => Sys2Proof.Machine.execCaptureExit t s
  | .cpTransfer sent partBit => Sys2Proof.Machine.execCpTransfer sent partBit s
  | .sessOpen => Sys2Proof.Machine.execSessOpen s
  | .sessClose => Sys2Proof.Machine.execSessClose s
  | .sessKeep => Sys2Proof.Machine.execSessKeep s
  | .sessionExpiry => Sys2Proof.Machine.execSessionExpiry s
  | .hostDoorbell v => Sys2Proof.Machine.execHostDoorbell v s
  | .doorbellCodeRead => Sys2Proof.Machine.execDoorbellCodeRead s
  | .winGo v => Sys2Proof.Machine.execWinGo v s
  | .winStreamWrite v => Sys2Proof.Machine.execWinStreamWrite v s
  | .winStreamRead => Sys2Proof.Machine.execWinStreamRead s
  | .winComplete => Sys2Proof.Machine.execWinComplete s
  | .svcStart factory => Sys2Proof.Machine.execSvcStart factory s
  | .svcData v => Sys2Proof.Machine.execSvcData v s
  | .svcSubmit => Sys2Proof.Machine.execSvcSubmit s
  | .svcVerifyDone => Sys2Proof.Machine.execSvcVerifyDone s
  | .svcDrop => Sys2Proof.Machine.execSvcDrop s
  | .challengeExpiry => Sys2Proof.Machine.execChallengeExpiry s
  | .ladderReq v => Sys2Proof.Machine.execLadderReq v s
  | .pwrLadderReq v => Sys2Proof.Machine.execPwrLadderReq v s
  | .ladderQuiescent => Sys2Proof.Machine.execLadderQuiescent s
  | .ladderQtmo => Sys2Proof.Machine.execLadderQtmo s
  | .ladderEntryDone ns => Sys2Proof.Machine.execLadderEntryDone ns s
  | .wakeTimerExpiry => Sys2Proof.Machine.execWakeTimerExpiry s
  | .ladderExitDone ns image drifts fails => Sys2Proof.Machine.execLadderExitDone ns image drifts s fails
  | .pwrDomOffWrite w v => Sys2Proof.Machine.execPwrDomOffWrite w v s
  | .tileOn t => Sys2Proof.Machine.execTileOn t s
  | .sillDrained => Sys2Proof.Machine.execSillDrained s
  | .pwrResumeBaseWrite v => Sys2Proof.Machine.execPwrResumeBaseWrite v s
  | .encLevelAccept n inp level held => Sys2Proof.Machine.execEncLevelAccept n inp level held s
  | .encCount n t => Sys2Proof.Machine.execEncCount n t s
  | .encSpeedSample => Sys2Proof.Machine.execEncSpeedSample s
  | .encPosPreset n v => Sys2Proof.Machine.execEncPosPreset n v s
  | .encTrigCfgWrite v => Sys2Proof.Machine.execEncTrigCfgWrite v s
  | .encDivMWrite v => Sys2Proof.Machine.execEncDivMWrite v s
  | .ltimerWrite v t => Sys2Proof.Machine.execLtimerWrite v t s
  | .lineTimerTrigger => Sys2Proof.Machine.execLineTimerTrigger s
  | .expoStart => Sys2Proof.Machine.execExpoStart s
  | .expoEnd => Sys2Proof.Machine.execExpoEnd s
  | .markQueuePush m v => Sys2Proof.Machine.execMarkQueuePush m v s
  | .markQueueFire m t => Sys2Proof.Machine.execMarkQueueFire m t s
  | .markNow m v t => Sys2Proof.Machine.execMarkNow m v t s
  | .gorNFall t => Sys2Proof.Machine.execGorNFall t s
  | .markPulseEnd m => Sys2Proof.Machine.execMarkPulseEnd m s
  | .prsCodeEnd prx amb t => Sys2Proof.Machine.execPrsCodeEnd prx amb t s
  | .prsCfgWrite r v => Sys2Proof.Machine.execPrsCfgWrite r v s
  | .strobePulseStart n => Sys2Proof.Machine.execStrobePulseStart n s
  | .strobeJudge n isns vsnsLow => Sys2Proof.Machine.execStrobeJudge n isns vsnsLow s
  | .strobePulseEnd n => Sys2Proof.Machine.execStrobePulseEnd n s
  | .stuckOnCheck n isns => Sys2Proof.Machine.execStuckOnCheck n isns s
  | .stbTest n v t => Sys2Proof.Machine.execStbTest n v t s
  | .guardedWindowEnd => Sys2Proof.Machine.execGuardedWindowEnd s
  | .proofPulseStart n => Sys2Proof.Machine.execProofPulseStart n s
  | .ilkAssert t => Sys2Proof.Machine.execIlkAssert t s
  | .ilkRelease t => Sys2Proof.Machine.execIlkRelease t s
  | .ontimeHiWrite n v => Sys2Proof.Machine.execOntimeHiWrite n v s
  | .pixelWord w t => Sys2Proof.Machine.execPixelWord w t s
  | .slotFilled => Sys2Proof.Machine.execSlotFilled s
  | .ltmoExpiry t sol => Sys2Proof.Machine.execLtmoExpiry t s sol
  | .ingCfgWrite v => Sys2Proof.Machine.execIngCfgWrite v s
  | .cmpCommit v => Sys2Proof.Machine.execCmpCommit v s
  | .ldwaitExpiry filled => Sys2Proof.Machine.execLdwaitExpiry s filled
  | .arrPush => Sys2Proof.Machine.execArrPush s
  | .macroopComplete t wait => Sys2Proof.Machine.execMacroopComplete t wait s
  | .arrMov => Sys2Proof.Machine.execArrMov s
  | .arrBool => Sys2Proof.Machine.execArrBool s
  | .arrSetc => Sys2Proof.Machine.execArrSetc s
  | .arrShl => Sys2Proof.Machine.execArrShl s
  | .arrShr => Sys2Proof.Machine.execArrShr s
  | .arrSar => Sys2Proof.Machine.execArrSar s
  | .arrNbr => Sys2Proof.Machine.execArrNbr s
  | .arrActLd => Sys2Proof.Machine.execArrActLd s
  | .arrActAnd => Sys2Proof.Machine.execArrActAnd s
  | .arrActOr => Sys2Proof.Machine.execArrActOr s
  | .arrActAndn => Sys2Proof.Machine.execArrActAndn s
  | .arrActAll => Sys2Proof.Machine.execArrActAll s
  | .arrActSt => Sys2Proof.Machine.execArrActSt s
  | .arrActTile => Sys2Proof.Machine.execArrActTile s
  | .arrIdx => Sys2Proof.Machine.execArrIdx s
  | .arrAdd => Sys2Proof.Machine.execArrAdd s
  | .arrSub => Sys2Proof.Machine.execArrSub s
  | .arrCmp => Sys2Proof.Machine.execArrCmp s
  | .arrMulu => Sys2Proof.Machine.execArrMulu s
  | .arrMuls => Sys2Proof.Machine.execArrMuls s
  | .arrMula => Sys2Proof.Machine.execArrMula s
  | .arrDivu => Sys2Proof.Machine.execArrDivu s
  | .arrDivs => Sys2Proof.Machine.execArrDivs s
  | .arrRemu => Sys2Proof.Machine.execArrRemu s
  | .arrRems => Sys2Proof.Machine.execArrRems s
  | .arrGor => Sys2Proof.Machine.execArrGor s
  | .arrPopc => Sys2Proof.Machine.execArrPopc s
  | .arrLoadl => Sys2Proof.Machine.execArrLoadl s
  | .arrStl => Sys2Proof.Machine.execArrStl s
  | .arrStt => Sys2Proof.Machine.execArrStt s
  | .arrCvtf => Sys2Proof.Machine.execArrCvtf s
  | .arrStkClear => Sys2Proof.Machine.execArrStkClear s
  | .arrStkRead => Sys2Proof.Machine.execArrStkRead s
  | .arrToken => Sys2Proof.Machine.execArrToken s
  | .trsFlush => Sys2Proof.Machine.execTrsFlush s
  | .farMoveComplete stall before => Sys2Proof.Machine.execFarMoveComplete stall s before
  | .tlyPinB => Sys2Proof.Machine.execTlyPinB s
  | .tlyPinY => Sys2Proof.Machine.execTlyPinY s
  | .tlyUnpin => Sys2Proof.Machine.execTlyUnpin s
  | .tlyPrefetch => Sys2Proof.Machine.execTlyPrefetch s
  | .tlySpill => Sys2Proof.Machine.execTlySpill s
  | .tlyAdopt => Sys2Proof.Machine.execTlyAdopt s
  | .tlyDiscard => Sys2Proof.Machine.execTlyDiscard s
  | .tlyStage => Sys2Proof.Machine.execTlyStage s
  | .tlyCmdBoundary => Sys2Proof.Machine.execTlyCmdBoundary s
  | .tlyCfgWrite v => Sys2Proof.Machine.execTlyCfgWrite v s
  | .tlyFarBaseWrite v => Sys2Proof.Machine.execTlyFarBaseWrite v s
  | .tlyWsWrite k b v => Sys2Proof.Machine.execTlyWsWrite k b v s
  | .nop => Sys2Proof.Machine.execNop s
  | .endTask => Sys2Proof.Machine.execEndTask s
  | .wait => Sys2Proof.Machine.execWait s
  | .rsync => Sys2Proof.Machine.execRsync s
  | .pegAcq => Sys2Proof.Machine.execPegAcq s
  | .pegRel => Sys2Proof.Machine.execPegRel s
  | .pegMend => Sys2Proof.Machine.execPegMend s
  | .add => Sys2Proof.Machine.execAdd s
  | .sub => Sys2Proof.Machine.execSub s
  | .and => Sys2Proof.Machine.execAnd s
  | .or => Sys2Proof.Machine.execOr s
  | .xor => Sys2Proof.Machine.execXor s
  | .andn => Sys2Proof.Machine.execAndn s
  | .shl => Sys2Proof.Machine.execShl s
  | .shr => Sys2Proof.Machine.execShr s
  | .sar => Sys2Proof.Machine.execSar s
  | .mul => Sys2Proof.Machine.execMul s
  | .mulhu => Sys2Proof.Machine.execMulhu s
  | .mulhs => Sys2Proof.Machine.execMulhs s
  | .divu cut => Sys2Proof.Machine.execDivu s cut
  | .remu cut => Sys2Proof.Machine.execRemu s cut
  | .divs cut => Sys2Proof.Machine.execDivs s cut
  | .rems cut => Sys2Proof.Machine.execRems s cut
  | .seq => Sys2Proof.Machine.execSeq s
  | .sne => Sys2Proof.Machine.execSne s
  | .sltu => Sys2Proof.Machine.execSltu s
  | .sgeu => Sys2Proof.Machine.execSgeu s
  | .slt => Sys2Proof.Machine.execSlt s
  | .sge => Sys2Proof.Machine.execSge s
  | .clz => Sys2Proof.Machine.execClz s
  | .bitc => Sys2Proof.Machine.execBitc s
  | .addi => Sys2Proof.Machine.execAddi s
  | .andi => Sys2Proof.Machine.execAndi s
  | .ori => Sys2Proof.Machine.execOri s
  | .xori => Sys2Proof.Machine.execXori s
  | .shli => Sys2Proof.Machine.execShli s
  | .shri => Sys2Proof.Machine.execShri s
  | .sari => Sys2Proof.Machine.execSari s
  | .seqi => Sys2Proof.Machine.execSeqi s
  | .snei => Sys2Proof.Machine.execSnei s
  | .slti => Sys2Proof.Machine.execSlti s
  | .sltiu => Sys2Proof.Machine.execSltiu s
  | .li => Sys2Proof.Machine.execLi s
  | .lui => Sys2Proof.Machine.execLui s
  | .bz => Sys2Proof.Machine.execBz s
  | .bnz => Sys2Proof.Machine.execBnz s
  | .dbnz => Sys2Proof.Machine.execDbnz s
  | .j => Sys2Proof.Machine.execJ s
  | .call => Sys2Proof.Machine.execCall s
  | .jr => Sys2Proof.Machine.execJr s
  | .jalr => Sys2Proof.Machine.execJalr s
  | .ldB => Sys2Proof.Machine.execLdB s
  | .ldH => Sys2Proof.Machine.execLdH s
  | .ldW => Sys2Proof.Machine.execLdW s
  | .ldBs => Sys2Proof.Machine.execLdBs s
  | .ldHs => Sys2Proof.Machine.execLdHs s
  | .stB => Sys2Proof.Machine.execStB s
  | .stH => Sys2Proof.Machine.execStH s
  | .stW => Sys2Proof.Machine.execStW s
  | .swap => Sys2Proof.Machine.execSwap s
  | .aadd => Sys2Proof.Machine.execAadd s
  | .aand => Sys2Proof.Machine.execAand s
  | .aor => Sys2Proof.Machine.execAor s
  | .axor => Sys2Proof.Machine.execAxor s
  | .cas => Sys2Proof.Machine.execCas s
  | .padd => Sys2Proof.Machine.execPadd s
  | .psub => Sys2Proof.Machine.execPsub s
  | .pcyA => Sys2Proof.Machine.execPcyA s
  | .pcyS => Sys2Proof.Machine.execPcyS s
  | .ncy => Sys2Proof.Machine.execNcy s
  | .dadj => Sys2Proof.Machine.execDadj s
  | .p2b cut => Sys2Proof.Machine.execP2b s cut
  | .b2p cut => Sys2Proof.Machine.execB2p s cut
  | .joistRingResponse => Sys2Proof.Machine.execJoistRingResponse s
  | .contextSwitch took => Sys2Proof.Machine.execContextSwitch took s
  | .quantumExpiry => Sys2Proof.Machine.execQuantumExpiry s
  | .taskTimerExpiry n => Sys2Proof.Machine.execTaskTimerExpiry n s
  | .taskTimerWrite n v => Sys2Proof.Machine.execTaskTimerWrite n v s
  | .taskStart n => Sys2Proof.Machine.execTaskStart n s
  | .taskAbort n => Sys2Proof.Machine.execTaskAbort n s
  | .evPost v => Sys2Proof.Machine.execEvPost v s
  | .taskPriWrite n v => Sys2Proof.Machine.execTaskPriWrite n v s
  | .pegReqAcq q p => Sys2Proof.Machine.execPegReqAcq q p s
  | .pegReqRel q p abandon => Sys2Proof.Machine.execPegReqRel q p s abandon
  | .pegReqMend q p => Sys2Proof.Machine.execPegReqMend q p s
  | .kerfBlockStart => Sys2Proof.Machine.execKerfBlockStart s
  | .kerfBlockDone lane held => Sys2Proof.Machine.execKerfBlockDone lane held s
  | .egrEnqGo => Sys2Proof.Machine.execEgrEnqGo s
  | .egrFrameSend idle => Sys2Proof.Machine.execEgrFrameSend idle s
  | .egrCredit limit => Sys2Proof.Machine.execEgrCredit limit s
  | .egrAck seq => Sys2Proof.Machine.execEgrAck seq s
  | .egrNak seq => Sys2Proof.Machine.execEgrNak seq s
  | .ackTimeout buf => Sys2Proof.Machine.execAckTimeout buf s
  | .imgWaitExpiry lane => Sys2Proof.Machine.execImgWaitExpiry lane s
  | .egrRxLost => Sys2Proof.Machine.execEgrRxLost s
  | .egrCfgWrite v => Sys2Proof.Machine.execEgrCfgWrite v s
  | .egrBufCfgWrite v => Sys2Proof.Machine.execEgrBufCfgWrite v s
  | .dynPortTrained p t => Sys2Proof.Machine.execDynPortTrained p t s
  | .dynPortTrainingLost p t => Sys2Proof.Machine.execDynPortTrainingLost p t s
  | .dynMsgLine p fopen flast noexpo tgt lnum t => Sys2Proof.Machine.execDynMsgLine p fopen flast noexpo tgt lnum t s
  | .dynMsgPos p linepos pos => Sys2Proof.Machine.execDynMsgPos p linepos pos s
  | .dynMsgGor p hop lnum => Sys2Proof.Machine.execDynMsgGor p hop lnum s
  | .dynMsgSyncTime p time t frac => Sys2Proof.Machine.execDynMsgSyncTime p time t frac s
  | .dynMsgSyncCfg p gwin frameNum => Sys2Proof.Machine.execDynMsgSyncCfg p gwin frameNum s
  | .dynMsgProbe p idx turn => Sys2Proof.Machine.execDynMsgProbe p idx turn s
  | .dynMsgEcho p idx turn r => Sys2Proof.Machine.execDynMsgEcho p idx turn r s
  | .dynMsgEnum p hop => Sys2Proof.Machine.execDynMsgEnum p hop s
  | .dynMsgUser p payload => Sys2Proof.Machine.execDynMsgUser p payload s
  | .dynMessageSend p t => Sys2Proof.Machine.execDynMessageSend p t s
  | .syncPeriod t => Sys2Proof.Machine.execSyncPeriod t s
  | .posPeriod => Sys2Proof.Machine.execPosPeriod s
  | .dynCalGo v t => Sys2Proof.Machine.execDynCalGo v t s
  | .calProbeTick => Sys2Proof.Machine.execCalProbeTick s
  | .calWindowEnd => Sys2Proof.Machine.execCalWindowEnd s
  | .trackProbe => Sys2Proof.Machine.execTrackProbe s
  | .dynSourceLoss => Sys2Proof.Machine.execDynSourceLoss s
  | .freewheelLine => Sys2Proof.Machine.execFreewheelLine s
  | .dynCmdTxHiWrite v => Sys2Proof.Machine.execDynCmdTxHiWrite v s
  | .ringRequestArrival n tag bad => Sys2Proof.Machine.execRingRequestArrival n tag bad s
  | .ringResponseArrival n tag bad => Sys2Proof.Machine.execRingResponseArrival n tag bad s
  | .ringRequestIssue n tag waited => Sys2Proof.Machine.execRingRequestIssue n tag waited s
  | .tagTimeout n tag => Sys2Proof.Machine.execTagTimeout n tag s
  | .niRouteWrite n k v => Sys2Proof.Machine.execNiRouteWrite n k v s
  | .memcRequest n tag flips => Sys2Proof.Machine.execMemcRequest n tag flips s
  | .memcRetrain a0 a1 b0 b1 held => Sys2Proof.Machine.execMemcRetrain a0 a1 b0 b1 held s
  | .memcMr4Poll hot => Sys2Proof.Machine.execMemcMr4Poll hot s
  | .memcRefresh => Sys2Proof.Machine.execMemcRefresh s
  | .memcScrub => Sys2Proof.Machine.execMemcScrub s
  | .jigRecfg t => Sys2Proof.Machine.execJigRecfg t s
  | .jigRelease t => Sys2Proof.Machine.execJigRelease t s
  | .jigLoadDone t => Sys2Proof.Machine.execJigLoadDone t s
  | .jigRtRequest => Sys2Proof.Machine.execJigRtRequest s
  | .jigRtAck err rdata => Sys2Proof.Machine.execJigRtAck err rdata s
  | .jigRtTimeout => Sys2Proof.Machine.execJigRtTimeout s
  | .jigRmIssue addr write data urg => Sys2Proof.Machine.execJigRmIssue addr write data urg s
  | .laneSlip j other => Sys2Proof.Machine.execLaneSlip j other s
  | .laneTapup j other => Sys2Proof.Machine.execLaneTapup j other s
  | .laneTapdn j other => Sys2Proof.Machine.execLaneTapdn j other s
  | .jigClkSrcSwitch r v fall dead => Sys2Proof.Machine.execJigClkSrcSwitch r v fall dead s
  | .jigClkSwitchDone r => Sys2Proof.Machine.execJigClkSwitchDone r s
  | .jigClkSwitchForce r dead => Sys2Proof.Machine.execJigClkSwitchForce r dead s
  | .jigClkDivChange r v => Sys2Proof.Machine.execJigClkDivChange r v s
  | .jigClkEnable r v => Sys2Proof.Machine.execJigClkEnable r v s
  | .jigPinWrite j v t => Sys2Proof.Machine.execJigPinWrite j v t s
  | .uartStartBit n smp => Sys2Proof.Machine.execUartStartBit n smp s
  | .uartRxChar n smp => Sys2Proof.Machine.execUartRxChar n smp s
  | .uartTxCharStart n => Sys2Proof.Machine.execUartTxCharStart n s
  | .uartTxCharEnd n => Sys2Proof.Machine.execUartTxCharEnd n s
  | .uartDeTail n => Sys2Proof.Machine.execUartDeTail n s
  | .uartTxdWrite n v => Sys2Proof.Machine.execUartTxdWrite n v s
  | .uartRxdRead n => Sys2Proof.Machine.execUartRxdRead n s
  | .uartDescGo n d v => Sys2Proof.Machine.execUartDescGo n d v s
  | .uartDescRetire n d => Sys2Proof.Machine.execUartDescRetire n d s
  | .uartRxIdle n => Sys2Proof.Machine.execUartRxIdle n s
  | .uartRxFlush n => Sys2Proof.Machine.execUartRxFlush n s
  | .uartDmaResponse n => Sys2Proof.Machine.execUartDmaResponse n s
  | .uartCfgApply n => Sys2Proof.Machine.execUartCfgApply n s
  | .uart0ClockChange => Sys2Proof.Machine.execUart0ClockChange s
  | .bootAttempt t ms trainUs trainFail drifts => Sys2Proof.Machine.execBootAttempt t ms trainUs trainFail drifts s
  | .startWatchdogExpiry => Sys2Proof.Machine.execStartWatchdogExpiry s
  | .bootRetryTimer => Sys2Proof.Machine.execBootRetryTimer s
  | .flRead len => Sys2Proof.Machine.execFlRead len s
  | .flProgram len => Sys2Proof.Machine.execFlProgram len s
  | .flErase len => Sys2Proof.Machine.execFlErase len s
  | .flOpDone => Sys2Proof.Machine.execFlOpDone s
  | .flOpTimeout => Sys2Proof.Machine.execFlOpTimeout s
  | .consoleS => Sys2Proof.Machine.execConsoleS s
  | .consoleL n => Sys2Proof.Machine.execConsoleL n s
  | .consoleB => Sys2Proof.Machine.execConsoleB s
  | .consoleBSlot slotB => Sys2Proof.Machine.execConsoleBSlot slotB s
  | .consoleUnknown => Sys2Proof.Machine.execConsoleUnknown s
  | .railOnDelay r => Sys2Proof.Machine.execRailOnDelay r s
  | .railGood r => Sys2Proof.Machine.execRailGood r s
  | .railPgTimeout r => Sys2Proof.Machine.execRailPgTimeout r s
  | .railFaultCondition r ov par => Sys2Proof.Machine.execRailFaultCondition r ov par s
  | .railOffDelay r => Sys2Proof.Machine.execRailOffDelay r s
  | .railDischargeTimeout r => Sys2Proof.Machine.execRailDischargeTimeout r s
  | .railRetryOn r => Sys2Proof.Machine.execRailRetryOn r s
  | .retriesClear r => Sys2Proof.Machine.execRetriesClear r s
  | .railSarReading ch mv => Sys2Proof.Machine.execRailSarReading ch mv s
  | .episodeClose => Sys2Proof.Machine.execEpisodeClose s
  | .seqInAssert => Sys2Proof.Machine.execSeqInAssert s
  | .seqInWithdraw => Sys2Proof.Machine.execSeqInWithdraw s
  | .supRestore => Sys2Proof.Machine.execSupRestore s
  | .supDown => Sys2Proof.Machine.execSupDown s
  | .supClear => Sys2Proof.Machine.execSupClear s
  | .supSave => Sys2Proof.Machine.execSupSave s
  | .supLoad => Sys2Proof.Machine.execSupLoad s
  | .supLogClear => Sys2Proof.Machine.execSupLogClear s
  | .supBusSend => Sys2Proof.Machine.execSupBusSend s
  | .busUp dst src tag => Sys2Proof.Machine.execBusUp dst src tag s
  | .busDown dst src tag => Sys2Proof.Machine.execBusDown dst src tag s
  | .busStatus dst src tag => Sys2Proof.Machine.execBusStatus dst src tag s
  | .busLogRead dst src tag seq => Sys2Proof.Machine.execBusLogRead dst src tag seq s
  | .busClear dst src tag => Sys2Proof.Machine.execBusClear dst src tag s
  | .busReply src tag payload => Sys2Proof.Machine.execBusReply src tag payload s
  | .busReplyTimeout => Sys2Proof.Machine.execBusReplyTimeout s
  | .logRecordWrite => Sys2Proof.Machine.execLogRecordWrite s
  | .logRseqCommit v => Sys2Proof.Machine.execLogRseqCommit v s
  | .rtEntryCommit bytes => Sys2Proof.Machine.execRtEntryCommit bytes s
  | .rtSelWrite v => Sys2Proof.Machine.execRtSelWrite v s
  | .pllLock ns => Sys2Proof.Machine.execPllLock ns s
  | .clkCfgWrite v => Sys2Proof.Machine.execClkCfgWrite v s
  | .refSwitch ppm => Sys2Proof.Machine.execRefSwitch ppm s
  | .refSwitchDone => Sys2Proof.Machine.execRefSwitchDone s
  | .refLoss => Sys2Proof.Machine.execRefLoss s
  | .holdMaxExpiry => Sys2Proof.Machine.execHoldMaxExpiry s
  | .aonXtalFail => Sys2Proof.Machine.execAonXtalFail s
  | .aonXtalReturn => Sys2Proof.Machine.execAonXtalReturn s
  | .aonMsTick => Sys2Proof.Machine.execAonMsTick s
  | .wearHour drifts => Sys2Proof.Machine.execWearHour drifts s
  | .thermalReading temps => Sys2Proof.Machine.execThermalReading temps s
  | .otpHeadWrite v => Sys2Proof.Machine.execOtpHeadWrite v s
  | .otpBootPolicyWrite v => Sys2Proof.Machine.execOtpBootPolicyWrite v s
  | .otpKeyHashWrite k hash => Sys2Proof.Machine.execOtpKeyHashWrite k hash s
  | .otpKeyRevokeWrite v => Sys2Proof.Machine.execOtpKeyRevokeWrite v s
  | .otpLogPolicyWrite v => Sys2Proof.Machine.execOtpLogPolicyWrite v s
  | .otpDebugLockWrite v => Sys2Proof.Machine.execOtpDebugLockWrite v s
  | .otpProgramDone => Sys2Proof.Machine.execOtpProgramDone s
  | .wearClear => Sys2Proof.Machine.execWearClear s
  | .scribeRead joist addr => Sys2Proof.Machine.execScribeRead joist addr s
  | .scribeBypassOn joist node => Sys2Proof.Machine.execScribeBypassOn joist node s
  | .scribeBypassOff joist node => Sys2Proof.Machine.execScribeBypassOff joist node s
  | .scribeDrain joist node arg => Sys2Proof.Machine.execScribeDrain joist node arg s
  | .scribePoison joist node arg => Sys2Proof.Machine.execScribePoison joist node arg s
  | .scribeResetHold joist node => Sys2Proof.Machine.execScribeResetHold joist node s
  | .scribeResetRelease joist node => Sys2Proof.Machine.execScribeResetRelease joist node s
  | .scribeComplete fails lost => Sys2Proof.Machine.execScribeComplete fails lost s
  | .tapExtest => Sys2Proof.Machine.execTapExtest s
  | .tapClamp => Sys2Proof.Machine.execTapClamp s
  | .tapHighz => Sys2Proof.Machine.execTapHighz s
  | .tapBypass => Sys2Proof.Machine.execTapBypass s
  | .tapSamplePreload bits => Sys2Proof.Machine.execTapSamplePreload bits s
  | .registerWrite addr v => Sys2Proof.Machine.execRegisterWrite addr v s
  | .egrRxSync => Sys2Proof.Machine.execEgrRxSync s
  | .dynMsgDiscard p msg charErr => Sys2Proof.Machine.execDynMsgDiscard p msg charErr s
  | .egrRxBadMessage => Sys2Proof.Machine.execEgrRxBadMessage s
  | .busReservedCmd dst src tag cmd => Sys2Proof.Machine.execBusReservedCmd dst src tag cmd s

end Sys2Proof.Machine
end

