-- ==== Sys2Proof/Machine/Balance.lean ====
section
/-! DEFINITION. The conserved counts (Table 29-4, R705 to R707, R711): each quantity's equation over what the state holds, and
what the K16 does when one fails. -/

namespace Sys2Proof.Machine

/-- AVAIL + BUFFERED + RETURNING = 12 for every class of one router input (R446, R461). -/
def State.creditOk (s : State) (sill : Bool) (n : Fin 16) : Bool :=
  [RingClass.urgent, .control, .bulk].all fun c =>
    let p := s.rings[channel sill c false][n]
    let q := s.rings[channel sill c true][n]
    p.avail + q.avail + flitSum p.buf + flitSum q.buf + p.back + q.back == 12

/-- FREE + OUT + RETIRING = 256 at one NI, each OUT being a tag of its own (R449). -/
def State.tagOk (s : State) (n : Fin 16) : Bool :=
  let tags := s.ni[n].tags.map fun e => e.tag
  decide tags.Nodup && decide (tags.length ≤ 256)

/-- FREE + QUEUED + ACTIVE + DONE = 16 at one UART (R547). -/
def State.descBalOk (s : State) (u : Fin 2) : Bool :=
  (([DescSt.free, .queued, .active, .done].map fun k => (List.finRange 16).countP fun d => s.uart[u].desc[d].st == k).sum) == 16

/-- The first place of n at which an equation fails; 0xFF for a quantity that stands once. -/
def failsAt (n : Nat) (ok : Fin n → Bool) : Option Nat := ((List.finRange n).find? fun i => !ok i).map fun i => i.val
def failsOnce (ok : Bool) : Option Nat := if ok then none else some 0xFF

/-- The equation of bit k of BAL_FAULT at one edge (Table 29-4): none, or the stop, output or UART at which it fails. A quantity
whose domain is not ON is not evaluated (R707). -/
def State.balFails (s : State) (k : Fin 11) : Option Nat :=
  match k.val with
  | 0 => failsAt 16 fun n => (!s.domOn Dom.plate || s.creditOk false n) && (!s.domOn Dom.sill || s.creditOk true n)
  | 1 => if s.domOn Dom.plate then failsAt 16 s.tagOk else none
  | 2 => if s.domOn Dom.tally then (let b := s.benchBal; failsOnce (b.1 + b.2.1 + b.2.2 == 256)) else none
  | 3 => if s.domOn Dom.tally then (let b := s.yardBal; failsOnce (b.1 + b.2.1 + b.2.2 == 4096)) else none
  | 4 => if s.domOn Dom.tally then (let b := s.farBal; failsOnce (b.1 + b.2.1 + b.2.2.1 + b.2.2.2 == 65536)) else none
  | 5 =>
    if s.domOn Dom.ingest then
      failsOnce (s.slotCount .free + s.slotCount .filling + s.slotCount .filled + s.slotCount .loading == 128)
    else none
  | 6 => if s.domOn Dom.egress then failsOnce (s.egrCount .free + s.egrCount .queued + s.egrCount .inflight == 64) else none
  | 7 => if s.descBalOk 0 then none else some 0
  | 8 => if s.domOn Dom.lineio && !s.descBalOk 1 then some 1 else none
  | 9 => if s.domOn Dom.seq then failsOnce (s.pegCount .free + s.pegCount .held + s.pegCount .broken == 32) else none
  | _ => if s.domOn Dom.lineio then failsAt 4 fun m => decide ((s.lio.marks[m]).queue.length ≤ 64) else none

/-- A failed equation (R706): both registers take the bit, and a WARN of source 6 goes out unless the bit stood in either. No
count changes. -/
def State.balFault (s : State) (k : Fin 11) (place : Nat) : State :=
  let b := 2 ^ k.val
  let armed := !s.cp.balFault.getLsbD k && !bitOf (s.fld F.PWR_BAL_FAULT) k
  let s : State := { s with cp := { s.cp with balFault := s.cp.balFault ||| BitVec.ofNat 11 b } }
  let s := s.setReg Reg.PWR_BAL_FAULT (s.reg Reg.PWR_BAL_FAULT ||| BitVec.ofNat 32 b)
  if armed then s.warn 6 [BitVec.ofNat 8 k.val, BitVec.ofNat 8 place] else s

/-- Every equation is evaluated (R706). -/
def State.balCheck (s : State) : State :=
  (List.finRange 11).foldl (fun s k => match s.balFails k with | some p => s.balFault k p | none => s) s

end Sys2Proof.Machine
end

