-- ==== Sys2Proof/Machine/Tick.lean ====
section
/-! DEFINITION. What a step does when no command waits (log 68, log 69): one LCLK edge of a running fabric, in which the
consumers of the hard outputs sample them and the fabric's own elements take their edges (R489, R494, R517), and the audit of
the conserved counts (R706). -/

namespace Sys2Proof.Machine

/-- Byte k of PX_DATA: a routed byte, or byte lane y of the port-B read data of a memory; a lane outside its width reads 0
(R494). -/
def State.pxByte (s : State) (k : Nat) : Byte :=
  if s.bit (F.JIG_XBARk_ROUTED k) then BitVec.ofNat 8 (s.hardNum (.pxRouted k) 8)
  else
    match arrayIdx? 32 (2 * s.fld (F.JIG_XBARk_MEM k) + 1) with
    | some p => BitVec.ofNat 8 (s.portData p / 256 ^ s.fld (F.JIG_XBARk_BYTE k))
    | none => 0

/-- The word on the pixel port (Table 7-1). The fabric names no lane at fault: that is the sensor logic's to tell (log 68). -/
def State.pxWord (s : State) : PixelWord :=
  { valid := s.hardOut .pxValid, data := (List.range (min 32 (s.hardNum .pxNb 6))).map fun k => s.pxByte k
    sol := s.hardOut .pxSol, eol := s.hardOut .pxEol, crcErr := s.hardOut .pxCrcErr, syncLost := s.hardOut .pxSyncLost }

/-- The state of an outcome. -/
def outcomeState (s : State) : Host.Outcome State Fault Refusal → State
  | .next t => t
  | _ => s

/-- The lanes sample their pulses; `p` is the fabric before the edge (R490). -/
def State.laneSample (s p : State) : State :=
  (List.finRange 16).foldl (fun s (j : Fin 16) =>
    let a := p.hardOut (.slip j)
    let b := p.hardOut (.tapUp j)
    let c := p.hardOut (.tapDn j)
    let other := b2n a + b2n b + b2n c != 1
    outcomeState s (if a then execLaneSlip j other s else if b then execLaneTapup j other s else if c then execLaneTapdn j other s
      else .next s)) s

/-- The packer and the ring target port sample their signals. -/
def State.portSample (s p : State) : State :=
  let s := if p.hardOut .pxValid || p.hardOut .pxSyncLost then outcomeState s (execPixelWord p.pxWord s.now s) else s
  if p.hardOut .rtAck then outcomeState s (execJigRtAck (p.hardOut .rtErr) (BitVec.ofNat 32 (p.hardNum .rtRdata 32)) s) else s

/-- One LCLK edge: what the balls and lanes show next is free (log 5). -/
def State.fabTick (s : State) : State :=
  let t := s.now + 1
  let s1 := (s.atT t).laneSample s
  let s2 := s1.portSample s
  let s3 : State := { s2 with freeCtr := s2.freeCtr + 128, jig := { s2.jig with inK := s2.freeCtr, rmNew := false } }
  let s4 := State.fabHalf s s3 (2 * t)
  State.fabHalf s4 s4 (2 * t + 1)

/-- What happens when no command waits (log 1): a running fabric runs on by one LCLK, and the conserved counts are evaluated on
that edge (R706, log 69). -/
def State.idle (s : State) : State :=
  if s.mode = .unpowered then s else (if s.jigRuns then s.fabTick else s).balCheck

end Sys2Proof.Machine
end

