-- ==== Sys2Proof/WellFormed.lean ====
section
/-! DEFINITION. Which commands can be sent at all: operands that no sender of Chapter 3 to 28 can spell are ill-formed. The
meanings are total, so an ill-formed command is taken too; it stands for no event of the device. -/

namespace Sys2Proof

/-- One reading for each of the 96 check monitors (R648). -/
def driftsWf (l : List (Option Int)) : Bool := l.length == 96

/-- A request names a head, or all heads, and its sender is a head (Table 23-3). -/
def busWf (dst src : Byte) : Bool := (dst == 0xFF || decide (dst.toNat < 32)) && decide (src.toNat < 32)

/-- The well-formed commands. -/
def Instr.wf : Instr → Bool
  | .registerWrite a _ => a.toNat % 4 == 0
  | .winGo v => v.getLsbD 0
  | .pixelWord w _ => decide (w.data.length ≤ 32)
  | .thermalReading l => l.length == 8
  | .wearHour l => driftsWf l
  | .bootAttempt _ _ _ f l => driftsWf l && decide (f.toNat % 8 < 6) && !f.getLsbD 3
  | .ladderExitDone _ _ l _ => driftsWf l
  | .memcRequest _ _ fs => fs.all fun p => p.1 % 8 == 0 && decide (1 ≤ p.2)
  | .prsCodeEnd _ amb _ => amb.length == 62
  | .strobeJudge _ isns vsns => isns.length == 80 && vsns.length == 80
  | .stuckOnCheck _ isns => isns.length == 80
  | .busUp dst src _ => busWf dst src
  | .busDown dst src _ => busWf dst src
  | .busStatus dst src _ => busWf dst src
  | .busLogRead dst src _ _ => busWf dst src
  | .busClear dst src _ => busWf dst src
  | .busReservedCmd dst src _ cmd => busWf dst src && (cmd == 0 || cmd == 6 || cmd == 7)
  | .busReply _ _ payload => decide (1 ≤ payload.length ∧ payload.length ≤ 40)
  | .dynMsgDiscard _ msg _ => msg.length == 8
  | _ => true

end Sys2Proof
end

