-- ==== Sys2Proof/Safety.lean ====
section
/-! DEFINITION. What counts as a safe run, in the terms that the statements use: the canonical form of every memory, the
invariants of pegs, tasks and modes, and steps that end in a next state. -/

namespace Sys2Proof.Machine

/-- Every memory and the register file are in canonical form: addresses strictly rising, and no entry equal to what an unlisted
address reads as. -/
def State.memWf (s : State) : Bool :=
  SMap.wf Reg.resetWord s.regs && SMap.wf zeroByte s.seqStore && SMap.wf (memcByte s.memc.lost) s.memc.store &&
    SMap.wf noError s.memc.errs && SMap.wf zeroByte s.ing.store && SMap.wf erasedByte s.flash.store &&
    SMap.wf zeroByte s.jig.mem && SMap.wf zeroByte s.jig.mem0 && SMap.wf erasedByte s.log.store &&
    SMap.wf zeroEnt s.tly.map && SMap.wf (fun _ => 0) s.tly.data

/-- A FREE peg has no owner and a HELD peg has one (R343). -/
def Peg.ok (p : Peg) : Prop := (p.st = .free → p.owner = none) ∧ (p.st = .held → p.owner ≠ none)

/-- Every peg is as R343 says. -/
def State.pegsOk (s : State) : Prop := ∀ p : Fin 32, (s.pegs[p]).ok

/-- At most one task is RUN (R328). -/
def State.oneRun (s : State) : Prop := ∀ m n : Fin 8, s.taskSt[m] = .run → s.taskSt[n] = .run → m = n

/-- A step of a safe run ends in a next state. -/
def State.stepsOn (s : State) : Prop := ∃ t, step s = .next t

end Sys2Proof.Machine
end

