-- ==== Sys2Proof/Certificates/Slice0/Obligations.lean ====
section
/-! DEFINITION. The statements for the provers. A completion statement concludes that the command answers a next state; the
equations `t = { s with … }` say which parts of the state may differ, and the other clauses what the changed parts hold. -/

section
open Sys2Proof Sys2Proof.Machine

/-- The device is at S0, with no ladder movement and no mode transition in progress. -/
def Sys2Proof.Spec.settled (s : State) : Prop := s.transit = none ∧ s.ladder = .s0 ∧ s.phase = .stable

/-- The register file is the old one but for the named addresses. -/
def Sys2Proof.Spec.regsBut (s t : State) (p : Nat → Prop) : Prop := ∀ a, ¬p a → t.reg a = s.reg a

/-- Two memories with the same default agree on every byte outside len bytes from off. -/
def Sys2Proof.Spec.bytesBut (d : Nat → Byte) (m m' : List (Nat × Byte)) (off len : Nat) : Prop :=
  ∀ a, ¬(off ≤ a ∧ a < off + len) → SMap.get d m' a = SMap.get d m a

/-- The command answers a next state, of which a property holds. -/
def Sys2Proof.Spec.runs (c : Instr) (s : State) (p : State → Prop) : Prop := ∃ t, exec c s = .next t ∧ p t

open Sys2Proof.Spec

/-- The state in which a macro-op may start: the bench move issued last has ended, and the head has been looked at. -/
def Sys2Proof.Spec.atStart (s : State) : State := s.benchSettle.trsAdvance 65

/-- A macro-op word is at the head of the Truss queue, ready to start. -/
def Sys2Proof.Spec.ready (s : State) (w : MacroWord) (ws : List MacroWord) : Prop :=
  s.trs.queue = w :: ws ∧ s.trsCanStart w = true

/-- The state in which the head has left the queue and executes, with the rest of the Truss and the planes as given; a LOADL that
is now at the head claims its lines, and far reads are issued for what waits. -/
def Sys2Proof.Spec.started (s : State) (ws : List MacroWord) (x : Exec) (r : Truss) (data : List (Nat × Plane)) : State :=
  State.trsAdvance { s with trs := { r with queue := ws, head := .fresh, exec := some x, edgeStamp := none }
                            tly := { s.tly with data := data } } 65

/-- Field D(k) holds a value in each active PE and is unchanged in the others, as is every other plane. -/
def Sys2Proof.Spec.fieldHas (s t : State) (d k : Nat) (g : Nat → Nat) : Prop :=
  (∀ p : Fin 16384, fieldVal (t.field d k) p = if s.active.getLsbD p then g p % 2 ^ k else fieldVal (s.field d k) p) ∧
  ∀ v : Fin 65536, v.val < d ∨ d + k ≤ v.val → t.plane v = s.plane v

/-- A macro-op that writes D(k) and no flag has started. -/
def Sys2Proof.Spec.wrote (s : State) (w : MacroWord) (ws : List MacroWord) (k : Nat) (x : Exec) (g : Nat → Nat) (t : State) : Prop :=
  t = started s ws x s.trs t.tly.data ∧ fieldHas s t w.d k g

/-- A macro-op that writes D(k) and adds flags has started. -/
def Sys2Proof.Spec.wroteFlags (s : State) (w : MacroWord) (ws : List MacroWord) (k : Nat) (g : Nat → Nat) (ovf divz inv : Nat → Bool)
    (t : State) : Prop :=
  t = started s ws (t.trs.exec.getD {}) { s.trs with ovf := t.trs.ovf, divz := t.trs.divz, inv := t.trs.inv } t.tly.data ∧
  t.trs.exec.map (·.word) = some w ∧ fieldHas s t w.d k g ∧
  ∀ p : Fin 16384, t.trs.ovf.getLsbD p = (s.trs.ovf.getLsbD p || (s.active.getLsbD p && ovf p)) ∧
    t.trs.divz.getLsbD p = (s.trs.divz.getLsbD p || (s.active.getLsbD p && divz p)) ∧
    t.trs.inv.getLsbD p = (s.trs.inv.getLsbD p || (s.active.getLsbD p && inv p))

/-- Task n is the RUN task of a SEQ that is ON, no wait inside an instruction has ended, no preemption and no ABORT is due, and its
next instruction has no repetition prefix, meets no cause of a fault and touches no pending register. -/
def Sys2Proof.Spec.issuesAny (s : State) (n : Fin 8) : Prop :=
  s.settleWaits = s ∧ s.jReady = some n ∧ (s.tasks[n]).abortDue = false ∧ (s.jFetch n).rep = false ∧ (s.jFetch n).cause = 0 ∧
  ∀ r ∈ (s.jFetch n).touches false, (s.tasks[n]).pend.contains r = false

/-- Task n is about to issue the instruction of an opcode. -/
def Sys2Proof.Spec.issues (s : State) (n : Fin 8) (k : Nat) : Prop :=
  issuesAny s n ∧ (s.jFetch n).arr = false ∧ (s.jFetch n).op = some k

/-- The task context after an instruction that has issued: no wait and no repetition, at a preemption point, the PC as given. -/
def Sys2Proof.Spec.past (t : Task) (pc : Nat) : Task :=
  { t with pc := BitVec.ofNat 18 pc, rep := none, wait := .none, snap := none, abortDue := false }

/-- The instruction is done: a value is in its register (none in g0) and the PC is as given; the task is the last to issue. -/
def Sys2Proof.Spec.retire (s : State) (n : Fin 8) (r : Nat) (v : Word) (pc : Nat) : State :=
  { s with cur := n, tasks := s.tasks.set n { past s.tasks[n] pc with
      g := if r = 0 then (s.tasks[n]).g else (s.tasks[n]).g.setIfInBounds r v } }

/-- An instruction with internal steps is done. -/
def Sys2Proof.Spec.finish (s : State) (n : Fin 8) (r : Nat) (v : Word) (pc : Nat) : State :=
  { s with cur := n, tasks := s.tasks.set n { past s.tasks[n] pc with
      steps := 0, g := if r = 0 then (s.tasks[n]).g else (s.tasks[n]).g.setIfInBounds r v } }

/-- An instruction stands at the internal step that it reaches j steps on. -/
def Sys2Proof.Spec.stands (s : State) (n : Fin 8) (j : Nat) : State :=
  { s with cur := n, tasks := s.tasks.set n { past s.tasks[n] (s.tasks[n]).pc.toNat with
      wait := .internal, steps := (s.tasks[n]).steps + j } }

/-- A step is exec of the command at the front of the queue, on the state with the queue's rest; with no command waiting it
is the model's idle step (notes/assumptions/1.md, 68.md, 69.md): nothing at all where the fabric does not run and every
conserved count balances. From: spec/01_system_at_a_glance.md, notes/assumptions/1.md. -/
def Obligations.StepRunsTheFrontCommand : Prop :=
  (∀ (c : Instr) (rest : List Instr) (s : State),
    step { s with pending := c :: rest } = exec c { s with pending := rest }) ∧
  (∀ s : State, s.pending = [] → step s = .next s.idle) ∧
  (∀ s : State, s.pending = [] → s.mode = .unpowered ∨ (s.jigRuns = false ∧ ∀ k : Fin 11, s.balFails k = none) →
    step s = .next s)

/-- No command stops the model: exec answers a next state for every command in every state. From:
spec/02_operating_modes.md, spec/03_control_port.md, notes/assumptions/1.md. -/
def Obligations.EveryCommandAnswersANextState : Prop :=
  ∀ (c : Instr) (s : State), ∃ t, exec c s = .next t

/-- No command takes a command from the queue or adds one. From: spec/01_system_at_a_glance.md,
notes/assumptions/1.md. -/
def Obligations.QueueIsLeftToTheSender : Prop :=
  ∀ (c : Instr) (s t : State), exec c s = .next t → t.pending = s.pending

/-- Right after VAON has risen: SUPERVISE, S0, every domain off, every peg free, no session, registers at their reset
values. From: R34, R35, R36, R88, R343, R349, spec/04_encoder_and_line_trigger.md, spec/05_presence_receiver.md,
spec/20_jig_clocks_and_pins.md, spec/21_serial_ports.md. -/
def Obligations.ResetIsSupervise : Prop :=
  State.reset.mode = .supervise ∧ State.reset.transit = none ∧ State.reset.capture = false ∧
  (∀ d : Fin 76, State.reset.dom[d] = .off) ∧ State.reset.cp.sess.active = false ∧ State.reset.cp.irqStatus = 0 ∧
  State.reset.cp.irqEnable = 0x011 ∧ (∀ p : Fin 32, State.reset.pegs[p] = { st := .free, owner := none, epoch := 0 }) ∧
  (∀ n : Fin 8, State.reset.taskSt[n] = .off) ∧ State.reset.seqStore = [] ∧ State.reset.memc.store = [] ∧
  State.reset.pending = [] ∧ (∀ a : Nat, State.reset.reg a = Reg.resetWord a) ∧
  State.reset.fld F.ENC_TMIN_TMIN = 1000 ∧ State.reset.reg Reg.PRS_THR = 0x717 ∧
  State.reset.reg (Reg.UAn_BAUD 0) = 0x40006 ∧ State.reset.reg (Reg.UAn_BAUD 1) = 0x40036 ∧
  State.reset.reg (Reg.JIG_PINj 24) = 0x23 ∧ State.reset.reg (Reg.JIG_PINj 23) = 0

/-- At reset every memory and the register file are in canonical form, pegs have their owners and no task runs. From:
spec/00_scope.md, notes/assumptions/3.md. -/
def Obligations.MemoriesAreCanonicalAtReset : Prop :=
  State.reset.memWf = true ∧ State.reset.pegsOk ∧ State.reset.oneRun

/-- Every step keeps every memory and the register file in canonical form. From: spec/00_scope.md,
notes/assumptions/3.md. -/
def Obligations.StepsKeepMemoriesCanonical : Prop :=
  ∀ s t : State, s.memWf = true → step s = .next t → t.memWf = true

/-- Every step keeps the ownership of pegs: FREE has no owner, HELD has one. Rules: R343. -/
def Obligations.StepsKeepPegOwnership : Prop :=
  ∀ s t : State, s.pegsOk → step s = .next t → t.pegsOk

/-- Every step keeps at most one task in RUN. Rules: R328, R337. -/
def Obligations.StepsKeepOneRunningTask : Prop :=
  ∀ s t : State, s.oneRun → step s = .next t → t.oneRun

/-- A capture request from SETUP whose preconditions hold is ACCEPTED, logged, and waits for its edge; a request for SETUP from
a capture mode is accepted likewise, and notes the frame that it waits for (notes/assumptions/40.md). Rules: R37, R39, R45, R52,
R71. -/
def Obligations.CaptureRequestIsAccepted : Prop :=
  ∀ (s : State) (m : Mode) (v : Byte), settled s → v.toNat % 8 = m.code.toNat → bitOf v.toNat 7 = true →
    let role := bitOf v.toNat 3 && m == .lockstep
    let tr : Transit := { target := m, role := role, now := bitOf v.toNat 4, by_ := .host, frame := s.openFrame }
    let rec_ (code : Byte) : List Byte := [BitVec.ofNat 8 s.mode.code.toNat, BitVec.ofNat 8 m.code.toNat, code, BitVec.ofNat 8 (b2n role),
      BitVec.ofNat 8 (b2n tr.now)]
    (s.mode = .setup ∧ m.isCapture = true ∧ s.capturePre m role = none) ∨ (s.mode.isCapture = true ∧ m = .setup) →
    (s.cp.sess.active = true → exec (.modeReq v) s = .next { s with
        cp := { s.cp with mrTarget := m.code, mrRole := bitOf v.toNat 3, mrNow := bitOf v.toNat 4, modeResult := { result := 1 } }
        transit := some tr, log := (s.pushLog 0x07 (rec_ 0)).log }) ∧
    (s.plateUp = true → exec (.pwrModeReq (v.zeroExtend 32)) s = .next { s with
        regs := SMap.set Reg.resetWord s.regs 0x10004 (v.zeroExtend 32 &&& 0x1F), joistResult := { result := 1 }
        transit := some { tr with by_ := .joist }, log := (s.pushLog 0x07 (rec_ 1)).log })

/-- A request for LOCKSTEP from LOCKSTEP with a different ROLE is REFUSED_FROM. Rules: R47. -/
def Obligations.LockstepRoleChangeIsRefused : Prop :=
  ∀ (s : State) (v : Byte), s.mode = .lockstep → settled s →
    v.toNat % 8 = 7 → bitOf v.toNat 7 = true → bitOf v.toNat 3 ≠ s.role →
    (s.cp.sess.active = true → runs (.modeReq v) s fun t => t = { s with cp := t.cp } ∧ t.cp.modeResult = { result := 3 } ∧
      t.cp.irqStatus = s.cp.irqStatus ||| 2) ∧
    (s.plateUp = true → runs (.pwrModeReq (v.zeroExtend 32)) s fun t =>
      t = { s with regs := SMap.set Reg.resetWord s.regs 0x10004 (v.zeroExtend 32 &&& 0x1F), joistResult := { result := 3 } })

/-- While a transition is in progress a request for another mode gets BUSY, and so does one on the edge of a caused transition
(notes/assumptions/44.md); a second request for SETUP adds NOW; a transition that Table 2-2 lacks and a request for the mode
held are answered at once; GO clear only stores; no session, no request. Rules: R45, R46, R48, R50, R51, R71. -/
def Obligations.ModeRequestsDuringATransition : Prop :=
  ∀ (s : State) (v : Byte) (tr : Transit), s.mode ≠ .unpowered →
    let st := { s.cp with mrTarget := BitVec.ofNat 3 v.toNat, mrRole := bitOf v.toNat 3, mrNow := bitOf v.toNat 4 }
    let m := Mode.ofCode (v.toNat % 8)
    let answer (res : BitVec 4) : Prop := exec (.modeReq v) s = .next { s with
        cp := { st with modeResult := { result := res }, irqStatus := s.cp.irqStatus ||| 2 } }
    (s.cp.sess.active = false → exec (.modeReq v) s = .next (s.cpError 2)) ∧
    (s.cp.sess.active = true → bitOf v.toNat 7 = false → exec (.modeReq v) s = .next { s with cp := st }) ∧
    (bitOf v.toNat 7 = true → exec (.modeReq v true) s = .next { s with
        cp := { st with modeResult := { result := 5 }, irqStatus := s.cp.irqStatus ||| 2 } }) ∧
    (s.cp.sess.active = true → bitOf v.toNat 7 = true → s.transit = some tr →
      (m ≠ .fallback → m ≠ .supervise → m ≠ .setup → answer 5) ∧
      (m = .setup → tr.target ≠ .setup ∨ bitOf v.toNat 4 = false ∨ tr.now = true → answer 5) ∧
      (m = .setup → tr.target = .setup → bitOf v.toNat 4 = true → tr.now = false → runs (.modeReq v) s fun t =>
        t = { s with cp := { st with modeResult := { result := 1 } }, log := t.log, transit := t.transit } ∧
        t.transit.map (fun x => (x.target, x.now, x.by_)) = some (.setup, true, tr.by_))) ∧
    (s.cp.sess.active = true → bitOf v.toNat 7 = true → settled s → m ≠ s.mode → modePermits s.mode m = false → answer 3) ∧
    (s.cp.sess.active = true → bitOf v.toNat 7 = true → settled s → m = s.mode → m ≠ .lockstep → m ≠ .supervise → answer 2) ∧
    (s.plateUp = true → bitOf v.toNat 7 = false → exec (.pwrModeReq (v.zeroExtend 32)) s = .next { s with
        regs := SMap.set Reg.resetWord s.regs 0x10004 (v.zeroExtend 32 &&& 0x1F) }) ∧
    (s.plateUp = true → bitOf v.toNat 7 = true → exec (.pwrModeReq (v.zeroExtend 32) true) s = .next { s with
        regs := SMap.set Reg.resetWord s.regs 0x10004 (v.zeroExtend 32 &&& 0x1F), joistResult := { result := 5 } })

/-- CAPTURE_ENTRY and CAPTURE_EXIT carry the accepted transition out; a SETUP request without NOW waits for the frame that it
found open, or that opens before its edge (notes/assumptions/40.md). Rules: R35, R37, R38, R39, R40, R100, R102, R145. -/
def Obligations.CaptureStartsAndEnds : Prop :=
  ∀ (s : State) (tr : Transit) (t : Nat), s.transit = some tr → s.lad.modeWait = false → s.memWf = true →
    (s.mode = .setup → tr.target.isCapture = true →
      runs (.captureEntry t) s fun s' =>
        s' = { s with cp := s'.cp, joistResult := s'.joistResult, capture := true, transit := none
                      role := tr.role && tr.target == .lockstep, now := max s.now t, regs := s'.regs, mode := tr.target
                      dyn := s'.dyn, lio := s'.lio, ing := s'.ing, sup := s'.sup, log := s'.log } ∧
        (s.tapActs = false → s'.ing = s.ing ∧ s'.sup = s.sup ∧ s'.log = s.log ∧
          regsBut s s' fun a => a = F.PRS_STAT_GATE_IGN.addr ∨ a = F.ENC_ERR_PHASE.addr) ∧
        (tr.by_ = .host → s'.cp.modeResult = { result := 2 }) ∧ (tr.by_ = .joist → s'.joistResult = { result := 2 }) ∧
        s'.cp.irqStatus.getLsbD 0 = true ∧ s'.lio.divPend = none ∧
        (tr.target = .track ∨ (tr.target = .lockstep ∧ tr.role = false) → s'.lio.hwm = s.trigPos ∧
          s'.lio.acc = if s.fld F.ENC_DIV_PHASE_PHASE < s'.lio.divN then s.fld F.ENC_DIV_PHASE_PHASE else 0) ∧
        s'.lio.ltNext = if tr.target = .freeRun ∧ s.fld F.ENC_LTIMER_LTIMER ≠ 0
          then some (t + s.fld F.ENC_LTIMER_LTIMER) else none) ∧
    (s.mode.isCapture = true → tr.target = .setup → s.frameOver tr = true →
      runs (.captureExit t) s fun s' =>
        s' = { s with mode := .setup, capture := false, transit := none, role := false, now := max s.now t, cp := s'.cp
                      joistResult := s'.joistResult, lio := s'.lio, regs := s'.regs, log := s'.log, ing := s'.ing, trs := s'.trs
                      egr := s'.egr, sup := s'.sup, taskSt := s'.taskSt, joistLadderResult := s'.joistLadderResult
                      phase := s'.phase, rails := s'.rails } ∧
        s'.lio.ltNext = none ∧ s'.lio.divPend = none ∧ (∀ n : Fin 8, s'.lio.stb[n].gate = none ∧ s'.lio.stb[n].due = []) ∧
        (tr.by_ = .host → s'.cp.modeResult = { result := 2 }) ∧ (tr.by_ = .joist → s'.joistResult = { result := 2 }) ∧
        s'.cp.irqStatus.getLsbD 0 = true) ∧
    (s.mode.isCapture = true → tr.target = .setup → s.frameOver tr = false →
      exec (.captureExit t) s = .next (if tr.frame = none then { s with transit := some { tr with frame := s.openFrame } } else s))

/-- VAON's rise enters SUPERVISE, scans the log and loads the rail table; its fall keeps only what is non-volatile. Neither
does anything in the mode that it leads to. Rules: R35, R579, R603, R604, R605, R678, R729. -/
def Obligations.VaonRiseAndFall : Prop :=
  ∀ (s : State) (w : Option (Fin 4)) (held : Bool),
    let cause : List Byte := BitVec.ofNat 8 (s.fld F.CLK_AON_STAT_SRC) :: leBytes (s.log.vaonRises + 1).toNat 2
    let rises : LogRec := { typ := 1, sev := 1, ms := s.aonMs, payload := cause }
    (s.mode = .unpowered ∨ (s.mode = .supervise ∧ s.sup.loaded = false) →
      runs .vaonRise s fun t => t = { s with sup := t.sup, mode := .supervise, log := t.log, rails := t.rails } ∧
        t.sup.loaded = true ∧ t.log.vaonRises = s.log.vaonRises + 1 ∧ t.log.newest = BitVec.ofNat 32 s.logScan ∧
        t.log.store = s.log.store ∧
        (s.log.queue.length < 16 → (s.log.queue ++ [rises]) <+: t.log.queue) ∧
        (16 ≤ s.log.queue.length → t.log.queue = s.log.queue) ∧
        (∀ (es : List RailEntry) (c : Half), s.sup.saved = some (es, c) → tableCrc es = c → ∀ r : Fin 24,
          (t.rails[r]).entry = (s.loadTable es).rails[r].entry)) ∧
    (s.mode ≠ .unpowered → s.mode ≠ .supervise ∨ s.sup.loaded = true → exec .vaonRise s = .next s) ∧
    (s.mode = .unpowered → exec (.vaonFall w held) s = .next s) ∧
    (s.mode ≠ .unpowered → runs (.vaonFall w held) s fun t => t.mode = .unpowered ∧
      t.log.queue = [] ∧ t.cp.sess.active = false ∧ (∀ n : Fin 8, t.taskSt[n] = .off) ∧
      (∀ p : Fin 32, t.pegs[p] = { st := .free, owner := none, epoch := 0 }) ∧ (∀ d : Fin 76, t.dom[d] = .off) ∧ t.regs = [] ∧
      t.sup.saved = s.sup.saved ∧ t.flash.store = s.flash.store ∧ t.wear.mons = s.wear.mons ∧ t.wear.hours = s.wear.hours ∧
      t.wear.lamp = s.wear.lamp ∧ t.wear.eol = s.wear.eol ∧ t.log.boots = s.log.boots ∧ t.log.vaonRises = s.log.vaonRises ∧
      t.otp.prog = none ∧ (s.otp.prog = none → t.otp = { s.otp with hashStage := [] }) ∧
      (w = none ∨ s.log.queue = [] → t.log.store = s.log.store) ∧
      (∀ (k : Fin 4) (r : LogRec) (rs : List LogRec), w = some k → s.log.queue = r :: rs →
        let seq := (s.log.newest + 1).toNat
        let bs := logBytes seq s.log.boots s.log.lostPend r
        t.log.store = SMap.setBytes erasedByte s.log.store (32 * logSlot seq) (if held then bs else tornBytes bs k.val)))

/-- OPEN starts a session at FIELD with the next EPOCH; CLOSE and expiry end it and break HOST's pegs. Rules: R72,
R73, R74, R348. -/
def Obligations.SessionsOpenAndEnd : Prop :=
  ∀ s : State, s.mode ≠ .unpowered →
    (s.cp.sess.active = false → exec .sessOpen s = .next { s with cp := { s.cp with
      sess := { s.cp.sess with active := true, level := .field, expired := false, epoch := s.cp.sess.epoch + 1 } } }) ∧
    (s.cp.sess.active = true → exec .sessOpen s = .next s) ∧ exec .sessKeep s = .next s ∧
    (s.cp.sess.active = true →
      let ended (x : Bool) (t : State) : Prop :=
        t = { s with cp := t.cp, regs := t.regs, pegs := t.pegs, taskSt := t.taskSt, phase := t.phase, sup := t.sup,
                     joistLadderResult := t.joistLadderResult, rails := t.rails, log := t.log } ∧
        t.cp.sess = { s.cp.sess with active := false, level := .field, expired := x } ∧ t.cp.svcChal = [] ∧ t.cp.svcResp = [] ∧
        t.cp.irqStatus = s.cp.irqStatus ||| 8 ∧
        (∀ p : Fin 32, t.pegs[p] = if s.pegs[p].owner = some .host
          then { st := .broken, owner := none, epoch := s.pegs[p].epoch + 1 } else s.pegs[p])
      runs .sessClose s (ended false) ∧ runs .sessionExpiry s (ended true))

/-- The doorbell code is placed and read out; CP_TRANSFER: framing errors, writes of page 0, PAGE from any page, and a
CRC mismatch. Rules: R57, R58, R61, R62, R63, R64, R70, R71, R77, R87. -/
def Obligations.TransfersAndTheDoorbell : Prop :=
  (∀ (s : State) (v : Byte), s.mode ≠ .unpowered →
     (s.cp.doorbellRead = true → exec (.hostDoorbell v) s = .next { s with cp := { s.cp with
       doorbell := v, doorbellRead := false, irqStatus := s.cp.irqStatus ||| 0x80 } }) ∧
     (s.cp.doorbellRead = false → s.cp.cpErr.getLsbD 3 = false → exec (.hostDoorbell v) s = .next { s with cp := { s.cp with
       doorbell := v, doorbellRead := false, cpErr := s.cp.cpErr ||| 8, irqStatus := s.cp.irqStatus ||| 0x180 } }) ∧
     exec .doorbellCodeRead s = .next { s with cp := { s.cp with
       doorbell := 0, doorbellRead := true, sdo := [BitVec.ofNat 8 s.viewStatus, s.cp.doorbell] } }) ∧
  (∀ (s : State) (v c : Byte), s.mode ≠ .unpowered →
     let sdo (n : Nat) (t : State) : State := { t with cp := { t.cp with
       sdo := BitVec.ofNat 8 s.viewStatus :: List.replicate n 0 } }
     exec (.cpTransfer [] false) s = .next s ∧ exec (.cpTransfer [] true) s = .next (s.cpError 1) ∧
     (s.cp.crcEn = false →
       exec (.cpTransfer [0xFF, v] false) s = .next (sdo 1 { s with cp := { s.cp with page := v.truncate 2 } })) ∧
     (s.cp.crcEn = false → s.cp.page = 0 → v ≠ 0 → exec (.cpTransfer [0x91, v] false) s =
       .next (sdo 1 { s with cp := { s.cp with sess := { s.cp.sess with tmo := v } } })) ∧
     (s.cp.crcEn = false → s.cp.page = 2 → s.cp.sess.active = false →
       exec (.cpTransfer [0x85, v] false) s = .next (sdo 1 (s.cpError 2))) ∧
     (s.cp.crcEn = true → crc8 [0x91, 0, v] ≠ c → exec (.cpTransfer [0x91, 0, v, c] false) s = .next (sdo 3 (s.cpError 0))))

/-- GO starts a window access as one request at CTRL, or ends it at once; the response ends it with DONE, CODE, WIN_DATA and the
advance of WIN_ADDR. AUTOINC counts as it stands at GO (notes/assumptions/47.md). Rules: R66, R68, R71, R75, R78, R79, R80, R81,
R82, R84, R89. -/
def Obligations.WindowAccessesStartAndComplete : Prop :=
  (∀ (s : State) (v : Byte) (d : Word), s.mode ≠ .unpowered →
     let w := s.cp.win
     let size : BitVec 2 := v.extractLsb' 2 2
     let w1 := { w with dir := v.getLsbD 1, size := size, autoinc := v.getLsbD 4, wait := v.getLsbD 5, stream := v.getLsbD 6 }
     let a := w.addr.toNat
     let reach : Prop := s.mode ≠ .supervise ∧ s.ladder ≠ .s5
     let go (x : Window) : Window := { x with done := false, busy := true, fDir := x.dir, fSize := x.size, fAuto := x.autoinc,
                                              addrHit := false }
     let sent (x : Window) (dat : Word) (t : State) : Prop := t = { s with cp := t.cp, ni := t.ni } ∧ t.cp.win = x ∧
       t.ni[(0 : Fin 16)].bridge.length = s.ni[(0 : Fin 16)].bridge.length + 1 ∧
       (∃ q, q ∈ t.ni[(0 : Fin 16)].bridge.getLast? ∧ q.dst = Fin.ofNat 16 (a / 2 ^ 32) ∧ q.off = a % 2 ^ 32 ∧
         q.len = winBytes x.size ∧ q.level = s.cp.sess.level ∧ q.client = .window ∧
         q.kind = (if x.dir then .write else .read) ∧ q.data = (if x.dir then leBytes dat.toNat (winBytes x.size) else []))
     let ends (x : Window) (code : BitVec 3) (al : Bool) (t : State) : Prop := t = { s with cp := t.cp } ∧
       t.cp.win = { x with done := true, code := code, align := al } ∧ t.cp.irqStatus = s.cp.irqStatus ||| 4
     (s.cp.sess.active = false → exec (.winGo v) s = .next (s.cpError 2) ∧ exec (.winStreamWrite d) s = .next (s.cpError 2)) ∧
     (s.cp.sess.active = true → reach → w.busy = false → size ≠ 3 → a % winBytes size = 0 →
       runs (.winGo v) s (sent (go w1) s.winStaged)) ∧
     (s.cp.sess.active = true → reach → w.busy = false → size ≠ 3 → a % winBytes size ≠ 0 →
       runs (.winGo v) s (ends w1 3 true)) ∧
     (s.cp.sess.active = true → reach → w.busy = false → size = 3 → runs (.winGo v) s (ends w1 3 w.align)) ∧
     (s.cp.sess.active = true → ¬reach → w.busy = false → runs (.winGo v) s (ends w1 2 w.align)) ∧
     (s.cp.sess.active = true → w.busy = true →
       exec (.winGo v) s = .next { s with cp := { s.cp with win := { w1 with overrun := true } } }) ∧
     (s.cp.sess.active = true → w.stream = true → w.dir = true → reach → w.busy = false → w.size ≠ 3 → a % winBytes w.size = 0 →
       runs (.winStreamWrite d) s (sent (go { w with data := d }) d)) ∧
     (s.cp.sess.active = true → w.stream = false ∨ w.dir = false → runs (.winStreamWrite d) s fun t =>
       t = { s with cp := t.cp } ∧ t.cp.win = { w with data := d } ∧ t.winStaged = d) ∧
     (w.stream = true → w.dir = false → reach → w.busy = false → w.size ≠ 3 → a % winBytes w.size = 0 →
       runs .winStreamRead s (sent (go w) d)) ∧
     (w.stream = false ∨ w.dir = true → exec .winStreamRead s = .next s)) ∧
  (∀ (s : State) (q : RingReq) (r : RingResp),
     s.ni[(0 : Fin 16)].inbox.find? (fun p => p.1.client.isWindow) = some (q, r) → s.cp.win.busy = true →
     let w := s.cp.win
     runs .winComplete s fun t => t = { s with cp := t.cp, ni := t.ni } ∧
       t.ni[(0 : Fin 16)].inbox = s.ni[(0 : Fin 16)].inbox.eraseP (fun p => p.1.client.isWindow) ∧
       t.cp = { s.cp with win := t.cp.win, irqStatus := s.cp.irqStatus ||| 4 } ∧
       t.cp.win.busy = false ∧ t.cp.win.done = true ∧ t.cp.win.code = BitVec.ofNat 3 (respCode r.code) ∧
       (w.fDir = false → r.code = .ok →
         t.cp.win.data = BitVec.ofNat 32 (ofLeBytes (r.data.take (winBytes w.fSize)))) ∧
       (w.fDir = false → r.code ≠ .ok → r.code ≠ .refusedNotag → t.cp.win.data = 0) ∧
       (w.fDir = true ∨ r.code = .refusedNotag → t.cp.win.data = w.data) ∧
       (w.fAuto = true → w.addrHit = false → r.code = .ok → t.cp.win.addr =
         BitVec.ofNat 36 (w.addr.toNat / 2 ^ 32 * 2 ^ 32 + (w.addr.toNat + winBytes w.fSize) % 2 ^ 32)) ∧
       (w.fAuto = false ∨ w.addrHit = true ∨ r.code ≠ .ok → t.cp.win.addr = w.addr))

/-- The service challenge: START, response bytes, SUBMIT, verification, DROP and expiry; with no session the writes are refused.
Rules: R71, R671, R672, R673, R674, R675, R676, R678. -/
def Obligations.ServiceChallenge : Prop :=
  ∀ (s : State) (f : Bool) (v : Byte) (l : Level) (chal resp : List Byte), s.mode ≠ .unpowered →
    let lv : Level := if f then .factory else .service
    let j := s.svcJudge l chal resp
    let cp' (r : Nat) : ControlPort := { s.cp with svcRun := none, svcResult := BitVec.ofNat 4 r }
    let audited (t : State) : Prop := (s.log.queue.length < 16 → ∃ b : List Byte, t.log.queue = s.log.queue ++
      [{ typ := 0x0B, ms := s.aonMs, sev := 1, payload := b }])
    (s.cp.sess.active = false → exec (.svcStart f) s = .next (s.cpError 2) ∧ exec (.svcData v) s = .next (s.cpError 2) ∧
      exec .svcSubmit s = .next (s.cpError 2) ∧ exec .svcDrop s = .next (s.cpError 2)) ∧
    (s.cp.sess.active = true → s.svcLocked = true → exec (.svcStart f) s = .next { s with cp := { s.cp with svcResult := 7 } }) ∧
    (s.cp.sess.active = true → s.svcLocked = false → runs (.svcStart f) s fun t =>
      t = { s with cp := { s.cp with svcChal := t.cp.svcChal, svcLevel := lv, svcResp := [], svcResult := 1 },
                   freeCtr := t.freeCtr } ∧
      t.cp.svcChal.length = 48 ∧ t.cp.svcChal[44]? = some (BitVec.ofNat 8 s.cp.sess.epoch.toNat) ∧
      t.cp.svcChal[45]? = some (if f then 2 else 1)) ∧
    (s.cp.sess.active = true → s.cp.svcResp.length < 128 →
      exec (.svcData v) s = .next { s with cp := { s.cp with svcResp := s.cp.svcResp ++ [v] } }) ∧
    (s.cp.sess.active = true → 128 ≤ s.cp.svcResp.length → exec (.svcData v) s = .next s) ∧
    (s.cp.sess.active = true → exec .svcSubmit s = .next { s with cp := { s.cp with
      svcRun := some (s.cp.svcLevel, s.cp.svcChal, s.cp.svcResp), svcChal := [], svcResult := 2 } }) ∧
    (s.cp.svcRun = none → exec .svcVerifyDone s = .next s) ∧
    (s.cp.svcRun = some (l, chal, resp) → j.1 = 8 → exec .svcVerifyDone s = .next { s with cp := cp' 8 }) ∧
    (s.cp.svcRun = some (l, chal, resp) → j.1 = 3 → runs .svcVerifyDone s fun t =>
      t = { s with cp := { cp' 3 with svcFails := 0, svcKey := j.2, sess := { s.cp.sess with level := l } }, log := t.log } ∧
      audited t) ∧
    (s.cp.svcRun = some (l, chal, resp) → j.1 = 6 → runs .svcVerifyDone s fun t =>
      t = { s with cp := cp' 6, log := t.log } ∧ audited t) ∧
    (s.cp.svcRun = some (l, chal, resp) → j.1 = 4 ∨ j.1 = 5 → runs .svcVerifyDone s fun t =>
      t = { s with cp := { cp' j.1 with svcFails := BitVec.ofNat 8 (min (s.cp.svcFails.toNat + 1) 255), svcFailMs := some s.aonMs }
                   log := t.log } ∧ audited t) ∧
    (s.cp.sess.active = true → s.cp.sess.level = .field → exec .svcDrop s = .next s) ∧
    (s.cp.sess.active = true → s.cp.sess.level ≠ .field → runs .svcDrop s fun t => t = { s with cp := t.cp, log := t.log } ∧
      t.cp = { s.cp with sess := { s.cp.sess with level := .field }, svcKey := 0xFF } ∧ audited t) ∧
    exec .challengeExpiry s = .next { s with cp := { s.cp with svcChal := [] } }

/-- A ladder request for a permitted state waits for quiescence; one not permitted is refused, and so is one while a scribe
holds a domain; S0 at S0 is DONE, one during a mode transition BUSY, a reserved TARGET ignored. Rules: R11, R42, R45, R71, R627,
R691. -/
def Obligations.LadderRequestsAreJudged : Prop :=
  ∀ (s : State) (v : Byte), s.ladder = .s0 → s.phase = .stable → s.mode ≠ .unpowered →
    let t := v.toNat % 8
    let lad := Ladder.ofCode t
    let host (p : LadderPhase) (r d : BitVec 4) : Prop := s.cp.sess.active = true → exec (.ladderReq v) s = .next { s with
      phase := p, cp := { s.cp with lrTarget := BitVec.ofNat 3 t, ladderResult := { result := r, detail := d } } }
    let joist (p : LadderPhase) (r d : BitVec 4) : Prop := s.plateUp = true →
      exec (.pwrLadderReq (v.zeroExtend 32)) s = .next { s with phase := p, joistLadderResult := { result := r, detail := d }
                                                                regs := (s.setReg Reg.PWR_LADDER_REQ (BitVec.ofNat 32 t)).regs }
    (s.cp.sess.active = false → exec (.ladderReq v) s = .next (s.cpError 2)) ∧
    (6 ≤ t → (s.cp.sess.active = true → exec (.ladderReq v) s = .next s) ∧
      (s.plateUp = true → exec (.pwrLadderReq (v.zeroExtend 32)) s = .next s)) ∧
    (t ≤ 5 → bitOf v.toNat 7 = false →
      (s.cp.sess.active = true → exec (.ladderReq v) s = .next { s with cp := { s.cp with lrTarget := BitVec.ofNat 3 t } }) ∧
      (s.plateUp = true → exec (.pwrLadderReq (v.zeroExtend 32)) s = .next { s with
        regs := (s.setReg Reg.PWR_LADDER_REQ (BitVec.ofNat 32 t)).regs })) ∧
    (t ≤ 5 → bitOf v.toNat 7 = true → s.transit ≠ none → host .stable 5 0 ∧ joist .stable 5 0) ∧
    (t ≤ 5 → bitOf v.toNat 7 = true → s.transit = none →
      (1 ≤ t → s.ladPermits lad = true → s.held = [] → host (.waiting lad .host) 1 0 ∧ joist (.waiting lad .joist) 1 0) ∧
      (1 ≤ t → s.ladPermits lad = true → s.held ≠ [] → host .stable 4 1 ∧ joist .stable 4 1) ∧
      (1 ≤ t → s.ladPermits lad = false → host .stable 3 0 ∧ joist .stable 3 0) ∧
      (t = 0 → s.mode.isRun = true ∨ s.mode = .boot ∨ s.mode = .fallback → host .stable 2 0 ∧ joist .stable 2 0) ∧
      (t = 0 → s.mode = .supervise → host .stable 3 0))

/-- At quiescence an entry places every domain as Table 24-3 says; at PWR_QTMO without it the request is refused; a finished
entry shows its state, S5 once its rails are down.
Rules: R619, R620, R625, R627, R630, R632, R638. -/
def Obligations.LadderEntryProceeds : Prop :=
  ∀ (s : State) (g : Ladder) (ns d : Nat), s.memWf = true →
    let enters (t : State) : Prop := t.phase = .entering g .host ∧ t.mode = s.mode ∧ t.ladder = s.ladder ∧
      (∀ x : Fin 76, t.dom[x] =
        if s.dom[x] = .on ∧ s.ladKept g x.val = false then ladDomState g x.val else s.dom[x]) ∧
      (3 ≤ g.code → t.clk.run = false) ∧ t.flash = s.flash ∧ t.otp = s.otp ∧ t.transit = s.transit
    (s.phase = .waiting g .host → s.quiescence g = none → runs .ladderQuiescent s enters ∧ runs .ladderQtmo s enters) ∧
    (s.phase = .waiting g .host → s.quiescence g = some d → exec .ladderQuiescent s = .next s ∧
      (s.trs.queue = [] → exec .ladderQtmo s = .next { s with
        phase := .stable, cp := { s.cp with ladderResult := { result := 4, detail := BitVec.ofNat 4 d } } })) ∧
    (s.phase = .entering g .host → g = .s5 → s.sup.seq = 2 → exec (.ladderEntryDone ns) s = .next s) ∧
    (s.phase = .entering g .host → g ≠ .s5 ∨ s.sup.seq ≠ 2 → runs (.ladderEntryDone ns) s fun t =>
      t = { s with ladder := g, phase := .stable, regs := t.regs, cp := { s.cp with
        ladderResult := { result := 2 }, irqStatus := s.cp.irqStatus ||| 1 } } ∧
      t.fld F.PWR_ENTRY_NS = min ns 0xFFFFFFFF ∧ regsBut s t fun a => a = F.PWR_ENTRY_NS.addr)

/-- The wake timer starts the exit; when the exit is done the domains that left and are not switched off are ON and the ladder is
S0; a wake that fails leaves the ladder where it was (notes/assumptions/45.md), and an image that fails its check ends in BOOT.
Rules: R44, R626, R628, R631, R633. -/
def Obligations.LadderWakesAndExits : Prop :=
  ∀ (s : State) (g : Ladder) (ns : Nat) (image : Bool) (dr : List (Option Int)), s.memWf = true →
    let timed := s.fld F.PWR_WAKE_TIMER ≠ 0 ∧ bitOf (s.reg Reg.PWR_WAKE_EN).toNat 1 = true
    let up := s.clk.run = true ∧ (s.lad.s5Down = [] ∨ ((s.rails[0]).st = .good ∧ (s.rails[1]).st = .good))
    (s.phase = .stable → s.ladder = g → g ≠ .s0 → timed → runs .wakeTimerExpiry s fun t =>
        t = { s with phase := .exiting g .caused, regs := t.regs, rails := t.rails, sup := t.sup } ∧
        (s.lad.s5Down = [] → t.rails = s.rails ∧ t.sup = s.sup) ∧
        t.fld F.PWR_WAKE_SRC = (s.fld F.PWR_WAKE_SRC ||| 2) ∧ regsBut s t fun a => a = F.PWR_WAKE_SRC.addr) ∧
    (s.phase ≠ .stable ∨ s.ladder = .s0 ∨ ¬timed → exec .wakeTimerExpiry s = .next s) ∧
    (s.phase = .exiting g .host → g = .s1 ∨ g = .s2 → up → s.lad.modeWait = false → s.wear.due = false → s.trs.queue = [] →
      runs (.ladderExitDone ns image dr) s fun t =>
        t = { s with phase := .stable, ladder := .s0, dom := t.dom, cp := t.cp, regs := t.regs, tly := t.tly, lio := t.lio,
                     lad := t.lad, egr := t.egr } ∧
        (∀ x : Fin 76, t.dom[x] = if s.lad.left.contains x.val = true ∧ s.domSwitchedOff x.val = false then .on else s.dom[x]) ∧
        t.cp = { s.cp with ladderResult := { result := 2 }, irqStatus := s.cp.irqStatus ||| 1 } ∧
        t.fld F.PWR_EXIT_NS = min ns 0xFFFFFFFF ∧ t.lad.left = [] ∧
        (s.bit F.PRS_CFG_EN = false → s.lio.prs.running = false → t.lio = s.lio ∧ regsBut s t fun a => a = F.PWR_EXIT_NS.addr)) ∧
    (s.phase = .exiting g .host → ¬up → exec (.ladderExitDone ns image dr) s = .next s) ∧
    (s.phase = .exiting g .host → g = .s1 ∨ g = .s2 → s.lad.modeWait = false → exec (.ladderExitDone ns image dr true) s = .next { s with
        phase := .stable, ladder := g, cp := { s.cp with ladderResult := { result := 4, detail := 6 } } }) ∧
    (s.phase = .exiting g .host → g = .s4 ∨ g = .s5 → up → s.lad.modeWait = false → s.transit = none →
      runs (.ladderExitDone ns false dr) s fun t =>
        t.mode = .boot ∧ t.ladder = .s0 ∧ t.phase = .stable ∧ t.transit = none ∧ t.sup.attempt = true ∧
        t.log.boots = s.log.boots + 1 ∧ t.flash = s.flash ∧ t.otp = s.otp ∧ t.wear = s.wear ∧ t.pending = s.pending)

/-- PWR_DOM_OFF, TILE_ON, SILL_DRAINED and PWR_RESUME_BASE: what is permitted takes effect, the rest sets PWR_ERR.
Rules: R617, R618, R624, R633, R758. -/
def Obligations.DomainsAreSwitched : Prop :=
  ∀ (s : State) (w : Fin 3) (x : Fin 64) (v : Word), s.memWf = true → s.trs.queue = [] → s.trs.exec = none →
    let only (a : Nat) (t : State) : Prop := t = { s with regs := t.regs } ∧ regsBut s t fun b => b = a
    let b := getBits v 21 11
    let fits := b * 2 ^ 21 + 2 ^ 21 ≤ s.memcCap ∧
      ¬(s.fld F.TLY_FAR_BASE_BASE * 2 ^ 27 < b * 2 ^ 21 + 2 ^ 21 ∧ b * 2 ^ 21 < s.fld F.TLY_FAR_BASE_BASE * 2 ^ 27 + 2 ^ 27)
    (s.phase ≠ .stable → s.mode ≠ .unpowered → runs (.pwrDomOffWrite w v) s fun t =>
      only F.PWR_ERR_BUSY.addr t ∧ t.bit F.PWR_ERR_BUSY = true) ∧
    (s.phase = .stable → s.mode ≠ .unpowered → runs (.pwrDomOffWrite w v) s fun t => ∀ d : Fin 76,
      t.domSwitchedOff d.val = if d.val / 32 = w.val ∧ s.domMayChange d.val (bitOf v.toNat (d.val % 32)) = true
        then bitOf v.toNat (d.val % 32) else s.domSwitchedOff d.val) ∧
    (s.phase = .stable → s.mode.isCapture = true → s.reg Reg.PWR_DOM_OFF_C = 0 → s.held = [] →
      (∀ n : Fin 64, s.domSwitchedOff n.val = false) → runs (.pwrDomOffWrite 2 0x20) s fun t =>
      only F.PWR_ERR_DOM_REFUSED.addr t ∧ t.bit F.PWR_ERR_DOM_REFUSED = true) ∧
    (s.mode = .unpowered → exec (.pwrDomOffWrite w v) s = .next s) ∧
    (s.phase = .stable → s.mode = .setup → s.reg Reg.PWR_DOM_OFF_C = 0 → s.held = [] →
      (∀ n : Fin 64, s.domSwitchedOff n.val = false) → runs (.pwrDomOffWrite 2 0x20) s fun t =>
      t.dom = s.dom.set 69 .off ∧ t.reg Reg.PWR_DOM_OFF_C = 0x20 ∧
      t = { s with dom := t.dom, regs := t.regs, rsnaps := t.rsnaps, egr := t.egr, lanes := t.lanes, storeBufs := t.storeBufs }) ∧
    (s.phase = .stable → s.ladder = .s0 → s.domOn Dom.truss = true → s.tileOn x = false → s.tileDown x.val = false →
      runs (.tileOn x) s fun t => t = { s with dom := t.dom, trs := t.trs, tly := t.tly, regs := t.regs } ∧
        (regsBut s t fun a => a = Reg.TRS_GOR_TILES_LO ∨ a = Reg.TRS_GOR_TILES_HI) ∧
        t.dom = s.dom.set (x.castLE (by decide : 64 ≤ 76)) .on ∧
        t.trs.a = (s.trs.a &&& ~~~tilePlane x.val) ||| tilePlane x.val) ∧
    (s.domSwitchedOff 75 = true → s.domOn Dom.sill = true → s.sillBusy = false →
      exec .sillDrained s = .next { s with dom := s.dom.set 75 .off }) ∧
    (s.plateUp = true → s.mode = .setup → fits → runs (.pwrResumeBaseWrite v) s fun t =>
      only F.PWR_RESUME_BASE_BASE.addr t ∧ t.fld F.PWR_RESUME_BASE_BASE = b ∧ t.bit F.PWR_RESUME_BASE_VALID = true) ∧
    (s.plateUp = true → ¬(s.mode = .setup ∧ fits) → runs (.pwrResumeBaseWrite v) s fun t =>
      only F.PWR_ERR_RESUME.addr t ∧ t.bit F.PWR_ERR_RESUME = true)

/-- A change of ENC_TRIG_CFG.SEL during capture is refused for SEL alone. Rules: R756. -/
def Obligations.TriggerConfigWrites : Prop :=
  ∀ (s : State) (v : Word), s.memWf = true → s.domOn Dom.lineio = true →
    let sel := getBits v 0 2
    (s.capture = true → sel ≠ s.fld F.ENC_TRIG_CFG_SEL → runs (.encTrigCfgWrite v) s fun t =>
      t = { s with regs := t.regs } ∧ t.fld F.ENC_TRIG_CFG_SEL = s.fld F.ENC_TRIG_CFG_SEL ∧ t.bit F.ENC_ERR_SEL = true ∧
      t.fld F.ENC_TRIG_CFG_EXPO_POL = getBits v 2 1 ∧ t.lio.hwm = s.lio.hwm ∧ t.lio.acc = s.lio.acc ∧
      regsBut s t fun a => a = F.ENC_TRIG_CFG_SEL.addr ∨ a = F.ENC_ERR_SEL.addr) ∧
    (s.capture = false ∨ sel = s.fld F.ENC_TRIG_CFG_SEL → runs (.encTrigCfgWrite v) s fun t =>
      t = { s with regs := t.regs, dyn := t.dyn } ∧ t.fld F.ENC_TRIG_CFG_SEL = sel ∧
      t.fld F.ENC_TRIG_CFG_EXPO_POL = getBits v 2 1 ∧ regsBut s t fun a => a = F.ENC_TRIG_CFG_SEL.addr)

/-- ENCn_POS_HI loads the position, and the high-water mark of the encoder that triggers select, unless capture
refuses it. Rules: R97. -/
def Obligations.EncoderPresets : Prop :=
  ∀ (s : State) (n : Fin 3) (v : Word), s.memWf = true → s.domOn Dom.lineio = true →
    let pos : Pos := BitVec.ofNat 48 (s.fld (F.ENCn_POS_LO n) + 2 ^ 32 * getBits v 0 16)
    let sel := s.fld F.ENC_TRIG_CFG_SEL = n.val
    (sel → s.capture = true → runs (.encPosPreset n v) s fun t => t = { s with regs := t.regs } ∧
      t.bit F.ENC_ERR_PRESET = true ∧ regsBut s t fun a => a = F.ENC_ERR_PRESET.addr) ∧
    (¬(sel ∧ s.capture = true) → runs (.encPosPreset n v) s fun t => t = { s with lio := { s.lio with enc := t.lio.enc, hwm := t.lio.hwm } } ∧
      (∀ m : Fin 3, t.lio.enc[m] =
        if m = n then { s.lio.enc[n] with pos := pos, prevPos := pos, zSeen := false } else s.lio.enc[m]) ∧
      t.lio.hwm = if s.fld F.ENC_TRIG_CFG_SEL = n.val then pos else s.lio.hwm)

/-- Encoder levels, the Z latch, counts, speed and the divider pair. Rules: R91, R92, R93, R94, R95, R96, R106. -/
def Obligations.EncodersCountAndMeasure : Prop :=
  ∀ (s : State) (n : Fin 3) (i : EncInput) (l : Bool) (h t : Nat) (v : Word), s.memWf = true →
    s.domOn Dom.lineio = true →
    let e := s.lio.enc[n]
    let runs' := s.lio.counting = true ∧ s.encBalls n = true
    let d : Int := if s.bit (F.ENCn_CFG_INV_DIR n) then -e.dir else e.dir
    let m := getBits v 0 24
    let bad := s.fld F.ENC_DIV_N_N = 0 ∨ m = 0 ∨ s.fld F.ENC_DIV_N_N < m
    let syn : Encoder := { e with synA := e.accA, synB := e.accB }
    let one := (e.accA != e.synA) != (e.accB != e.synB)
    (runs' → s.tapActs = false → e.acc i ≠ l → 0 < h → h < s.fld (F.ENCn_CFG_FILT n) → runs (.encLevelAccept n i l h) s fun x =>
      x = { s with regs := x.regs, lio := { s.lio with enc := s.lio.enc.set n { e with glitchSince := true } } } ∧
      x.fld (F.ENCn_GLITCH n) = (s.fld (F.ENCn_GLITCH n) + 1) % 2 ^ (F.ENCn_GLITCH n).w ∧
      regsBut s x fun a => a = (F.ENCn_GLITCH n).addr) ∧
    (runs' → s.tapActs = false → e.acc i ≠ l → 0 < h → s.fld (F.ENCn_CFG_FILT n) ≤ h →
      i ≠ .z ∨ l = false ∨ s.bit (F.ENCn_CFG_Z_EN n) = false →
      exec (.encLevelAccept n i l h) s = .next { s with lio := { s.lio with enc := s.lio.enc.set n (e.setAcc i l) } }) ∧
    (runs' → s.tapActs = false → e.accZ = false → 0 < h → s.fld (F.ENCn_CFG_FILT n) ≤ h → s.bit (F.ENCn_CFG_Z_EN n) = true →
      runs (.encLevelAccept n .z true h) s fun x =>
        x = { s with regs := x.regs
                     lio := { s.lio with enc := s.lio.enc.set n { e with accZ := true, zSeen := true, zLatch := e.pos } } } ∧
        x.reg (Reg.ENCn_ZPOS n) = e.pos.truncate 32 ∧
        x.bit (F.ENCn_STAT_ZERR n) = (s.bit (F.ENCn_STAT_ZERR n) ||
          (e.zSeen && s.fld (F.ENCn_ZCPR n) != 0 && (posDiff e.pos e.zLatch).natAbs != s.fld (F.ENCn_ZCPR n)))) ∧
    (¬runs' ∨ s.tapActs = true ∨ e.acc i = l ∨ h = 0 → exec (.encLevelAccept n i l h) s = .next s) ∧
    (runs' → e.accA ≠ e.synA → e.accB ≠ e.synB → runs (.encCount n t) s fun x =>
      x = { s with now := max s.now t, regs := x.regs, lio := { s.lio with enc := s.lio.enc.set n syn } } ∧
      x.fld (F.ENCn_QERR n) = (s.fld (F.ENCn_QERR n) + 1) % 2 ^ (F.ENCn_QERR n).w ∧
      regsBut s x fun a => a = (F.ENCn_QERR n).addr) ∧
    (runs' → one = true → e.counted (s.fld (F.ENCn_CFG_DECODE n)) = false →
      exec (.encCount n t) s = .next { s with now := max s.now t, lio := { s.lio with enc := s.lio.enc.set n syn } }) ∧
    (runs' → one = true → e.counted (s.fld (F.ENCn_CFG_DECODE n)) = true →
      let pos := e.pos + BitVec.ofInt 48 d
      s.capture = false ∨ s.fld F.ENC_TRIG_CFG_SEL ≠ n.val ∨ posDiff pos s.lio.hwm ≤ 0 →
      exec (.encCount n t) s = .next { s with now := max s.now t, lio := { s.lio with enc := s.lio.enc.set n { syn with
        pos := pos, prevPos := e.pos, countT := t, msCount := e.msCount + d } } }) ∧
    (¬runs' ∨ (e.accA = e.synA ∧ e.accB = e.synB) → exec (.encCount n t) s = .next s) ∧
    (s.lio.counting = true → runs .encSpeedSample s fun x => x = { s with regs := x.regs, lio := { s.lio with enc := x.lio.enc } } ∧
      x.fld (F.ENCn_SPEED n) = (BitVec.ofInt 24 e.msCount).toNat ∧ x.lio.enc[n].msCount = 0 ∧ x.lio.enc[n].pos = e.pos ∧
      x.lio.enc[n].prevSpeed = some e.msCount) ∧
    (s.lio.counting = false → exec .encSpeedSample s = .next s) ∧
    (bad → runs (.encDivMWrite v) s fun x => x = { s with regs := x.regs } ∧ x.bit F.ENC_ERR_DIV = true ∧
      regsBut s x fun a => a = F.ENC_ERR_DIV.addr) ∧
    (¬bad → runs (.encDivMWrite v) s fun x => x.fld F.ENC_DIV_M_M = m ∧ (regsBut s x fun a => a = F.ENC_DIV_M_M.addr) ∧
      x = { s with regs := x.regs, lio := if s.capture then { s.lio with divPend := some (s.fld F.ENC_DIV_N_N, m) }
        else { s.lio with divN := s.fld F.ENC_DIV_N_N, divM := m } })

/-- In FREE-RUN the line timer issues triggers, with the position before any count of their edge; EXPO asserts for its
scheduled interval and deasserts at its end. ENC_EXPO_W is read at the trigger (notes/assumptions/53.md).
Rules: R23, R24, R102, R103, R107, R144, R146, R167. -/
def Obligations.LineTimerAndExposure : Prop :=
  (∀ (s : State) (e t : Nat) (v : Word), s.memWf = true →
     let per := getBits v 0 24
     let next : Option Nat := if per = 0 then none else some (max (s.lio.ltBase + per) (t + 1))
     let num := s.reg Reg.ENC_LINE_NUM + 1
     let only (x : State) : Prop := x = { s with
       now := max s.now e, trs := x.trs, ing := x.ing, sup := x.sup, joistLadderResult := x.joistLadderResult, cp := x.cp
       dyn := s.dyn, phase := x.phase, egr := x.egr, lio := x.lio, log := x.log, regs := x.regs, rails := x.rails
       taskSt := x.taskSt }
     (s.mode = .freeRun → s.capture = true → s.lio.ltNext = some e → s.lio.prs.gateOn = false → s.ing.pend.length < 16 →
       s.tooClose e = false → runs .lineTimerTrigger s fun x => only x ∧
         x.reg Reg.ENC_LINE_NUM = num ∧ x.lio.lastTrig = some e ∧ x.lio.prevTrig = s.lio.lastTrig ∧
         x.lio.ltNext = some (e + s.fld F.ENC_LTIMER_LTIMER) ∧
         x.ing.pend.map (fun p => (p.num, p.pos, p.t)) =
           s.ing.pend.map (fun p => (p.num, p.pos, p.t)) ++ [(num, s.trigPosBefore e, e)] ∧
         x.lio.expos = s.lio.expos ++ [{ line := num, start := e + s.fld F.ENC_EXPO_DLY_DLY
                                         stop := e + s.fld F.ENC_EXPO_DLY_DLY + s.fld F.ENC_EXPO_W_W }] ∧
         x.ing.store = s.ing.store) ∧
     (s.mode = .freeRun → s.capture = true → s.lio.ltNext = some e → s.lio.prs.gateOn = false → s.tooClose e = true →
       runs .lineTimerTrigger s fun x => only x ∧
         x.reg Reg.ENC_LINE_NUM = num ∧ x.lio.ltNext = some (e + s.fld F.ENC_LTIMER_LTIMER) ∧ x.lio.expos = s.lio.expos ∧
         x.fld F.ENC_SKIP_CNT = (s.fld F.ENC_SKIP_CNT + 1) % 2 ^ F.ENC_SKIP_CNT.w ∧ x.bit F.ENC_STAT_SKIPPED = true) ∧
     (s.mode ≠ .freeRun ∨ s.capture = false ∨ s.lio.ltNext = none → exec .lineTimerTrigger s = .next s) ∧
     (s.domOn Dom.lineio = true → runs (.ltimerWrite v t) s fun x =>
       x = { s with now := max s.now t, regs := x.regs
                    lio := if s.mode = .freeRun then { s.lio with ltNext := next } else s.lio } ∧
       x.fld F.ENC_LTIMER_LTIMER = per ∧ regsBut s x fun a => a = F.ENC_LTIMER_LTIMER.addr)) ∧
  (∀ (s : State) (e : Expo) (rest : List Expo), s.memWf = true →
     (s.domOn Dom.lineio = true → expoFirst s.lio.expos = some (e, rest) → runs .expoStart s fun t =>
       t.lio.expos = rest ∧ t.lio.expoOn = true ∧
       t.lio.expoEnd = (if s.lio.expoOn then max s.lio.expoEnd e.stop else e.stop) ∧
       (∀ n : Fin 8, t.lio.stb[n].iset = BitVec.ofNat 10 (s.fld (F.STBn_ISET n)) ∧ t.lio.stb[n].w = s.fld (F.STBn_W n) ∧
         t.lio.stb[n].ofs = s.fld (F.STBn_OFS n)) ∧
       t = { s with sup := t.sup, now := max s.now e.start, regs := t.regs, log := t.log, ing := t.ing, lio := t.lio }) ∧
     (s.lio.expoOn = true → s.dyn.gPending = none →
       exec .expoEnd s = .next { s with now := max s.now s.lio.expoEnd, lio := { s.lio with expoOn := false } }) ∧
     (s.lio.expoOn = false → exec .expoEnd s = .next s))

/-- MARK outputs: queueing, firing, immediate pulses, the GOR_N path and the end of a pulse. A push finds the queue without an
entry that is due on its edge; each pulse counts in FIRED and takes POL at its start (notes/assumptions/51.md). Rules: R28, R108,
R109, R110, R111, R112, R116, R755. -/
def Obligations.MarkOutputs : Prop :=
  ∀ (s : State) (m : Fin 4) (v : Word) (t : Nat) (e : MarkEntry) (q : List MarkEntry), s.memWf = true →
    s.domOn Dom.lineio = true →
    let x := s.lio.marks[m]
    let others (y : State) : Prop := ∀ k : Fin 4, k ≠ m → y.lio.marks[k] = s.lio.marks[k]
    let pulse (w n : Nat) (y : Mark) : Prop := y.out = true ∧ y.pol = s.bit (F.MARKm_CFG_POL m) ∧
      y.endT = (if x.out ∧ n ≤ x.endT then max x.endT (n + w * s.markTick m) else n + w * s.markTick m)
    let fired (y : State) : Prop := y.fld (F.MARKm_FIRED m) = (s.fld (F.MARKm_FIRED m) + 1) % 2 ^ (F.MARKm_FIRED m).w
    let new : MarkEntry := { target := BitVec.ofNat 48 (s.fld (F.MARKm_Q_LO m) + 2 ^ 32 * getBits v 0 16)
                             width := BitVec.ofNat 16 (getBits v 16 16) }
    let due := s.lioRuns = true ∧ ∃ e ∈ x.queue.head?, 0 ≤ posDiff (s.markPos m) e.target
    (s.mode ≠ .fallback → ¬due → x.queue.length < 64 → runs (.markQueuePush m v) s fun y =>
      y = { s with lio := { s.lio with marks := y.lio.marks } } ∧ others y ∧ y.lio.marks[m].queue = x.queue ++ [new] ∧
      y.lio.marks[m].out = x.out) ∧
    (s.mode ≠ .fallback → ¬due → 64 ≤ x.queue.length → runs (.markQueuePush m v) s fun y => y = { s with regs := y.regs } ∧
      y.fld (F.MARKm_FULL_DROP m) = (s.fld (F.MARKm_FULL_DROP m) + 1) % 2 ^ (F.MARKm_FULL_DROP m).w ∧
      regsBut s y fun a => a = (F.MARKm_FULL_DROP m).addr) ∧
    (due → x.queue = e :: q → q.length < 64 → runs (.markQueuePush m v) s fun y =>
      y = { s with regs := y.regs, lio := { s.lio with marks := y.lio.marks } } ∧ others y ∧
      y.lio.marks[m].queue = q ++ [new] ∧ (e.width ≠ 0 → pulse e.width.toNat s.now y.lio.marks[m] ∧ fired y)) ∧
    (s.mode = .fallback → runs (.markQueuePush m v) s (fun y => y = { s with regs := y.regs } ∧
        y.fld (F.MARKm_DISCARD m) = (s.fld (F.MARKm_DISCARD m) + 1) % 2 ^ (F.MARKm_DISCARD m).w) ∧
      runs (.markNow m v t) s (fun y => y = { s with now := max s.now t, regs := y.regs } ∧
        y.fld (F.MARKm_DISCARD m) = (s.fld (F.MARKm_DISCARD m) + 1) % 2 ^ (F.MARKm_DISCARD m).w)) ∧
    (due → x.queue = e :: q → runs (.markQueueFire m t) s fun y =>
      y = { s with now := max s.now t, regs := y.regs, lio := { s.lio with marks := y.lio.marks } } ∧ others y ∧
      y.lio.marks[m].queue = q ∧ (e.width ≠ 0 → pulse e.width.toNat t y.lio.marks[m] ∧ fired y) ∧
      (e.width = 0 → y.lio.marks[m].out = x.out)) ∧
    (¬due → exec (.markQueueFire m t) s = .next s) ∧
    (s.mode ≠ .fallback → runs (.markNow m v t) s fun y =>
      y = { s with now := max s.now (t + 2), regs := y.regs, lio := { s.lio with marks := y.lio.marks } } ∧ others y ∧
      y.lio.marks[m].queue = x.queue ∧
      (getBits v 0 16 ≠ 0 → pulse (getBits v 0 16) (t + 2) y.lio.marks[m] ∧ fired y) ∧
      (getBits v 0 16 = 0 → y.lio.marks[m] = x)) ∧
    (s.lioRuns = true → s.tapActs = false → runs (.gorNFall t) s fun y =>
      y = { s with now := max s.now t, regs := y.regs, lio := { s.lio with marks := y.lio.marks } } ∧
      (s.bit (F.MARKm_CFG_GOR_EN m) = true → s.fld (F.MARKm_CFG_GOR_SRC m) = 1 → s.fld (F.MARKm_CFG_GOR_W m) ≠ 0 →
        pulse (s.fld (F.MARKm_CFG_GOR_W m)) t y.lio.marks[m] ∧ fired y) ∧
      (s.bit (F.MARKm_CFG_GOR_EN m) = false ∨ s.fld (F.MARKm_CFG_GOR_SRC m) ≠ 1 ∨ s.fld (F.MARKm_CFG_GOR_W m) = 0 →
        y.lio.marks[m] = x)) ∧
    (s.tapActs = true → exec (.gorNFall t) s = .next s) ∧
    (x.out = true → exec (.markPulseEnd m) s = .next { s with now := max s.now x.endT
                                                              lio := { s.lio with marks := s.lio.marks.set m { x with out := false } } }) ∧
    (x.out = false → exec (.markPulseEnd m) s = .next s)

/-- A presence code is correlated, classed and applied; the receiver's registers take what is in range. The next period's
configuration is the one written by its start. Rules: R123, R124, R125, R126, R129, R130, R137, R138, R139. -/
def Obligations.PresenceCodes : Prop :=
  ∀ (s : State) (prx : BitVec 496) (amb : List (BitVec 10)) (t : Nat) (v : Word), s.memWf = true → s.domOn Dom.lineio = true →
    let p := s.lio.prs
    let c := prsCorr prx (getBits p.cfg 13 5)
    let seen := (BitVec.ofNat 6 (getBits p.thr 0 6)).toInt
    let gone := (BitVec.ofNat 6 (getBits p.thr 8 6)).toInt
    let sense := bitOf p.cfg.toNat 1
    let on := p.running = true ∧ (p.next.getD s.prsWritten).1.getLsbD 0 = true
    let ready := on ∧ p.discard = false ∧ s.ballFixed 34 = true ∧ s.prsCause prx amb = 0
    let keeps (x : State) : Prop := x = { s with now := max s.now t, regs := x.regs, lio := { s.lio with prs := x.lio.prs } } ∧
      x.lio.prs.running = true
    let now (cause : Nat) (x : State) : Prop := keeps x ∧ x.fld F.PRS_CORR_C = (BitVec.ofInt 6 c).toNat ∧
      x.fld F.PRS_CORR_CAUSE = cause
    let valid (st : Bool) (x : State) : Prop :=
      let len := if p.run.len = 0 ∨ p.run.present ≠ st then 1 else p.run.len + 1
      let new : PrsState := if st then .present else .absent
      x.fld F.PRS_STAT_INVALID = 0 ∧ x.bit F.PRS_STAT_BLINDED = false ∧ x.lio.prs.invRun = 0 ∧ x.lio.prs.run.len = len ∧
        x.lio.prs.run.present = st ∧ x.lio.prs.st = if getBits p.cfg 9 4 ≤ len then new else p.st
    let invalid (x : State) : Prop := x.lio.prs.invRun = p.invRun + 1 ∧
      (p.invRun < getBits p.cfg 5 4 → x.lio.prs.st = p.st ∧ x.lio.prs.run = p.run) ∧
      (p.invRun = getBits p.cfg 5 4 → x.bit F.PRS_STAT_FORCED = true ∧ x.lio.prs.st =
        if getBits p.cfg 3 2 = 0 then .present else if getBits p.cfg 3 2 = 1 then .absent else p.st)
    let only (a : Nat) (x : State) : Prop :=
      x = { s with regs := x.regs, lio := { s.lio with prs := { p with next := x.lio.prs.next } } } ∧ regsBut s x fun b => b = a
    let thrOk := (BitVec.ofNat 6 (getBits v 8 6)).toInt < (BitVec.ofNat 6 (getBits v 0 6)).toInt
    let cfgOk := getBits v 9 4 ≠ 0 ∧ getBits v 13 5 ≠ 0 ∧ getBits v 3 2 ≠ 3
    (ready → seen ≤ c → runs (.prsCodeEnd prx amb t) s fun x => now 0 x ∧ valid sense x) ∧
    (ready → c < seen → c ≤ gone → runs (.prsCodeEnd prx amb t) s fun x => now 0 x ∧ valid (!sense) x) ∧
    (ready → c < seen → gone < c → runs (.prsCodeEnd prx amb t) s fun x => now 0 x ∧ invalid x ∧
      x.fld F.PRS_WEAK_CNT = (s.fld F.PRS_WEAK_CNT + 1) % 2 ^ F.PRS_WEAK_CNT.w) ∧
    (on → p.discard = false → s.ballFixed 34 = true → s.prsCause prx amb ≠ 0 → runs (.prsCodeEnd prx amb t) s fun x =>
      now (s.prsCause prx amb) x ∧ invalid x ∧ x.bit F.PRS_STAT_BLINDED = true ∧
      x.fld F.PRS_BLIND_CNT = (s.fld F.PRS_BLIND_CNT + 1) % 2 ^ F.PRS_BLIND_CNT.w) ∧
    (on → p.discard = true → runs (.prsCodeEnd prx amb t) s fun x => keeps x ∧ x.regs = s.regs ∧ x.lio.prs.st = p.st ∧
      x.lio.prs.run = p.run ∧ x.lio.prs.invRun = p.invRun) ∧
    (p.running = true → ¬on → runs (.prsCodeEnd prx amb t) s fun x =>
      x = { s with now := max s.now t, regs := x.regs, lio := { s.lio with prs := x.lio.prs } } ∧
      x.lio.prs.running = false ∧ x.lio.prs.st = .unknown) ∧
    (p.running = false → exec (.prsCodeEnd prx amb t) s = .next s) ∧
    (3200 ≤ getBits v 0 12 → runs (.prsCfgWrite .lag v) s fun x => only F.PRS_ERR_LAG.addr x ∧ x.bit F.PRS_ERR_LAG = true) ∧
    (getBits v 0 12 < 3200 → runs (.prsCfgWrite .lag v) s fun x => only Reg.PRS_LAG x ∧ x.reg Reg.PRS_LAG = v &&& 0xFFF) ∧
    (thrOk → runs (.prsCfgWrite .thr v) s fun x => only Reg.PRS_THR x ∧ x.reg Reg.PRS_THR = v &&& 0x3F3F) ∧
    (¬thrOk → runs (.prsCfgWrite .thr v) s fun x => only F.PRS_ERR_THR.addr x ∧ x.bit F.PRS_ERR_THR = true) ∧
    (¬cfgOk → runs (.prsCfgWrite .cfg v) s fun x => x = { s with lio := { s.lio with prs := { p with next := x.lio.prs.next } } }) ∧
    (cfgOk → runs (.prsCfgWrite .cfg v) s fun x =>
      x = { s with regs := x.regs, lio := { s.lio with prs := x.lio.prs } } ∧ x.reg Reg.PRS_CFG = v &&& 0x7FFFFF ∧
      x.lio.prs.running = (s.lioRuns && (p.running || v.getLsbD 0)))

/-- Strobe pulses: start, skips, judgement, end, the stuck-on check and the test pulse. A pulse takes SETTLE and its reference at
its start (notes/assumptions/58.md). Rules: R144, R145, R147, R148, R149, R150, R157, R158, R160, R163. -/
def Obligations.StrobePulses : Prop :=
  ∀ (s : State) (n : Fin 8) (line : Word) (t : Nat) (due : List (Word × Nat)) (p : Pulse) (v : Word) (isns vsns : List Nat),
    s.memWf = true →
    let c := s.lio.stb[n]
    let off := s.stbPinOff n = true ∨ s.ilk = true
    let settle := s.fld (F.STBn_SETTLE n)
    let others (x : State) : Prop := ∀ k : Fin 8, k ≠ n → x.lio.stb[k] = s.lio.stb[k]
    let plus (x : State) (f : Fld) : Prop := x.fld f = (s.fld f + 1) % 2 ^ f.w
    let counted (x : State) : Prop := plus x (F.STBn_PULSES n) ∧ regsBut s x fun a => a = (F.STBn_PULSES n).addr
    let alone (x : State) : Prop :=
      x = { s with now := x.now, regs := x.regs, lio := { s.lio with stb := x.lio.stb } } ∧ others x
    let warns (x : State) : Prop :=
      x = { s with now := x.now, regs := x.regs, lio := { s.lio with stb := x.lio.stb }, sup := x.sup, log := x.log, ing := x.ing } ∧
        others x
    let judged := c.gate = some p ∧ p.judged = false ∧ p.settle + 80 ≤ p.len
    let flt := s.fld (F.STBn_CFG_FLT_CNT n)
    (c.due = (line, t) :: due → ¬off → s.bit (F.STBn_STAT_DISABLED n) = false → c.gate = none →
      runs (.strobePulseStart n) s fun x => alone x ∧ x.now = max s.now t ∧ counted x ∧
      x.lio.stb[n] = { c with due := due, stuckDue := none, dac := c.iset, ref := c.iset.toNat * s.fld (F.STBn_CFG_IFRAC n)
                              gate := some { kind := .normal, line := line, start := t, len := c.w, settle := settle, cnt := t } }) ∧
    (c.due = (line, t) :: due → off → runs (.strobePulseStart n) s fun x =>
      x = { s with now := max s.now t, regs := x.regs, lio := { s.lio with stb := x.lio.stb }, ing := x.ing } ∧ others x ∧
      plus x (F.STBn_SKIP n) ∧ x.lio.stb[n] = { c with due := due }) ∧
    (c.due = (line, t) :: due → ¬off → s.bit (F.STBn_STAT_DISABLED n) = true →
      exec (.strobePulseStart n) s = .next { s with now := max s.now t, lio := { s.lio with stb := s.lio.stb.set n { c with due := due } } }) ∧
    (c.due = (line, t) :: due → ¬off → s.bit (F.STBn_STAT_DISABLED n) = false → c.gate = some p →
      runs (.strobePulseStart n) s fun x =>
        x = { s with now := max s.now t, regs := x.regs, lio := { s.lio with stb := x.lio.stb }, ing := x.ing } ∧ others x ∧
        plus x (F.STBn_SKIP n) ∧ x.bit (F.STBn_STAT_OVERLAP n) = true ∧ x.lio.stb[n] = { c with due := due }) ∧
    (c.due = [] → exec (.strobePulseStart n) s = .next s) ∧
    (s.domOn Dom.lineio = true → getBits v 0 1 = 1 → s.mode = .setup → s.bit (F.STBn_STAT_DISABLED n) = false → ¬off → c.gate = none →
      runs (.stbTest n v t) s fun x => alone x ∧ x.now = max s.now t ∧ counted x ∧
      x.lio.stb[n].gate = some { kind := .test, start := t, len := s.fld (F.STBn_W n), settle := settle, cnt := t }) ∧
    (s.domOn Dom.lineio = true → getBits v 0 1 = 1 → s.mode ≠ .setup ∨ s.bit (F.STBn_STAT_DISABLED n) = true →
      runs (.stbTest n v t) s fun x => x = { s with now := max s.now t, regs := x.regs } ∧ x.bit (F.STBn_STAT_TEST_REFUSED n) = true ∧
        regsBut s x fun a => a = (F.STBn_STAT_TEST_REFUSED n).addr) ∧
    (judged → 60 ≤ isnsAbove c.ref isns → vsnsBelow (s.fld (F.STBn_LIM_VSHORT n)) vsns < 60 → s.stbFault n = false →
      runs (.strobeJudge n isns vsns) s fun x => alone x ∧ x.now = max s.now (p.start + p.settle + 80) ∧
      x.lio.stb[n].gate = some { p with judged := true } ∧ x.lio.stb[n].openRun = 0 ∧ x.lio.stb[n].shortRun = 0 ∧
      x.fld (F.STBn_STAT_UNV n) = 0 ∧ x.fld (F.STBn_STAT_WAIT n) = 0 ∧ x.bit (F.STBn_STAT_PROOF_PEND n) = false ∧
      x.bit (F.STBn_STAT_LAMP_UNVERIFIED n) = false) ∧
    (judged → isnsAbove c.ref isns < 60 → runs (.strobeJudge n isns vsns) s fun x => warns x ∧
      x.lio.stb[n].openRun = c.openRun + 1 ∧ x.lio.stb[n].shortRun = 0 ∧
      x.bit (F.STBn_STAT_OPEN n) = (s.bit (F.STBn_STAT_OPEN n) || decide (flt ≤ c.openRun + 1))) ∧
    (judged → 60 ≤ isnsAbove c.ref isns → 60 ≤ vsnsBelow (s.fld (F.STBn_LIM_VSHORT n)) vsns →
      runs (.strobeJudge n isns vsns) s fun x => warns x ∧
      x.lio.stb[n].openRun = 0 ∧ x.lio.stb[n].shortRun = c.shortRun + 1 ∧
      x.bit (F.STBn_STAT_SHORT n) = (s.bit (F.STBn_STAT_SHORT n) || decide (flt ≤ c.shortRun + 1))) ∧
    (c.gate = none ∨ (c.gate = some p ∧ (p.judged = true ∨ p.len < p.settle + 80)) →
      exec (.strobeJudge n isns vsns) s = .next s) ∧
    (c.gate = some p → p.settle + 80 ≤ p.len → s.dyn.gPending = none → s.fld (F.WR_LAMPn_RATED n) = 0 →
      runs (.strobePulseEnd n) s fun x => alone x ∧ x.now = max s.now (p.start + p.len) ∧ x.regs = s.regs ∧
      x.lio.stb[n] = { c with gate := none, stuckDue := some (p.start + p.len), dac := c.restDac
                              rem := (c.rem + (p.start + p.len - p.cnt)) % 400
                              ontime := c.ontime + BitVec.ofNat 48 ((c.rem + (p.start + p.len - p.cnt)) / 400) }) ∧
    (c.gate = some p → p.len < p.settle + 80 → s.dyn.gPending = none → s.fld (F.WR_LAMPn_RATED n) = 0 →
      runs (.strobePulseEnd n) s fun x => alone x ∧ x.lio.stb[n].gate = none ∧
      x.fld (F.STBn_STAT_UNV n) = min (s.fld (F.STBn_STAT_UNV n) + 1) (2 ^ (F.STBn_STAT_UNV n).w - 1)) ∧
    (c.gate = none → exec (.strobePulseEnd n) s = .next s) ∧
    (c.stuckDue = some t → s.domOn Dom.lineio = true → s.mode ≠ .fallback → s.stbPinOff n = false →
      runs (.stuckOnCheck n isns) s fun x => warns x ∧ x.now = max s.now (t + settle + 80) ∧ x.lio.stb[n].stuckDue = none ∧
      x.lio.stb[n].gate = c.gate ∧
      x.bit (F.STBn_STAT_STUCK_ON n) = (s.bit (F.STBn_STAT_STUCK_ON n) || decide (60 ≤ isnsAbove c.ref isns))) ∧
    (c.stuckDue = none → exec (.stuckOnCheck n isns) s = .next s)

/-- Proof pulses after a guarded window, the interlock, and a preset of a channel's on-time. Rules: R152, R153, R154,
R157, R158. -/
def Obligations.ProofPulsesAndInterlock : Prop :=
  ∀ (s : State) (n : Fin 8) (t g : Nat) (w : Nat × Nat) (ws : List (Nat × Nat)) (v : Word), s.memWf = true → s.domOn Dom.lineio = true →
    let c := s.lio.stb[n]
    let settle := s.fld (F.STBn_SETTLE n)
    let r := winJoin w.1 w.2 ws
    let ended : State := { s with lio := { s.lio with wins := r.2, winStart := r.1.1, winEnd := r.1.2 } }
    let cnt := s.fld (F.STBn_ONTIME_LO n) + 2 ^ 32 * getBits v 0 16
    (s.lio.wins = w :: ws → (∀ e ∈ s.lio.expos, r.1.2 < e.start) → runs .guardedWindowEnd s fun x =>
      x.lio.wins = r.2 ∧ x.lio.winStart = r.1.1 ∧ x.lio.winEnd = r.1.2 ∧ x.now = max s.now r.1.2 ∧
      (s.mode.isCapture = false ∨ s.bit (F.STBn_STAT_PROOF_PEND n) = false → x.lio.stb[n] = c) ∧
      (s.mode.isCapture = true → s.bit (F.STBn_STAT_PROOF_PEND n) = true → c.proofAt = none → s.stbPinOff n = false → s.ilk = false →
        (s.bit (F.STBn_STAT_DISABLED n) = false → ended.predictedGap = some g → settle + 480 ≤ g → 200 ≤ s.lio.notice →
          x.lio.stb[n] = { c with proofAt := some (r.1.2 + 200), dac := if c.gate.isSome then c.dac else c.proofDac }) ∧
        (s.bit (F.STBn_STAT_DISABLED n) = true ∨ ended.predictedGap = none ∨ s.lio.notice < 200 →
          x.fld (F.STBn_STAT_WAIT n) = min (s.fld (F.STBn_STAT_WAIT n) + 1) (2 ^ (F.STBn_STAT_WAIT n).w - 1))) ∧
      x = { s with sup := x.sup, now := x.now, regs := x.regs, log := x.log, ing := x.ing, lio := x.lio }) ∧
    (s.lio.wins = [] ∨ (s.lio.wins = w :: ws ∧ ∃ e ∈ s.lio.expos, e.start ≤ r.1.2) → exec .guardedWindowEnd s = .next s) ∧
    (c.proofAt = some t → s.stbPinOff n = false → s.ilk = false → s.bit (F.STBn_STAT_DISABLED n) = false → s.mode.isCapture = true →
      c.gate = none → exec (.proofPulseStart n) s = .next { s with
      now := max s.now t, lio := { s.lio with stb := s.lio.stb.set n { c with
        proofAt := none, stuckDue := none, dac := c.proofDac, ref := c.proofDac.toNat * s.fld (F.STBn_CFG_IFRAC n)
        gate := some { kind := .proof, start := t, len := settle + 80, settle := settle, cnt := t } } } }) ∧
    (c.proofAt = some t → s.stbPinOff n = true ∨ s.ilk = true → runs (.proofPulseStart n) s fun x =>
      x = { s with now := max s.now t, regs := x.regs, lio := { s.lio with stb := x.lio.stb } } ∧
      x.lio.stb[n].gate = c.gate ∧ x.lio.stb[n].proofAt = none ∧
      x.fld (F.STBn_SKIP n) = (s.fld (F.STBn_SKIP n) + 1) % 2 ^ (F.STBn_SKIP n).w) ∧
    (c.proofAt = none → exec (.proofPulseStart n) s = .next s) ∧
    (s.lio.ilkLow = false → s.tapActs = false → runs (.ilkAssert t) s fun x => x.lio.ilkLow = true ∧
      (∀ k : Fin 8, x.lio.stb[k].gate = none) ∧
      (s.ilkWatched = true → x.bit F.STB_GSTAT_ILK_EV = true ∧
        x.fld F.STB_ILK_CNT = (s.fld F.STB_ILK_CNT + 1) % 2 ^ F.STB_ILK_CNT.w) ∧
      x = { s with sup := x.sup, now := max s.now t, regs := x.regs, log := x.log, ing := x.ing, lio := x.lio }) ∧
    (s.lio.ilkLow = false → s.tapActs = true →
      exec (.ilkAssert t) s = .next { s with now := max s.now t, lio := { s.lio with ilkLow := true } }) ∧
    (s.lio.ilkLow = true → exec (.ilkAssert t) s = .next s) ∧
    exec (.ilkRelease t) s = .next { s with now := max s.now t, lio := { s.lio with ilkLow := false } } ∧
    (s.fld (F.WR_LAMPn_RATED n) = 0 → runs (.ontimeHiWrite n v) s fun x => x = { s with lio := { s.lio with stb := x.lio.stb } } ∧
      (∀ k : Fin 8, k ≠ n → x.lio.stb[k] = s.lio.stb[k]) ∧
      (c.gate = none → x.lio.stb[n] = { c with ontime := BitVec.ofNat 48 cnt }) ∧
      (∀ p ∈ c.gate, x.lio.stb[n].gate = some { p with cnt := max p.cnt s.now } ∧
        x.lio.stb[n].rem = (c.rem + (s.now - p.cnt)) % 400 ∧
        x.lio.stb[n].ontime = BitVec.ofNat 48 (cnt + b2n (decide (p.cnt < s.now) && (c.rem + (s.now - p.cnt)) % 400 == 0))))

/-- Pixel words: a line starts on the oldest trigger's slot, takes its bytes, and ends; late triggers are missing, but for one
that pairs on its last edge. Rules: R26, R165, R166, R167, R168, R169, R172, R173, R189. -/
def Obligations.PixelWordsMakeLines : Prop :=
  ∀ (s : State) (w : PixelWord) (t k : Nat) (p : Trig) (ps : List Trig), s.memWf = true →
    let on := s.domOn Dom.ingest = true ∧ s.bit F.ING_CFG_EN = true
    let companded := s.bit F.ING_CFG_CMP_EN
    let wide := s.bit F.ING_CFG_DEPTH16 && !companded
    let only (x : State) : Prop := x = { s with now := max s.now t, ing := x.ing }
    let intime := ∀ x ∈ s.ing.pend, t ≤ x.t + x.ltmo
    (on → s.receiving = false → w.valid = true → w.sol = true → w.eol = false → s.ing.pend = p :: ps → intime →
      s.findSlot wide = some k →
      runs (.pixelWord w t) s fun x => only x ∧ x.ing.pend = ps ∧ x.ing.slots[k]? = some .filling ∧
        x.ing.lastSlot = (if wide then k + 1 else k) ∧ x.receiving = true ∧
        (∀ j : Fin 128, j.val ≠ k → (wide = true → j.val ≠ k + 1) → x.ing.slots[j] = s.ing.slots[j]) ∧
        x.ing.filling = s.ing.filling ++ [{ trig := p, slot := k, wide := wide, companded := companded, bytes := w.data.take 32
                                            syncLost := w.syncLost
                                            laneErr := w.laneErr &&& BitVec.ofNat 16 (s.fld F.ING_LANES) }]) ∧
    (on → s.receiving = false → w.valid = true → w.sol = true → w.eol = false → s.ing.pend = [] → runs (.pixelWord w t) s fun x =>
      x = { s with now := max s.now t, regs := x.regs } ∧ x.fld F.ING_ORPHAN = (s.fld F.ING_ORPHAN + 1) % 2 ^ F.ING_ORPHAN.w ∧
      regsBut s x fun a => a = F.ING_ORPHAN.addr) ∧
    (on → s.receiving = true → (∀ f ∈ s.ing.filling, f.ended = false → t < f.trig.t + f.trig.ltmo) → w.valid = true → w.sol = false →
      runs (.pixelWord w t) s fun x => only x ∧
      x.ing.filling.map (fun f => f.bytes) =
        s.ing.filling.map (fun f => if f.ended then f.bytes else f.bytes ++ w.data.take 32) ∧
      x.receiving = !w.eol) ∧
    (¬on → exec (.pixelWord w t) s = .next { s with now := max s.now t }) ∧
    (s.domOn Dom.ingest = true → s.ing.pend = p :: ps → p.t + p.ltmo ≤ t → (∀ x ∈ ps, t < x.t + x.ltmo) →
      runs (.ltmoExpiry t) s fun x => x.ing.pend = ps ∧
      x.fld F.ING_MISSING = (s.fld F.ING_MISSING + 1) % 2 ^ F.ING_MISSING.w ∧ x.ing.store = s.ing.store ∧
      x = { s with joistLadderResult := x.joistLadderResult, phase := x.phase, sup := x.sup, taskSt := x.taskSt, now := max s.now t,
                   regs := x.regs, egr := x.egr, cp := x.cp, trs := x.trs, ing := x.ing, rails := x.rails }) ∧
    (s.domOn Dom.ingest = true → intime → runs (.ltmoExpiry t true) s fun x => only x ∧ x.ing.pend = s.ing.pend ∧
      x.ing.filling.map (fun f => (f.bytes, f.ended, f.cut)) = s.ing.filling.map (fun f =>
        if f.ended = false ∧ f.trig.t + f.trig.ltmo ≤ t then (f.bytes, true, true) else (f.bytes, f.ended, f.cut)))

/-- SLOT_FILLED writes an ended line and its header to its slot, and a waiting LOADL claims it; LDWAIT completes a waiting
burst, after a line that becomes FILLED on that edge. Rules: R170, R171, R172, R174, R175, R176, R181, R189. -/
def Obligations.LinesBecomeFilled : Prop :=
  ∀ (s : State) (f : Filling) (fs : List Filling) (l : Loadl), s.memWf = true →
    let px := f.pixels (s.ing.cmp.getD [])
    let fill := s.fld F.ING_CFG_FILL
    let narrow := (px.take 16384).map (BitVec.ofNat 8) ++ List.replicate (64 - px.length) (BitVec.ofNat 8 (fill % 256))
    let wide := (px.take 16384 ++ List.replicate (64 - px.length) fill).flatMap fun x => leBytes x 2
    let stored := if f.wide then wide else narrow
    let due : Prop := s.domOn Dom.ingest = true ∧ s.ing.filling = f :: fs ∧ f.ended = true ∧ f.slot + b2n f.wide < 128 ∧
      (f.wide = true → f.slot % 2 = 0)
    let mine (k : Fin 128) : Prop := k.val = f.slot ∨ (f.wide = true ∧ k.val = f.slot + 1)
    (due → s.trs.loadl = none → runs .slotFilled s fun t =>
      t = { s with joistLadderResult := t.joistLadderResult, phase := t.phase, sup := t.sup, taskSt := t.taskSt, regs := t.regs
                   egr := t.egr, cp := t.cp, ing := t.ing, rails := t.rails } ∧
      t.ing.filling = fs ∧ t.ing.pend = s.ing.pend ∧
      (∀ k : Fin 128, (mine k → t.ing.slots[k] = .filled) ∧ (¬mine k → t.ing.slots[k] = s.ing.slots[k])) ∧
      SMap.getBytes zeroByte t.ing.store (f.slot * 16384) stored.length = stored ∧
      t.ing.hdr[f.slot]?.map (fun h => (h.num, h.pos, h.time, h.frame)) =
        some (f.trig.num, f.trig.pos, f.trig.time, f.trig.frame) ∧
      t.ing.hdr[f.slot]?.map (fun h => (h.npix, h.depth16, h.rxLen, h.laneErr)) =
        some (BitVec.ofNat 15 (max 64 (min 16384 px.length)), f.wide, BitVec.ofNat 32 px.length, f.laneErr)) ∧
    (f.wide = false → f.companded = false → px = f.bytes.map (·.toNat)) ∧
    (due → s.trs.loadl = some l → l.complete = false → l.frame = none ∨ l.frame = some f.trig.frame →
      (∀ k : Fin 128, s.ing.slots[k] ≠ .filled) → runs .slotFilled s fun t =>
        t.trs.loadl.map (fun x => (x.frame, x.claimed)) = some (some f.trig.frame, l.claimed ++ [(f.slot, f.wide)]) ∧
        (l.b ≤ l.claimed.length + 1 → t.trs.loadl.map (·.complete) = some true) ∧
        t = { s with joistLadderResult := t.joistLadderResult, phase := t.phase, sup := t.sup, taskSt := t.taskSt, regs := t.regs
                     egr := t.egr, cp := t.cp, ing := t.ing, rails := t.rails, trs := { s.trs with loadl := t.trs.loadl } } ∧
        ∀ k : Fin 128, (mine k → t.ing.slots[k] = .loading) ∧ (¬mine k → t.ing.slots[k] = s.ing.slots[k])) ∧
    (s.trs.loadl = some l → l.complete = false → runs .ldwaitExpiry s fun t =>
      t = { s with regs := t.regs, ing := { s.ing with frames := t.ing.frames }
                   trs := { s.trs with loadl := some { l with complete := true } } } ∧
      t.bit F.ING_STAT_STARVED = true ∧ t.fld F.ING_STARVE_CNT = (s.fld F.ING_STARVE_CNT + 1) % 2 ^ F.ING_STARVE_CNT.w) ∧
    (s.trs.loadl = none ∨ (s.trs.loadl = some l ∧ l.complete = true) → exec .ldwaitExpiry s = .next s) ∧
    (due → s.trs.loadl = some l → l.complete = false → l.frame = none ∨ l.frame = some f.trig.frame →
      (∀ k : Fin 128, s.ing.slots[k] ≠ .filled) → l.b ≤ l.claimed.length + 1 → exec (.ldwaitExpiry true) s = exec .slotFilled s)

/-- ING_CFG and the companding table: what takes effect and what sets ING_ERR. A LOADL that waits at the head is judged again
with the new width. Rules: R178, R191, R234, R757. -/
def Obligations.IngestSettings : Prop :=
  ∀ (s : State) (v : Word), s.memWf = true → s.domOn Dom.ingest = true →
    let only (a : Nat) (t : State) : Prop := t = { s with regs := t.regs } ∧ regsBut s t fun b => b = a
    let en (t : State) : Prop := t.fld F.ING_CFG_EN = getBits v 0 1 ∧ t.fld F.ING_CFG_FILL = getBits v 16 16
    let same : Prop := getBits v 1 1 = s.fld F.ING_CFG_DEPTH16 ∧ getBits v 2 1 = s.fld F.ING_CFG_CMP_EN
    let table : Prop := bitOf v.toNat 2 = false ∨ s.ing.cmp ≠ none
    let empty : Prop := s.mode = .setup ∧ s.slotCount .free = 128
    (s.ing.filling = [] → empty → table → runs (.ingCfgWrite v) s fun t =>
      t = { s with regs := t.regs, trs := { s.trs with head := if s.trs.loadl.isSome ∧ ¬same then .fresh else s.trs.head } } ∧
      regsBut s t (· = F.ING_CFG_EN.addr) ∧ en t ∧
      t.fld F.ING_CFG_DEPTH16 = getBits v 1 1 ∧ t.fld F.ING_CFG_CMP_EN = getBits v 2 1) ∧
    (s.ing.filling = [] → same → table → runs (.ingCfgWrite v) s fun t => only F.ING_CFG_EN.addr t ∧ en t ∧
      t.fld F.ING_CFG_DEPTH16 = s.fld F.ING_CFG_DEPTH16 ∧ t.fld F.ING_CFG_CMP_EN = s.fld F.ING_CFG_CMP_EN) ∧
    (s.ing.filling = [] → ¬empty → ¬same → table → runs (.ingCfgWrite v) s fun t =>
      t = { s with regs := t.regs } ∧ (regsBut s t fun b => b = F.ING_CFG_EN.addr ∨ b = F.ING_ERR_CFG.addr) ∧ en t ∧
      t.bit F.ING_ERR_CFG = true ∧ t.fld F.ING_CFG_DEPTH16 = s.fld F.ING_CFG_DEPTH16 ∧
      t.fld F.ING_CFG_CMP_EN = s.fld F.ING_CFG_CMP_EN) ∧
    (¬table → runs (.ingCfgWrite v) s fun t => t.bit F.ING_ERR_CMP = true ∧ en t ∧ t.ing.cmp = s.ing.cmp ∧
      (empty → t.fld F.ING_CFG_CMP_EN = 0)) ∧
    (getBits v 0 1 = 1 → s.capture = true → runs (.cmpCommit v) s fun t => only F.ING_ERR_CFG.addr t ∧ t.bit F.ING_ERR_CFG = true) ∧
    (getBits v 0 1 = 1 → s.capture = false → cmpValid s.cmpStaged = false → runs (.cmpCommit v) s fun t =>
      only F.ING_ERR_CMP.addr t ∧ t.bit F.ING_ERR_CMP = true) ∧
    (getBits v 0 1 = 1 → s.capture = false → cmpValid s.cmpStaged = true → runs (.cmpCommit v) s fun t =>
      t = { s with regs := t.regs, ing := { s.ing with cmp := some s.cmpStaged } } ∧
      t.fld F.ING_CMP_MAXERR = cmpMaxErr s.cmpStaged % 2 ^ F.ING_CMP_MAXERR.w ∧ regsBut s t fun a => a = F.ING_CMP_MAXERR.addr) ∧
    (getBits v 0 1 = 0 → exec (.cmpCommit v) s = .next s)

/-- A valid companding table codes every 12-bit value in 8 bits, within its largest error. Rules: R178, R179. -/
def Obligations.CompandingErrorIsBounded : Prop :=
  ∀ (segs : List (Nat × Nat)) (x : Nat), cmpValid segs = true → x < 4096 →
    let y := cmpCode x 0 (segs.zip (cmpUppers segs))
    y < 256 ∧ ∃ b sh up o, ((b, sh), up) ∈ segs.zip (cmpUppers segs) ∧ b ≤ x ∧ x < up ∧ o ≤ y ∧ y < o + (up - b) / 2 ^ sh ∧
      (cmpReconstruct b sh o y ≤ x + cmpHalf sh ∧ x ≤ cmpReconstruct b sh o y + cmpHalf sh) ∧ cmpHalf sh ≤ cmpMaxErr segs

/-- The field macro-ops write their exact result in the active PEs, and nothing in any other PE or plane. From: R195,
R227, R230, R247, R250, R251, R252, Table 10-1. -/
def Obligations.MacroOpsWriteTheirFields : Prop :=
  ∀ (u : State) (w : MacroWord) (ws : List MacroWord), u.memWf = true →
    let s := atStart u
    ready s w ws →
    let a (p : Nat) := fieldVal (s.field w.s1 w.n) p
    let b (p : Nat) := fieldVal (s.field w.s2 w.n) p
    let bm (p : Nat) := fieldVal (s.field w.s2 w.m) p
    let cc (x y : Nat) : Bool := match w.f with
      | 0 => decide (x = y) | 1 => decide (x ≠ y) | 2 => decide (x < y) | 3 => decide (y ≤ x)
      | 4 => decide (toSigned w.n x < toSigned w.n y) | _ => decide (toSigned w.n y ≤ toSigned w.n x)
    let k := maxOver s.active (fun p => bitLen (bm p)) 16384
    let ks := maxOver s.active (fun p => bitLen (toSigned w.m (bm p)).natAbs) 16384
    let mulCyc (k : Nat) : Nat := 4 + (w.m - k) + (w.n + 1) * k
    let at_ (q : Nat) : Nat := if s.tileMask.getLsbD q then a q else 0
    (w.op = 0x01 → runs .arrMov u (wrote s w ws w.n { word := w, cyc := 2 + w.n } a)) ∧
    (w.op = 0x02 → runs .arrBool u (wrote s w ws w.n { word := w, cyc := 2 + w.n } fun p =>
      ((List.range w.n).map fun i => if w.f.testBit (2 * (a p / 2 ^ i % 2) + b p / 2 ^ i % 2) then 2 ^ i else 0).sum)) ∧
    (w.op = 0x03 → runs .arrSetc u (wrote s w ws w.n { word := w, cyc := 2 + w.n } fun _ => w.w2.toNat)) ∧
    (w.op = 0x04 → runs .arrShl u (wrote s w ws w.n { word := w, cyc := 2 + w.n } fun p => a p <<< w.x)) ∧
    (w.op = 0x05 → runs .arrShr u (wrote s w ws w.n { word := w, cyc := 2 + w.n } fun p => a p >>> w.x)) ∧
    (w.op = 0x06 → runs .arrSar u (wrote s w ws w.n { word := w, cyc := 2 + w.n } fun p =>
      ofSigned w.n (toSigned w.n (a p) / 2 ^ w.x))) ∧
    (w.op = 0x08 → runs .arrNbr u (wrote s w ws w.n { word := w, cyc := 2 + w.n } fun p =>
      match nbrSource w.opt (s.fld F.TRS_ARR_CFG_CHAIN_LEN) p with | .pe q => at_ q | .zero => 0)) ∧
    (w.op = 0x0D → runs .arrIdx u (wrote s w ws w.n { word := w, cyc := 2 + w.n } fun p =>
      match w.f with | 0 => peChain p | 1 => peRow p | 2 => peCol p | _ => p / 256)) ∧
    (w.op = 0x10 → runs .arrAdd u (wrote s w ws w.n { word := w, cyc := 3 + w.n } fun p => a p + b p)) ∧
    (w.op = 0x11 → runs .arrSub u (wrote s w ws w.n { word := w, cyc := 3 + w.n } fun p => a p + 2 ^ w.n - b p)) ∧
    (w.op = 0x12 → runs .arrCmp u (wrote s w ws 1 { word := w, cyc := 3 + w.n } fun p => if cc (a p) (b p) then 1 else 0)) ∧
    (w.op = 0x14 → runs .arrMulu u (wrote s w ws (w.n + w.m) { word := w, cyc := mulCyc k, scan := some (false, k) } fun p =>
      a p * bm p)) ∧
    (w.op = 0x15 → runs .arrMuls u (wrote s w ws (w.n + w.m)
      { word := w, cyc := mulCyc ks + 2 * (w.n + w.m), scan := some (false, ks) } fun p =>
      ofSigned (w.n + w.m) (toSigned w.n (a p) * toSigned w.m (bm p)))) ∧
    (w.op = 0x16 → runs .arrMula u (wrote s w ws (w.n + w.m)
      { word := w, cyc := mulCyc k - w.x * k / 2, scan := some (false, k) } fun p =>
      ((List.range w.m).map fun j => if (bm p).testBit j then (a p >>> (w.x - j)) <<< (w.x - j) <<< j else 0).sum))

/-- Divisions and CVTF write the results of Tables 10-2 and 10-3 in the active PEs and add the flags of their PEs.
Rules: R253, R254, R255, R256, R257, R258, R262. -/
def Obligations.DivisionAndImportSetFlags : Prop :=
  ∀ (u : State) (w : MacroWord) (ws : List MacroWord), u.memWf = true →
    let s := atStart u
    ready s w ws →
    let x (p : Nat) := fieldVal (s.field w.s1 w.n) p
    let y (p : Nat) := fieldVal (s.field w.s2 w.m) p
    let a (p : Nat) := toSigned w.n (x p)
    let b (p : Nat) := toSigned w.m (y p)
    let least (p : Nat) : Bool := decide (a p = -(2 ^ (w.n - 1)) ∧ b p = -1)
    let cv (p : Nat) := cvtf w.n w.x (fieldVal (s.field w.s1 32) p)
    (w.op = 0x18 → runs .arrDivu u (wroteFlags s w ws w.n (fun p => if y p = 0 then 2 ^ w.n - 1 else x p / y p)
      (fun _ => false) (fun p => y p == 0) (fun _ => false))) ∧
    (w.op = 0x1A → runs .arrRemu u (wroteFlags s w ws w.m (fun p => if y p = 0 then x p else x p % y p)
      (fun p => y p == 0 && decide (2 ^ w.m ≤ x p)) (fun p => y p == 0) (fun _ => false))) ∧
    (w.op = 0x19 → runs .arrDivs u (wroteFlags s w ws w.n (fun p =>
        if y p = 0 then (if 0 ≤ a p then 2 ^ (w.n - 1) - 1 else 2 ^ (w.n - 1))
        else if least p then 2 ^ (w.n - 1) else ofSigned w.n ((a p).tdiv (b p)))
      (fun p => y p != 0 && least p) (fun p => y p == 0) (fun _ => false))) ∧
    (w.op = 0x1B → runs .arrRems u (wroteFlags s w ws w.m (fun p =>
        if y p = 0 then ofSigned w.m (a p) else if least p then 0 else ofSigned w.m ((a p).tmod (b p)))
      (fun p => if y p = 0 then decide (a p < -(2 ^ (w.m - 1)) ∨ (2 ^ (w.m - 1) : Int) ≤ a p) else least p)
      (fun p => y p == 0) (fun _ => false))) ∧
    (w.op = 0x30 → runs .arrCvtf u (wroteFlags s w ws w.n (fun p => (cv p).1) (fun p => (cv p).2.1) (fun _ => false)
      (fun p => (cv p).2.2.1)))

/-- Activity, flag, global-OR, count and token macro-ops. Rules: R196, R197, R205, R207, R231, R232, R262. -/
def Obligations.ActivityReductionsAndTokens : Prop :=
  ∀ (u : State) (w : MacroWord) (ws : List MacroWord), u.memWf = true →
    let s := atStart u
    ready s w ws →
    let act (e : Nat → Bool) (t : State) : Prop :=
      t = started s ws { word := w, cyc := 3 } { s.trs with a := t.trs.a } s.tly.data ∧
      ∀ p : Fin 16384, t.trs.a.getLsbD p = if s.tileMask.getLsbD p then e p else s.trs.a.getLsbD p
    let a (p : Nat) := s.trs.a.getLsbD p
    let s1 (p : Nat) := (s.plane w.s1).getLsbD p
    let ones : Nat := (List.range 16384).countP fun p => (s.plane w.s1 &&& s.active).getLsbD p
    let stk (i : Nat) (x : Plane) : Plane := if w.opt.testBit i then x &&& ~~~s.active else x
    (w.op = 0x0C → w.f = 0 → runs .arrActLd u (act s1)) ∧
    (w.op = 0x0C → w.f = 1 → runs .arrActAnd u (act fun p => a p && s1 p)) ∧
    (w.op = 0x0C → w.f = 2 → runs .arrActOr u (act fun p => a p || s1 p)) ∧
    (w.op = 0x0C → w.f = 3 → runs .arrActAndn u (act fun p => a p && !s1 p)) ∧
    (w.op = 0x0C → w.f = 4 → runs .arrActAll u (act fun _ => true)) ∧
    (w.op = 0x0C → w.f = 6 → runs .arrActTile u (act fun p =>
      a p && decide (w.x % 64 ≤ p / 256 ∧ p / 256 ≤ w.x / 256 % 64))) ∧
    (w.op = 0x0C → w.f = 5 → runs .arrActSt u fun t =>
      t = started s ws { word := w, cyc := 3 } s.trs t.tly.data ∧
      t.plane w.d = (s.plane w.d &&& ~~~s.tileMask) ||| (s.trs.a &&& s.tileMask) ∧
      ∀ v : Fin 65536, v.val ≠ w.d → t.plane v = s.plane v) ∧
    (w.op = 0x20 → s.bit F.TRS_ARR_CFG_GOR_RTZ = false → runs .arrGor u fun t =>
      t = started s ws (t.trs.exec.getD {}) s.trs s.tly.data ∧
      t.trs.exec.map (fun x => (x.word, x.cyc, x.gor.map (·.1))) = some (w, 12, some (s.plane w.s1 &&& s.active != 0)) ∧
      ∀ i : Fin 64, (t.trs.exec.bind (·.gor)).map (fun g => g.2.getLsbD i) = some (s.plane w.s1 &&& s.active &&& tilePlane i != 0)) ∧
    (w.op = 0x20 → s.bit F.TRS_ARR_CFG_GOR_RTZ = true → runs .arrGor u fun t =>
      t = { started s ws (t.trs.exec.getD {}) { s.trs with gorOut := false } s.tly.data with regs := t.regs } ∧
      t.fld F.TRS_GOR_OUT = 0 ∧ regsBut s t fun b =>
        b = F.TRS_GOR_OUT.addr ∨ b = F.ING_STAT_STARVED.addr ∨ b = F.ING_STARVE_CNT.addr) ∧
    (w.op = 0x21 → exec .arrPopc u =
      .next (started s ws { word := w, cyc := 24, deliver := some (w.opt % 32, BitVec.ofNat 32 ones) } s.trs s.tly.data)) ∧
    (w.op = 0x3F → exec .arrToken u =
      .next (started s ws { word := w, cyc := 1, deliver := some (w.opt % 32, w.w2), drain := w.opt.testBit 5 } s.trs s.tly.data)) ∧
    (w.op = 0x38 → w.f = 0 → exec .arrStkClear u = .next (started s ws { word := w, cyc := 3 }
      { s.trs with ovf := stk 0 s.trs.ovf, divz := stk 1 s.trs.divz, inv := stk 2 s.trs.inv } s.tly.data)) ∧
    (w.op = 0x38 → w.f = 1 → runs .arrStkRead u (wrote s w ws 1 { word := w, cyc := 3 } fun p =>
      b2n ((if w.opt % 4 = 0 then s.trs.ovf else if w.opt % 4 = 1 then s.trs.divz else s.trs.inv).getLsbD p)))

/-- LOADL writes a line's pixels by chain position; STL and STT read pixels into the lowest free store buffer. Rules:
R180, R184, R199, R233, R237, R355. -/
def Obligations.LinesInAndOutOfTheArray : Prop :=
  ∀ (u : State) (w : MacroWord) (ws : List MacroWord) (i : Fin 2) (l : Loadl) (k : Nat) (h : LineHeader), u.memWf = true →
    let s := atStart u
    ready s w ws →
    let f (p : Nat) := fieldVal (s.field w.s1 w.n) p
    let t := w.x % 64
    let into (b : StoreBuf) (t : State) : Prop :=
      t = { started s ws { word := w, cyc := 2 + w.n } s.trs s.tly.data with
        storeBufs := s.storeBufs.set i (some { b with stamp := s.trs.edgeStamp.getD s.stamp, order := s.storeOrder }), storeOrder := s.storeOrder + 1 }
    let fill := s.fld F.ING_CFG_FILL % 256
    let px (p : Nat) : Nat := if p < h.npix.toNat then (SMap.get zeroByte s.ing.store (k * 16384 + p)).toNat else fill
    let line (vals : Nat → Nat) (valid : Bool) (t : State) : Prop :=
      t = { s with trs := t.trs, tly := t.tly, ing := { s.ing with slots := t.ing.slots, frames := t.ing.frames }, ni := t.ni
                   regs := t.regs } ∧
      t.trs.queue = ws ∧ t.trs.exec.map (fun x => (x.word, x.cyc, x.w, x.lines, x.burst)) = some (w, 74, 8, 1, some l) ∧
      (∀ p : Fin 16384, fieldVal (t.field w.d 9) p =
        if s.active.getLsbD p then vals (peChain p) + 256 * b2n valid else fieldVal (s.field w.d 9) p) ∧
      (∀ v : Fin 65536, v.val < w.d ∨ w.d + 10 ≤ v.val → t.plane v = s.plane v)
    (w.op = 0x29 → s.freeStoreBuf = some i → runs .arrStl u (into
      { n := w.n, start := w.s2, ctx := w.opt % 16, pixels := (List.range (w.x % 32768)).map fun j => f (chainPe (w.s2 + j)) })) ∧
    (w.op = 0x2A → s.freeStoreBuf = some i → runs .arrStt u (into
      { n := w.n, tile := true, start := t, ctx := w.opt % 16, pixels := (List.range 256).map fun j => f (256 * t + j) })) ∧
    (w.op = 0x28 → w.opt = 0 → w.x = 1 → s.loadlW = 8 → s.trs.loadl = some l → l.b = 1 → l.index = false →
      s.loadlSplit ((List.range 10).map (w.d + ·)) = false →
      (∀ j : Fin 10, (s.ent (w.d + j)).level = .bench ∧ (s.ent (w.d + j)).poison = false) →
      (l.claimed = [(k, false)] → s.ing.hdr[k]? = some h → runs .arrLoadl u (line px true)) ∧
      (l.claimed = [] → runs .arrLoadl u (line (fun _ => fill) false)))

/-- A push enters the queue, waits while it is full, or is refused at the head; a completion counts, delivers, shows its OR or ends
a LOADL's burst; a flush discards what waits. Rules: R184, R208, R211, R222, R223, R225, R232, R237, R238, R240, R241, R355. -/
def Obligations.MacroOpsArePushedAndCompleted : Prop :=
  ∀ (s : State) (n : Fin 8) (x : Exec) (l : Loadl) (t wait code : Nat) (k : Fin 32) (v : Word) (hit : Bool) (tiles : BitVec 64),
    s.memWf = true →
    let i := s.jFetch n
    let task := s.tasks[n]
    let r := i.imm 2 1 % 32
    let word : MacroWord := i.word s n
    let due : Bool := (i.op == some 0x21 || i.op == some 0x3F) && r != 0
    let queued : Truss := { s.trs with queue := s.trs.queue ++ [word] }
    let pushed : State := { s with cur := n, trs := queued, tasks := s.tasks.set n { past task i.next with
      pend := if due then task.pend ++ [r] else task.pend } }
    let pushes : Prop := issuesAny s n ∧ i.arr = true ∧ s.domOn Dom.truss = true ∧ s.trs.queue.length < 64
    let drained : Prop := x.drain = false ∨ (s.storeBufs[0] = none ∧ s.storeBufs[1] = none)
    let quiet : Prop := s.trsOn = true ∧ s.trs.queue = [] ∧ s.trs.exec = some x ∧ x.word.op ≠ 0x28 ∧ x.burst = none ∧ drained ∧
      ∀ c : Fin 64, s.tileDown c = false
    let bufs : Vector (Option StoreBuf) 2 := s.storeBufs.map fun b => b.map fun b => { b with ready := true }
    let idle : Truss := { s.trs with exec := none, edgeStamp := none }
    let paged : Tally := { s.tly with fp := [], headWaits := 0, mv := none }
    let hdr (k : Nat) : LineHeader := s.ing.hdr[k]?.getD {}
    let lines (a b : Nat) : Stamp := { stamped := true, frameNum := (hdr a).frame, first := (hdr a).num, pos := (hdr a).pos
                                       last := (hdr b).num, cmpErr := (hdr a).cmpErr }
    (pushes → s.trs.exec ≠ none → runs .arrPush s fun s' =>
      s' = { pushed with trs := { queued with loadl := s'.trs.loadl }, tly := s'.tly, ni := s'.ni, ing := s'.ing, regs := s'.regs } ∧
      s'.tly.data = s.tly.data ∧
      (s.fld F.TLY_CFG_LOOKAHEAD = 0 → (∀ w : MacroWord, queued.queue.head? = some w → w.op ≠ 0x28) → s' = pushed)) ∧
    (pushes → s.trsOn = false → exec .arrPush s = .next pushed) ∧
    (pushes → s.trsOn = true → s.trs.exec = none → s.trs.queue = [] → s.trs.loadl = none → task.live ≤ task.gen →
      s.macroCheck word = some code → s.trs.head = .fresh → runs .arrPush s fun s' => s'.trs.queue = [] ∧ s'.tly.data = s.tly.data ∧
        s'.fld F.TRS_REFUSE_CNT = (s.fld F.TRS_REFUSE_CNT + 1) % 2 ^ F.TRS_REFUSE_CNT.w ∧
        s'.fld F.TRS_DONE_CNT = (s.fld F.TRS_DONE_CNT + 1) % 2 ^ F.TRS_DONE_CNT.w ∧
        (s.bit F.TRS_ERR_VALID = true → s'.bit F.TRS_ERR_MORE = true) ∧
        (s.bit F.TRS_ERR_VALID = false → s'.bit F.TRS_ERR_VALID = true ∧ s'.fld F.TRS_ERR_CODE = code ∧ s'.fld F.TRS_ERR_TASK = n ∧
          s'.reg Reg.TRS_BADOP0 = word.w0 ∧ s'.reg Reg.TRS_BADOP1 = word.w1 ∧ s'.reg Reg.TRS_BADOP2 = word.w2) ∧
        s'.tasks[n].g = if due then task.g.setIfInBounds r 0xFFFFFFFF else task.g) ∧
    (issuesAny s n → i.arr = true → s.domOn Dom.truss = false ∨ 64 ≤ s.trs.queue.length →
      exec .arrPush s = .next { s with cur := n, tasks := s.tasks.set n { past task task.pc.toNat with wait := .truss } }) ∧
    (quiet → x.gor = none → x.deliver = none → runs (.macroopComplete t wait) s fun s' =>
      s' = { s with trs := idle, tly := paged, storeBufs := bufs, regs := s'.regs } ∧
      s'.fld F.TRS_DONE_CNT = (s.fld F.TRS_DONE_CNT + 1) % 2 ^ F.TRS_DONE_CNT.w ∧
      s'.fld F.TRS_LAST_CYC_CYC = (x.cyc + if x.drain then wait else 0) % 2 ^ F.TRS_LAST_CYC_CYC.w ∧
      s'.fld F.TRS_LAST_CYC_OP = x.word.op ∧
      s'.bit F.TRS_STICKY_OVF = (s.bit F.TRS_STICKY_OVF || x.ovf) ∧ s'.bit F.TRS_STICKY_DIVZ = (s.bit F.TRS_STICKY_DIVZ || x.divz) ∧
      s'.bit F.TRS_STICKY_INV = (s.bit F.TRS_STICKY_INV || x.inv) ∧ s'.bit F.TRS_STICKY_QNAN = (s.bit F.TRS_STICKY_QNAN || x.qnan) ∧
      regsBut s s' fun a => a ∈ [F.TRS_STICKY_OVF.addr, F.TRS_SCAN_VALUE.addr, F.TRS_LAST_CYC_CYC.addr, F.TRS_BUSY_CYC.addr,
        F.TRS_DONE_CNT.addr, F.WR_THROTTLE_CYC.addr]) ∧
    (quiet → x.gor = none → x.deliver = some (k.val, v) → k.val ≠ 0 → s.tasks[x.word.task].live ≤ x.word.gen →
      runs (.macroopComplete t wait) s fun s' => s'.trs = idle ∧ s'.tasks[x.word.task].g = s.tasks[x.word.task].g.set k v ∧
        s'.tasks[x.word.task].pend = (if x.word.gen = s.tasks[x.word.task].gen then s.tasks[x.word.task].pend.erase k.val
          else s.tasks[x.word.task].pend) ∧
        ∀ m : Fin 8, m ≠ x.word.task → s'.tasks[m] = s.tasks[m]) ∧
    (quiet → x.gor = none → x.deliver = some (k.val, v) → x.word.gen < s.tasks[x.word.task].live →
      runs (.macroopComplete t wait) s fun s' => s'.trs = idle ∧ s'.tasks = s.tasks) ∧
    (quiet → x.deliver = none → x.gor = some (hit, tiles) →
      runs (.macroopComplete t wait) s fun s' => s'.trs = { idle with gorOut := hit, tileGor := tiles } ∧
        s'.tly.data = s.tly.data ∧ s'.storeBufs = bufs ∧
        s'.fld F.TRS_GOR_VALUE = b2n hit ∧ s'.bit F.TRS_GOR_HIT = (s.bit F.TRS_GOR_HIT || hit) ∧ s'.fld F.TRS_GOR_OUT = b2n hit ∧
        s'.fld F.TRS_GOR_SEQ = (s.fld F.TRS_GOR_SEQ + 1) % 2 ^ F.TRS_GOR_SEQ.w ∧
        s'.fld F.TRS_GOR_TILES_LO + 2 ^ 32 * s'.fld F.TRS_GOR_TILES_HI = tiles.toNat) ∧
    (s.trsOn = true → s.trs.queue = [] → s.trs.exec = some x → x.burst = some l → l.b ≤ x.lines → x.drain = false → x.gor = none →
      x.deliver = none → runs (.macroopComplete t wait) s fun s' => s'.trs.exec = none ∧ s'.trs.queue = [] ∧
        (∀ p ∈ l.claimed, p.1 < 128 → s'.ing.slots[p.1]? = some .free) ∧
        (∀ a b : Nat × Bool, l.claimed.head? = some a → l.claimed.getLast? = some b → s'.stamp = lines a.1 b.1) ∧
        (l.claimed = [] → s'.stamp = s.stamp ∧ s'.ing = s.ing)) ∧
    (s.trs.exec = none ∨ s.trsOn = false → exec (.macroopComplete t wait) s = .next s) ∧
    (s.domOn Dom.truss = true → runs .trsFlush s fun s' =>
      s'.trs.queue = [] ∧ s'.trs.exec = s.trs.exec ∧ s'.tly.data = s.tly.data ∧ s'.storeBufs = s.storeBufs ∧
      s'.fld F.TRS_DISCARD_CNT = (s.fld F.TRS_DISCARD_CNT + s.trs.queue.length) % 2 ^ F.TRS_DISCARD_CNT.w ∧
      (s.trs.loadl = some l → s.trs.queue ≠ [] → s'.trs.loadl = none ∧ ∀ p ∈ l.claimed, p.1 < 128 → s'.ing.slots[p.1]? = some .free) ∧
      (∀ m : Fin 8, s'.tasks[m].pc = s.tasks[m].pc ∧ ∀ k : Fin 32, s'.tasks[m].g[k] =
        if k.val ≠ 0 ∧ s.trs.queue.any (fun w => w.task == m && decide (s.tasks[m].live ≤ w.gen) && (w.op == 0x21 || w.op == 0x3F) &&
          w.opt % 32 == k.val) then 0xFFFFFFFF else s.tasks[m].g[k])) ∧
    (s.domOn Dom.truss = false → exec .trsFlush s = .next s)

/-- Tally commands wait for their boundary, then act on their planes or are refused whole; a far move ends with its plane placed or
poisoned, and the stall that the head met is counted. Rules: R265, R272, R274, R275, R276, R279, R280, R282, R286, R287, R291. -/
def Obligations.TallyCommandsAreWrittenAndAct : Prop :=
  ∀ (s : State) (c : TallyCmd) (m : FarMove) (ms : List FarMove) (stall before : Nat), s.memWf = true →
    let arg : TallyCmd := { start := s.fld F.TLY_CMD_ARG_START, count := s.fld F.TLY_CMD_ARG_COUNTM1 + 1 }
    let write (op : Nat) (t : State) : Prop :=
      (s.tly.cmd = none → t = { s with regs := t.regs, tly := { s.tly with cmd := some { arg with op := op }, staged := false } } ∧
        t.bit F.TLY_STAT_CMD_BUSY = true ∧ t.bit F.TLY_STAT_STAGED = false ∧ regsBut s t fun a => a = F.TLY_STAT_CMD_BUSY.addr) ∧
      (s.tly.cmd ≠ none → t = { s with regs := t.regs } ∧ t.bit F.TLY_ERR_CMD_BUSY = true ∧
        regsBut s t fun a => a = F.TLY_ERR_CMD_BUSY.addr)
    let writes (cmd : Instr) (op : Nat) : Prop :=
      (s.domOn Dom.tally = true → runs cmd s (write op)) ∧ (s.domOn Dom.tally = false → exec cmd s = .next s)
    let ended (res done : Nat) (t : State) : Prop :=
      t = { s with regs := t.regs, tly := { s.tly with map := t.tly.map, data := t.tly.data, clock := t.tly.clock, cmd := none
                                                       cmdWaits := 0, mv := none } } ∧
      t.fld F.TLY_CMD_RESULT_RESULT = res ∧ t.fld F.TLY_CMD_RESULT_DONE_PLANES = done % 2 ^ F.TLY_CMD_RESULT_DONE_PLANES.w ∧
      t.bit F.TLY_STAT_CMD_BUSY = false ∧ t.bit F.TLY_STAT_CMD_DONE = true ∧
      (regsBut s t fun a => a = F.TLY_CMD_RESULT_RESULT.addr ∨ a = F.TLY_STAT_CMD_BUSY.addr ∨
        (c.op = 8 ∧ res ≠ 0 ∧ a = F.TLY_ERR_WS.addr)) ∧
      (done = 0 → t.tly.map = s.tly.map ∧ t.tly.data = s.tly.data)
    let onBoundary : Prop := s.trsOn = true ∧ s.trs.queue = [] ∧ s.trs.exec = none ∧ s.trs.head = .fresh ∧ s.tly.cmd = some c ∧
      c.acted = false
    let still : Prop := s.bit F.TLY_CFG_MODE = false ∧ c.start + c.count ≤ 65536 ∧ 1 ≤ c.count ∧ c.done = 0 ∧ c.result = 0 ∧
      ∀ p ∈ s.tly.map, p.2.moving = false
    let isIn (v : Nat) : Prop := c.start ≤ v ∧ v < c.start + c.count
    let used (e : PlaneEnt) : Nat := if e.level = .zero then e.used else s.tly.clock
    let ents (g : PlaneEnt → PlaneEnt) (t : State) : Prop := ended 0 c.count t ∧ (∀ v : Fin 65536,
      t.ent v = (if isIn v then g (s.ent v) else s.ent v)) ∧ t.tly.data = s.tly.data
    let gone (e : PlaneEnt) (t : State) : Prop := ended 0 c.count t ∧ ∀ v : Fin 65536,
      t.ent v = (if isIn v then e else s.ent v) ∧ t.plane v = if isIn v then 0 else s.plane v
    let mine (p : Nat → PlaneEnt → Bool) : Nat := ((List.range c.count).map (c.start + ·)).countP fun v => p v (s.ent v)
    let pins (b : Bool) : Nat := s.tly.map.countP fun p => p.2.pinB || (!b && p.2.pinY)
    let fits (b : Bool) : Prop := pins true + (if b then mine fun _ e => !e.pinB else 0) ≤ 224 ∧
      pins false + (mine fun _ e => !e.pinB && !e.pinY) ≤ 4032
    let all (p : PlaneEnt → Bool) : Prop := mine (fun _ e => p e) = c.count
    let answered : Prop := s.domOn Dom.tally = true ∧ s.tly.moves = m :: ms ∧ m.left = 0 ∧ s.tly.cmd = none ∧ s.trs.exec = none
    let moved (t : State) : Prop :=
      t = { s with regs := t.regs, tly := { s.tly with moves := ms, map := t.tly.map, data := t.tly.data, mv := none } } ∧
      ∀ v : Fin 65536, v.val ≠ m.plane → t.ent v = s.ent v ∧ t.plane v = s.plane v
    let more (f : Fld) (n : Nat) (t : State) : Prop := t.fld f = min (2 ^ f.w - 1) (s.fld f + n)
    (writes .tlyPinB 1 ∧ writes .tlyPinY 2 ∧ writes .tlyUnpin 3 ∧ writes .tlyPrefetch 4 ∧ writes .tlySpill 5 ∧ writes .tlyAdopt 6 ∧
      writes .tlyDiscard 7 ∧ writes .tlyStage 8) ∧
    (onBoundary → s.bit F.TLY_CFG_MODE = true → runs .tlyCmdBoundary s (ended 3 0)) ∧
    (onBoundary → s.bit F.TLY_CFG_MODE = false → c.op ≠ 8 → c.op = 0 ∨ 8 < c.op ∨ 65536 < c.start + c.count →
      runs .tlyCmdBoundary s (ended 4 0)) ∧
    (onBoundary → s.bit F.TLY_CFG_MODE = false → c.op = 8 → (∃ i : Fin 16, s.bit (F.TLY_WSi_A_EN i) = true ∧
      65536 < s.fld (F.TLY_WSi_A_START i) + s.fld (F.TLY_WSi_B_COUNT i)) → runs .tlyCmdBoundary s fun t =>
        ended 4 0 t ∧ t.bit F.TLY_ERR_WS = true) ∧
    (onBoundary → still → c.op = 1 ∧ ¬fits true ∨ c.op = 2 ∧ ¬fits false → runs .tlyCmdBoundary s (ended 1 0)) ∧
    (onBoundary → still → c.op = 1 → fits true → all (·.level == .bench) → runs .tlyCmdBoundary s
      (ents fun e => { e with pinB := true, used := s.tly.clock })) ∧
    (onBoundary → still → c.op = 2 → fits false → all (·.level != .far) → runs .tlyCmdBoundary s
      (ents fun e => { e with pinY := true, used := used e })) ∧
    (onBoundary → still → c.op = 3 → runs .tlyCmdBoundary s (ents fun e => { e with pinB := false, pinY := false, used := used e })) ∧
    (onBoundary → still → c.op = 4 → all (·.level != .far) → runs .tlyCmdBoundary s (ents fun e => { e with used := used e })) ∧
    (onBoundary → still → c.op = 5 → all (fun e => e.level == .zero || e.level == .far) → runs .tlyCmdBoundary s
      (ents fun e => { e with pinB := false, pinY := false, used := used e })) ∧
    (onBoundary → still → c.op = 6 → s.bit F.TLY_CFG_FAR_EN = true → runs .tlyCmdBoundary s
      (gone { level := .far, used := s.tly.clock })) ∧
    (onBoundary → still → s.bit F.TLY_CFG_FAR_EN = false → c.op = 6 ∨
      c.op = 5 ∧ all (fun e => e.level == .bench || e.level == .yard) → runs .tlyCmdBoundary s (ended 5 0)) ∧
    (onBoundary → still → c.op = 7 → runs .tlyCmdBoundary s (gone {})) ∧
    (answered → s.trs.queue = [] →
      (m.code = .ok → m.toFar = true → runs (.farMoveComplete stall before) s fun t => moved t ∧ t.regs = s.regs ∧
        t.ent m.plane = { s.ent m.plane with level := .far, slot := 0, moving := false } ∧ t.plane m.plane = 0) ∧
      (m.code = .ok → m.toFar = false → runs (.farMoveComplete stall before) s fun t => moved t ∧ t.regs = s.regs ∧
        t.ent m.plane = { s.ent m.plane with level := .yard, slot := m.slot, moving := false } ∧
        t.plane m.plane = s.farPlane m) ∧
      (m.code ≠ .ok → runs (.farMoveComplete stall before) s fun t => moved t ∧ t.plane m.plane = 0 ∧
        t.ent m.plane = { s.ent m.plane with level := .far, slot := 0, moving := false, poison := true } ∧
        t.fld F.TLY_POISON_CNT = (s.fld F.TLY_POISON_CNT + 1) % 2 ^ F.TLY_POISON_CNT.w ∧
        t.bit F.TLY_POISON_PLANE_VALID = true ∧ (s.bit F.TLY_POISON_PLANE_VALID = false →
          t.fld F.TLY_POISON_PLANE_PLANE = m.plane % 2 ^ F.TLY_POISON_PLANE_PLANE.w ∧
          t.fld F.TLY_POISON_PLANE_CAUSE = respCode m.code))) ∧
    (answered → s.trs.queue ≠ [] → s.trsOn = false → m.code = .ok → runs (.farMoveComplete stall before) s fun t => moved t ∧
      more F.TLY_STALL_FRAME stall t ∧ more F.TLY_STALL_LAST before t ∧ more F.TLY_STALL_TOTAL (before + stall) t) ∧
    (s.tly.moves = [] → exec (.farMoveComplete stall before) s = .next s)

/-- TLY_CFG, TLY_FAR_BASE and the working set: what takes effect and what sets TLY_ERR. Rules: R267, R268, R282, R283.
-/
def Obligations.TallySettings : Prop :=
  ∀ (s : State) (v : Word) (i : Fin 16), s.memWf = true → s.domOn Dom.tally = true →
    let only (a : Nat) (t : State) : Prop := t = { s with regs := t.regs } ∧ regsBut s t fun b => b = a
    let idle : Prop := s.trs.queue = [] ∧ s.trs.exec = none ∧ s.tly.moves = []
    let m := v.getLsbD 0
    let f := v.getLsbD 1
    let was := s.bit F.TLY_CFG_MODE
    let bad : Prop := ((m ≠ was ∨ f ≠ s.bit F.TLY_CFG_FAR_EN) ∧ ¬idle) ∨ (was = false ∧ m = true ∧ s.tly.staged = false) ∨
      (was = true ∧ m = false ∧ f = false)
    let base := getBits v 27 5
    let fits : Prop := s.mode = .setup ∧ s.bit F.TLY_CFG_FAR_EN = false ∧ (base + 1) * 2 ^ 27 ≤ s.memcCap
    (getBits v 4 3 ≤ 4 → ¬bad → runs (.tlyCfgWrite v) s fun t => only Reg.TLY_CFG t ∧ t.bit F.TLY_CFG_MODE = m ∧
      t.bit F.TLY_CFG_FAR_EN = f ∧ t.fld F.TLY_CFG_LOOKAHEAD = getBits v 4 3) ∧
    (getBits v 4 3 ≤ 4 → bad → runs (.tlyCfgWrite v) s fun t => only F.TLY_ERR_CFG.addr t ∧ t.bit F.TLY_ERR_CFG = true) ∧
    (4 < getBits v 4 3 → exec (.tlyCfgWrite v) s = .next s) ∧
    (fits → runs (.tlyFarBaseWrite v) s fun t => only F.TLY_FAR_BASE_BASE.addr t ∧ t.fld F.TLY_FAR_BASE_BASE = base) ∧
    (¬fits → runs (.tlyFarBaseWrite v) s fun t => only F.TLY_ERR_FAR_RANGE.addr t ∧ t.bit F.TLY_ERR_FAR_RANGE = true) ∧
    runs (.tlyWsWrite i false v) s (fun t =>
      t = { s with regs := t.regs, tly := { s.tly with staged := false } } ∧ t.bit F.TLY_STAT_STAGED = false ∧
      t.fld (F.TLY_WSi_A_START i) = getBits v 0 (F.TLY_WSi_A_START i).w ∧ t.bit (F.TLY_WSi_A_EN i) = v.getLsbD (F.TLY_WSi_A_EN i).lo ∧
      t.bit (F.TLY_WSi_A_LEVEL i) = v.getLsbD (F.TLY_WSi_A_LEVEL i).lo ∧
      regsBut s t fun a => a = Reg.TLY_WSi_A i ∨ a = F.TLY_STAT_STAGED.addr) ∧
    (1 ≤ getBits v 0 13 → getBits v 0 13 ≤ 4096 → runs (.tlyWsWrite i true v) s fun t =>
      t = { s with regs := t.regs, tly := { s.tly with staged := false } } ∧ t.bit F.TLY_STAT_STAGED = false ∧
      t.fld (F.TLY_WSi_B_COUNT i) = getBits v 0 13 ∧ regsBut s t fun a => a = Reg.TLY_WSi_B i ∨ a = F.TLY_STAT_STAGED.addr) ∧
    (getBits v 0 13 = 0 ∨ 4096 < getBits v 0 13 → exec (.tlyWsWrite i true v) s = .next s)

/-- Arithmetic, logic, compare, shift and immediate instructions write their result and the PC, and nothing else. A division runs to
its end, or stands at an internal step, its operands still as they were (notes/assumptions/63.md).
From: R294, R295, R303, R304, R305, R313, R318, Table 12-3. -/
def Obligations.JoistArithmetic : Prop :=
  ∀ (s : State) (n : Fin 8), s.memWf = true →
    let x := s.jFetch n
    let a := s.jReg n (x.r 1)
    let b := s.jReg n (x.r 2)
    let i : BitVec 16 := BitVec.ofNat 16 (x.imm 2 2)
    let se : Word := i.signExtend 32
    let ze : Word := i.zeroExtend 32
    let sh := b.toNat % 32
    let shi := i.toNat % 32
    let bit (c : Bool) : Word := if c then 1 else 0
    let w (k : Nat) (c : Instr) (v : Word) : Prop := issues s n k → exec c s = .next (retire s n (x.r 0) v x.next)
    let div (k : Nat) (c : Option Nat → Instr) (v : Word) (divz ovf : Bool) : Prop := issues s n k →
      (∀ cut : Option Nat, (∀ j : Nat, cut = some j → j = 0 ∨ 8 < (s.tasks[n]).steps + j) → runs (c cut) s fun t =>
        t = { finish s n (x.r 0) v x.next with regs := t.regs } ∧
        t.bit (F.SEQ_Tn_WARN_DIVZ n) = (s.bit (F.SEQ_Tn_WARN_DIVZ n) || divz) ∧
        t.bit (F.SEQ_Tn_WARN_OVF n) = (s.bit (F.SEQ_Tn_WARN_OVF n) || ovf) ∧
        (divz = false → ovf = false → t.regs = s.regs) ∧ regsBut s t fun r => r = (F.SEQ_Tn_WARN_OVF n).addr) ∧
      ∀ j : Nat, 0 < j → (s.tasks[n]).steps + j ≤ 8 → exec (c (some j)) s = .next (stands s n j)
    let least : Bool := a == 0x80000000 && b == 0xFFFFFFFF
    (w 0x10 .add (a + b) ∧ w 0x11 .sub (a - b) ∧ w 0x12 .and (a &&& b) ∧ w 0x13 .or (a ||| b) ∧ w 0x14 .xor (a ^^^ b) ∧
      w 0x15 .andn (a &&& ~~~b) ∧ w 0x16 .shl (a <<< sh) ∧ w 0x17 .shr (a >>> sh) ∧ w 0x18 .sar (a.sshiftRight sh)) ∧
    (w 0x19 .mul (a * b) ∧ w 0x1A .mulhu (BitVec.ofNat 32 (a.toNat * b.toNat / 2 ^ 32)) ∧
      w 0x1B .mulhs (BitVec.ofInt 32 (a.toInt * b.toInt / 2 ^ 32))) ∧
    (w 0x20 .seq (bit (a == b)) ∧ w 0x21 .sne (bit (a != b)) ∧ w 0x22 .sltu (bit (decide (a.toNat < b.toNat))) ∧
      w 0x23 .sgeu (bit (decide (b.toNat ≤ a.toNat))) ∧ w 0x24 .slt (bit (decide (a.toInt < b.toInt))) ∧
      w 0x25 .sge (bit (decide (b.toInt ≤ a.toInt)))) ∧
    (issues s n 0x28 → runs .clz s fun t => ∃ z : Fin 33, t = retire s n (x.r 0) (BitVec.ofNat 32 z) x.next ∧
      a.toNat < 2 ^ (32 - z.val) ∧ (z.val < 32 → 2 ^ (31 - z.val) ≤ a.toNat)) ∧
    w 0x29 .bitc (BitVec.ofNat 32 ((List.range 32).countP fun k => a.getLsbD k)) ∧
    (w 0x30 .addi (a + se) ∧ w 0x31 .andi (a &&& ze) ∧ w 0x32 .ori (a ||| ze) ∧ w 0x33 .xori (a ^^^ ze) ∧ w 0x34 .shli (a <<< shi) ∧
      w 0x35 .shri (a >>> shi) ∧ w 0x36 .sari (a.sshiftRight shi) ∧ w 0x38 .seqi (bit (a == se)) ∧ w 0x39 .snei (bit (a != se)) ∧
      w 0x3A .slti (bit (decide (a.toInt < se.toInt))) ∧ w 0x3B .sltiu (bit (decide (a.toNat < i.toNat))) ∧
      w 0x3C .li (BitVec.ofNat 32 (x.imm 1 4)) ∧ w 0x3D .lui (BitVec.ofNat 32 (x.imm 1 2) <<< 16)) ∧
    (div 0x1C (fun c => .divu c) (if b = 0 then 0xFFFFFFFF else BitVec.ofNat 32 (a.toNat / b.toNat)) (b == 0) false ∧
      div 0x1D (fun c => .remu c) (if b = 0 then a else BitVec.ofNat 32 (a.toNat % b.toNat)) (b == 0) false ∧
      div 0x1E (fun c => .divs c) (if b = 0 then (if a.toInt < 0 then 0x80000000 else 0x7FFFFFFF)
        else if least then 0x80000000 else BitVec.ofInt 32 (a.toInt.tdiv b.toInt)) (b == 0) (b != 0 && least) ∧
      div 0x1F (fun c => .rems c) (if b = 0 then a else if least then 0 else BitVec.ofInt 32 (a.toInt.tmod b.toInt)) (b == 0) (b != 0 && least))

/-- Packed-decimal instructions: results on every word, decimal sums and differences on packed operands, and the
warnings; P2B and B2P may stand at an internal step (notes/assumptions/63.md). Rules: R303, R319, R320, R322. -/
def Obligations.JoistDecimalInstructions : Prop :=
  ∀ (s : State) (n : Fin 8), s.memWf = true →
    let x := s.jFetch n
    let a := s.jReg n (x.r 1)
    let b := s.jReg n (x.r 2)
    let wide := decide (100000000 ≤ a.toNat)
    let bad1 : Bool := (List.range 8).any fun i => decide (9 < nib a i)
    let bad : Bool := bad1 || (List.range 8).any fun i => decide (9 < nib b i)
    let value (v : Word) : Nat := ((List.range 8).map fun i => nib v i * 10 ^ i).sum
    let packed (v : Nat) : Word := BitVec.ofNat 32 ((List.range 8).map fun i => v / 10 ^ i % 10 * 16 ^ i).sum
    let warned (u : State) (inv ovr : Bool) (t : State) : Prop := t = { u with regs := t.regs } ∧
      t.bit (F.SEQ_Tn_WARN_BCD_INV n) = (s.bit (F.SEQ_Tn_WARN_BCD_INV n) || inv) ∧
      t.bit (F.SEQ_Tn_WARN_BCD_OVR n) = (s.bit (F.SEQ_Tn_WARN_BCD_OVR n) || ovr) ∧
      (inv = false → ovr = false → t.regs = s.regs) ∧ regsBut s t fun r => r = (F.SEQ_Tn_WARN_BCD_INV n).addr
    let w (k : Nat) (c : Instr) (v : Word) (inv ovr : Bool) : Prop := issues s n k → runs c s
      (warned (retire s n (x.r 0) v x.next) inv ovr)
    let int (k points : Nat) (c : Option Nat → Instr) (v : Word) (inv ovr : Bool) : Prop := issues s n k →
      (∀ cut : Option Nat, (∀ j : Nat, cut = some j → j = 0 ∨ points < (s.tasks[n]).steps + j) → runs (c cut) s
        (warned (finish s n (x.r 0) v x.next) inv ovr)) ∧
      ∀ j : Nat, 0 < j → (s.tasks[n]).steps + j ≤ points → exec (c (some j)) s = .next (stands s n j)
    (bad = false → w 0x70 .padd (packed ((value a + value b) % 100000000)) false false ∧
      w 0x71 .psub (packed ((value a + 100000000 - value b) % 100000000)) false false ∧
      w 0x72 .pcyA (if 100000000 ≤ value a + value b then 1 else 0) false false ∧
      w 0x73 .pcyS (if value a < value b then 1 else 0) false false) ∧
    (w 0x70 .padd (BitVec.ofNat 32 (ofNibs (paddFrom a b 0 0 8).1)) bad false ∧
      w 0x71 .psub (BitVec.ofNat 32 (ofNibs (psubFrom a b 0 0 8).1)) bad false ∧
      w 0x72 .pcyA (BitVec.ofNat 32 (paddFrom a b 0 0 8).2) bad false ∧
      w 0x73 .pcyS (BitVec.ofNat 32 (psubFrom a b 0 0 8).2) bad false) ∧
    w 0x74 .ncy (BitVec.ofNat 32 ((List.range 8).map fun i =>
      (a.toNat % 16 ^ (i + 1) + b.toNat % 16 ^ (i + 1)) / 16 ^ (i + 1) * 16 ^ i).sum) false false ∧
    w 0x75 .dadj (BitVec.ofNat 32 (ofNibs (dadjFrom a b 0 0 0 8))) false false ∧
    int 0x76 2 (fun c => .p2b c) (BitVec.ofNat 32 (value a)) bad1 false ∧
    int 0x77 3 (fun c => .b2p c) (packed (a.toNat % 100000000)) false wide

/-- DADJ of the binary sum and its nibble carries is the packed-decimal sum, on every pair of words. Rules: R321. -/
def Obligations.DecimalAdjustGivesThePackedSum : Prop :=
  ∀ a b : Word, BitVec.ofNat 32 (ofNibs (dadjFrom (a + b) (nibbleCarry a b) 0 0 0 8)) =
    BitVec.ofNat 32 (ofNibs (paddFrom a b 0 0 8).1)

/-- NOP, branches, jumps, END, WAIT, RSYNC and the peg instructions. Rules: R294, R304, R311, R330, R332, R333, R341, R345,
R346, R347, R348. -/
def Obligations.JoistControlAndTaskInstructions : Prop :=
  ∀ (s : State) (n : Fin 8), s.memWf = true →
    let x := s.jFetch n
    let task := s.tasks[n]
    let r (i : Nat) : Word := s.jReg n (x.r i)
    let pc (v : Nat) : State := retire s n 0 0 v
    let tgt (i len : Nat) : Nat := (x.next + (x.simm i len).toNat) % 2 ^ 18
    let dec := r 0 - 1
    let ev := s.fld (F.SEQ_Tn_EV n)
    let m := (r 1).toNat % 1024
    let mask := if task.woken then s.fld (F.SEQ_Tn_WMASK n) else m
    let done (v : Nat) : State := retire s n (x.r 0) (BitVec.ofNat 32 v) x.next
    let held (w : JWait) : State := { s with cur := n, tasks := s.tasks.set n { past task task.pc.toNat with wait := w } }
    let p : Fin 32 := Fin.ofNat 32 (x.b 1)
    let q : Fin 32 := Fin.ofNat 32 (x.b 0)
    let peg := s.pegs[p]
    (issues s n 0x00 → exec .nop s = .next (pc x.next)) ∧
    (issues s n 0x40 → exec .bz s = .next (pc (if r 0 = 0 then tgt 1 2 else x.next))) ∧
    (issues s n 0x41 → exec .bnz s = .next (pc (if r 0 ≠ 0 then tgt 1 2 else x.next))) ∧
    (issues s n 0x42 → exec .dbnz s = .next (retire s n (x.r 0) dec (if dec ≠ 0 then tgt 1 2 else x.next))) ∧
    (issues s n 0x44 → exec .j s = .next (pc (tgt 0 3))) ∧
    (issues s n 0x45 → exec .call s = .next (retire s n (x.r 0) (BitVec.ofNat 32 x.next) (tgt 1 3))) ∧
    (issues s n 0x46 → exec .jr s = .next (pc ((r 0).toNat % 2 ^ 18))) ∧
    (issues s n 0x47 → exec .jalr s = .next (retire s n (x.r 0) (BitVec.ofNat 32 x.next) ((r 1).toNat % 2 ^ 18))) ∧
    (issues s n 0x01 → (∀ k : Fin 32, s.pegs[k].owner ≠ some (.task n)) → exec .endTask s = .next { s with
        cur := n, taskSt := s.taskSt.set n .off, tasks := s.tasks.set n { past task x.next with woken := false, steps := 0 } }) ∧
    (issues s n 0x01 → (∃ k : Fin 32, s.pegs[k].owner = some (.task n)) → runs .endTask s fun t => t.taskSt[n] = .off ∧
      t.bit (F.SEQ_Tn_STAT_ABORTED n) = true ∧ t.fld (F.SEQ_Tn_STAT_ABORT_CAUSE n) = 3 ∧ t.tasks[n].g = task.g ∧
      ∀ k : Fin 32, t.pegs[k] = if s.pegs[k].owner = some (.task n)
        then { st := .broken, owner := none, epoch := s.pegs[k].epoch + 1 } else s.pegs[k]) ∧
    (issues s n 0x02 → task.woken = true ∨ ev &&& m ≠ 0 → runs .wait s fun t =>
      t = { retire s n (x.r 0) (BitVec.ofNat 32 (ev &&& mask)) x.next with regs := t.regs, tasks := t.tasks } ∧
      t.tasks = (done (ev &&& mask)).tasks.set n { (done (ev &&& mask)).tasks[n] with woken := false } ∧
      t.fld (F.SEQ_Tn_EV n) = ev - (ev &&& mask) ∧ t.fld (F.SEQ_Tn_WMASK n) = 0 ∧
      regsBut s t fun a => a = (F.SEQ_Tn_EV n).addr ∨ a = (F.SEQ_Tn_WMASK n).addr) ∧
    (issues s n 0x02 → task.woken = false → m = 0 → runs .wait s fun t => t.taskSt = s.taskSt.set n .ready ∧
      t = { done 0 with taskSt := t.taskSt, tasks := t.tasks } ∧
      t.tasks = (done 0).tasks.set n { (done 0).tasks[n] with wait := .yield }) ∧
    (issues s n 0x02 → task.woken = false → ev &&& m = 0 → m ≠ 0 → runs .wait s fun t =>
      t = { held .event with taskSt := s.taskSt.set n .wait, regs := t.regs } ∧
      t.fld (F.SEQ_Tn_WMASK n) = m ∧ regsBut s t fun a => a = (F.SEQ_Tn_WMASK n).addr) ∧
    (issues s n 0x03 → task.inflight = 0 → runs .rsync s fun t =>
      t = { retire s n (x.r 0) (BitVec.ofNat 32 (s.fld (F.SEQ_Tn_RCODE_CODE n))) x.next with regs := t.regs } ∧
      t.reg (Reg.SEQ_Tn_RCODE n) = 0 ∧ t.reg (Reg.SEQ_Tn_RFAIL_OFS n) = 0 ∧
      regsBut s t fun a => a = Reg.SEQ_Tn_RCODE n ∨ a = Reg.SEQ_Tn_RFAIL_OFS n) ∧
    (issues s n 0x03 → task.inflight ≠ 0 → exec .rsync s = .next (held .rsync)) ∧
    (issues s n 0x08 → peg.owner ≠ none → runs .pegAcq s fun t => t = { done 0 with regs := t.regs } ∧
      t.bit F.SEQ_PEG_ERR_SELF = (s.bit F.SEQ_PEG_ERR_SELF || peg.owner == some (.task n)) ∧
      regsBut s t fun a => a = F.SEQ_PEG_ERR_SELF.addr) ∧
    (issues s n 0x08 → peg.owner = none → exec .pegAcq s = .next
      { retire s n (x.r 0) (BitVec.ofNat 32 (1 + (if peg.st = .broken then 2 else 0) + 256 * peg.epoch.toNat)) x.next with
        pegs := s.pegs.set p { peg with st := if peg.st = .broken then .broken else .held, owner := some (.task n) } }) ∧
    (issues s n 0x0A → peg.owner = some (.task n) → peg.st = .broken → exec .pegMend s = .next
      { retire s n (x.r 0) 1 x.next with pegs := s.pegs.set p { peg with st := .held } }) ∧
    (issues s n 0x0A → ¬(peg.owner = some (.task n) ∧ peg.st = .broken) → exec .pegMend s = .next (retire s n (x.r 0) 0 x.next)) ∧
    (issues s n 0x09 → s.pegs[q].owner = some (.task n) → runs .pegRel s fun t =>
      t = { pc x.next with
        pegs := s.pegs.set q { s.pegs[q] with st := if s.pegs[q].st = .broken then .broken else .free, owner := none },
        regs := t.regs, taskSt := t.taskSt, phase := t.phase, joistLadderResult := t.joistLadderResult, sup := t.sup, cp := t.cp,
        rails := t.rails } ∧
      t.bit F.SEQ_PEG_ERR_REL_UNMENDED = (s.bit F.SEQ_PEG_ERR_REL_UNMENDED || s.pegs[q].st == .broken) ∧
      ∀ m : Fin 8, bitOf (s.reg (Reg.SEQ_Tn_PEGWATCH m)).toNat q = true →
        t.fld (F.SEQ_Tn_EV m) = s.fld (F.SEQ_Tn_EV m) ||| 64) ∧
    (issues s n 0x09 → s.pegs[q].owner ≠ some (.task n) → runs .pegRel s fun t => t = { pc x.next with regs := t.regs } ∧
      t.bit F.SEQ_PEG_ERR_NOT_HOLDER = true ∧ (s.bit F.SEQ_PEG_ERR_NOT_HOLDER = false →
        t.fld F.SEQ_PEG_ERR_PEG = q ∧ t.fld F.SEQ_PEG_ERR_REQ = n) ∧
      regsBut s t fun a => a = F.SEQ_PEG_ERR_NOT_HOLDER.addr)

/-- Loads, stores and AMOs: the own store at once, other stops by ring, misaligned ones answered DECODE, and no free tag waited for
or answered REFUSED_NOTAG; a ring response writes its register (notes/assumptions/64.md for RESP of an access answered at once).
Rules: R306, R307, R308, R309, R310, R311, R312, R331, R342. -/
def Obligations.JoistMemoryInstructions : Prop :=
  ∀ (s : State) (n : Fin 8) (q : RingReq) (ans : RingResp) (rest : List (RingReq × RingResp)) (gen : Nat) (rn : Fin 32) (u : JoistUse),
    s.memWf = true →
    let x := s.jFetch n
    let task := s.tasks[n]
    let stop := x.b 2 % 16
    let rd := x.r 0
    let own : Prop := stop = 1 ∧ s.mode ≠ .fallback
    let long : Bool := (BitVec.ofNat 8 (x.b 2)).getLsbD 5
    let nb : Bool := (BitVec.ofNat 8 (x.b 2)).getLsbD 4
    let ofs (i : Nat) : Nat := ((s.jReg n (x.r 1)).toNat + (x.simm i (if long then 4 else 2)).toNat) % 2 ^ 32
    let o := ofs 3
    let oa := ofs 4
    let le (off len : Nat) : Nat := ofLeBytes (SMap.getBytes zeroByte s.seqStore off len)
    let kept (off len : Nat) (t : State) : Prop :=
      ∀ a : Fin 0x40000, ¬(off ≤ a.val ∧ a.val < off + len) → SMap.get zeroByte t.seqStore a = SMap.get zeroByte s.seqStore a
    let store (off len v : Nat) (t : State) : Prop := t = { retire s n 0 0 x.next with seqStore := t.seqStore } ∧
      SMap.getBytes zeroByte t.seqStore off len = leBytes v len ∧ kept off len t
    let heard (b : Bool) (t : State) : Prop :=
      t.fld (F.SEQ_Tn_EV n) = if b then s.fld (F.SEQ_Tn_EV n) ||| 256 else s.fld (F.SEQ_Tn_EV n)
    let recorded (code off : Nat) (t : State) : Prop := if s.fld (F.SEQ_Tn_RCODE_CODE n) = 0
      then t.fld (F.SEQ_Tn_RCODE_CODE n) = code ∧ t.fld (F.SEQ_Tn_RCODE_STOP n) = stop ∧
        t.reg (Reg.SEQ_Tn_RFAIL_OFS n) = BitVec.ofNat 32 off
      else t.reg (Reg.SEQ_Tn_RCODE n) = s.reg (Reg.SEQ_Tn_RCODE n) ∧
        t.reg (Reg.SEQ_Tn_RFAIL_OFS n) = s.reg (Reg.SEQ_Tn_RFAIL_OFS n)
    let failed (code off : Nat) (write resp : Bool) (t : State) : Prop :=
      t = { retire s n (if write then rd else 0) 0 x.next with regs := t.regs } ∧ recorded code off t ∧ heard (resp && rd != 0) t ∧
      regsBut s t fun a => a = Reg.SEQ_Tn_RCODE n ∨ a = Reg.SEQ_Tn_RFAIL_OFS n ∨ a = (F.SEQ_Tn_EV n).addr ∨
        (code = 1 ∧ a = (F.NI_REFUSE_COUNT 1).addr)
    let ringed (u : JoistUse) (size off : Nat) (kind : ReqKind) (data : List Byte) (cmp : Word) (t : State) : Prop := t = { s with
      cur := n
      ni := s.ni.set 1 { s.ni[1] with bridge := s.ni[1].bridge ++ [{
        src := 1, dst := Fin.ofNat 16 stop, cls := if x.urg then .urgent else .control, kind := kind, off := off, len := size
        data := data, cmp := cmp, nb := nb, client := .task n task.gen rd u }] }
      tasks := s.tasks.set n { past task x.next with inflight := task.inflight + 1, outst := task.outst + 1
                                                     pend := if u = .store ∨ rd = 0 then task.pend else task.pend ++ [rd] } }
    let waits (c : Instr) : Prop :=
      exec c s = .next { s with cur := n, tasks := s.tasks.set n { past task task.pc.toNat with wait := .tag } }
    let noTag (c : Instr) (off : Nat) (write : Bool) : Prop := s.seqTagsFull = true →
      (nb = false → waits c) ∧ (nb = true → runs c s fun t => failed 1 off write false t ∧
        t.fld (F.NI_REFUSE_COUNT 1) = (s.fld (F.NI_REFUSE_COUNT 1) + 1) % 2 ^ (F.NI_REFUSE_COUNT 1).w)
    let ld (k size : Nat) (c : Instr) (v : Word) (u : JoistUse) : Prop := issues s n k →
      (own → o % size = 0 → o + size ≤ 0x40000 → exec c s = .next (retire s n rd v x.next)) ∧
      (stop ≠ 1 → o % size = 0 → s.seqTagsFull = false → runs c s fun t => ringed u size o .read [] 0 t) ∧
      (stop ≠ 1 → o % size = 0 → noTag c o true) ∧
      (o % size ≠ 0 ∨ (stop = 1 ∧ offsetInUse 1 o = false ∧ s.accessDown 1 o = false) → runs c s (failed 3 o true (stop != 1)))
    let st (k size : Nat) (c : Instr) : Prop := issues s n k →
      (own → o % size = 0 → o + size ≤ 0x40000 → runs c s (store o size (s.jReg n rd).toNat)) ∧
      (stop ≠ 1 → o % size = 0 → s.seqTagsFull = false → runs c s fun t =>
        ringed .store size o .write (leBytes (s.jReg n rd).toNat size) 0 t) ∧
      (stop ≠ 1 → o % size = 0 → noTag c o false) ∧
      (o % size ≠ 0 ∨ (stop = 1 ∧ offsetInUse 1 o = false ∧ s.accessDown 1 o = false) → runs c s (failed 3 o false false))
    let old : Word := BitVec.ofNat 32 (le oa 4)
    let rv := s.jReg n (x.r 3)
    let amo (k : Nat) (op : BitVec 3) (c : Instr) (new : Word) : Prop := issues s n k →
      (own → oa % 4 = 0 → oa + 4 ≤ 0x40000 → runs c s fun t =>
        t = { retire s n rd old x.next with seqStore := t.seqStore, regs := t.regs } ∧
        SMap.getBytes zeroByte t.seqStore oa 4 = leBytes new.toNat 4 ∧ kept oa 4 t ∧ heard (rd != 0) t ∧
        regsBut s t fun a => a = (F.SEQ_Tn_EV n).addr) ∧
      (stop ≠ 1 → oa % 4 = 0 → s.seqTagsFull = false → runs c s fun t =>
        ringed .amo 4 oa (.amo op) (leBytes rv.toNat 4) (s.jReg n rd) t) ∧
      (stop ≠ 1 → oa % 4 = 0 → noTag c oa true) ∧
      (oa % 4 ≠ 0 ∨ (stop = 1 ∧ 0x40000 ≤ oa ∧ s.accessDown 1 oa = false) → runs c s (failed 3 oa true true))
    let word := ofLeBytes ans.data
    let value : Word := match u with
      | .byte => BitVec.ofNat 32 (word % 2 ^ 8) | .half => BitVec.ofNat 32 (word % 2 ^ 16)
      | .byteS => (BitVec.ofNat 8 word).signExtend 32 | .halfS => (BitVec.ofNat 16 word).signExtend 32
      | _ => BitVec.ofNat 32 word
    let came : Prop := s.ni[1].inbox = (q, ans) :: rest ∧ q.client = .task n gen rn u
    let taken (t : State) : Prop := t.ni = s.ni.set 1 { s.ni[1] with inbox := rest } ∧
      t = { s with ni := t.ni, tasks := t.tasks, regs := t.regs, taskSt := t.taskSt, phase := t.phase, sup := t.sup, cp := t.cp
                   rails := t.rails, joistLadderResult := t.joistLadderResult }
    let less (t : Task) : Task := { t with inflight := t.inflight - 1, outst := t.outst - 1 }
    (ld 0x50 1 .ldB (BitVec.ofNat 32 (le o 1)) .byte ∧ ld 0x51 2 .ldH (BitVec.ofNat 32 (le o 2)) .half ∧
      ld 0x52 4 .ldW (BitVec.ofNat 32 (le o 4)) .word ∧ ld 0x53 1 .ldBs ((BitVec.ofNat 8 (le o 1)).signExtend 32) .byteS ∧
      ld 0x54 2 .ldHs ((BitVec.ofNat 16 (le o 2)).signExtend 32) .halfS) ∧
    (st 0x58 1 .stB ∧ st 0x59 2 .stH ∧ st 0x5A 4 .stW) ∧
    (amo 0x60 0 .swap rv ∧ amo 0x61 1 .aadd (old + rv) ∧ amo 0x62 2 .aand (old &&& rv) ∧ amo 0x63 3 .aor (old ||| rv) ∧
      amo 0x64 4 .axor (old ^^^ rv) ∧ amo 0x65 5 .cas (if old = s.jReg n rd then rv else old)) ∧
    (came → task.live ≤ gen → u ≠ .store → rn.val ≠ 0 → s.domOn Dom.seq = true → runs .joistRingResponse s fun t => taken t ∧
      t.tasks = s.tasks.set n { less task with g := task.g.set rn (if ans.code = .ok then value else 0)
                                               pend := if gen = task.gen then task.pend.erase rn.val else task.pend } ∧
      heard (gen == task.gen && task.pend.contains rn.val) t) ∧
    (came → task.live ≤ gen → u = .store ∨ rn.val = 0 → runs .joistRingResponse s fun t => taken t ∧
      t.tasks = s.tasks.set n (less task) ∧ heard false t) ∧
    (came → gen < task.live → exec .joistRingResponse s = .next { s with
      ni := s.ni.set 1 { s.ni[1] with inbox := rest }, tasks := s.tasks.set n { task with outst := task.outst - 1 } }) ∧
    (s.ni[1].inbox = [] → exec .joistRingResponse s = .next s)

/-- Starting and aborting tasks, timers, posted events, priorities, the quantum and the context switch. From: R329,
R330, R334, R335, R336, R337, R338, R340, R341, R342, Table 13-1. -/
def Obligations.TasksTimersEventsAndTheSwitch : Prop :=
  ∀ (s : State) (n b : Fin 8) (v : Word) (took : Nat), s.memWf = true → s.domOn Dom.seq = true →
    let only (a : Nat) (t : State) : Prop := t = { s with regs := t.regs } ∧ regsBut s t fun r => r = a
    let task := s.tasks[n]
    let off : Task := { task with rep := none, wait := .none, woken := false, steps := 0, abortDue := false }
    let in_ (m : Fin 8) : Task :=
      { s.tasks[m] with wait := .none, woken := s.tasks[m].woken || s.tasks[m].wait == .event }
    let first : Prop := s.taskSt[b] = .ready ∧ ∀ m : Fin 8, s.taskSt[m] = .ready → s.fld (F.SEQ_Tn_PRI b) ≤ s.fld (F.SEQ_Tn_PRI m)
    let comes (t : State) : Prop := t = { s with regs := t.regs, taskSt := t.taskSt, tasks := s.tasks.set b (in_ b)
                                                 ran := b :: s.ran.filter (· ≠ b), ranUnits := 0 } ∧ first ∧
      t.fld F.SEQ_SWITCH_CNT = (s.fld F.SEQ_SWITCH_CNT +
        if b ≠ s.cur ∨ s.tasks[b].wait = .event ∨ s.tasks[b].wait = .yield then 1 else 0) % 2 ^ F.SEQ_SWITCH_CNT.w
    (s.taskSt[n] = .off → runs (.taskStart n) s fun t =>
      t = { s with taskSt := s.taskSt.set n .ready, regs := t.regs, tasks := s.tasks.set n { task with
        pc := BitVec.ofNat 18 (s.fld (F.SEQ_Tn_ENTRY n)), gen := task.gen + 1, pend := [], rep := none, wait := .none, woken := false,
        steps := 0 } } ∧
      t.fld (F.SEQ_Tn_EV n) = 0 ∧ t.fld (F.SEQ_Tn_REP n) = 0 ∧
      regsBut s t fun r => r = (F.SEQ_Tn_EV n).addr ∨ r = (F.SEQ_Tn_REP n).addr) ∧
    (s.taskSt[n] ≠ .off → runs (.taskStart n) s fun t => only F.SEQ_SCHED_ERR_START_BUSY.addr t ∧
      t.bit F.SEQ_SCHED_ERR_START_BUSY = true) ∧
    (s.taskSt[n] = .off → exec (.taskAbort n) s = .next s) ∧
    (s.taskSt[n] ≠ .off → (∀ p : Fin 32, s.pegs[p].owner ≠ some (.task n)) → s.trs.queue = [] → runs (.taskAbort n) s fun t =>
      t = { s with taskSt := s.taskSt.set n .off, regs := t.regs, tasks := s.tasks.set n { off with
        gen := task.gen + 1, live := task.gen + 1, pend := [], inflight := 0, timerOn := false } } ∧
      t.bit (F.SEQ_Tn_STAT_ABORTED n) = true ∧ t.fld (F.SEQ_Tn_STAT_ABORT_CAUSE n) = 1 ∧ t.fld (F.SEQ_Tn_EV n) = 0 ∧
      t.fld (F.SEQ_Tn_WMASK n) = 0 ∧ t.reg (Reg.SEQ_Tn_TIMER n) = 0) ∧
    (runs (.evPost v) s fun t => t.tasks = s.tasks ∧ t.pegs = s.pegs ∧ ∀ m : Fin 8, t.fld (F.SEQ_Tn_EV m) =
      (if v.getLsbD m then s.fld (F.SEQ_Tn_EV m) ||| 512 else s.fld (F.SEQ_Tn_EV m)) ∧
      t.taskSt[m] = if v.getLsbD m ∧ s.taskSt[m] = .wait ∧ bitOf (s.fld (F.SEQ_Tn_WMASK m)) 9 = true then .ready else s.taskSt[m]) ∧
    (runs (.taskTimerWrite n v) s fun t => t = { s with regs := t.regs, tasks := s.tasks.set n { task with
        timerOn := decide (v.toNat % 2 ^ 24 ≠ 0) } } ∧
      t.reg (Reg.SEQ_Tn_TIMER n) = v &&& 0x80FFFFFF ∧ regsBut s t fun r => r = Reg.SEQ_Tn_TIMER n) ∧
    (task.timerOn = true → runs (.taskTimerExpiry n) s fun t => t.tasks = s.tasks.set n { task with
        timerOn := s.bit (F.SEQ_Tn_TIMER_PERIODIC n) } ∧
      t.fld (F.SEQ_Tn_EV n) = s.fld (F.SEQ_Tn_EV n) ||| 128) ∧
    (task.timerOn = false → exec (.taskTimerExpiry n) s = .next s) ∧
    (runs (.taskPriWrite n v) s fun t => only (F.SEQ_Tn_PRI n).addr t ∧ t.fld (F.SEQ_Tn_PRI n) = v.toNat % 8) ∧
    (s.fld F.SEQ_SCHED_QUANTUM ≠ 0 → s.taskSt[n] = .run →
      exec .quantumExpiry s = .next { s with ranUnits := s.fld F.SEQ_SCHED_QUANTUM }) ∧
    (s.fld F.SEQ_SCHED_QUANTUM = 0 → exec .quantumExpiry s = .next s) ∧
    (s.settleWaits = s → s.runTask = none → s.bestReady = some b → runs (.contextSwitch took) s fun t => comes t ∧
      t.taskSt = s.taskSt.set b .run) ∧
    (s.settleWaits = s → s.runTask = some n → (s.tasks[n]).wait ≠ .none → s.bestReady = some b → runs (.contextSwitch took) s fun t =>
      comes t ∧ t.taskSt = (s.taskSt.set n .wait).set b .run) ∧
    (s.settleWaits = s → s.runTask = some n → (s.tasks[n]).wait = .none → s.bestReady = some b → s.fld (F.SEQ_Tn_PRI b) <
      s.fld (F.SEQ_Tn_PRI n) ∨ (s.fld (F.SEQ_Tn_PRI b) = s.fld (F.SEQ_Tn_PRI n) ∧ s.fld F.SEQ_SCHED_QUANTUM ≠ 0 ∧
        s.fld F.SEQ_SCHED_QUANTUM ≤ s.ranUnits) → runs (.contextSwitch took) s fun t => comes t ∧
      t.taskSt = (s.taskSt.set n .ready).set b .run ∧
      t.fld F.SEQ_PREEMPT_MAX = max (s.fld F.SEQ_PREEMPT_MAX) (min took 255)) ∧
    (s.settleWaits = s → s.bestReady = none → exec (.contextSwitch took) s = .next s)

/-- Peg requests of the host, the Jig and the supervisor: acquire, mend and release change the peg as its state and
owner say. Rules: R343, R344, R345, R346, R347, R352. -/
def Obligations.PegRequests : Prop :=
  ∀ (s : State) (q : PegParty) (p : Fin 32), s.memWf = true → s.domOn Dom.seq = true → s.cp.sess.active = true →
    let me : PegOwner := match q with | .host => .host | .jig => .jig | .supv => .supv
    let res : Nat := match q with | .host => Reg.SEQ_PEG_RES_HOST | .jig => Reg.SEQ_PEG_RES_JIG | .supv => Reg.SEQ_PEG_RES_SUPV
    let peg := s.pegs[p]
    let becomes (x : Peg) (t : State) : Prop := t.pegs = s.pegs.set p x ∧
      t = { s with pegs := t.pegs, regs := t.regs, freeCtr := t.freeCtr, taskSt := t.taskSt, phase := t.phase, sup := t.sup
                   cp := t.cp, rails := t.rails, joistLadderResult := t.joistLadderResult }
    let result (op v : Nat) (t : State) : Prop := t.reg res = BitVec.ofNat 32 (v + p.val * 2 ^ 24 + op * 2 ^ 29)
    (peg.owner = none → runs (.pegReqAcq q p) s fun t =>
      becomes { peg with st := if peg.st = .broken then .broken else .held, owner := some me } t ∧
      result 1 (1 + (if peg.st = .broken then 2 else 0) + 256 * peg.epoch.toNat) t ∧
      t = { s with pegs := t.pegs, regs := t.regs } ∧ regsBut s t fun a => a = res) ∧
    (peg.owner ≠ none → runs (.pegReqAcq q p) s fun t => t = { s with regs := t.regs } ∧ result 1 0 t ∧
      t.bit F.SEQ_PEG_ERR_SELF = (s.bit F.SEQ_PEG_ERR_SELF || peg.owner == some me)) ∧
    (peg.st = .broken → peg.owner = some me → runs (.pegReqMend q p) s fun t => becomes { peg with st := .held } t ∧ result 3 1 t ∧
      t = { s with pegs := t.pegs, regs := t.regs } ∧ regsBut s t fun a => a = res) ∧
    (¬(peg.st = .broken ∧ peg.owner = some me) → runs (.pegReqMend q p) s fun t => t = { s with regs := t.regs } ∧ result 3 0 t ∧
      regsBut s t fun a => a = res) ∧
    (peg.owner = some me → peg.st = .held → runs (.pegReqRel q p) s (becomes { peg with st := .free, owner := none })) ∧
    (peg.owner = some me → peg.st = .broken → runs (.pegReqRel q p) s fun t => becomes { peg with owner := none } t ∧
      t.bit F.SEQ_PEG_ERR_REL_UNMENDED = true) ∧
    (peg.owner ≠ some me → runs (.pegReqRel q p) s fun t =>
      t = { s with regs := t.regs, freeCtr := t.freeCtr } ∧ t.bit F.SEQ_PEG_ERR_NOT_HOLDER = true)

/-- The certificate of every coded block is at most NEAR, and 0 for a RAW block. Rules: R357, R358, R359, R362, R364.
-/
def Obligations.CertifiedLossStaysWithinNear : Prop :=
  ∀ b : KrfBlock, 1 ≤ b.n → (∀ x ∈ b.pixels, x < 2 ^ b.n) →
    b.coded.2.1 ≤ b.cfg.near ∧ (b.coded.2.2 = true → b.coded.2.1 = 0)

/-- Blocks start in lanes and finish into buffers; frames are enqueued, sent, acknowledged, resent and abandoned.
Rules: R366, R367, R368, R371, R372, R383, R384, R385, R386, R388, R393, R394. -/
def Obligations.KerfBlocksAndEgressFrames : Prop :=
  ∀ (s : State) (i : Fin 2) (b : StoreBuf) (c : KrfCfg) (lane : Fin 4) (k : KrfBlock) (f : Fin 64) (v : Word) (seq : Half) (held : Nat) (sh : BufShare),
    s.memWf = true → s.domOn Dom.egress = true →
    let only (a : Nat) (t : State) : Prop := t = { s with regs := t.regs } ∧ regsBut s t fun r => r = a
    let up (g : Fld) (t : State) : Prop := t.fld g = (s.fld g + 1) % 2 ^ g.w
    let len := b.blockLen c
    let blk (c : KrfCfg) : KrfBlock :=
      { order := b.order, idx := b.nextBlk, buf := i, pixels := (b.pixels.drop (b.nextBlk * len)).take len, n := b.n, tile := b.tile
        start := if b.tile then b.start else b.start + b.nextBlk * len, ctx := b.ctx, cfg := c, stamp := b.stamp }
    let starts (t : State) : Prop := t = { s with
      lanes := s.lanes.set lane (some (blk c)), storeBufs := s.storeBufs.set i (some { b with cfg := some c, nextBlk := b.nextBlk + 1 })
      regs := t.regs }
    let egr (bufs : Vector EgrBuf 64) (t : State) : Prop := t = { s with regs := t.regs, egr := { s.egr with
      bufs := bufs, notice := t.egr.notice } }
    let fb := s.egr.bufs[f]
    let quiet : Prop := (∀ j : Fin 4, s.lanes[j] = none) ∧ s.egr.sumOpen = none ∧ s.egr.sumAcc = none ∧ s.egr.dropAcc = none
    let rx : Prop := s.tapActs = false ∧ s.bit F.EGR_CFG_EN = true ∧ s.bit F.EGR_STAT_RX_SYNC = true
    let plen := s.fld F.EGR_ENQ_D0_LEN
    let sent : Option EgrBuf := some { fb with st := .inflight, resend := false, sends := fb.sends + 1
                                               seq := if fb.sends = 0 then s.egr.nextSeq else fb.seq
                                               order := if fb.sends = 0 then s.egr.orderCtr else fb.order }
    let words := fb.frame.words (s.fld F.EGR_CFG_HEAD_ID) (if fb.sends = 0 then s.egr.nextSeq else fb.seq)
    (s.krfBuf? = some i → s.storeBufs[i] = some b → s.krfLane? = some lane →
      (b.cfg = some c → runs .kerfBlockStart s fun t => starts t ∧ t.regs = s.regs) ∧
      (b.cfg = none → s.bit (F.KRF_CTXc_CFG_EN b.ctx) = true → c = s.krfCfg b.ctx → runs .kerfBlockStart s fun t => starts t ∧
        t.bit F.KRF_STAT_CLAMP = (s.bit F.KRF_STAT_CLAMP || (b.n == 16 && c.blklen == 2048 && !b.tile))) ∧
      (b.cfg = none → s.bit (F.KRF_CTXc_CFG_EN b.ctx) = false → runs .kerfBlockStart s fun t => up F.KRF_DIS_CNT t ∧
        t = { s with storeBufs := s.storeBufs.set i none, regs := t.regs } ∧ t.bit F.KRF_STAT_DIS_EV = true)) ∧
    (s.lanes[lane] = some k → k.payload = none → s.egrFreeBuf? = none → s.storeBufs[k.buf] = none →
      runs (.kerfBlockDone lane held) s fun t => t = { s with regs := t.regs, lanes := s.lanes.set lane (some { k with
        payload := some k.coded.1 }) } ∧ up F.KRF_BLOCKS t ∧
      t.fld F.KRF_RAW_CNT = (s.fld F.KRF_RAW_CNT + b2n k.coded.2.2) % 2 ^ F.KRF_RAW_CNT.w ∧
      t.fld F.KRF_MAXCERT = max (s.fld F.KRF_MAXCERT) (k.coded.2.1 % 2 ^ F.KRF_MAXCERT.w)) ∧
    (s.bit F.EGR_CFG_EN = false → runs .egrEnqGo s fun t => t = { s with regs := t.regs } ∧ up F.EGR_REFUSE_CNT t ∧
      t.fld F.EGR_ENQ_GO_RESULT = 5) ∧
    (s.bit F.EGR_CFG_EN = true → s.fld F.EGR_ENQ_D0_TYPE = 2 → 1 ≤ plen → plen ≤ 4096 → s.egrShare? .record = some sh →
      s.egrFreeBuf? = some f → runs .egrEnqGo s fun t => t.fld F.EGR_ENQ_GO_RESULT = 0 ∧
      t = { s with regs := t.regs, egr := { s.egr with bufs := t.egr.bufs, orderCtr := s.egr.orderCtr + 1 } } ∧
      (∀ j : Fin 64, j ≠ f → t.egr.bufs[j] = s.egr.bufs[j]) ∧ t.egr.bufs[f].st = .queued ∧ t.egr.bufs[f].share = sh ∧
      t.egr.bufs[f].frame.cls = .record ∧ t.egr.bufs[f].frame.payload.take plen = (List.range plen).map (fun j =>
        BitVec.ofNat 8 ((s.reg (Reg.EGR_STAGE (j / 4))).toNat / 256 ^ (j % 4)))) ∧
    (s.bit F.EGR_STAT_LINK_UP = true → s.egrNext? = some f → runs (.egrFrameSend held) s fun t =>
      t = { s with egr := t.egr, regs := t.regs } ∧ some t.egr.bufs[f] = sent ∧
      (∀ j : Fin 64, j ≠ f → t.egr.bufs[j] = s.egr.bufs[j]) ∧ words <:+ t.egr.lastSent ∧
      t.egr.nextSeq = (if fb.sends = 0 then s.egr.nextSeq + 1 else s.egr.nextSeq) ∧
      t.fld F.EGR_RETX_CNT = (s.fld F.EGR_RETX_CNT + if fb.sends = 0 then 0 else 1) % 2 ^ F.EGR_RETX_CNT.w) ∧
    (s.bit F.EGR_STAT_LINK_UP = false → exec (.egrFrameSend held) s = .next s) ∧
    (rx → runs (.egrCredit seq) s fun t => t = { s with egr := { s.egr with limit := seq }, regs := t.regs } ∧
      t.bit F.EGR_STAT_LINK_UP = true ∧ regsBut s t fun r => r = F.EGR_STAT_LINK_UP.addr) ∧
    (rx → quiet → s.egrInflight? seq = some f → runs (.egrAck seq) s fun t => egr (s.egr.bufs.set f {}) t ∧ up F.EGR_FRAMES t) ∧
    (rx → s.egrInflight? seq = none → (runs (.egrAck seq) s fun t => only F.EGR_RX_ERR.addr t ∧ up F.EGR_RX_ERR t) ∧
      runs (.egrNak seq) s fun t => only F.EGR_RX_ERR.addr t ∧ up F.EGR_RX_ERR t) ∧
    (rx → runs .egrRxBadMessage s fun t => only F.EGR_RX_ERR.addr t ∧ up F.EGR_RX_ERR t) ∧
    (fb.st = .inflight → fb.resend = false → fb.sends ≤ s.fld F.EGR_CFG_RETRY_MAX →
      let again : State := { s with egr := { s.egr with bufs := s.egr.bufs.set f { fb with resend := true } } }
      exec (.ackTimeout f) s = .next again ∧ (rx → s.egrInflight? seq = some f → exec (.egrNak seq) s = .next again)) ∧
    (fb.st = .inflight → fb.resend = false → s.fld F.EGR_CFG_RETRY_MAX < fb.sends → f.val < 62 → quiet →
      runs (.ackTimeout f) s fun t => up F.EGR_ABANDON t ∧ up F.EGR_DROP_CNT t ∧ t.egr.bufs[f] = {} ∧
      (∀ j : Fin 64, j ≠ f → j.val ≠ 63 → t.egr.bufs[j] = s.egr.bufs[j]) ∧ t = { s with regs := t.regs, egr := t.egr }) ∧
    (s.egrFreeBuf? = none → s.lanes[lane] = some k → k.payload ≠ none → k.cfg.record = false → runs (.imgWaitExpiry lane) s fun t =>
      t = { s with regs := t.regs, egr := t.egr, lanes := s.lanes.set lane none } ∧ up F.EGR_DROP_CNT t) ∧
    (s.bit F.EGR_CFG_EN = true → runs .egrRxSync s fun t => only F.EGR_STAT_RX_SYNC.addr t ∧ t.bit F.EGR_STAT_RX_SYNC = true) ∧
    (rx → runs .egrRxLost s fun t => only F.EGR_STAT_RX_SYNC.addr t ∧ t.bit F.EGR_STAT_RX_SYNC = false ∧
      t.bit F.EGR_STAT_LINK_UP = false ∧ t.bit F.EGR_STAT_RX_LOST = true) ∧
    (getBits v 16 8 = 0 → exec (.egrCfgWrite v) s = .next s) ∧
    (getBits v 16 8 ≠ 0 → v.getLsbD 0 = s.bit F.EGR_CFG_EN → runs (.egrCfgWrite v) s fun t => only Reg.EGR_CFG t ∧
      t.reg Reg.EGR_CFG = v &&& 0x00FF073F) ∧
    (getBits v 16 8 ≠ 0 → v.getLsbD 0 = true → s.bit F.EGR_CFG_EN = false → runs (.egrCfgWrite v) s fun t =>
      t = { s with regs := t.regs, egr := { s.egr with preamble := 2048, sinceAlign := 0 } } ∧
      t.reg Reg.EGR_CFG = v &&& 0x00FF073F ∧ regsBut s t fun r => r = Reg.EGR_CFG) ∧
    (getBits v 16 8 ≠ 0 → v.getLsbD 0 = false → s.bit F.EGR_CFG_EN = true → (∀ j : Fin 4, s.lanes[j] = none) →
      runs (.egrCfgWrite v) s fun t => t = { s with regs := t.regs, egr := t.egr } ∧ (∀ j : Fin 64, t.egr.bufs[j].st = .free) ∧
      t.egr.nextSeq = 0 ∧ t.egr.limit = 0 ∧ t.bit F.EGR_STAT_LINK_UP = false ∧ t.reg Reg.EGR_CFG = v &&& 0x00FF073F) ∧
    (s.bit F.EGR_CFG_EN = false → getBits v 0 6 + getBits v 8 6 ≤ 61 → runs (.egrBufCfgWrite v) s fun t => only Reg.EGR_BUF_CFG t ∧
      t.reg Reg.EGR_BUF_CFG = v &&& 0x3F3F) ∧
    (¬(s.bit F.EGR_CFG_EN = false ∧ getBits v 0 6 + getBits v 8 6 ≤ 61) → runs (.egrBufCfgWrite v) s fun t =>
      only F.EGR_ERR_CFG.addr t ∧ t.bit F.EGR_ERR_CFG = true)

/-- Dynak ports, calibration, received and sent messages, link loss and free-wheel. Rules: R403, R404, R405, R406,
R407, R408, R410, R412, R416, R419, R422, R423. -/
def Obligations.DynakLinksAndMessages : Prop :=
  ∀ (s : State) (p : DynPort) (t frac r : Nat) (fopen flast noexpo linepos : Bool) (tgt lnum turn : BitVec 24) (pos : Pos) (hop : BitVec 5)
    (gwin : Half) (fnum v : Word) (idx : Byte) (bs : List Byte) (m : DynMsg) (q : List DynMsg) (a b : Nat),
    s.memWf = true → s.dynOn = true →
    let x := s.dynPort p
    let takes : Prop := s.dynTakes p = true
    let up (g : Fld) (n : Nat) (t : State) : Prop := t.fld g = (s.fld g + n) % 2 ^ g.w
    let dyn (t : State) : Prop := t = { s with now := t.now, regs := t.regs, dyn := t.dyn }
    let port (y : DynPortSt) (t : State) : Prop := t = { s.setDynPort p y with now := t.now, regs := t.regs }
    let room : Prop := s.dyn.up.txq.length < 13 ∧ s.dyn.dn.txq.length < 13
    let queued (ms : List DynMsg) (both : Bool) (t : State) : Prop := t.dyn.dn = { s.dyn.dn with txq := s.dyn.dn.txq ++ ms } ∧
      t.dyn.up = (if both then { s.dyn.up with txq := s.dyn.up.txq ++ ms } else s.dyn.up) ∧
      t = { s with now := t.now, dyn := { s.dyn with up := t.dyn.up, dn := t.dyn.dn, lastPos := t.dyn.lastPos } }
    let ring := s.bit F.DYN_CFG_RING
    let from_ : Prop := takes ∧ s.dynMaster = false ∧ p = s.dynSrc
    let g64 : Int := (pos.toNat : Int) * 64 + (s.fld (hopdly p) : Int) - frac
    let own64 : Int := ((t : Int) + s.dyn.gOffset) * 64 + s.dyn.fine.toNat
    (s.domOn Dom.dynak = true → x.trained = false → (s.bit F.DYN_CFG_AUTOCAL = false ∨ s.isMaster = true) → runs (.dynPortTrained p t) s fun u =>
      port { x with trained := true } u ∧ u.regs = s.regs) ∧
    (x.trained = true → p ≠ s.dynSrc → runs (.dynPortTrainingLost p t) s fun u => port { x with trained := false, calDone := false } u ∧
      u.regs = s.regs) ∧
    (s.dyn.lost = false → s.dynMaster = false → s.canFailover = false → runs .dynSourceLoss s fun u =>
      dyn u ∧ u.bit F.DYN_STAT_LOST_EV = true ∧ up F.DYN_LOSS_CNT 1 u ∧
      u.dyn = { s.dyn with lost := true, freewheel := s.isFollower && s.capture, fwLines := 0 }) ∧
    (s.dyn.lost = false → s.dynMaster = false → s.canFailover = true → runs .dynSourceLoss s fun u =>
      dyn u ∧ u.bit F.DYN_STAT_FAILOVER_EV = true ∧ u.dyn = { s.dyn with srcDn := true, calDone := true }) ∧
    (takes → s.mode = .lockstep → s.dynMaster = true → runs (.dynMsgLine p fopen flast noexpo tgt lnum t) s fun u =>
      u = { s with now := max s.now t, regs := u.regs } ∧ u.bit F.DYN_STAT_ALIEN = (s.bit F.DYN_STAT_ALIEN || !ring)) ∧
    (from_ → s.isFollower = true → s.dyn.tooLong = false → s.lineDup lnum = true →
      runs (.dynMsgLine p fopen flast noexpo tgt lnum t) s fun u => dyn u ∧ up F.DYN_DUP 1 u ∧ u.dyn = s.dyn) ∧
    (from_ → s.isFollower = true → s.dyn.tooLong = false → s.lineDup lnum = false → s.capture = true → s.dyn.freewheel = false →
      s.dyn.lastNum ≠ none → s.dyn.stopped = false → runs (.dynMsgLine p fopen flast noexpo tgt lnum t) s fun u =>
        u.reg Reg.ENC_LINE_NUM = s.lineNumber lnum ∧ (s.lineNumber lnum).truncate 24 = lnum ∧
        u.dyn.lastNum = some (s.lineNumber lnum) ∧ u.dyn.lastTarget = some (s.lineTarget tgt t) ∧
        u.dyn.prevTarget = s.dyn.lastTarget ∧ u.mode = s.mode ∧ u.tasks = s.tasks) ∧
    (from_ → s.mode ≠ .lockstep ∨ s.dynMaster = false → s.dynForwards = false → linepos = false → runs (.dynMsgPos p linepos pos) s fun u =>
      u = { s with dyn := { s.dyn with lastPos := pos, mpos := if s.dyn.hop = 0 then s.dyn.mpos else pos } }) ∧
    (takes → hop ≠ s.dyn.hop → s.dynForwards = false → runs (.dynMsgGor p hop lnum) s fun u => u = { s with regs := u.regs } ∧
      u.fld F.DYN_GOR_MASK = s.fld F.DYN_GOR_MASK ||| 2 ^ hop.toNat ∧ u.fld F.DYN_GOR_LAST_LNUM = lnum.toNat ∧
      u.fld F.DYN_GOR_LAST_HOP = hop.toNat) ∧
    (from_ → s.lineQuiet = true → runs (.dynMsgSyncTime p pos t frac) s fun u => u.dyn.gOffset = g64 / 64 - t ∧ u.dyn.gPending = none ∧
      u.dyn.fine = BitVec.ofInt 6 (g64 % 64) ∧
      u.bit F.DYN_STAT_TIME_ERR = (s.bit F.DYN_STAT_TIME_ERR || decide (64 ≤ (g64 - own64).natAbs))) ∧
    (from_ → runs (.dynMsgSyncCfg p gwin fnum) s fun u => u.dyn = { s.dyn with gwin := gwin, frameNum := fnum } ∧
      u = { s with dyn := u.dyn, ing := u.ing } ∧ (s.isFollower = false → u.ing = s.ing) ∧
      (s.isFollower = true → u.ing.frameNum = fnum)) ∧
    (takes → x.txq.length < 16 → exec (.dynMsgProbe p idx turn) s = .next (s.setDynPort p { x with txq := x.txq ++ [.echo idx turn] })) ∧
    (takes → s.dyn.calBusy = true → exec (.dynMsgEcho p idx turn r) s = .next (s.setDynPort p { x with
      calSum := x.calSum + ((r : Int) - turn.toNat), calEchoes := x.calEchoes + 1 })) ∧
    (takes → s.isMaster = false → p = .up → hop ≠ 31 → runs (.dynMsgEnum p hop) s fun u =>
      u = { s with dyn := { s.dyn with hop := hop + 1, tooLong := false, mpos := u.dyn.mpos } }) ∧
    (takes → s.isMaster = false → p = .up → runs (.dynMsgEnum p 31) s fun u => u.bit F.DYN_ERR_TOO_LONG = true ∧
      u = { s with dyn := { s.dyn with tooLong := true }, regs := u.regs }) ∧
    (takes → s.dynForwards = false → runs (.dynMsgUser p pos) s fun u => u.bit F.DYN_STAT_CMD_EV = true ∧
      u = { s with dyn := { s.dyn with cmdRx := pos }, regs := u.regs }) ∧
    (takes → (runs (.dynMsgDiscard p bs true) s fun u => u = { s with regs := u.regs } ∧ up F.DYN_CRC_ERR 1 u) ∧
      (DynMsg.parse bs = .crcFail → runs (.dynMsgDiscard p bs false) s fun u => u = { s with regs := u.regs } ∧ up F.DYN_CRC_ERR 1 u) ∧
      (DynMsg.parse bs = .reserved → runs (.dynMsgDiscard p bs false) s fun u => u = { s with regs := u.regs } ∧ up F.DYN_RSV_MSG 1 u)) ∧
    (dynPick x.txq = some (m, q) → (∀ n ∈ x.txq, m.prio ≤ n.prio) ∧ runs (.dynMessageSend p t) s fun u =>
      port { x with txq := q, sent := some (match m with | .time _ => .time (s.groupTime t) | _ => m) } u ∧ u.regs = s.regs) ∧
    (room → s.dyn.tooLong = false → s.dynMaster = true → runs (.syncPeriod t) s
      (queued [.time 0, .cfg (BitVec.ofNat 16 (s.fld F.DYN_GWIN)) s.ing.frameNum, .enum s.dyn.hop] ring)) ∧
    (room → s.isMaster = true → s.fld F.DYN_POS_PER ≠ 0 → s.trigPos ≠ s.dyn.lastPos → runs .posPeriod s fun u =>
      queued [.pos false s.trigPos] ring u ∧ u.dyn.lastPos = s.trigPos) ∧
    (s.domOn Dom.dynak = true → v.getLsbD 0 = true → s.isMaster = false → runs (.dynCalGo v t) s fun u => dyn u ∧ u.regs = s.regs ∧
      u.dyn.calBusy = true ∧ u.dyn.calOk = false ∧ u.dyn.up.calEchoes = 0 ∧ u.dyn.dn.calEchoes = 0) ∧
    (s.dyn.calBusy = true → ring = false → p = s.dynSrc → x.calProbes < 64 → x.txq.length < 16 → exec .calProbeTick s = .next (s.setDynPort p
      { x with calProbes := x.calProbes + 1, txq := x.txq ++ [.probe (BitVec.ofNat 8 x.calProbes)] })) ∧
    (s.dyn.calBusy = true → s.dyn.tooLong = false → ring = false → p = s.dynSrc →
      (x.calEchoes < 48 → runs .calWindowEnd s fun u => dyn u ∧ u.bit F.DYN_ERR_CAL_FAIL = true ∧
        u.dyn = { s.dyn with calBusy := false, calOk := false }) ∧
      (48 ≤ x.calEchoes → runs .calWindowEnd s fun u => dyn u ∧ u.dyn.calBusy = false ∧ u.dyn.calOk = true ∧
        (u.dynPort p).calDone = true ∧ u.fld (hopdly p) = calDelay x.calSum x.calEchoes % 2 ^ (hopdly p).w)) ∧
    (s.isFollower = true → s.capture = true → s.bit F.DYN_CFG_TRACK_EN = true → p = s.dynSrc → x.txq.length < 16 →
      exec .trackProbe s = .next (s.setDynPort p { x with txq := x.txq ++ [.probe 0] })) ∧
    (s.dyn.freewheel = true → s.capture = true → s.dyn.prevTarget = some a → s.dyn.lastTarget = some b → runs .freewheelLine s fun u =>
      u.reg Reg.ENC_LINE_NUM = s.reg Reg.ENC_LINE_NUM + 1 ∧ up F.DYN_XTRAP_CNT 1 u ∧ u.dyn.fwLines = s.dyn.fwLines + 1 ∧
      u.dyn.stopped = (s.dyn.stopped || decide (s.fld F.DYN_FW_MAX ≤ s.dyn.fwLines + 1)) ∧ u.mode = s.mode) ∧
    (room → s.dyn.up.trained = true → s.dyn.dn.trained = true → s.domOn Dom.dynak = true → runs (.dynCmdTxHiWrite v) s
      (queued [.user (BitVec.ofNat 48 (s.fld F.DYN_CMD_TX_LO + 2 ^ 32 * (v.toNat % 2 ^ 16)))] true))

/-- Requests take a route and a tag and enter a ring, far memory performs them at their places, responses and timeouts retire or
answer them; credits are conserved (notes/assumptions/67.md). Rules: R434, R438, R441, R446, R449, R450, R452, R455, R465, R466,
R468, R479. -/
def Obligations.RingsTagsAndFarMemory : Prop :=
  ∀ (s : State) (n : Fin 16) (tag : Byte) (q : RingReq) (qs : List RingReq) (e : TagEnt) (r : RingResp) (ring waited : Nat) (pri hot : Bool)
    (k : Fin 64) (v : Word) (a0 a1 b0 b1 : Byte) (op : BitVec 3) (o o' : Nat), s.memWf = true → s.plateUp = true →
    let x := s.ni[n]
    let up (g : Fld) (t : State) : Prop := t.fld g = (s.fld g + 1) % 2 ^ g.w
    let only (a : Nat) (t : State) : Prop := t = { s with regs := t.regs } ∧ regsBut s t fun b => b = a
    let plain (q : RingReq) : Bool := match q.client with | .tally .. => false | .jig _ => false | _ => true
    let ni (y : Ni) (t : State) : Prop := t = { s with ni := s.ni.set n y, regs := t.regs }
    let inbox (c : RespCode) (t : State) : Prop := ni { x with bridge := qs, inbox := x.inbox ++ [(q, { code := c })] } t
    let i := 4 * q.dst.val + classCode q.cls
    let full : Prop := 256 ≤ x.tags.length
    let issue : Prop := x.bridge = q :: qs ∧ x.bypass = false ∧ s.stopHeld.contains n.val = false ∧ s.phase = .stable ∧ plain q = true ∧
      q.cls ≠ .urgent ∧ q.dst ≠ n
    let channelOf (ring : Nat) : Fin 12 := channel (ring == 1) q.cls false
    let packet : FlitRun := { stop := n, tag := tag, dst := q.dst, n := q.flits, tot := q.flits }
    let credits (u : State) : Prop := ∀ (c : Fin 12) (m : Fin 16),
      u.rings[c][m].avail + flitSum u.rings[c][m].buf + u.rings[c][m].back = 6
    let q' := e.req
    let far : Prop := s.tagEnt? n tag = some e ∧ s.arrivesNext n e = true ∧ q'.dst = 3 ∧ s.ni[3].bypass = false ∧
      s.stopHeld.contains 3 = false ∧ s.memcReady = true ∧ s.mode ≠ .fallback ∧ q'.off + q'.len ≤ s.memcCap ∧
      q'.off % 128 + q'.len ≤ 128 ∧ 1 ≤ q'.len
    let clean : Prop := ∀ w ∈ memcWords q'.off q'.len, s.memcErr w = 0
    let arrives (p : State → Prop) : Prop := runs (.memcRequest n tag []) s p ∧ runs (.ringRequestArrival n tag none) s p
    let answered (a : RingResp) (t : State) : Prop := (credits s → credits t) ∧ ∃ b : Bool,
      t = { s with regs := t.regs, memc := t.memc, rings := t.rings
                   ni := s.ni.set n { x with tags := x.tags.map fun en =>
                     if en.tag == tag then { en with st := .answered a, sill := b } else en } }
    let same (t : State) : Prop := t.memc = { s.memc with turn := t.memc.turn }
    let stored (off : Nat) (bs : List Byte) (t : State) : Prop := t.memcBytes off bs.length = bs ∧
      (∀ a : Nat, ¬(off ≤ a ∧ a < off + bs.length) → a < s.memcCap → t.memcBytes a 1 = s.memcBytes a 1) ∧ t.memc.lost = s.memc.lost
    let cfg := s.reg Reg.MEMC_CFG
    let rankSpan := 2 ^ (29 + getBits cfg 1 3)
    let inRank (rank q : Nat) : DramPlace :=
      { rank := rank, byte := q % 32, channel := q / 32 % 2, burst := q / 64 % 64, bank := q / 4096 % 8, row := q / 32768 }
    let old : Word := BitVec.ofNat 32 (ofLeBytes (s.memcBytes q'.off 4))
    let rv : Word := BitVec.ofNat 32 (ofLeBytes (q'.data.take 4))
    let new : Word := match op.toNat with
      | 0 => rv | 1 => old + rv | 2 => old &&& rv | 3 => old ||| rv | 4 => old ^^^ rv | _ => if old = q'.cmp then rv else old
    let lead := getBits v 0 14
    let here : Prop := s.tagEnt? n tag = some e ∧ e.st = .answered r ∧ s.atRouter e.channel n n tag = true
    let leaves (t : State) : Prop := t.onRing e.channel n tag = false ∧ (credits s → credits t) ∧
      ∀ c : Fin 12, c ≠ e.channel → t.rings[c] = s.rings[c]
    (issue → s.bit (F.NI_ROUTEi_VALID n i) = false → runs (.ringRequestIssue n tag waited) s (inbox .decode)) ∧
    (issue → s.bit (F.NI_ROUTEi_VALID n i) = true → s.routeRing n i = none → runs (.ringRequestIssue n tag waited) s (inbox .poweredDown)) ∧
    (issue → s.bit (F.NI_ROUTEi_VALID n i) = true → s.routeRing n i = some (ring, pri) → s.routeHeld n q = false →
      (full → q.nb = true → runs (.ringRequestIssue n tag waited) s fun t => inbox .refusedNotag t ∧ up (F.NI_REFUSE_COUNT n) t) ∧
      (full → q.nb = false → runs (.ringRequestIssue n tag waited) s fun t => t = { s with regs := t.regs }) ∧
      (¬full → s.tagFree n tag = true → runs (.ringRequestIssue n tag waited) s fun t =>
        t = State.inject { s with regs := t.regs, ni := s.ni.set n { x with bridge := qs, tags := x.tags ++ [{
          tag := tag, req := q, primary := pri, sill := ring == 1 }] } } (channelOf ring) n packet ∧
        (credits s → credits t) ∧ ∀ c : Fin 12, c ≠ channelOf ring → t.rings[c] = s.rings[c])) ∧
    (far → clean → q'.kind = .read → arrives fun t => answered { data := s.memcBytes q'.off q'.len } t ∧ same t) ∧
    (far → clean → q'.kind = .write → q'.data.length = q'.len → arrives fun t => answered {} t ∧ stored q'.off q'.data t) ∧
    (far → clean → q'.kind = .amo op → op.toNat < 6 → q'.off % 4 = 0 → q'.len = 4 → arrives fun t =>
      answered { data := s.memcBytes q'.off 4 } t ∧ stored q'.off (leBytes new.toNat 4) t) ∧
    (far → s.bit F.MEMC_CFG_ECC_EN = true → (∃ w ∈ memcWords q'.off q'.len, s.memcErr w = 2) → q'.kind = .read → arrives fun t =>
      answered { code := .poison } t ∧ t.memc.store = s.memc.store ∧ t.bit F.MEMC_STAT_UE_EV = true) ∧
    (here → x.bypass = false → plain q' = true → e.stale = false → e.primary = false →
      runs (.ringResponseArrival n tag none) s fun t => leaves t ∧
        ni { x with tags := x.tags.filter (fun en => en.tag != tag), inbox := x.inbox ++ [(q', r)] } { t with rings := s.rings }) ∧
    (here → x.bypass = false → e.stale = true → runs (.ringResponseArrival n tag none) s fun t => leaves t ∧
      ni { x with tags := x.tags.filter (fun en => en.tag != tag) } { t with rings := s.rings } ∧ up (F.NI_LATE_RESP n) t) ∧
    (here → x.bypass = true → runs (.ringResponseArrival n tag none) s fun t => leaves t ∧ t.ni[n].inbox = x.inbox ∧
      up (F.NI_BYPASS_DROP n) t) ∧
    (s.tagEnt? n tag = some e → e.st = .answered r → s.atRouter e.channel n n tag = false →
      exec (.ringResponseArrival n tag none) s = .next s) ∧
    (s.tagEnt? n tag = some e → plain q' = true → e.stale = false → e.primary = false → runs (.tagTimeout n tag) s fun t =>
      up (F.NI_TIMEOUT_CNT n) t ∧ ni { x with inbox := x.inbox ++ [(q', { code := .timeout })]
                                              tags := x.tags.map fun en => if en.tag == tag then { en with stale := true } else en } t) ∧
    (k.val % 4 ≠ 3 → k.val / 4 ≠ n.val → routeOk n k v = true → runs (.niRouteWrite n k v) s fun t =>
      t = { s with ni := t.ni, regs := t.regs } ∧ t.reg (Reg.NI_ROUTEi n k) = v &&& 0x80009F1F ∧
      regsBut s t fun b => b = Reg.NI_ROUTEi n k) ∧
    (k.val % 4 ≠ 3 → k.val / 4 ≠ n.val → routeOk n k v = false → runs (.niRouteWrite n k v) s fun t =>
      only (F.NI_STAT_ROUTE_ERR n).addr t ∧ t.bit (F.NI_STAT_ROUTE_ERR n) = true) ∧
    (s.memcReady = true → s.fld F.MEMC_CFG_RANKS = 0 → runs (.memcRetrain a0 a1 b0 b1 waited) s fun t => t = { s with regs := t.regs } ∧
      t.fld F.MEMC_DRIFT_CH_A = a0.toNat ∧ t.fld F.MEMC_DRIFT_CH_B = b0.toNat ∧ t.bit F.MEMC_ERR_DRIFT = (s.bit F.MEMC_ERR_DRIFT ||
        decide (s.fld F.MEMC_RETRAIN_DRIFT_THR < max a0.toNat b0.toNat))) ∧
    (s.memcReady = true → (hot = false ∨ s.bit F.MEMC_STAT_HOT = true) → runs (.memcMr4Poll hot) s fun t =>
      only F.MEMC_STAT_HOT.addr t ∧ t.bit F.MEMC_STAT_HOT = hot) ∧
    (exec .memcRefresh s = .next s) ∧
    (o ≠ o' → o < s.memcCap → o' < s.memcCap → memcPlace cfg o ≠ memcPlace cfg o') ∧
    (getBits cfg 0 1 = 0 → memcPlace cfg o = inRank 0 o) ∧
    (getBits cfg 0 1 = 1 → getBits cfg 4 1 = 0 → o < 2 * rankSpan → memcPlace cfg o = inRank (o / rankSpan) (o % rankSpan)) ∧
    (getBits cfg 0 1 = 1 → getBits cfg 4 1 = 1 → o < 2 * (rankSpan / 8 * 7) →
      memcPlace cfg o = inRank (o / (rankSpan / 8 * 7)) (o % (rankSpan / 8 * 7))) ∧
    (s.memcReady = true → s.fld F.MEMC_SCRUB_PER ≠ 0 → s.memcCap ≠ 0 → runs .memcScrub s fun t =>
      t = { s with regs := t.regs, memc := t.memc } ∧ t.memc.store = s.memc.store ∧
      t.memc.scrub = (s.memc.scrub + 1) % (s.memcCap / 256)) ∧
    (s.cp.sess.active = true → s.domOn Dom.lineio = true → s.domOn Dom.dynak = true → s.mode ≠ .fallback →
      (64 ≤ lead → lead ≤ 16000 → runs (.registerWrite (BitVec.ofNat 36 Reg.DYN_LEAD) v) s fun t =>
        only Reg.DYN_LEAD t ∧ t.fld F.DYN_LEAD = lead) ∧
      (¬(64 ≤ lead ∧ lead ≤ 16000) → exec (.registerWrite (BitVec.ofNat 36 Reg.DYN_LEAD) v) s = .next s))

/-- The Jig fabric: reconfiguration, loading, release, its ring ports, lanes, clock trees and pins. Rules: R490, R495,
R497, R499, R500, R501, R502, R508, R509, R510, R511, R523. -/
def Obligations.JigFabricPortsAndPins : Prop :=
  ∀ (s : State) (t k : Nat) (n : Fin 16) (tag : Byte) (rest : List (Fin 16 × Byte)) (e : TagEnt) (x : JigRt) (w : Nat) (v : Word) (a : SysAddr)
    (wr urg dead : Bool) (j : Fin 16) (r : Fin 4) (b : Fin 40) (secs : List (Nat × List Byte)) (code off : Nat) (fall : Option Nat),
    s.memWf = true → s.jigOn = true →
    let only (a : Nat) (u : State) : Prop := u = { s with regs := u.regs } ∧ regsBut s u fun c => c = a
    let up (g : Fld) (u : State) : Prop := u.fld g = (s.fld g + 1) % 2 ^ g.w
    let run : Prop := s.jig.st = .run
    let img := s.jigSource
    let tags (m : Fin 16) (g : Byte) (c : RingResp) (u : State) : Prop := ∃ b : Bool, u.ni = s.ni.set m { s.ni[m] with
      tags := s.ni[m].tags.map fun en => if en.tag == g then { en with st := .answered c, sill := b } else en }
    let ended (c : RingResp) (u : State) : Prop := (s.tagEnt? x.stop x.tag = some e → e.st = .sent → tags x.stop x.tag c u) ∧
      u = { s with ni := u.ni, rings := u.rings, regs := u.regs, jig := { s.jig with rt := none } }
    let picked : List Byte := (List.range 4).filterMap fun i => if x.req.off ≤ w + i ∧ w + i < x.req.off + x.req.len then
      some (BitVec.ofNat 8 (v.toNat / 256 ^ i)) else none
    let data : List Byte := if x.req.kind = .read then x.data ++ picked else []
    let q : RingReq := { src := 6, dst := Fin.ofNat 16 (a.toNat / 2 ^ 32), cls := if urg then .urgent else .control
                         kind := if wr then .write else .read, off := a.toNat % 2 ^ 32, len := 4
                         data := if wr then leBytes v.toNat 4 else [], client := .jig s.jig.rmId }
    let tr := s.jig.trees[r]
    let srcNow := s.fld (F.JIG_CLKr_SRC r)
    let tree (y : JigTree) (u : State) : Prop := u = { s with regs := u.regs, jig := { s.jig with trees := s.jig.trees.set r y } }
    let clk (u : State) : Prop := u.reg (Reg.JIG_CLKr r) = v &&& 0x13FF ∧ regsBut s u fun c => c = Reg.JIG_CLKr r
    let held : Bool := match fall with | some m => decide (m ≤ 64) | none => false
    let started : JigTree := if v.getLsbD 12 = true ∧ tr.run = false
      then { tr with run := s.jig.st == .run, div := getBits v 0 8, cnt := 0, src := false } else tr
    (s.mode.isRun = true → s.jig.st = .loading → runs (.jigRecfg t) s fun u => u.bit F.JIG_ERR_BUSY = true ∧
      u = { s with now := max s.now t, regs := u.regs }) ∧
    (s.mode.isRun = true → s.jig.st ≠ .loading → runs (.jigRecfg t) s fun u => u.jig.st = .loading ∧ u.jig.rt = none ∧ u.jig.rtWait = [] ∧
      (∀ p : Fin 32, s.pegs[p].owner = some .jig → u.pegs[p] = { st := .broken, owner := none, epoch := s.pegs[p].epoch + 1 }) ∧
      (∀ p : Fin 32, s.pegs[p].owner ≠ some .jig → u.pegs[p] = s.pegs[p]) ∧ u.mode = s.mode ∧ u.seqStore = s.seqStore) ∧
    (s.jig.st = .loading → jigCheck img = (code, off, secs) → code ≠ 0 → runs (.jigLoadDone t) s fun u =>
      u.jig = { s.jig with st := .unconf, bodies := [], design := {}, cells := 0, outs := 0, cellClk := 0, mem := [], portClk := 0,
                           ports := Vector.replicate 32 {}, rises := [], aEdge := none, trees := Vector.replicate 4 {} } ∧
      u = { s with now := max s.now t, regs := u.regs, jig := u.jig } ∧ u.bit F.JIG_ERR_LOAD = true ∧
      u.fld F.JIG_LOAD_STAT_CODE = code % 2 ^ F.JIG_LOAD_STAT_CODE.w ∧ u.fld F.JIG_LOAD_STAT_OFFSET = off % 2 ^ F.JIG_LOAD_STAT_OFFSET.w) ∧
    (s.jig.st = .loading → jigCheck img = (0, off, secs) → (imgNum img 12 1).testBit 2 = false → runs (.jigLoadDone t) s fun u =>
      u.jig.st = .init ∧ u.jig.useW = (imgNum img 12 1).testBit 0 ∧ u.jig.useE = (imgNum img 12 1).testBit 1 ∧
      u.jig.mem = jigMems secs ∧ u.jig.mem0 = jigMems secs ∧ u.jig.cells0 = u.jig.cells ∧ u.jig.ports = Vector.replicate 32 {} ∧
      u.jig.design = Config.jigDesign ((secs.filter fun p => p.1 < 0x300).map fun p => (p.1, p.2.map (·.toNat))) ∧ u.jig.cells.toNat = ofLeBytes (sectBody secs 0x400) % 2 ^ 512 ∧
      (∀ y : Fin 4, u.jig.trees[y].run = false) ∧ up F.JIG_STAT_LOADS u ∧ u.fld F.JIG_USER_ID = imgNum img 16 4 ∧ u.mode = s.mode) ∧
    (s.jig.st = .init → (s.jig.useE = true → s.domOn Dom.jige = true) → s.domOn Dom.jigw = true → runs (.jigRelease t) s fun u =>
      u = { s with now := max s.now t, freeCtr := u.freeCtr
                   jig := { s.jig with st := .run, trees := u.jig.trees, cells := u.jig.cells, outs := u.jig.outs } } ∧
      ∀ y : Fin 4, u.jig.trees[y] = { s.jig.trees[y] with
        run := s.bit (F.JIG_CLKr_EN y) && s.jig.trees[y].sw.isNone, div := s.fld (F.JIG_CLKr_DIV y), cnt := 0, src := false }) ∧
    (s.jig.st = .init → s.jig.useE = true → s.domOn Dom.jige = false → runs (.jigRelease t) s fun u =>
      u = { s with now := max s.now t, regs := u.regs } ∧ u.bit F.JIG_ERR_HALF = true) ∧
    (run → s.jig.rt = none → s.jig.rtWait = (n, tag) :: rest → s.tagEnt? n tag = some e → exec .jigRtRequest s = .next { s with
      jig := { s.jig with rtWait := rest, rt := some { stop := n, tag := tag, req := e.req
                                                       words := (List.range ((e.req.off % 4 + e.req.len + 3) / 4)).map fun i =>
                                                         (e.req.off / 4 + i) * 4 } } }) ∧
    (s.jig.rt = some x → runs (.jigRtAck true v) s (ended { code := .decode })) ∧
    (s.jig.rt = some x → x.words = [w] → runs (.jigRtAck false v) s (ended { data := data })) ∧
    (s.jig.rt = some x → x.words = w :: k :: [] → exec (.jigRtAck false v) s = .next { s with jig := { s.jig with
      rt := some { x with words := [k], data := data } } }) ∧
    (s.jig.rt = some x → runs .jigRtTimeout s fun u => ended { code := .decode } u ∧ u.bit F.JIG_ERR_RT_TMO = true ∧ up F.JIG_RT_TMO_CNT u) ∧
    (run → s.jig.rm = [] → a.toNat % 4 = 0 → runs (.jigRmIssue a wr v urg) s fun u =>
      u.jig = { s.jig with rm := [{ req := q, issued := true }], rmId := s.jig.rmId + 1 } ∧
      u = { s with jig := u.jig, ni := s.ni.set 6 { s.ni[6] with bridge := s.ni[6].bridge ++ [q] } }) ∧
    (run → s.jig.rm = [] → a.toNat % 4 ≠ 0 → runs (.jigRmIssue a wr v urg) s fun u => u.ni = s.ni ∧
      u = { s with jig := { s.jig with rmId := s.jig.rmId + 1, rmOut := some { code := .decode }, rmNew := true }, ni := u.ni }) ∧
    (run → exec (.laneSlip j false) s = .next { s with jig := { s.jig with slip := s.jig.slip.set j ((s.jig.slip[j] + 1) % 8) } }) ∧
    (run → (runs (.laneTapup j false) s fun u => only (F.JIG_TAPj j).addr u ∧ u.fld (F.JIG_TAPj j) = min (s.fld (F.JIG_TAPj j) + 1) 63) ∧
      runs (.laneTapdn j false) s fun u => only (F.JIG_TAPj j).addr u ∧ u.fld (F.JIG_TAPj j) = s.fld (F.JIG_TAPj j) - 1) ∧
    (exec (.laneSlip j true) s = .next s ∧ exec (.laneTapup j true) s = .next s ∧ exec (.laneTapdn j true) s = .next s) ∧
    (s.jigWritable = true → tr.sw = none →
      (getBits v 8 2 ≠ srcNow → runs (.jigClkSrcSwitch r v fall dead) s fun u => clk u ∧
        tree { tr with run := false, sw := some (getBits v 8 2, getBits v 0 8), held := held, waitNew := held && dead } u) ∧
      (getBits v 8 2 = srcNow → getBits v 12 1 = s.fld (F.JIG_CLKr_EN r) → runs (.jigClkDivChange r v) s fun u => clk u ∧
        tree started u) ∧
      (getBits v 8 2 = srcNow → getBits v 12 1 ≠ s.fld (F.JIG_CLKr_EN r) → runs (.jigClkEnable r v) s fun u => clk u ∧
        tree started u)) ∧
    (tr.sw ≠ none → tr.held = true → exec (.jigClkSwitchDone r) s = .next { s with jig := { s.jig with
      trees := s.jig.trees.set r { run := s.bit (F.JIG_CLKr_EN r) && s.jig.st == .run, div := s.fld (F.JIG_CLKr_DIV r) } } }) ∧
    (tr.sw ≠ none → tr.held = false → runs (.jigClkSwitchForce r dead) s fun u => tree { tr with held := true, waitNew := dead } u ∧
      u.fld F.JIG_CLK_STAT_FORCED = s.fld F.JIG_CLK_STAT_FORCED ||| 2 ^ r.val) ∧
    (s.jigWritable = true → v.getLsbD 0 = true → sharedBall b = false → exec (.jigPinWrite b v t) s = .next { s with now := max s.now t }) ∧
    (s.jigWritable = true → s.jig.st ≠ .loading → s.jig.park[b] = none → v.getLsbD 0 = s.bit (F.JIG_PINj_FUNC b) →
      (v.getLsbD 0 = true → sharedBall b = true) → (b.val < 27 ∨ 29 < b.val) → runs (.jigPinWrite b v t) s fun u =>
        u = { s with now := max s.now t, regs := u.regs } ∧ u.reg (Reg.JIG_PINj b) = v &&& 0x7F ∧
        regsBut s u fun c => c = Reg.JIG_PINj b)

/-- UARTs: characters received and sent, FIFO access, staged settings, and descriptors from GO to RETIRE. Rules: R533,
R534, R537, R539, R540, R541, R542, R543, R544, R545, R546, R547. -/
def Obligations.SerialPortsAndDescriptors : Prop :=
  ∀ (s : State) (n : Fin 2) (smp : BitVec 3) (l : List (BitVec 3)) (v : Word) (d : Fin 16) (e : UartTx) (h : Half) (hs : List Half) (r : RingResp)
    (q : RingReq) (noise cut : Bool), s.memWf = true → s.uartOn n = true →
    let u := s.uart[n]
    let x := u.desc[d]
    let up (g : Fld) (k : Nat) (t : State) : Prop := t.fld g = (s.fld g + k) % 2 ^ g.w
    let only (a : Nat) (t : State) : Prop := t = { s with regs := t.regs } ∧ regsBut s t fun c => c = a
    let uart (y : Uart) : State := { s with uart := s.uart.set n y }
    let idle : Prop := ∀ k : Fin 16, u.desc[k].st = .free
    let hears : Prop := s.tapActs = false ∧ s.bit (F.UAn_CFG_RX_EN n) = true ∧ s.uartRxOff n = false ∧ u.rxCur = none ∧
      (u.de = false ∨ s.bit (F.UAn_CFG_ECHO n) = true)
    let ones (b : BitVec 3) : Nat := b2n (b.getLsbD 0) + b2n (b.getLsbD 1) + b2n (b.getLsbD 2)
    let entry := s.uartEntry n noise cut (l.take (s.uartBits n - 1))
    let rcv : Prop := u.rxCur = some (noise, cut) ∧ (u.de = false ∨ s.bit (F.UAn_CFG_ECHO n) = true)
    let txq : Prop := ¬(n = 0 ∧ s.bit (F.UAn_CFG_TX_OWNER n) = false) ∧ u.agent = []
    let st := uartStop n
    let mine : Prop := x.st = .active ∧ x.busy = true ∧ s.ni[st].inbox = [(q, r)] ∧ q.client = .uart n d x.order ∧
      ∀ k : Fin 16, k ≠ d → u.desc[k].st = .free
    let freed : Vector Ni 16 := s.ni.set st { s.ni[st] with inbox := [] }
    let becomes (y : UartDesc) (t : State) : Prop := t.uart[n].desc = u.desc.set d y ∧ t.uart[1 - n] = s.uart[1 - n]
    (hears → 2 ≤ ones smp → runs (.uartStartBit n smp) s fun t => only (F.UAn_FALSE_START n).addr t ∧ up (F.UAn_FALSE_START n) 1 t) ∧
    (hears → ones smp < 2 → n = 1 → exec (.uartStartBit n smp) s = .next (uart { u with rxCur := some (decide (ones smp = 1), false) })) ∧
    (rcv → idle → u.rx.length < 64 → exec (.uartRxChar n l) s = .next (uart { u with
      rxCur := none, lost := false, rx := u.rx ++ [BitVec.ofNat 16 (entry + 8192 * b2n u.lost)] })) ∧
    (rcv → u.rx.length = 64 → runs (.uartRxChar n l) s fun t => t = { uart { u with rxCur := none, lost := true } with regs := t.regs } ∧
      up (F.UAn_OVR_CNT n) 1 t ∧ t.bit (F.UAn_STAT_OVR_EV n) = true) ∧
    (u.tx.length < 64 → exec (.uartTxdWrite n v) s = .next (uart { u with tx := u.tx ++ [{ v := v.truncate 16 &&& 0x81FF }] })) ∧
    (u.tx.length = 64 → runs (.uartTxdWrite n v) s fun t => only (F.UAn_STAT_TX_FULL n).addr t ∧ t.bit (F.UAn_STAT_TX_FULL n) = true) ∧
    (idle → u.rx = h :: hs → exec (.uartRxdRead n) s = .next (uart { u with rx := hs, rxd := h.zeroExtend 32 ||| 0x10000 })) ∧
    (u.rx = [] ∨ (x.st = .queued ∧ x.tx = false) → exec (.uartRxdRead n) s = .next (uart { u with rxd := 0 })) ∧
    (s.uartMaySend n = true → u.txCur = none → txq → u.tx.head? = some e → idle → exec (.uartTxCharStart n) s = .next (uart { u with
      tx := u.tx.drop 1, txCur := some e, de := true })) ∧
    (u.txCur = some e → e.last = none → exec (.uartTxCharEnd n) s = .next (uart { u with txCur := none, sent := some e.v })) ∧
    (u.txCur = some e → e.last = some d → x.st = .active → x.tx = true → (∀ k : Fin 16, k ≠ d → u.desc[k].st = .free) →
      runs (.uartTxCharEnd n) s fun t => becomes { x with st := .done } t ∧ t.bit (F.UAn_STAT_DONE_EV n) = true ∧
        t = { uart t.uart[n] with regs := t.regs }) ∧
    (u.de = true → u.txCur = none → u.tx = [] → u.agent = [] → exec (.uartDeTail n) s = .next (uart { u with de := false })) ∧
    (u.quiet = true → runs (.uartCfgApply n) s fun t => t = { uart { u with
      cfg := none, baud := none, deTimes := none, baudAon := none } with regs := t.regs } ∧
      t.reg (Reg.UAn_CFG n) = u.cfg.getD (s.reg (Reg.UAn_CFG n)) ∧ t.reg (Reg.UAn_BAUD n) = u.baud.getD (s.reg (Reg.UAn_BAUD n)) ∧
      t.reg (Reg.UAn_DE n) = u.deTimes.getD (s.reg (Reg.UAn_DE n))) ∧
    (n = 0 → u.quiet = true → exec .uart0ClockChange s = .next (uart { u with clkAon := !s.bit F.CLK_STAT_LOCKED })) ∧
    (n = 0 → u.quiet = false → exec .uart0ClockChange s = .next s) ∧
    (x.st ≠ .free → v.getLsbD 25 = false → runs (.uartDescGo n d v) s fun t => only (F.UAn_STAT_DESC_ERR n).addr t ∧
      t.bit (F.UAn_STAT_DESC_ERR n) = true) ∧
    (idle → v.getLsbD 25 = false → v.getLsbD 16 = false → u.rx = [] → s.fld (F.UAn_Dd_ADDR_HI n d) = 1 →
      s.fld (F.UAn_Dd_ADDR_LO n d) % 2 = 0 → 1 ≤ v.toNat % 2 ^ 13 → v.toNat % 2 ^ 13 ≤ 4096 →
      s.fld (F.UAn_Dd_ADDR_LO n d) + 2 * (v.toNat % 2 ^ 13) ≤ 0x40000 → runs (.uartDescGo n d v) s fun t =>
        t = { uart { u with desc := u.desc.set d { st := .active, order := u.descOrder }, descOrder := u.descOrder + 1 } with
              regs := t.regs } ∧ t.fld (F.UAn_Dd_CTRL_LEN n d) = v.toNat % 2 ^ 13 ∧ regsBut s t fun a => a = Reg.UAn_Dd_CTRL n d) ∧
    (x.st = .done → exec (.uartDescRetire n d) s = .next (uart { u with desc := u.desc.set d {} })) ∧
    (x.st ≠ .done → exec (.uartDescRetire n d) s = .next s) ∧
    (s.descActive n false = some d → x.busy = false → x.hold ≠ [] → runs (.uartRxIdle n) s fun t => becomes { x with busy := true } t ∧
      t = { uart t.uart[n] with ni := s.ni.set st { s.ni[st] with bridge := s.ni[st].bridge ++ [{
        src := st, dst := Fin.ofNat 16 (s.fld (F.UAn_Dd_ADDR_HI n d)), kind := .write, off := s.fld (F.UAn_Dd_ADDR_LO n d) + 2 * x.count
        len := 2 * x.hold.length, data := x.hold.flatMap fun k => leBytes k.toNat 2, client := .uart n d x.order }] } }) ∧
    (s.descActive n false = some d → s.fld (F.UAn_CFG_RTO n) ≠ 0 → x.busy = false → x.hold = [] → 1 ≤ x.count →
      (∀ k : Fin 16, k ≠ d → u.desc[k].st = .free) → runs (.uartRxFlush n) s fun t =>
        becomes { x with st := .done, flushed := true, hold := [], busy := false, flush := none } t ∧ t.ni = s.ni ∧
        t.bit (F.UAn_STAT_FLUSH_EV n) = true ∧ t.bit (F.UAn_STAT_DONE_EV n) = true) ∧
    (mine → r.code = .ok → x.tx = false → x.count + x.hold.length = s.descLen n d → runs (.uartDmaResponse n) s fun t => t.ni = freed ∧
      becomes { x with st := .done, flushed := false, busy := false, hold := [], flush := none, count := x.count + x.hold.length } t ∧
      t.bit (F.UAn_STAT_DONE_EV n) = true ∧ t.uart[n].rx = u.rx) ∧
    (mine → r.code ≠ .ok → runs (.uartDmaResponse n) s fun t => t.ni = freed ∧
      becomes { x with st := .done, code := r.code, hold := [], busy := false, flush := none } t ∧
      t.bit (F.UAn_STAT_DONE_EV n) = true ∧ up (F.UAn_OVR_CNT n) (if x.tx then 0 else x.hold.length) t)

/-- Starts: an unsigned image of slot A reaches SETUP; OTP, PLL, slots and the watchdog stop one; the next attempt and
B begin one. Rules: R555, R561, R562, R563, R565, R566, R567, R568, R572, R576. -/
def Obligations.StartsOfTheHead : Prop :=
  ∀ (s : State) (t ms us : Nat) (f : BitVec 6) (dr : List (Option Int)) (h : List Byte) (sb : Bool), s.memWf = true →
    let image : Prop := s.slotHeader false = some h ∧ s.slotHeader true = none ∧ (memcInstalled (hdrCfg h)).isSome = true ∧ f = 0 ∧
      s.digestOk false h = true ∧ imgNum h 16 1 = 0 ∧ s.sigReq = false ∧ s.sectOf false h 4 = none ∧
      (jigCheck ((s.sectOf false h 2).getD [])).1 = 0
    let failed (reason step : Nat) (t : State) : Prop :=
      let c := min 7 (s.cp.bootCnt.toNat + 1)
      t.cp.bootLast = BitVec.ofNat 8 reason ∧ t.cp.bootCnt = BitVec.ofNat 3 c ∧ t.sup.attempt = false ∧
      t.fld F.PWR_BOOT_STAT_PHASE = step ∧ (s.bootThresh ≤ c → t.mode = .fallback ∧ t.cp.fbReason = BitVec.ofNat 8 reason) ∧
      (c < s.bootThresh → t.mode = .supervise ∨ (t.mode = .boot ∧ t.transit = some { target := .supervise, by_ := .caused }))
    let boots (who : Requester) (t : State) : Prop := t.mode = .boot ∧ t.sup.attempt = true ∧ t.cp.bootCnt = 0 ∧
      t.fld F.PWR_BOOT_STAT_PHASE = 1 ∧
      (s.pushLog 0x07 [3, 2, BitVec.ofNat 8 (requesterCode who), 0, 0]).log.queue <+: t.log.queue
    (s.mode = .boot → s.sup.attempt = true → s.sup.loaded = true →
      (s.otpOk = false → runs (.bootAttempt t ms us f dr) s fun t => t.mode = .fallback ∧ t.cp.fbReason = 9 ∧ t.cp.bootCnt = s.cp.bootCnt ∧ t.sup.attempt = false) ∧
      (s.otpOk = true → s.clk.run = false → exec (.bootAttempt t ms us f dr) s = .next (s.setFld F.PWR_BOOT_STAT_PHASE 3)) ∧
      (s.otpOk = true → s.clk.run = true → s.slotHeader false = none → s.slotHeader true = none → runs (.bootAttempt t ms us f dr) s (failed 1 4)) ∧
      (s.otpOk = true → s.clk.run = true → ms ≤ 2000 → image → runs (.bootAttempt t ms us f dr) s fun t =>
        t.mode = .setup ∧ t.fld F.PWR_BOOT_STAT_PHASE = 11 ∧ t.fld F.PWR_BOOT_STAT_SLOT = 0 ∧ t.fld F.PWR_BOOT_RES_A = 1 ∧
        t.fld F.PWR_BOOT_RES_B = 2 ∧ t.fld F.PWR_BOOT_STAT_TIME_MS = ms ∧ t.cp.bootCnt = 0 ∧ t.cp.fbReason = 0 ∧
        t.sup.attempt = false ∧ t.taskSt[(0 : Fin 8)] = .ready ∧ t.tasks[(0 : Fin 8)].pc = BitVec.ofNat 18 (imgNum h 20 4) ∧
        t.boot.slot = some false ∧ t.now = max s.now t.bootEnd) ∧
      (s.log.queue.length < 15 → runs .startWatchdogExpiry s (failed 4 (s.fld F.PWR_BOOT_STAT_PHASE)))) ∧
    (s.sup.retryDue = true → s.coreDown = true → s.mayAttempt = true → s.sup.trigReq = true → runs .bootRetryTimer s fun t =>
      t.sup.attempt = true ∧ t.sup.retryDue = false ∧ t.log.boots = s.log.boots + 1 ∧ t.mode = .supervise ∧
      t.fld F.PWR_BOOT_STAT_PHASE = 1) ∧
    (s.mode = .fallback → s.transit = none → settled s → s.tooHot = false → runs .consoleB s (boots .console)) ∧
    (s.mode = .fallback → s.transit = none → settled s → s.tooHot = false → runs (.consoleBSlot sb) s fun t =>
      boots .console t ∧ t.cp.bootNext = if sb then 2 else 1) ∧
    (s.mode = .fallback → s.transit = none → settled s → s.tooHot = true → exec .consoleB s = .next s ∧
      exec (.consoleBSlot sb) s = .next { s with cp := { s.cp with bootNext := if sb then 2 else 1 } })

/-- The flash controller and the console's replies: operations start or are refused, end, or time out; S, L n and
others reply. Rules: R571, R573, R574. -/
def Obligations.FlashAndConsole : Prop :=
  ∀ (s : State) (n k : Byte) (d : List Byte) (op : FlOp), s.memWf = true →
    let a := s.fld F.PWR_FL_ADDR
    let len := n.toNat + 1
    let free : Prop := s.plateUp = true ∧ s.mode ≠ .boot ∧ s.bit F.PWR_FL_STAT_BUSY = false
    let onlyFl (t : State) : Prop := t = { s with regs := t.regs, flash := t.flash } ∧ regsBut s t fun c => c = Reg.PWR_FL_STAT
    let started (op : FlOp) (d : List Byte) (t : State) : Prop := onlyFl t ∧ t.flash = { s.flash with op := some (op, a, d) } ∧
      t.bit F.PWR_FL_STAT_BUSY = true ∧ t.fld F.PWR_FL_STAT_CODE = 0
    let ended (code : Nat) (t : State) : Prop := t.flash.op = none ∧ t.bit F.PWR_FL_STAT_BUSY = false ∧
      t.fld F.PWR_FL_STAT_CODE = code ∧ t.bit F.PWR_FL_STAT_DONE = true
    let refused (code : Nat) (t : State) : Prop := onlyFl t ∧ t.flash.store = s.flash.store ∧ ended code t
    let line (l : List Byte) : State := let u := s.uart[1]; { s with uart := s.uart.set 1 { u with agent := u.agent ++ l ++ [13, 10] } }
    (free → runs (.flRead n) s (started .read (List.replicate len 0xFF)) ∧
      (a % 256 + len ≤ 256 → s.flLocked a len = false → runs (.flProgram n) s (started .program (s.flBuf len))) ∧
      (256 < a % 256 + len → runs (.flProgram n) s (refused 2)) ∧
      (a % 65536 ≠ 0 → runs (.flErase n) s (refused 2)) ∧
      (a % 65536 = 0 → s.flLocked a 65536 = false → runs (.flErase n) s (started .erase (List.replicate 65536 0xFF))) ∧
      (a % 65536 = 0 → s.mode = .setup → s.boot.slot = some false → a < 0x2000000 → runs (.flErase n) s (refused 1))) ∧
    (s.plateUp = true → s.mode = .boot ∨ s.bit F.PWR_FL_STAT_BUSY = true →
      let busy (t : State) : Prop := onlyFl t ∧ t.flash = s.flash ∧ t.fld F.PWR_FL_STAT_CODE = 4 ∧
        t.bit F.PWR_FL_STAT_BUSY = s.bit F.PWR_FL_STAT_BUSY
      runs (.flRead n) s busy ∧ runs (.flProgram n) s busy ∧ runs (.flErase n) s busy) ∧
    (s.flash.op = some (op, a, d) → op ≠ .read → a + d.length ≤ s.flash.size → runs .flOpDone s fun t => onlyFl t ∧ ended 0 t ∧
      SMap.getBytes erasedByte t.flash.store a d.length = d ∧ bytesBut erasedByte s.flash.store t.flash.store a d.length) ∧
    (s.flash.op = some (.read, a, d) → d.length ≤ 256 → a + d.length ≤ s.flash.size → runs .flOpDone s fun t => ended 0 t ∧
      t.flBuf d.length = SMap.getBytes erasedByte s.flash.store a d.length ∧ t.flash.store = s.flash.store ∧
      regsBut s t fun c => c = Reg.PWR_FL_STAT ∨ ∃ i : Fin 64, c = Reg.PWR_FL_BUF i) ∧
    (s.flash.op = some (op, a, d) → runs .flOpTimeout s fun t => ended 3 t ∧ t.freeCtr = s.freeCtr + d.length ∧
      (op = .read → t.flash.store = s.flash.store) ∧ bytesBut erasedByte s.flash.store t.flash.store a d.length) ∧
    (s.mode = .fallback →
      exec .consoleUnknown s = .next (line [63]) ∧
      exec .consoleS s = .next (line ([0x46, 0x42, 0x3D] ++ hexByte s.cp.fbReason ++ [0x20, 0x43, 0x4E, 0x54, 0x3D, hexDigit s.cp.bootCnt.toNat] ++
        [0x20, 0x53, 0x4C, 0x4F, 0x54, 0x3D, hexDigit (s.fld F.PWR_BOOT_STAT_SLOT)] ++
        [0x20, 0x41, 0x3D, hexDigit (s.fld F.PWR_BOOT_RES_A), 0x20, 0x42, 0x3D, hexDigit (s.fld F.PWR_BOOT_RES_B)])) ∧
      (1 ≤ k.toNat → k.toNat ≤ 16 → 1 ≤ s.log.newest.toNat → runs (.consoleL k.toNat) s fun t =>
        t = { s with uart := s.uart.set 1 t.uart[1] } ∧
        t.uart[1].agent.length = s.uart[1].agent.length + 66 * min k.toNat s.log.newest.toNat ∧
        (s.uart[1].agent ++ (s.slotBytes (logSlot s.log.newest.toNat)).flatMap hexByte ++ [13, 10]) <+: t.uart[1].agent))

/-- Rails: delays, GOOD, failing to come up, running faults by reaction, down sequences, readings and warnings,
episodes, SEQ_IN. Rules: R583, R584, R586, R588, R590, R591, R592, R593, R594, R596, R597, R601. -/
def Obligations.RailsRiseFallAndFault : Prop :=
  ∀ (s : State) (r : Fin 24) (mv : BitVec 12) (ov par : Bool), s.memWf = true → s.mode ≠ .unpowered → s.sup.loaded = true →
    let x := s.rails[r]
    let quiet : Prop := s.transit = none ∧ s.sup.sysDown = false ∧ s.sup.attempt = false
    let put (y : Rail) : State := { s with rails := s.rails.set r y }
    let others (t : State) : Prop := ∀ k : Fin 24, k ≠ r → t.rails[k] = s.rails[k]
    let faulted (cause : Nat) (t : State) : Prop := t.sup.epiOpen = true ∧ t.sup.ev.getLsbD 0 = true ∧
      t.sup.epiFaults = (if s.sup.epiOpen then s.sup.epiFaults + 1 else 1) ∧ (s.sup.epiOpen = false → t.sup.epiRail.toNat = r.val) ∧
      t.rails[r].cause = BitVec.ofNat 3 cause
    let record (typ : Nat) (p : List Byte) (t : State) : Prop := s.log.queue.length < 16 →
      ∃ e ∈ (t.log.queue.drop s.log.queue.length).head?, e.typ = BitVec.ofNat 8 typ ∧ e.ms = s.aonMs ∧ p <+: e.payload
    let cause := if ov then 2 else 1
    let code := s.effReact r
    let rec_ (phase react : Nat) : List Byte := [BitVec.ofNat 8 r.val, BitVec.ofNat 8 cause, BitVec.ofNat 8 phase, BitVec.ofNat 8 react] ++
      leBytes x.mv.toNat 2
    let running : Prop := x.entry.en = true ∧ x.st = .good ∧ x.inDown = false ∧ s.ancestorRetries r = false
    let pens (k : Fin 24) : Bool := s.rails[k].st == .ramp || s.rails[k].st == .good
    (x.st = .delay → exec (.railOnDelay r) s = .next (put { x with st := .ramp })) ∧
    (x.st = .retryOff → exec (.railRetryOn r) s = .next (put { x with st := .ramp })) ∧
    (x.retrying = false → exec (.retriesClear r) s = .next (put { x with retries := 0 })) ∧
    (x.st = .ramp → x.inDown = false → x.retrying = false → s.sup.seq ≠ 2 → quiet → runs (.railGood r) s fun t =>
      t = { s with rails := t.rails, sup := t.sup } ∧ t.rails[r] = { x with st := .good, armed := true } ∧
      ∀ k : Fin 24, k ≠ r → t.rails[k] = s.rails[k] ∨ (s.rails[k].st = .waitParent ∧ (t.rails[k] = { s.rails[k] with st := .blocked } ∨
        (t.rails[k] = { s.rails[k] with st := .delay } ∧
          ∀ p : Fin 24, s.rails[k].act.parent.getLsbD p = true → t.rails[p].st = .good)))) ∧
    (x.st = .ramp → x.inDown = false → x.retrying = true → s.sup.seq ≠ 2 → quiet → runs (.railGood r) s fun t =>
      t.rails[r] = { x with st := .good, armed := true, retrying := false } ∧
      record 3 [BitVec.ofNat 8 r.val, BitVec.ofNat 8 x.retries, 1, 0] t) ∧
    (x.st = .ramp → x.inDown = false → x.retrying = false → quiet → (2 ≤ r.val ∨ s.lad.s5Down = []) → inMask (s.liveCone r) r = false →
      runs (.railPgTimeout r) s fun t =>
      faulted 3 t ∧ t.rails[r] = { x with st := .failed, latched := true, cause := 3 } ∧ t.mode = s.mode ∧
      (∀ k : Fin 24, inMask (s.liveCone r) k = true → k ≠ r → pens k = false → s.rails[k].st ≠ .discharge → t.rails[k].st = .blocked) ∧
      record 2 [BitVec.ofNat 8 r.val, 3, 0, 6] t) ∧
    (x.st = .ramp → x.inDown = false → x.retrying = false → s.sup.attempt = true → r.val < 6 → runs (.railPgTimeout r) s fun t =>
      t.sup.attempt = false ∧ t.cp.bootLast = 3 ∧ t.cp.bootCnt.toNat = min 7 (s.cp.bootCnt.toNat + 1) ∧
      t.rails[r].latched = true ∧ record 2 [BitVec.ofNat 8 r.val, 3, 0, 4] t) ∧
    (running → par = false → code = 0 → runs (.railFaultCondition r ov par) s fun t =>
      t = { s with rails := t.rails, sup := t.sup, log := t.log, ing := t.ing } ∧ faulted cause t ∧
      t.rails[r] = { x with cause := BitVec.ofNat 3 cause } ∧ others t ∧ record 2 (rec_ 1 0) t) ∧
    (running → par = false → code = 1 → runs (.railFaultCondition r ov par) s fun t => faulted cause t ∧ others t ∧
      t.rails[r] = { x with cause := BitVec.ofNat 3 cause, st := .retryOff, retrying := true,
                            offMs := 10 * 2 ^ x.retries, retries := x.retries + 1 } ∧ record 2 (rec_ 1 1) t) ∧
    (running → par = false → code = 2 → quiet → runs (.railFaultCondition r ov par) s fun t => faulted cause t ∧ t.sup.seq = 2 ∧
      t.mode = s.mode ∧ t.rails[r].st = .discharge ∧ record 2 (rec_ 1 2) t ∧
      ∀ k : Fin 24, t.rails[k].latched = (s.rails[k].latched || inMask (s.groupSet r) k) ∧
        (inMask (s.groupSet r) k = true → pens k = true → t.rails[k].inDown = true ∧
          t.rails[k].st = if k = r ∨ inMask (s.cone r) k = true then .discharge else s.rails[k].st)) ∧
    (running → par = false → code = 3 → quiet → s.mode ≠ .supervise → s.phase = .stable → runs (.railFaultCondition r ov par) s fun t =>
      faulted cause t ∧ t.sup.seq = 2 ∧ t.sup.sysDown = true ∧ t.sup.sysTimes = s.sup.sysTimes ++ [s.aonMs.toNat] ∧
      record 2 (rec_ 1 3) t ∧
      (r.val < 6 → t.mode = s.mode ∧ t.transit = some { target := .supervise, by_ := .caused }) ∧
      ∀ k : Fin 24, pens k = true → t.rails[k].inDown = true ∧ t.rails[k].st = s.rails[k].st) ∧
    (running → par = true → runs (.railFaultCondition r ov par) s fun t => faulted cause t ∧ others t ∧
      t.rails[r] = { x with cause := BitVec.ofNat 3 cause } ∧ record 2 (rec_ 1 6) t) ∧
    (x.entry.en = true → x.st = .good → x.inDown = true → quiet → runs (.railFaultCondition r ov par) s fun t => faulted cause t ∧
      record 2 (rec_ 2 5) t ∧ ∀ k : Fin 24, (k = r ∨ inMask (s.liveCone r) k = true) → pens k = true →
        t.rails[k].st = .discharge ∧ t.rails[k].latched = s.rails[k].latched) ∧
    (x.inDown = true → x.pen = true → (∀ k : Fin 24, inMask (s.liveCone r) k = true → s.rails[k].inDown = true → s.rails[k].isOff = true) →
      exec (.railOffDelay r) s = .next (put { x with st := .discharge })) ∧
    (x.st = .discharge → quiet → runs (.railDischargeTimeout r) s fun t => faulted 4 t ∧ t.rails[r].st = .off ∧
      t.rails[r].latched = x.latched ∧ record 2 [BitVec.ofNat 8 r.val, 4, 2, 6] t) ∧
    (let rd (t : State → Prop) : Prop := runs (.railSarReading (r.castLE (by decide)) mv) s t
     let near : Prop := x.entry.warn = 0 ∨ ((mv.toNat : Int) - x.act.nom.toNat).natAbs ≤ x.entry.warn.toNat
     (x.st = .discharge → mv.toNat * 10 < x.act.nom.toNat → quiet → rd fun t => t.rails[r].st = .off ∧ t.rails[r].mv = mv) ∧
     (x.st = .good → near → rd fun t => t = put { x with mv := mv, armed := true }) ∧
     (x.st = .good → ¬near → x.armed = false → rd fun t => t = put { x with mv := mv }) ∧
     (x.st = .good → ¬near → x.armed = true → x.warnMs = none → rd fun t =>
       t = { put { x with mv := mv, armed := false, warnMs := some s.aonMs } with log := t.log, ing := t.ing, sup := t.sup } ∧
       t.sup = { s.sup with ev := s.sup.ev ||| 2 } ∧
       record 5 ([0, BitVec.ofNat 8 r.val] ++ leBytes mv.toNat 2 ++ leBytes x.act.nom.toNat 2) t)) ∧
    runs (.railSarReading 24 mv) s (fun t => t.fld F.PWR_AON_STAT_VAON_MV = mv.toNat ∧ t.rails = s.rails ∧
      (mv.toNat < 3050 → t.bit F.PWR_AON_STAT_VAON_LOW = true ∧ t.sup.vaonArmed = false) ∧
      (3100 ≤ mv.toNat → t.sup.vaonArmed = true ∧ t.log = s.log) ∧ regsBut s t fun a => a = Reg.PWR_AON_STAT) ∧
    (s.sup.epiOpen = true → (∀ k : Fin 24, ¬(s.rails[k].st = .ramp ∧ s.rails[k].retrying = true)) → runs .episodeClose s fun t =>
      t = { s with sup := { s.sup with epiOpen := false, ev := s.sup.ev ||| 4 }, log := t.log } ∧
      record 4 (leBytes s.sup.epiNum.toNat 2 ++ [s.sup.epiRail.setWidth 8, BitVec.ofNat 8 (min s.sup.epiFaults 255)]) t) ∧
    (s.sup.seqIn = false → s.sup.casc.getLsbD 0 = false →
      exec .seqInAssert s = .next { s with sup := { s.sup with seqIn := true } }) ∧
    (s.sup.seqIn = false → s.sup.casc.getLsbD 0 = true → s.mayAttempt = true → s.transit = none → runs .seqInAssert s fun t =>
      t.sup.seqIn = true ∧ t.sup.trigIn = true ∧ t.sup.attempt = true ∧ t.log.boots = s.log.boots + 1) ∧
    (s.sup.seqIn = true → s.sup.casc.getLsbD 0 = false →
      exec .seqInWithdraw s = .next { s with sup := { s.sup with seqIn := false, trigIn := false } }) ∧
    (s.sup.seqIn = true → s.sup.casc.getLsbD 0 = true → x.st = .good → r.val < 6 → s.mode ≠ .supervise → s.transit = none →
      s.sup.sysDown = false → runs .seqInWithdraw s fun t => t.sup.seqIn = false ∧ t.sup.trigIn = false ∧ t.sup.trigReq = false ∧
        t.sup.seq = 2 ∧ t.rails[r].inDown = true ∧ t.mode = s.mode ∧ t.transit = some { target := .supervise, by_ := .seqIn })

/-- SUP_CMD, rail entries, the supervisor bus and its replies, and the writing and reading of log records. Rules:
R582, R587, R598, R599, R600, R603, R605, R608, R609, R610, R612, R613. -/
def Obligations.SupervisorCommandsBusAndLog : Prop :=
  ∀ (s : State) (v : Word) (b src tag : Byte) (bytes : BitVec 136) (cmd : BitVec 3) (rec_ : LogRec) (recs : List LogRec) (q : BusReq) (p : List Byte),
    s.memWf = true → s.mode ≠ .unpowered → s.sup.loaded = true →
    let sess : Prop := s.cp.sess.active = true ∧ s.sup.cmdRes ≠ 1
    let level := s.cp.sess.level
    let quiet : Prop := s.transit = none ∧ s.sup.sysDown = false
    let res (n : Nat) (t : State) : State := { t with sup := { t.sup with cmdRes := BitVec.ofNat 4 n, ev := t.sup.ev ||| 16 } }
    let sent (dst cmd tag : Byte) (d : List Byte) (t : State) : Prop :=
      t.uart[0].agent = s.uart[0].agent ++ busFrame dst (BitVec.ofNat 8 s.headId) cmd tag d
    let hears (dst : Byte) : Prop := s.busMaster = false ∧ dst.toNat = s.headId
    let me := BitVec.ofNat 8 s.headId
    let e := RailEntry.ofBytes (leBytes bytes.toNat 17)
    let rail := s.sup.cpPath.rtSel.toNat
    let logged (kind : Nat) (l : List Byte) (t : State) : Prop := (s.pushLog kind l).log.queue <+: t.log.queue
    let clears (t : State) : Prop := t.sup.sysHalt = false ∧ ∀ k : Fin 24, t.rails[k].latched = false ∧ t.rails[k].st =
      if s.rails[k].st = .failed ∨ s.rails[k].st = .blocked then .off else s.rails[k].st
    let staged (base : Nat) (bs : List Byte) (t : State) : Prop := t.sup.cpPath = { s.sup.cpPath with staged := t.sup.cpPath.staged } ∧
      ∀ a : Nat, t.sup.cpPath.staged.lookup a =
        if base ≤ a ∧ a < base + bs.length then bs[a - base]? else s.sup.cpPath.staged.lookup a
    let inForce (t : State) : List Byte := (t.rails[rail]?.map fun r => r.entry.bytes).getD []
    let ends (n : Nat) (t : State) : Prop := t.sup.busReq = none ∧ t.sup.cmdRes.toNat = n ∧ t.sup.ev.getLsbD 4 = true
    (s.cp.sess.active = false → exec .supRestore s = .next (s.cpError 2) ∧ exec .supDown s = .next (s.cpError 2) ∧
      exec .supClear s = .next (s.cpError 2) ∧ exec .supSave s = .next (s.cpError 2) ∧ exec .supLoad s = .next (s.cpError 2) ∧
      exec .supLogClear s = .next (s.cpError 2) ∧ exec .supBusSend s = .next (s.cpError 2) ∧
      exec (.logRseqCommit v) s = .next (s.cpError 2) ∧ exec (.rtSelWrite b) s = .next (s.cpError 2) ∧
      exec (.rtEntryCommit bytes) s = .next (s.cpError 2)) ∧
    (sess → level = .field → exec .supSave s = .next (res 3 s) ∧ exec .supLoad s = .next (res 3 s) ∧ exec .supLogClear s = .next (res 3 s) ∧
      runs (.rtEntryCommit bytes) s (fun t => t.sup.rtLevel = true ∧ staged 0x20 (inForce t) t ∧
        t = { s with sup := { s.sup with rtLevel := true, cpPath := t.sup.cpPath } })) ∧
    (sess → quiet → s.sup.seq ≠ 2 → runs .supRestore s fun t => t.sup.cmdRes = 2 ∧ t.mode = s.mode ∧ ∀ k : Fin 24,
      t.rails[k].st = .delay → s.rails[k].st = .delay ∨ s.rails[k].st = .waitParent ∨ (s.rails[k].entry.en = true ∧ s.rails[k].latched = false ∧
        ∀ p : Fin 24, inMask s.rails[k].entry.parent p = true → s.rails[p].st = .good)) ∧
    (sess → s.rails[(5 : Fin 24)].st = .good → s.mode ≠ .supervise → runs .supDown s fun t => t.sup.cmdRes = 2 ∧
      t.sup.trigReq = false ∧ t.sup.seq = 2 ∧ t.mode = s.mode ∧ t.transit = some { target := .supervise, by_ := .caused } ∧
      ∀ k : Fin 24, s.rails[k].pen = true → t.rails[k].inDown = true ∧ t.rails[k].st = s.rails[k].st) ∧
    (sess → runs .supClear s fun t => t = { s with rails := t.rails, sup := t.sup } ∧ clears t ∧ t.sup.cmdRes = 2) ∧
    (sess → level ≠ .field → runs .supSave s fun t => t = { s with sup := t.sup, log := t.log } ∧ t.sup.cmdRes = 2 ∧
      t.sup.saved = some (s.railTable, crc16 (s.railTable.flatMap RailEntry.bytes)) ∧
      logged 9 ([0, BitVec.ofNat 8 (levelCode level)] ++ leBytes (tableCrc s.railTable).toNat 2) t) ∧
    (sess → level ≠ .field → (∃ k : Fin 24, s.rails[k].st ≠ .off) → exec .supLoad s = .next (res 4 s)) ∧
    (sess → level ≠ .field → (∀ k : Fin 24, s.rails[k].st = .off) → s.sup.saved = some (List.replicate 24 e, tableCrc (List.replicate 24 e)) →
      runs .supLoad s fun t => t.sup.cmdRes = 2 ∧ t.sup.rtDefault = false ∧ t = { s with rails := t.rails, sup := t.sup, log := t.log } ∧
        ∀ k : Fin 24, t.rails[k] = { s.rails[k] with entry := e }) ∧
    (sess → level ≠ .field → s.logPolicy % 2 = 0 → exec .supLogClear s = .next (res 3 s)) ∧
    (sess → level ≠ .field → s.logPolicy % 2 = 1 → runs .supLogClear s fun t => t.log.newest = 1 ∧ t.log.boots = 0 ∧
      t.log.queue = s.log.queue ∧ t.sup.cmdRes = 2 ∧ (∀ k : Fin 32768, 32 ≤ k.val → SMap.get erasedByte t.log.store k = 0xFF) ∧
      (t.logRead 1).1 = 0 ∧ SMap.get erasedByte t.log.store 12 = 0x0A) ∧
    (sess → s.busMaster = true → s.sup.busDst ≠ 0xFF → s.sup.busOp = 4 → runs .supBusSend s fun t =>
      sent s.sup.busDst 4 s.sup.busTag (leBytes s.log.rseq.toNat 4) t ∧ t.sup.cmdRes = 1 ∧ t.log = s.log ∧
      t.sup.busReq = some { dst := s.sup.busDst, cmd := 4, tag := s.sup.busTag, payload := leBytes s.log.rseq.toNat 4 }) ∧
    (sess → s.busMaster = true → s.sup.busDst = 0xFF → s.sup.busOp = 2 → runs .supBusSend s fun t => sent 0xFF 2 s.sup.busTag [] t ∧
      t.sup.cmdRes = 2 ∧ t.sup.busReq = s.sup.busReq ∧ logged 8 [1, 2, 0xFF, 0] t) ∧
    (sess → s.busMaster = false → exec .supBusSend s = .next (res 4 s)) ∧
    (sess → b.toNat % 32 < 24 → runs (.rtSelWrite b) s fun t => t.sup.cpPath.rtSel.toNat = b.toNat % 32 ∧
      t = { s with sup := { s.sup with cpPath := t.sup.cpPath } }) ∧
    (sess → 24 ≤ b.toNat % 32 → exec (.rtSelWrite b) s = .next s) ∧
    (sess → level ≠ .field → ∀ r : Fin 24, rail = r.val → s.entryOk r e = true → runs (.rtEntryCommit bytes) s fun t => staged 0x20 (inForce t) t ∧
      t = { s with rails := s.rails.set r { s.rails[r] with entry := e }, sup := { s.sup with cpPath := t.sup.cpPath } }) ∧
    (sess → level ≠ .field → rail < 24 → e.pgTmo = 0 ∨ e.nom ≤ e.uv ∨ e.ov ≤ e.nom ∨ e.parent.getLsbD rail = true →
      runs (.rtEntryCommit bytes) s fun t => staged 0x20 (inForce t) t ∧
        t = { s with sup := { s.sup with rtBad := true, cpPath := t.sup.cpPath } }) ∧
    (s.log.queue = rec_ :: recs → runs .logRecordWrite s fun t => t = { s with log := t.log, cp := t.cp } ∧ t.log.queue = recs ∧
      t.log.newest = s.log.newest + 1 ∧ t.log.lostPend = false ∧
      bytesBut erasedByte s.log.store t.log.store (32 * ((t.log.newest.toNat + 1023) % 1024)) 32 ∧
      (let l := SMap.getBytes erasedByte t.log.store (32 * ((t.log.newest.toNat + 1023) % 1024)) 32
       l.take 28 = leBytes t.log.newest.toNat 4 ++ leBytes rec_.ms.toNat 6 ++ leBytes s.log.boots.toNat 2 ++
         [rec_.typ, BitVec.ofNat 8 (b2n s.log.lostPend)] ++ (rec_.payload ++ List.replicate 14 0).take 14 ∧
       (l.drop 28).take 2 = leBytes (crc16 (l.take 28)).toNat 2 ∧ l.getD 31 0 = 0x5A) ∧ (t.logRead t.log.newest.toNat).1 = 0 ∧
      t.cp.irqStatus = if s.log.thr ≤ rec_.sev then s.cp.irqStatus ||| 32 else s.cp.irqStatus) ∧
    (sess → runs (.logRseqCommit v) s fun t => staged 0x60 (leBytes v.toNat 4) t ∧
      t = { s with log := { s.log with rseq := v, lrec := t.log.lrec, rstat := t.log.rstat }, sup := { s.sup with cpPath := t.sup.cpPath } } ∧
      t.log.lrec = SMap.getBytes erasedByte s.log.store (32 * ((v.toNat + 1023) % 1024)) 32 ∧
      (let ok := t.log.lrec.getD 31 0 = 0x5A ∧ ofLeBytes ((t.log.lrec.drop 28).take 2) = (crc16 (t.log.lrec.take 28)).toNat
       t.log.rstat.toNat = if ¬ok then 1 else if ofLeBytes (t.log.lrec.take 4) = v.toNat then 0 else 2)) ∧
    (hears me → s.mode = .supervise → s.mayAttempt = true → s.transit = none → runs (.busUp me src tag) s fun t => t.sup.trigReq = true ∧
      t.sup.attempt = true ∧ logged 8 [0, 1, src, 0] t) ∧
    (hears me → s.mode ≠ .supervise → s.transit = none → runs (.busUp me src tag) s fun t =>
      t = { s with uart := t.uart, log := t.log } ∧ sent src 0x81 tag [1] t ∧ logged 8 [0, 1, src, 1] t) ∧
    (hears me → s.rails[(5 : Fin 24)].st = .good → s.mode ≠ .supervise → runs (.busDown me src tag) s fun t => t.sup.trigReq = false ∧
      t.sup.seq = 2 ∧ t.mode = s.mode ∧ t.transit = some { target := .supervise, by_ := .bus } ∧ sent src 0x82 tag [0] t ∧
      logged 8 [0, 2, src, 0] t) ∧
    (hears me → runs (.busStatus me src tag) s fun t => t = { s with uart := t.uart } ∧ sent src 0x83 tag (0 :: s.busStatus) t) ∧
    (hears me → runs (.busLogRead me src tag v) s fun t => t = { s with uart := t.uart } ∧
      sent src 0x84 tag (0 :: BitVec.ofNat 8 (2 * (s.logRead v.toNat).1) :: (s.logRead v.toNat).2) t) ∧
    (hears me → runs (.busClear me src tag) s fun t => clears t ∧ sent src 0x85 tag [0] t ∧ logged 8 [0, 5, src, 0] t) ∧
    (hears me → cmd = 0 ∨ 6 ≤ cmd.toNat → runs (.busReservedCmd me src tag cmd) s fun t => t = { s with uart := t.uart } ∧
      sent src (BitVec.ofNat 8 (128 + cmd.toNat)) tag [2] t) ∧
    (s.busMaster = true ∨ (b ≠ 0xFF ∧ b.toNat ≠ s.headId) → exec (.busUp b src tag) s = .next s ∧ exec (.busDown b src tag) s = .next s ∧
      exec (.busStatus b src tag) s = .next s ∧ exec (.busClear b src tag) s = .next s) ∧
    (s.sup.busReq = some q → q.sends < 3 → runs .busReplyTimeout s fun t =>
      t = { s with uart := t.uart, sup := { s.sup with busReq := some { q with sends := q.sends + 1 } } } ∧
      sent q.dst (BitVec.ofNat 8 q.cmd) q.tag q.payload t) ∧
    (s.sup.busReq = some q → 3 ≤ q.sends → runs .busReplyTimeout s fun t => ends 5 t ∧ t.uart = s.uart) ∧
    (s.sup.busReq = some q → p.length = 12 → q.cmd = 3 → runs (.busReply q.dst q.tag (0 :: p)) s fun t => ends 2 t ∧ t.sup.busRx = p ∧
      t.sup.ev.getLsbD 3 = true ∧ t.log = s.log) ∧
    (s.sup.busReq = some q → p.length = 32 → q.cmd = 4 → runs (.busReply q.dst q.tag (0 :: 4 :: p)) s fun t => ends 2 t ∧
      t.log.lrec = p ∧ t.log.rstat = 2) ∧
    (s.sup.busReq = some q → runs (.busReply q.dst q.tag [2]) s (ends 6)) ∧
    (s.sup.busReq = some q → tag ≠ q.tag → exec (.busReply src tag p) s = .next s)

/-- The PLL, its references and holdover, the AON clock, the hourly wear sample with h^0.25, and the thermal steps.
Rules: R638, R639, R640, R641, R642, R643, R646, R648, R649, R650, R655, R656. -/
def Obligations.ClocksWearAndTemperature : Prop :=
  ∀ (s : State) (ns : Nat) (v : Word) (ppm : Int) (dr ts : List (Option Int)) (i : Fin 96) (d a : Int) (j : Fin 8), s.memWf = true →
    let only (p : Nat → Prop) (t : State) : Prop := t = { s with regs := t.regs, clk := t.clk } ∧ regsBut s t p
    let stat (c : Nat) : Prop := c = Reg.CLK_STAT
    let slews (target : Nat) (k : Int) (fb : Bool) (t : State) : Prop := only stat t ∧
      t.clk = { s.clk with target := target, ppm := k, fb := fb } ∧ t.bit F.CLK_STAT_SWITCHING = true ∧
      t.bit F.CLK_STAT_LOCKED = false ∧ t.bit F.CLK_STAT_HOLDOVER = false ∧ t.fld F.CLK_STAT_REF = s.fld F.CLK_STAT_REF
    let locked : Prop := s.clk.run = true ∧ s.bit F.CLK_STAT_LOCKED = true ∧ s.bit F.CLK_STAT_SWITCHING = false ∧
      s.bit F.CLK_STAT_HOLDOVER = false
    let toDynak : Prop := s.fld F.CLK_CFG_REF_SEL = 1 ∧ s.dom[Dom.dynak] = .on ∧ s.dyn.srcDn = false ∧ s.dyn.up.trained = true
    let hour : Prop := s.mode ≠ .unpowered ∧ s.rails[(0 : Fin 24)].st = .good ∧ s.rails[(1 : Fin 24)].st = .good
    let m := s.wear.mons[i]
    let hot : Prop := ts.length = 8 ∧ s.mode ≠ .unpowered ∧ ts.getD j none = some a ∧ ∀ k : Fin 8, ∀ b ∈ ts.getD k none, b ≤ a
    let step (k : Nat) : Prop := runs (.thermalReading ts) s fun t => t.wear.step = k ∧ t.wear.tHot = some a ∧
      ts.getD (t.fld F.WR_STAT_HOT) none = some a ∧ t.fld F.WR_STAT_STEP = (if k = s.wear.step then s.fld F.WR_STAT_STEP else min k 3) ∧
      (k ≠ s.wear.step → t.cp.irqStatus.getLsbD 6 = true)
    (s.pllOn = true → s.clk.run = false → runs (.pllLock ns) s fun t =>
      only (fun c => stat c ∨ c = Reg.CLK_LOCK_NS ∨ c = Reg.CLK_PPM) t ∧ t.clk = { s.clk with run := true } ∧
      t.bit F.CLK_STAT_LOCKED = true ∧ t.fld F.CLK_STAT_REF = 0 ∧ t.fld F.CLK_PPM = 0 ∧ t.fld F.CLK_LOCK_NS = min ns 0xFFFFFFFF) ∧
    (s.plateUp = true → s.bit F.CLK_STAT_SWITCHING = false →
      exec (.clkCfgWrite v) s = .next { s with regs := SMap.set Reg.resetWord s.regs Reg.CLK_CFG (v &&& 0xFF03) }) ∧
    (s.plateUp = true → s.bit F.CLK_STAT_SWITCHING = true → runs (.clkCfgWrite v) s fun t => only (fun c => c = Reg.CLK_CFG ∨ c = Reg.CLK_ERR) t ∧
      t.fld F.CLK_CFG_REF_SEL = s.fld F.CLK_CFG_REF_SEL ∧ t.bit F.CLK_CFG_AUTO_FB = v.getLsbD 1 ∧
      t.fld F.CLK_CFG_HOLD_MAX = v.toNat / 256 % 256 ∧ t.bit F.CLK_ERR_BUSY = true) ∧
    (locked → toDynak → s.fld F.CLK_STAT_REF = 0 → ppm.natAbs ≤ 2000 → runs (.refSwitch ppm) s (slews 1 ppm false)) ∧
    (locked → toDynak → s.fld F.CLK_STAT_REF = 0 → 2000 < ppm.natAbs → runs (.refSwitch ppm) s fun t => only stat t ∧ t.clk = s.clk ∧
      t.bit F.CLK_STAT_REF_BAD = true ∧ t.bit F.CLK_STAT_LOCKED = true ∧ t.fld F.CLK_STAT_REF = 0) ∧
    (locked → s.fld F.CLK_CFG_REF_SEL = 0 → s.fld F.CLK_STAT_REF ≠ 0 → runs (.refSwitch ppm) s (slews 0 0 false)) ∧
    (s.bit F.CLK_STAT_SWITCHING = true → s.clk.target < 3 → runs .refSwitchDone s fun t => only (fun c => stat c ∨ c = Reg.CLK_PPM) t ∧
      t.clk = s.clk ∧ t.fld F.CLK_STAT_REF = s.clk.target ∧ t.bit F.CLK_STAT_LOCKED = true ∧ t.bit F.CLK_STAT_SWITCHING = false ∧
      t.fld F.CLK_PPM = (s.clk.ppm % 65536).toNat ∧ t.bit F.CLK_STAT_FB_EV = (s.bit F.CLK_STAT_FB_EV || s.clk.fb)) ∧
    (s.clk.run = true → s.bit F.CLK_STAT_HOLDOVER = false → runs .refLoss s fun t =>
      t = { s with regs := t.regs, log := (s.pushLog 5 [2]).log, ing := t.ing, sup := { s.sup with ev := s.sup.ev ||| 2 } } ∧
      (regsBut s t fun c => stat c ∨ c = Reg.CLK_LOSS_CNT) ∧ t.bit F.CLK_STAT_HOLDOVER = true ∧ t.bit F.CLK_STAT_LOCKED = false ∧
      t.bit F.CLK_STAT_SWITCHING = false ∧ t.bit F.CLK_STAT_LOST_EV = true ∧ t.fld F.CLK_STAT_REF = s.fld F.CLK_STAT_REF ∧
      t.fld F.CLK_LOSS_CNT = (s.fld F.CLK_LOSS_CNT + 1) % 2 ^ 32) ∧
    (s.clk.run = true → s.bit F.CLK_STAT_HOLDOVER = true → s.fld F.CLK_STAT_REF ≠ 0 → s.bit F.CLK_CFG_AUTO_FB = true → s.dyn.up.trained = false →
      s.dyn.dn.trained = false → runs .holdMaxExpiry s (slews 0 0 true)) ∧
    (s.mode ≠ .unpowered → s.bit F.CLK_AON_STAT_XTAL_OK = true → runs .aonXtalFail s fun t => only (fun c => c = Reg.CLK_AON_STAT) t ∧
      t.clk = { s.clk with aonNext := true } ∧ t.bit F.CLK_AON_STAT_XTAL_OK = false ∧ t.bit F.CLK_AON_STAT_XTAL_FAIL_EV = true ∧
      t.fld F.CLK_AON_STAT_SRC = s.fld F.CLK_AON_STAT_SRC) ∧
    (s.mode ≠ .unpowered → runs .aonXtalReturn s fun t => only (fun c => c = Reg.CLK_AON_STAT) t ∧ t.clk = { s.clk with aonNext := false } ∧
      t.bit F.CLK_AON_STAT_XTAL_OK = true) ∧
    (s.mode ≠ .unpowered → runs .aonMsTick s fun t => t = { s with regs := t.regs, aonMs := s.aonMs + 1 } ∧
      t.fld F.CLK_AON_STAT_SRC = b2n s.clk.aonNext ∧ regsBut s t fun c => c = Reg.CLK_AON_STAT) ∧
    (hour → s.ladder ≠ .s0 → runs (.wearHour dr) s fun t => t = { s with wear := t.wear } ∧ t.wear.hours = s.wear.hours + 1 ∧
      t.wear.due = true ∧ t.wear.mons = s.wear.mons) ∧
    (hour → settled s → s.wear.hours < 2 ^ 32 → s.monitorOn i = true → dr.getD i none = some d → runs (.wearHour dr) s fun t =>
      let m' := t.wear.mons[i]
      let h := s.wear.hours + 1
      t.wear.hours = h ∧ m'.xLast ^ 4 ≤ h * 2 ^ 64 ∧ h * 2 ^ 64 < (m'.xLast + 1) ^ 4 ∧
      m' = { drift := d, n := m.n + 1, sxd := m.sxd + m'.xLast * d, sxx := m.sxx + m'.xLast ^ 2
             sdd := m.sdd + d.natAbs ^ 2, xLast := m'.xLast } ∧
      t.bit F.WR_STAT_SAMPLE_EV = true ∧ (800 ≤ d → t.wear.eol = true ∧ t.fld F.WR_EOL_HOURS = 0 ∨ t.worst = none)) ∧
    (hour → settled s → s.monitorOn i = false → runs (.wearHour dr) s fun t => t.wear.mons[i] = m ∧ t.bit F.WR_STAT_SKIP = true) ∧
    (hot → s.stepThr 4 ≤ a → step 4) ∧
    (hot → s.wear.step ≤ 3 → s.stepThr 3 ≤ a → a < s.stepThr 4 → step 3) ∧
    (hot → s.wear.step = 2 → s.stepThr 2 - 3 < a → a < s.stepThr 2 → step 2) ∧
    (hot → s.wear.step ≤ 4 → a ≤ s.stepThr 1 - 3 → a ≤ s.stepThr 2 - 3 → step 0) ∧
    (hot → s.stepThr 4 ≤ a → s.mode.isRun = true → runs (.thermalReading ts) s fun t => t.mode = .fallback ∧ t.cp.fbReason = 7) ∧
    (s.mode = .supervise → (∀ k : Fin 8, ts.getD k none = none) → runs (.thermalReading ts) s fun t =>
      t.wear.step = 3 ∧ t.wear.tHot = none ∧ t.mode = .supervise ∧ ∀ k : Fin 8, t.bit (F.WR_TSs_VALID k) = false)

/-- Counted settings are programmed or refused; scribe commands are committed, judged and complete; TAP instructions
load and act. Rules: R662, R664, R665, R667, R668, R669, R670, R684, R685, R687, R689, R722. -/
def Obligations.SettingsScribeChainAndTap : Prop :=
  ∀ (s : State) (v : Word) (k : Fin 4) (hash : BitVec 256) (n : Fin 16) (addr : SysAddr) (arg : Half) (o : OtpSlot) (os : List OtpSlot)
    (p : OtpProg) (c : ScrCmd) (bits : List Bool), s.memWf = true →
    let level := s.cp.sess.level
    let host : Prop := s.cp.sess.active = true ∧ s.plateUp = true
    let open_ : Prop := host ∧ s.mode = .setup ∧ s.otp.prog = none
    let result (x code : Nat) (t : State) : Prop := t.fld F.OTP_RESULT_CODE = code ∧ t.fld F.OTP_RESULT_SETTING = x ∧
      regsBut s t fun a => a = Reg.OTP_RESULT
    let slot (x bytes : Nat) : OtpSlot := { value := x, crc := crc8 (leBytes x bytes), committed := false }
    let prog (x : OtpSetting) (w : Nat) : OtpProg :=
      { setting := x, value := w, level := level, key := s.cp.svcKey, epoch := s.cp.sess.epoch }
    let starts (x : Nat) (q : Otp) (t : State) : Prop := t = { s with regs := t.regs, otp := q } ∧ result x 1 t
    let refused (x code : Nat) (t : State) : Prop := t = { s with regs := t.regs, log := t.log } ∧ result x code t
    let bv (m : Nat) : Nat := (v &&& BitVec.ofNat 32 m).toNat
    let svc : Prop := level ≠ .field
    let free : Prop := s.scr = none
    let chain : Prop := s.mode.isRun = true ∧ settled s
    let scr (op node a : Nat) (m : Half) (t : State) : Prop := ∃ code ∈ t.scr.map (·.code), (chain → s.stopQuiet n = true → m = 0 ∨ m = BitVec.ofNat 16 (2 ^ n.val) → op ≠ 6 → code = 1) ∧
      t.scr = some { op := op, node := node, addr := a, arg := m, code := code, level := BitVec.ofNat 8 (levelCode level) }
    let hosted (op node a : Nat) (m : Half) (t : State) : Prop := scr op node a m t ∧ t = { s with scr := t.scr, cp := { s.cp with
      scrOp := BitVec.ofNat 4 op, scrNode := BitVec.ofNat 7 node, scrAddr := BitVec.ofNat 36 a, scrArg := m } }
    let stop : Nat := 0x50 + n.val
    let done (op code count : Nat) (t : State) : Prop := t.scr = none ∧ t.cp.scrResult = BitVec.ofNat 4 code ∧
      (op = 4 ∨ op = 5 → t.cp.scrCount = BitVec.ofNat 16 count)
    let runs_ (op : Nat) : Prop := c = { op := op, node := stop, arg := arg } ∧ s.scr = some c
    let tags := s.ni[n].tags
    let hit (e : TagEnt) : Bool := arg.getLsbD e.req.dst
    let acts (i : TapInstr) (b : Bool) : State := { s with tap := { s.tap with instr := i, acts := b } }
    let may := (s.mode == .setup || s.mode == .fallback) && s.scr.isNone
    (open_ → svc → s.otp.head.length < 8 → runs (.otpHeadWrite v) s
      (starts 1 { s.otp with head := s.otp.head ++ [slot (bv 0x11F) 2], prog := some (prog .head (bv 0x11F)) })) ∧
    (open_ → svc → s.otp.bootPolicy.length < 4 → v.getLsbD 3 = true → runs (.otpBootPolicyWrite v) s
      (starts 2 { s.otp with bootPolicy := s.otp.bootPolicy ++ [slot (bv 0x3F) 1], prog := some (prog .bootPolicy (bv 0x3F)) })) ∧
    (open_ → svc → s.otp.keys[k] = none → hash ≠ 0 → hash.toNat + 1 ≠ 2 ^ 256 → runs (.otpKeyHashWrite k hash) s
      (starts 3 { s.otp with keys := s.otp.keys.set k (some (slot hash.toNat 32)), prog := some (prog (.keyHash k) hash.toNat) })) ∧
    (open_ → svc → s.otp.keys[k] = some o → runs (.otpKeyHashWrite k hash) s (refused 3 4)) ∧
    (open_ → svc → s.otp.revoke = [] → s.keyHash k ≠ none → v.getLsbD k = false → runs (.otpKeyRevokeWrite v) s
      (starts 4 { s.otp with revoke := [slot (bv 0xF) 1], prog := some (prog .keyRevoke (bv 0xF)) })) ∧
    (open_ → svc → s.otp.revoke = [] → bv 0xF = 15 → runs (.otpKeyRevokeWrite v) s (refused 4 6)) ∧
    (open_ → svc → s.otp.logPolicy.length < 4 → runs (.otpLogPolicyWrite v) s
      (starts 5 { s.otp with logPolicy := s.otp.logPolicy ++ [slot (bv 1) 1], prog := some (prog .logPolicy (bv 1)) })) ∧
    (open_ → svc → s.otp.dbg = [] → bv 3 ≤ 1 → runs (.otpDebugLockWrite v) s
      (starts 6 { s.otp with dbg := [slot (bv 3) 1], prog := some (prog .debugLock (bv 3)) })) ∧
    (open_ → svc → s.otp.dbg = [] → bv 3 = 2 → runs (.otpDebugLockWrite v) s (refused 6 7)) ∧
    (host → level = .field → runs (.otpHeadWrite v) s (refused 1 3) ∧ runs (.otpLogPolicyWrite v) s (refused 5 3)) ∧
    (host → svc → s.mode.isCapture = true → runs (.otpHeadWrite v) s (refused 1 9)) ∧
    (s.otp.prog = some p → p.setting = .head → s.otp.head = os ++ [o] → runs .otpProgramDone s fun t => t.otp = { s.otp with
      head := os ++ [{ o with committed := true }], prog := none } ∧ t.otpHead = o.value ∧ result 1 2 t ∧ t.cp = s.cp ∧
      t.log = (s.audit 0 1 p.level 2 (8 - s.otp.head.length) p.key p.value p.epoch.toNat).log) ∧
    (s.otp.prog = some p → p.setting = .keyRevoke → s.otp.revoke = os ++ [o] → s.cp.svcKey.toNat < 4 → bitOf o.value s.cp.svcKey.toNat = true →
      runs .otpProgramDone s fun t => t.keyRevoke = o.value ∧ t.cp.sess.level = .field) ∧
    (host → level = .factory → runs .wearClear s fun t => t.wear.hours = 0 ∧ t.wear.eol = false ∧ (∀ i : Fin 96, t.wear.mons[i] = {}) ∧
      (∀ i : Fin 8, t.wear.lamp[i] = 0) ∧ t.fld F.OTP_RESULT_CODE = 2 ∧ t.fld F.OTP_RESULT_SETTING = 7) ∧
    (host → level ≠ .factory → runs .wearClear s (refused 7 3)) ∧
    (s.pageThreeMay = true → free → runs (.scribeRead false addr) s (hosted 1 0 addr.toNat 0) ∧
      runs (.scribeBypassOn false (BitVec.ofNat 7 stop)) s (hosted 2 stop 0 0) ∧ runs (.scribeBypassOff false (BitVec.ofNat 7 stop)) s (hosted 3 stop 0 0) ∧
      runs (.scribeDrain false (BitVec.ofNat 7 stop) arg) s (hosted 4 stop 0 arg) ∧
      runs (.scribePoison false (BitVec.ofNat 7 stop) arg) s (hosted 5 stop 0 arg) ∧
      runs (.scribeResetHold false (BitVec.ofNat 7 stop)) s (hosted 6 stop 0 0) ∧
      runs (.scribeResetRelease false (BitVec.ofNat 7 stop)) s (hosted 7 stop 0 0)) ∧
    (s.plateUp = true → free → n.val < 2 → chain → runs (.scribeBypassOn true (BitVec.ofNat 7 stop)) s fun t =>
      t.scr = some { op := 2, joist := true, node := stop, code := 5, level := 0xFF } ∧ t = { s with scr := t.scr, regs := t.regs }) ∧
    (s.pageThreeMay = true → s.scr = some c → runs (.scribeDrain false (BitVec.ofNat 7 stop) arg) s fun t => t.scr = s.scr ∧ t.cp.scrResult = 9) ∧
    (s.scr = some c → c.code = 1 → c.op = 1 → c.joist = false → c.addr = Reg.CLK_LOCK_NS → exec (.scribeComplete false []) s = .next { s with
      scr := none, cp := { s.cp with scrResult := 1, scrData := s.reg Reg.CLK_LOCK_NS } }) ∧
    (s.scr = some c → c.code = 4 → c.op = 4 → c.joist = false → runs (.scribeComplete false []) s fun t => done 4 4 0 t ∧
      t = { s with scr := none, cp := t.cp, log := t.log }) ∧
    (runs_ 2 → runs (.scribeComplete false []) s fun t => done 2 1 0 t ∧ t.ni = s.ni.set n { s.ni[n] with bypass := true }) ∧
    (runs_ 3 → runs (.scribeComplete false []) s fun t => done 3 1 0 t ∧ t.ni = s.ni.set n { s.ni[n] with bypass := false }) ∧
    (runs_ 4 → runs (.scribeComplete false []) s fun t => done 4 1 (tags.countP fun e => e.stale && hit e) t ∧
      t.ni = s.ni.set n { s.ni[n] with tags := tags.filter fun e => !(e.stale && hit e) }) ∧
    (runs_ 5 → runs (.scribeComplete false []) s fun t => done 5 1 (tags.countP fun e => !e.stale && hit e) t ∧
      t.ni[n].tags = tags.filter fun e => !(!e.stale && hit e)) ∧
    (runs_ 6 → n.val ∉ s.stopHeld → runs (.scribeComplete false []) s fun t => done 6 1 0 t ∧ t.ni[n].tags = [] ∧ t.stopHeld = n.val :: s.stopHeld) ∧
    (runs_ 7 → runs (.scribeComplete false []) s fun t => done 7 1 0 t ∧ n.val ∉ t.stopHeld ∧ t.ni = s.ni) ∧
    (s.mode ≠ .unpowered → exec .tapExtest s = .next (acts .extest may) ∧ exec .tapClamp s = .next (acts .clamp may) ∧
      exec .tapHighz s = .next (acts .highz may) ∧ exec .tapBypass s = .next (acts .bypass false) ∧
      exec (.tapSamplePreload bits) s = .next { s with tap := { instr := .samplePreload, acts := false, boundary := bits } })

/-- Decode of encode: every well-formed Joist instruction in the store, every Dynak message, every rail entry;
decoding is well-formed. Rules: R297, R298, R299, R300, R301, R303, R401, R402, R403, R612. -/
def Obligations.EncodingsRoundTrip : Prop :=
  (∀ (s : State) (n : Fin 8) (x : JInstr), let pc := (s.tasks[n]).pc.toNat
    x.wf pc = true → pc + x.encode.length ≤ 0x40000 →
    SMap.getBytes zeroByte s.seqStore pc x.encode.length = x.encode.map (BitVec.ofNat 8) → s.jFetch n = x) ∧
  (∀ (bs : List Byte) (pc : Nat), let x := (jPrefixes {} (bs.map (·.toNat))).finish pc
    x.cause = 0 → x.wf pc = true ∧ x.encode.length ≤ bs.length ∧ x.encode.length ≤ 12) ∧
  (∀ m : DynMsg, m.bytes.length = 8 ∧ DynMsg.parse m.bytes = .ok m) ∧
  ∀ e : RailEntry, e.bytes.length = 17 ∧ RailEntry.ofBytes e.bytes = e

end
end

