-- ==== Sys2Proof/Laws/Memory.lean ====
section
/-! SUPPORT. The sparse maps that hold every memory and the register file: a read after a write, what a write leaves alone,
and that every operation keeps the canonical form. -/

namespace Sys2Proof.Machine

section
variable {α : Type} [DecidableEq α] (d : Nat → α)

/-- A read after a write to the same key gives the value written. -/
@[simp] theorem SMap.get_set_same (m : List (Nat × α)) (a : Nat) (v : α) (lo : Nat) (h : SMap.wfFrom d lo m = true) :
    SMap.get d (SMap.set d m a v) a = v := by
  induction m generalizing lo with
  | nil => by_cases hv : v = d a <;> simp [SMap.set, SMap.get, hv]
  | cons p m ih =>
    obtain ⟨k, w⟩ := p
    simp only [SMap.wfFrom, Bool.and_eq_true, decide_eq_true_eq] at h
    have low : ∀ (m : List (Nat × α)) (lo : Nat), SMap.wfFrom d lo m = true → a < lo → SMap.get d m a = d a := by
      intro m
      induction m with
      | nil => intro lo _ _; rfl
      | cons q m ih2 =>
        obtain ⟨k2, w2⟩ := q
        intro lo h2 hl
        simp only [SMap.wfFrom, Bool.and_eq_true, decide_eq_true_eq] at h2
        rw [SMap.get, if_neg (by omega)]
        exact ih2 (k2 + 1) h2.2 (by omega)
    by_cases h1 : a < k
    · by_cases hv : v = d a
      · simp only [SMap.set, h1, hv, if_true, SMap.get]
        rw [if_neg (by omega)]
        exact low m (k + 1) h.2 (by omega)
      · simp [SMap.set, h1, hv, SMap.get]
    · by_cases h2 : a = k
      · subst h2
        by_cases hv : v = d a
        · simp only [SMap.set, hv, if_true, lt_irrefl, if_false]
          exact low m (a + 1) h.2 (by omega)
        · simp [SMap.set, hv, SMap.get]
      · simp only [SMap.set, h1, h2, if_false, SMap.get]
        rw [if_neg (by omega)]
        exact ih (k + 1) h.2

/-- A write leaves every other key alone. -/
@[simp] theorem SMap.get_set_other (m : List (Nat × α)) (a b : Nat) (v : α) (hab : b ≠ a) :
    SMap.get d (SMap.set d m a v) b = SMap.get d m b := by
  induction m with
  | nil => by_cases hv : v = d a <;> simp [SMap.set, SMap.get, hv, Ne.symm hab]
  | cons p m ih =>
    obtain ⟨k, w⟩ := p
    by_cases h1 : a < k
    · by_cases hv : v = d a <;> simp [SMap.set, h1, hv, SMap.get, Ne.symm hab]
    · by_cases h2 : a = k
      · subst h2
        by_cases hv : v = d a <;> simp [SMap.set, hv, SMap.get, Ne.symm hab]
      · simp only [SMap.set, h1, h2, if_false, SMap.get, ih]

/-- A write keeps the canonical form above a bound. -/
theorem SMap.wfFrom_set (m : List (Nat × α)) (lo a : Nat) (v : α) (h : SMap.wfFrom d lo m = true) (hl : lo ≤ a) :
    SMap.wfFrom d lo (SMap.set d m a v) = true := by
  induction m generalizing lo with
  | nil => by_cases hv : v = d a <;> simp [SMap.set, SMap.wfFrom, hv, hl]
  | cons p m ih =>
    obtain ⟨k, w⟩ := p
    simp only [SMap.wfFrom, Bool.and_eq_true, decide_eq_true_eq] at h
    have up : ∀ (m : List (Nat × α)) (x y : Nat), SMap.wfFrom d y m = true → x ≤ y → SMap.wfFrom d x m = true := by
      intro m x y hm hxy
      cases m with
      | nil => rfl
      | cons q m =>
        simp only [SMap.wfFrom, Bool.and_eq_true, decide_eq_true_eq] at hm ⊢
        exact ⟨⟨by omega, hm.1.2⟩, hm.2⟩
    by_cases h1 : a < k
    · by_cases hv : v = d a
      · simp [SMap.set, h1, hv, SMap.wfFrom, h]
      · simp [SMap.set, h1, hv, SMap.wfFrom, hl, h.1.2, h.2]
    · by_cases h2 : a = k
      · subst h2
        by_cases hv : v = d a
        · simp only [SMap.set, hv, if_true, lt_irrefl, if_false]
          exact up m lo (a + 1) h.2 (by omega)
        · simp [SMap.set, hv, SMap.wfFrom, hl, h.2]
      · simp only [SMap.set, h1, h2, if_false, SMap.wfFrom, Bool.and_eq_true, decide_eq_true_eq]
        exact ⟨h.1, ih (k + 1) h.2 (by omega)⟩

/-- A write keeps the canonical form. -/
theorem SMap.wf_set (m : List (Nat × α)) (a : Nat) (v : α) (h : SMap.wf d m = true) :
    SMap.wf d (SMap.set d m a v) = true := SMap.wfFrom_set d m 0 a v h (Nat.zero_le a)

/-- Clearing a range keeps the canonical form above a bound. -/
theorem SMap.wfFrom_clear (m : List (Nat × α)) (x y lo : Nat) (h : SMap.wfFrom d lo m = true) :
    SMap.wfFrom d lo (SMap.clear x y m) = true := by
  have up : ∀ (m : List (Nat × α)) (x y : Nat), SMap.wfFrom d y m = true → x ≤ y → SMap.wfFrom d x m = true := by
    intro m x y hm hxy
    cases m with
    | nil => rfl
    | cons q m =>
      simp only [SMap.wfFrom, Bool.and_eq_true, decide_eq_true_eq] at hm ⊢
      exact ⟨⟨by omega, hm.1.2⟩, hm.2⟩
  induction m generalizing lo with
  | nil => rfl
  | cons p m ih =>
    obtain ⟨k, w⟩ := p
    simp only [SMap.wfFrom, Bool.and_eq_true, decide_eq_true_eq] at h
    have hm := ih (k + 1) h.2
    unfold SMap.clear at hm ⊢
    rw [List.filter_cons]
    split
    · simp only [SMap.wfFrom, Bool.and_eq_true, decide_eq_true_eq]; exact ⟨h.1, hm⟩
    · exact up _ lo (k + 1) hm (by omega)

/-- Clearing a range keeps the canonical form. -/
theorem SMap.wf_clear (m : List (Nat × α)) (x y : Nat) (h : SMap.wf d m = true) : SMap.wf d (SMap.clear x y m) = true :=
  SMap.wfFrom_clear d m x y 0 h

end

/-- Writing consecutive bytes keeps the canonical form. -/
theorem SMap.wf_setBytes (d : Nat → Byte) (bs : List Byte) (m : List (Nat × Byte)) (a : Nat) (h : SMap.wf d m = true) :
    SMap.wf d (SMap.setBytes d m a bs) = true := by
  induction bs generalizing m a with
  | nil => exact h
  | cons b bs ih => exact ih (SMap.set d m a b) (a + 1) (SMap.wf_set d m a b h)

/-- Writing consecutive bytes leaves every byte outside them alone. -/
theorem SMap.get_setBytes_other (d : Nat → Byte) (bs : List Byte) (m : List (Nat × Byte)) (a x : Nat)
    (h : x < a ∨ a + bs.length ≤ x) : SMap.get d (SMap.setBytes d m a bs) x = SMap.get d m x := by
  induction bs generalizing m a with
  | nil => rfl
  | cons b bs ih =>
    simp only [List.length_cons] at h
    rw [SMap.setBytes, ih (SMap.set d m a b) (a + 1) (by omega), SMap.get_set_other d m a x b (by omega)]

/-- Reading back the bytes written. -/
theorem SMap.getBytes_setBytes (d : Nat → Byte) (bs : List Byte) (m : List (Nat × Byte)) (a : Nat)
    (h : SMap.wf d m = true) : SMap.getBytes d (SMap.setBytes d m a bs) a bs.length = bs := by
  induction bs generalizing m a with
  | nil => rfl
  | cons b bs ih =>
    rw [List.length_cons, SMap.getBytes, SMap.setBytes, ih _ _ (SMap.wf_set d m a b h),
      SMap.get_setBytes_other d bs _ (a + 1) a (by omega), SMap.get_set_same d m a b 0 h]

/-- The register file after a write, at the register written. -/
theorem State.reg_setReg (s : State) (a : Nat) (v : Word) (h : SMap.wf Reg.resetWord s.regs = true) :
    (s.setReg a v).reg a = v := SMap.get_set_same _ _ a v 0 h

/-- The register file after a write, at every other register. -/
theorem State.reg_setReg_other (s : State) (a b : Nat) (v : Word) (hab : b ≠ a) : (s.setReg a v).reg b = s.reg b :=
  SMap.get_set_other _ _ a b v hab

end Sys2Proof.Machine
end

