-- ==== Sys2Proof/Laws/Fields.lean ====
section
/-! SUPPORT. Bit fields of registers: a field read after a write of the same field, and what a write leaves alone. -/

namespace Sys2Proof.Machine

/-- Bit k of a mask of w ones at bit lo. -/
theorem maskBits_getLsbD (lo w k : Nat) :
    (maskBits lo w).getLsbD k = (decide (k < 32) && (decide (lo ≤ k) && decide (k < lo + w))) := by
  unfold maskBits
  rw [BitVec.getLsbD_ofNat, Nat.testBit_mul_two_pow, Nat.testBit_two_pow_sub_one]
  by_cases h : lo ≤ k
  · have e : k - lo < w ↔ k < lo + w := by omega
    simp [h, e]
  · simp [h]

/-- Bit k of a number read from a field. -/
theorem getBits_testBit (x : Word) (lo w k : Nat) :
    (getBits x lo w).testBit k = (decide (k < w) && x.getLsbD (lo + k)) := by
  unfold getBits
  rw [Nat.testBit_mod_two_pow, Nat.testBit_div_two_pow, Nat.add_comm k lo]
  rfl

/-- Bit k of a word after a field has been replaced. -/
theorem setBits_getLsbD (x : Word) (lo w v k : Nat) (hk : k < 32) :
    (setBits x lo w v).getLsbD k = if lo ≤ k ∧ k < lo + w then v.testBit (k - lo) else x.getLsbD k := by
  unfold setBits
  rw [BitVec.getLsbD_or, BitVec.getLsbD_and, BitVec.getLsbD_and, BitVec.getLsbD_not, maskBits_getLsbD,
    BitVec.getLsbD_ofNat, Nat.testBit_mul_two_pow, Nat.testBit_mod_two_pow]
  by_cases h1 : lo ≤ k <;> by_cases h2 : k < lo + w <;> simp [h1, h2, hk]
  intro _; omega

/-- A field read back after it has been written, modulo its width. -/
theorem getBits_setBits_same (x : Word) (lo w v : Nat) (h : lo + w ≤ 32) :
    getBits (setBits x lo w v) lo w = v % 2 ^ w := by
  apply Nat.eq_of_testBit_eq
  intro k
  rw [getBits_testBit, Nat.testBit_mod_two_pow]
  by_cases hk : k < w
  · rw [setBits_getLsbD _ _ _ _ _ (by omega), if_pos (by omega)]; simp [hk]
  · simp [hk]

/-- A field that a write does not overlap. -/
theorem getBits_setBits_other (x : Word) (lo w v lo' w' : Nat) (h : lo' + w' ≤ 32) (hd : lo + w ≤ lo' ∨ lo' + w' ≤ lo) :
    getBits (setBits x lo w v) lo' w' = getBits x lo' w' := by
  apply Nat.eq_of_testBit_eq
  intro k
  rw [getBits_testBit, getBits_testBit]
  by_cases hk : k < w'
  · rw [setBits_getLsbD _ _ _ _ _ (by omega), if_neg (by omega)]
  · simp [hk]

/-- A field read back from the register file. -/
theorem State.fld_setFld (s : State) (f : Fld) (v : Nat) (h : SMap.wf Reg.resetWord s.regs = true)
    (hf : f.lo + f.w ≤ 32) : (s.setFld f v).fld f = v % 2 ^ f.w := by
  unfold State.fld State.setFld
  rw [State.reg_setReg _ _ _ h]
  exact getBits_setBits_same _ _ _ _ hf

/-- A field of another register. -/
theorem State.fld_setFld_other (s : State) (f g : Fld) (v : Nat) (h : g.addr ≠ f.addr) :
    (s.setFld f v).fld g = s.fld g := by
  unfold State.fld State.setFld
  rw [State.reg_setReg_other _ _ _ _ h]

/-- Another field of the same register. -/
theorem State.fld_setFld_disjoint (s : State) (f g : Fld) (v : Nat) (hw : SMap.wf Reg.resetWord s.regs = true)
    (ha : g.addr = f.addr) (hg : g.lo + g.w ≤ 32) (hd : f.lo + f.w ≤ g.lo ∨ g.lo + g.w ≤ f.lo) :
    (s.setFld f v).fld g = s.fld g := by
  unfold State.fld State.setFld
  rw [ha, State.reg_setReg _ _ _ hw]
  exact getBits_setBits_other _ _ _ _ _ _ hg hd

/-- Writing a field keeps the register file canonical. -/
theorem State.regsWf_setFld (s : State) (f : Fld) (v : Nat) (h : SMap.wf Reg.resetWord s.regs = true) :
    SMap.wf Reg.resetWord (s.setFld f v).regs = true := SMap.wf_set _ _ _ _ h

/-- Writing a register keeps the register file canonical. -/
theorem State.regsWf_setReg (s : State) (a : Nat) (v : Word) (h : SMap.wf Reg.resetWord s.regs = true) :
    SMap.wf Reg.resetWord (s.setReg a v).regs = true := SMap.wf_set _ _ _ _ h

end Sys2Proof.Machine
end

