-- ==== Sys2Proof/Laws/State.lean ====
section
/-! SUPPORT. What the shared updates of the state leave alone: one lemma per field and update. -/

namespace Sys2Proof.Machine

@[simp] theorem State.setReg_pending (s : State) (a : Nat) (v : Word) : (s.setReg a v).pending = s.pending := rfl
@[simp] theorem State.setReg_freeCtr (s : State) (a : Nat) (v : Word) : (s.setReg a v).freeCtr = s.freeCtr := rfl
@[simp] theorem State.setReg_now (s : State) (a : Nat) (v : Word) : (s.setReg a v).now = s.now := rfl
@[simp] theorem State.setReg_bootEnd (s : State) (a : Nat) (v : Word) : (s.setReg a v).bootEnd = s.bootEnd := rfl
@[simp] theorem State.setReg_aonMs (s : State) (a : Nat) (v : Word) : (s.setReg a v).aonMs = s.aonMs := rfl
@[simp] theorem State.setReg_rsnaps (s : State) (a : Nat) (v : Word) : (s.setReg a v).rsnaps = s.rsnaps := rfl
@[simp] theorem State.setReg_mode (s : State) (a : Nat) (v : Word) : (s.setReg a v).mode = s.mode := rfl
@[simp] theorem State.setReg_role (s : State) (a : Nat) (v : Word) : (s.setReg a v).role = s.role := rfl
@[simp] theorem State.setReg_capture (s : State) (a : Nat) (v : Word) : (s.setReg a v).capture = s.capture := rfl
@[simp] theorem State.setReg_ladder (s : State) (a : Nat) (v : Word) : (s.setReg a v).ladder = s.ladder := rfl
@[simp] theorem State.setReg_phase (s : State) (a : Nat) (v : Word) : (s.setReg a v).phase = s.phase := rfl
@[simp] theorem State.setReg_transit (s : State) (a : Nat) (v : Word) : (s.setReg a v).transit = s.transit := rfl
@[simp] theorem State.setReg_joistResult (s : State) (a : Nat) (v : Word) : (s.setReg a v).joistResult = s.joistResult := rfl
@[simp] theorem State.setReg_joistLadderResult (s : State) (a : Nat) (v : Word) : (s.setReg a v).joistLadderResult = s.joistLadderResult := rfl
@[simp] theorem State.setReg_dom (s : State) (a : Nat) (v : Word) : (s.setReg a v).dom = s.dom := rfl
@[simp] theorem State.setReg_cp (s : State) (a : Nat) (v : Word) : (s.setReg a v).cp = s.cp := rfl
@[simp] theorem State.setReg_pegs (s : State) (a : Nat) (v : Word) : (s.setReg a v).pegs = s.pegs := rfl
@[simp] theorem State.setReg_taskSt (s : State) (a : Nat) (v : Word) : (s.setReg a v).taskSt = s.taskSt := rfl
@[simp] theorem State.setReg_lio (s : State) (a : Nat) (v : Word) : (s.setReg a v).lio = s.lio := rfl
@[simp] theorem State.setReg_ing (s : State) (a : Nat) (v : Word) : (s.setReg a v).ing = s.ing := rfl
@[simp] theorem State.setReg_egr (s : State) (a : Nat) (v : Word) : (s.setReg a v).egr = s.egr := rfl
@[simp] theorem State.setReg_dyn (s : State) (a : Nat) (v : Word) : (s.setReg a v).dyn = s.dyn := rfl
@[simp] theorem State.setReg_storeBufs (s : State) (a : Nat) (v : Word) : (s.setReg a v).storeBufs = s.storeBufs := rfl
@[simp] theorem State.setReg_storeOrder (s : State) (a : Nat) (v : Word) : (s.setReg a v).storeOrder = s.storeOrder := rfl
@[simp] theorem State.setReg_stamp (s : State) (a : Nat) (v : Word) : (s.setReg a v).stamp = s.stamp := rfl
@[simp] theorem State.setReg_lanes (s : State) (a : Nat) (v : Word) : (s.setReg a v).lanes = s.lanes := rfl
@[simp] theorem State.setReg_tly (s : State) (a : Nat) (v : Word) : (s.setReg a v).tly = s.tly := rfl
@[simp] theorem State.setReg_trs (s : State) (a : Nat) (v : Word) : (s.setReg a v).trs = s.trs := rfl
@[simp] theorem State.setReg_tasks (s : State) (a : Nat) (v : Word) : (s.setReg a v).tasks = s.tasks := rfl
@[simp] theorem State.setReg_cur (s : State) (a : Nat) (v : Word) : (s.setReg a v).cur = s.cur := rfl
@[simp] theorem State.setReg_ran (s : State) (a : Nat) (v : Word) : (s.setReg a v).ran = s.ran := rfl
@[simp] theorem State.setReg_ranUnits (s : State) (a : Nat) (v : Word) : (s.setReg a v).ranUnits = s.ranUnits := rfl
@[simp] theorem State.setReg_seqStore (s : State) (a : Nat) (v : Word) : (s.setReg a v).seqStore = s.seqStore := rfl
@[simp] theorem State.setReg_ni (s : State) (a : Nat) (v : Word) : (s.setReg a v).ni = s.ni := rfl
@[simp] theorem State.setReg_rings (s : State) (a : Nat) (v : Word) : (s.setReg a v).rings = s.rings := rfl
@[simp] theorem State.setReg_memc (s : State) (a : Nat) (v : Word) : (s.setReg a v).memc = s.memc := rfl
@[simp] theorem State.setReg_held (s : State) (a : Nat) (v : Word) : (s.setReg a v).held = s.held := rfl
@[simp] theorem State.setReg_jig (s : State) (a : Nat) (v : Word) : (s.setReg a v).jig = s.jig := rfl
@[simp] theorem State.setReg_uart (s : State) (a : Nat) (v : Word) : (s.setReg a v).uart = s.uart := rfl
@[simp] theorem State.setReg_log (s : State) (a : Nat) (v : Word) : (s.setReg a v).log = s.log := rfl
@[simp] theorem State.setReg_sup (s : State) (a : Nat) (v : Word) : (s.setReg a v).sup = s.sup := rfl
@[simp] theorem State.setReg_flash (s : State) (a : Nat) (v : Word) : (s.setReg a v).flash = s.flash := rfl
@[simp] theorem State.setReg_boot (s : State) (a : Nat) (v : Word) : (s.setReg a v).boot = s.boot := rfl
@[simp] theorem State.setReg_clk (s : State) (a : Nat) (v : Word) : (s.setReg a v).clk = s.clk := rfl
@[simp] theorem State.setReg_wear (s : State) (a : Nat) (v : Word) : (s.setReg a v).wear = s.wear := rfl
@[simp] theorem State.setReg_otp (s : State) (a : Nat) (v : Word) : (s.setReg a v).otp = s.otp := rfl
@[simp] theorem State.setReg_scr (s : State) (a : Nat) (v : Word) : (s.setReg a v).scr = s.scr := rfl
@[simp] theorem State.setReg_stopHeld (s : State) (a : Nat) (v : Word) : (s.setReg a v).stopHeld = s.stopHeld := rfl
@[simp] theorem State.setReg_tap (s : State) (a : Nat) (v : Word) : (s.setReg a v).tap = s.tap := rfl
@[simp] theorem State.setReg_lad (s : State) (a : Nat) (v : Word) : (s.setReg a v).lad = s.lad := rfl
@[simp] theorem State.setReg_rails (s : State) (a : Nat) (v : Word) : (s.setReg a v).rails = s.rails := rfl

@[simp] theorem State.setFld_pending (s : State) (f : Fld) (v : Nat) : (s.setFld f v).pending = s.pending := rfl
@[simp] theorem State.setFld_freeCtr (s : State) (f : Fld) (v : Nat) : (s.setFld f v).freeCtr = s.freeCtr := rfl
@[simp] theorem State.setFld_now (s : State) (f : Fld) (v : Nat) : (s.setFld f v).now = s.now := rfl
@[simp] theorem State.setFld_bootEnd (s : State) (f : Fld) (v : Nat) : (s.setFld f v).bootEnd = s.bootEnd := rfl
@[simp] theorem State.setFld_aonMs (s : State) (f : Fld) (v : Nat) : (s.setFld f v).aonMs = s.aonMs := rfl
@[simp] theorem State.setFld_rsnaps (s : State) (f : Fld) (v : Nat) : (s.setFld f v).rsnaps = s.rsnaps := rfl
@[simp] theorem State.setFld_mode (s : State) (f : Fld) (v : Nat) : (s.setFld f v).mode = s.mode := rfl
@[simp] theorem State.setFld_role (s : State) (f : Fld) (v : Nat) : (s.setFld f v).role = s.role := rfl
@[simp] theorem State.setFld_capture (s : State) (f : Fld) (v : Nat) : (s.setFld f v).capture = s.capture := rfl
@[simp] theorem State.setFld_ladder (s : State) (f : Fld) (v : Nat) : (s.setFld f v).ladder = s.ladder := rfl
@[simp] theorem State.setFld_phase (s : State) (f : Fld) (v : Nat) : (s.setFld f v).phase = s.phase := rfl
@[simp] theorem State.setFld_transit (s : State) (f : Fld) (v : Nat) : (s.setFld f v).transit = s.transit := rfl
@[simp] theorem State.setFld_joistResult (s : State) (f : Fld) (v : Nat) : (s.setFld f v).joistResult = s.joistResult := rfl
@[simp] theorem State.setFld_joistLadderResult (s : State) (f : Fld) (v : Nat) : (s.setFld f v).joistLadderResult = s.joistLadderResult := rfl
@[simp] theorem State.setFld_dom (s : State) (f : Fld) (v : Nat) : (s.setFld f v).dom = s.dom := rfl
@[simp] theorem State.setFld_cp (s : State) (f : Fld) (v : Nat) : (s.setFld f v).cp = s.cp := rfl
@[simp] theorem State.setFld_pegs (s : State) (f : Fld) (v : Nat) : (s.setFld f v).pegs = s.pegs := rfl
@[simp] theorem State.setFld_taskSt (s : State) (f : Fld) (v : Nat) : (s.setFld f v).taskSt = s.taskSt := rfl
@[simp] theorem State.setFld_lio (s : State) (f : Fld) (v : Nat) : (s.setFld f v).lio = s.lio := rfl
@[simp] theorem State.setFld_ing (s : State) (f : Fld) (v : Nat) : (s.setFld f v).ing = s.ing := rfl
@[simp] theorem State.setFld_egr (s : State) (f : Fld) (v : Nat) : (s.setFld f v).egr = s.egr := rfl
@[simp] theorem State.setFld_dyn (s : State) (f : Fld) (v : Nat) : (s.setFld f v).dyn = s.dyn := rfl
@[simp] theorem State.setFld_storeBufs (s : State) (f : Fld) (v : Nat) : (s.setFld f v).storeBufs = s.storeBufs := rfl
@[simp] theorem State.setFld_storeOrder (s : State) (f : Fld) (v : Nat) : (s.setFld f v).storeOrder = s.storeOrder := rfl
@[simp] theorem State.setFld_stamp (s : State) (f : Fld) (v : Nat) : (s.setFld f v).stamp = s.stamp := rfl
@[simp] theorem State.setFld_lanes (s : State) (f : Fld) (v : Nat) : (s.setFld f v).lanes = s.lanes := rfl
@[simp] theorem State.setFld_tly (s : State) (f : Fld) (v : Nat) : (s.setFld f v).tly = s.tly := rfl
@[simp] theorem State.setFld_trs (s : State) (f : Fld) (v : Nat) : (s.setFld f v).trs = s.trs := rfl
@[simp] theorem State.setFld_tasks (s : State) (f : Fld) (v : Nat) : (s.setFld f v).tasks = s.tasks := rfl
@[simp] theorem State.setFld_cur (s : State) (f : Fld) (v : Nat) : (s.setFld f v).cur = s.cur := rfl
@[simp] theorem State.setFld_ran (s : State) (f : Fld) (v : Nat) : (s.setFld f v).ran = s.ran := rfl
@[simp] theorem State.setFld_ranUnits (s : State) (f : Fld) (v : Nat) : (s.setFld f v).ranUnits = s.ranUnits := rfl
@[simp] theorem State.setFld_seqStore (s : State) (f : Fld) (v : Nat) : (s.setFld f v).seqStore = s.seqStore := rfl
@[simp] theorem State.setFld_ni (s : State) (f : Fld) (v : Nat) : (s.setFld f v).ni = s.ni := rfl
@[simp] theorem State.setFld_rings (s : State) (f : Fld) (v : Nat) : (s.setFld f v).rings = s.rings := rfl
@[simp] theorem State.setFld_memc (s : State) (f : Fld) (v : Nat) : (s.setFld f v).memc = s.memc := rfl
@[simp] theorem State.setFld_held (s : State) (f : Fld) (v : Nat) : (s.setFld f v).held = s.held := rfl
@[simp] theorem State.setFld_jig (s : State) (f : Fld) (v : Nat) : (s.setFld f v).jig = s.jig := rfl
@[simp] theorem State.setFld_uart (s : State) (f : Fld) (v : Nat) : (s.setFld f v).uart = s.uart := rfl
@[simp] theorem State.setFld_log (s : State) (f : Fld) (v : Nat) : (s.setFld f v).log = s.log := rfl
@[simp] theorem State.setFld_sup (s : State) (f : Fld) (v : Nat) : (s.setFld f v).sup = s.sup := rfl
@[simp] theorem State.setFld_flash (s : State) (f : Fld) (v : Nat) : (s.setFld f v).flash = s.flash := rfl
@[simp] theorem State.setFld_boot (s : State) (f : Fld) (v : Nat) : (s.setFld f v).boot = s.boot := rfl
@[simp] theorem State.setFld_clk (s : State) (f : Fld) (v : Nat) : (s.setFld f v).clk = s.clk := rfl
@[simp] theorem State.setFld_wear (s : State) (f : Fld) (v : Nat) : (s.setFld f v).wear = s.wear := rfl
@[simp] theorem State.setFld_otp (s : State) (f : Fld) (v : Nat) : (s.setFld f v).otp = s.otp := rfl
@[simp] theorem State.setFld_scr (s : State) (f : Fld) (v : Nat) : (s.setFld f v).scr = s.scr := rfl
@[simp] theorem State.setFld_stopHeld (s : State) (f : Fld) (v : Nat) : (s.setFld f v).stopHeld = s.stopHeld := rfl
@[simp] theorem State.setFld_tap (s : State) (f : Fld) (v : Nat) : (s.setFld f v).tap = s.tap := rfl
@[simp] theorem State.setFld_lad (s : State) (f : Fld) (v : Nat) : (s.setFld f v).lad = s.lad := rfl
@[simp] theorem State.setFld_rails (s : State) (f : Fld) (v : Nat) : (s.setFld f v).rails = s.rails := rfl

@[simp] theorem State.raise_pending (s : State) (f : Fld) : (s.raise f).pending = s.pending := rfl
@[simp] theorem State.raise_freeCtr (s : State) (f : Fld) : (s.raise f).freeCtr = s.freeCtr := rfl
@[simp] theorem State.raise_now (s : State) (f : Fld) : (s.raise f).now = s.now := rfl
@[simp] theorem State.raise_bootEnd (s : State) (f : Fld) : (s.raise f).bootEnd = s.bootEnd := rfl
@[simp] theorem State.raise_aonMs (s : State) (f : Fld) : (s.raise f).aonMs = s.aonMs := rfl
@[simp] theorem State.raise_rsnaps (s : State) (f : Fld) : (s.raise f).rsnaps = s.rsnaps := rfl
@[simp] theorem State.raise_mode (s : State) (f : Fld) : (s.raise f).mode = s.mode := rfl
@[simp] theorem State.raise_role (s : State) (f : Fld) : (s.raise f).role = s.role := rfl
@[simp] theorem State.raise_capture (s : State) (f : Fld) : (s.raise f).capture = s.capture := rfl
@[simp] theorem State.raise_ladder (s : State) (f : Fld) : (s.raise f).ladder = s.ladder := rfl
@[simp] theorem State.raise_phase (s : State) (f : Fld) : (s.raise f).phase = s.phase := rfl
@[simp] theorem State.raise_transit (s : State) (f : Fld) : (s.raise f).transit = s.transit := rfl
@[simp] theorem State.raise_joistResult (s : State) (f : Fld) : (s.raise f).joistResult = s.joistResult := rfl
@[simp] theorem State.raise_joistLadderResult (s : State) (f : Fld) : (s.raise f).joistLadderResult = s.joistLadderResult := rfl
@[simp] theorem State.raise_dom (s : State) (f : Fld) : (s.raise f).dom = s.dom := rfl
@[simp] theorem State.raise_cp (s : State) (f : Fld) : (s.raise f).cp = s.cp := rfl
@[simp] theorem State.raise_pegs (s : State) (f : Fld) : (s.raise f).pegs = s.pegs := rfl
@[simp] theorem State.raise_taskSt (s : State) (f : Fld) : (s.raise f).taskSt = s.taskSt := rfl
@[simp] theorem State.raise_lio (s : State) (f : Fld) : (s.raise f).lio = s.lio := rfl
@[simp] theorem State.raise_ing (s : State) (f : Fld) : (s.raise f).ing = s.ing := rfl
@[simp] theorem State.raise_egr (s : State) (f : Fld) : (s.raise f).egr = s.egr := rfl
@[simp] theorem State.raise_dyn (s : State) (f : Fld) : (s.raise f).dyn = s.dyn := rfl
@[simp] theorem State.raise_storeBufs (s : State) (f : Fld) : (s.raise f).storeBufs = s.storeBufs := rfl
@[simp] theorem State.raise_storeOrder (s : State) (f : Fld) : (s.raise f).storeOrder = s.storeOrder := rfl
@[simp] theorem State.raise_stamp (s : State) (f : Fld) : (s.raise f).stamp = s.stamp := rfl
@[simp] theorem State.raise_lanes (s : State) (f : Fld) : (s.raise f).lanes = s.lanes := rfl
@[simp] theorem State.raise_tly (s : State) (f : Fld) : (s.raise f).tly = s.tly := rfl
@[simp] theorem State.raise_trs (s : State) (f : Fld) : (s.raise f).trs = s.trs := rfl
@[simp] theorem State.raise_tasks (s : State) (f : Fld) : (s.raise f).tasks = s.tasks := rfl
@[simp] theorem State.raise_cur (s : State) (f : Fld) : (s.raise f).cur = s.cur := rfl
@[simp] theorem State.raise_ran (s : State) (f : Fld) : (s.raise f).ran = s.ran := rfl
@[simp] theorem State.raise_ranUnits (s : State) (f : Fld) : (s.raise f).ranUnits = s.ranUnits := rfl
@[simp] theorem State.raise_seqStore (s : State) (f : Fld) : (s.raise f).seqStore = s.seqStore := rfl
@[simp] theorem State.raise_ni (s : State) (f : Fld) : (s.raise f).ni = s.ni := rfl
@[simp] theorem State.raise_rings (s : State) (f : Fld) : (s.raise f).rings = s.rings := rfl
@[simp] theorem State.raise_memc (s : State) (f : Fld) : (s.raise f).memc = s.memc := rfl
@[simp] theorem State.raise_held (s : State) (f : Fld) : (s.raise f).held = s.held := rfl
@[simp] theorem State.raise_jig (s : State) (f : Fld) : (s.raise f).jig = s.jig := rfl
@[simp] theorem State.raise_uart (s : State) (f : Fld) : (s.raise f).uart = s.uart := rfl
@[simp] theorem State.raise_log (s : State) (f : Fld) : (s.raise f).log = s.log := rfl
@[simp] theorem State.raise_sup (s : State) (f : Fld) : (s.raise f).sup = s.sup := rfl
@[simp] theorem State.raise_flash (s : State) (f : Fld) : (s.raise f).flash = s.flash := rfl
@[simp] theorem State.raise_boot (s : State) (f : Fld) : (s.raise f).boot = s.boot := rfl
@[simp] theorem State.raise_clk (s : State) (f : Fld) : (s.raise f).clk = s.clk := rfl
@[simp] theorem State.raise_wear (s : State) (f : Fld) : (s.raise f).wear = s.wear := rfl
@[simp] theorem State.raise_otp (s : State) (f : Fld) : (s.raise f).otp = s.otp := rfl
@[simp] theorem State.raise_scr (s : State) (f : Fld) : (s.raise f).scr = s.scr := rfl
@[simp] theorem State.raise_stopHeld (s : State) (f : Fld) : (s.raise f).stopHeld = s.stopHeld := rfl
@[simp] theorem State.raise_tap (s : State) (f : Fld) : (s.raise f).tap = s.tap := rfl
@[simp] theorem State.raise_lad (s : State) (f : Fld) : (s.raise f).lad = s.lad := rfl
@[simp] theorem State.raise_rails (s : State) (f : Fld) : (s.raise f).rails = s.rails := rfl

@[simp] theorem State.add_pending (s : State) (f : Fld) (n : Nat) : (s.add f n).pending = s.pending := rfl
@[simp] theorem State.add_freeCtr (s : State) (f : Fld) (n : Nat) : (s.add f n).freeCtr = s.freeCtr := rfl
@[simp] theorem State.add_now (s : State) (f : Fld) (n : Nat) : (s.add f n).now = s.now := rfl
@[simp] theorem State.add_bootEnd (s : State) (f : Fld) (n : Nat) : (s.add f n).bootEnd = s.bootEnd := rfl
@[simp] theorem State.add_aonMs (s : State) (f : Fld) (n : Nat) : (s.add f n).aonMs = s.aonMs := rfl
@[simp] theorem State.add_rsnaps (s : State) (f : Fld) (n : Nat) : (s.add f n).rsnaps = s.rsnaps := rfl
@[simp] theorem State.add_mode (s : State) (f : Fld) (n : Nat) : (s.add f n).mode = s.mode := rfl
@[simp] theorem State.add_role (s : State) (f : Fld) (n : Nat) : (s.add f n).role = s.role := rfl
@[simp] theorem State.add_capture (s : State) (f : Fld) (n : Nat) : (s.add f n).capture = s.capture := rfl
@[simp] theorem State.add_ladder (s : State) (f : Fld) (n : Nat) : (s.add f n).ladder = s.ladder := rfl
@[simp] theorem State.add_phase (s : State) (f : Fld) (n : Nat) : (s.add f n).phase = s.phase := rfl
@[simp] theorem State.add_transit (s : State) (f : Fld) (n : Nat) : (s.add f n).transit = s.transit := rfl
@[simp] theorem State.add_joistResult (s : State) (f : Fld) (n : Nat) : (s.add f n).joistResult = s.joistResult := rfl
@[simp] theorem State.add_joistLadderResult (s : State) (f : Fld) (n : Nat) : (s.add f n).joistLadderResult = s.joistLadderResult := rfl
@[simp] theorem State.add_dom (s : State) (f : Fld) (n : Nat) : (s.add f n).dom = s.dom := rfl
@[simp] theorem State.add_cp (s : State) (f : Fld) (n : Nat) : (s.add f n).cp = s.cp := rfl
@[simp] theorem State.add_pegs (s : State) (f : Fld) (n : Nat) : (s.add f n).pegs = s.pegs := rfl
@[simp] theorem State.add_taskSt (s : State) (f : Fld) (n : Nat) : (s.add f n).taskSt = s.taskSt := rfl
@[simp] theorem State.add_lio (s : State) (f : Fld) (n : Nat) : (s.add f n).lio = s.lio := rfl
@[simp] theorem State.add_ing (s : State) (f : Fld) (n : Nat) : (s.add f n).ing = s.ing := rfl
@[simp] theorem State.add_egr (s : State) (f : Fld) (n : Nat) : (s.add f n).egr = s.egr := rfl
@[simp] theorem State.add_dyn (s : State) (f : Fld) (n : Nat) : (s.add f n).dyn = s.dyn := rfl
@[simp] theorem State.add_storeBufs (s : State) (f : Fld) (n : Nat) : (s.add f n).storeBufs = s.storeBufs := rfl
@[simp] theorem State.add_storeOrder (s : State) (f : Fld) (n : Nat) : (s.add f n).storeOrder = s.storeOrder := rfl
@[simp] theorem State.add_stamp (s : State) (f : Fld) (n : Nat) : (s.add f n).stamp = s.stamp := rfl
@[simp] theorem State.add_lanes (s : State) (f : Fld) (n : Nat) : (s.add f n).lanes = s.lanes := rfl
@[simp] theorem State.add_tly (s : State) (f : Fld) (n : Nat) : (s.add f n).tly = s.tly := rfl
@[simp] theorem State.add_trs (s : State) (f : Fld) (n : Nat) : (s.add f n).trs = s.trs := rfl
@[simp] theorem State.add_tasks (s : State) (f : Fld) (n : Nat) : (s.add f n).tasks = s.tasks := rfl
@[simp] theorem State.add_cur (s : State) (f : Fld) (n : Nat) : (s.add f n).cur = s.cur := rfl
@[simp] theorem State.add_ran (s : State) (f : Fld) (n : Nat) : (s.add f n).ran = s.ran := rfl
@[simp] theorem State.add_ranUnits (s : State) (f : Fld) (n : Nat) : (s.add f n).ranUnits = s.ranUnits := rfl
@[simp] theorem State.add_seqStore (s : State) (f : Fld) (n : Nat) : (s.add f n).seqStore = s.seqStore := rfl
@[simp] theorem State.add_ni (s : State) (f : Fld) (n : Nat) : (s.add f n).ni = s.ni := rfl
@[simp] theorem State.add_rings (s : State) (f : Fld) (n : Nat) : (s.add f n).rings = s.rings := rfl
@[simp] theorem State.add_memc (s : State) (f : Fld) (n : Nat) : (s.add f n).memc = s.memc := rfl
@[simp] theorem State.add_held (s : State) (f : Fld) (n : Nat) : (s.add f n).held = s.held := rfl
@[simp] theorem State.add_jig (s : State) (f : Fld) (n : Nat) : (s.add f n).jig = s.jig := rfl
@[simp] theorem State.add_uart (s : State) (f : Fld) (n : Nat) : (s.add f n).uart = s.uart := rfl
@[simp] theorem State.add_log (s : State) (f : Fld) (n : Nat) : (s.add f n).log = s.log := rfl
@[simp] theorem State.add_sup (s : State) (f : Fld) (n : Nat) : (s.add f n).sup = s.sup := rfl
@[simp] theorem State.add_flash (s : State) (f : Fld) (n : Nat) : (s.add f n).flash = s.flash := rfl
@[simp] theorem State.add_boot (s : State) (f : Fld) (n : Nat) : (s.add f n).boot = s.boot := rfl
@[simp] theorem State.add_clk (s : State) (f : Fld) (n : Nat) : (s.add f n).clk = s.clk := rfl
@[simp] theorem State.add_wear (s : State) (f : Fld) (n : Nat) : (s.add f n).wear = s.wear := rfl
@[simp] theorem State.add_otp (s : State) (f : Fld) (n : Nat) : (s.add f n).otp = s.otp := rfl
@[simp] theorem State.add_scr (s : State) (f : Fld) (n : Nat) : (s.add f n).scr = s.scr := rfl
@[simp] theorem State.add_stopHeld (s : State) (f : Fld) (n : Nat) : (s.add f n).stopHeld = s.stopHeld := rfl
@[simp] theorem State.add_tap (s : State) (f : Fld) (n : Nat) : (s.add f n).tap = s.tap := rfl
@[simp] theorem State.add_lad (s : State) (f : Fld) (n : Nat) : (s.add f n).lad = s.lad := rfl
@[simp] theorem State.add_rails (s : State) (f : Fld) (n : Nat) : (s.add f n).rails = s.rails := rfl

@[simp] theorem State.addSat_pending (s : State) (f : Fld) (n : Nat) : (s.addSat f n).pending = s.pending := rfl
@[simp] theorem State.addSat_freeCtr (s : State) (f : Fld) (n : Nat) : (s.addSat f n).freeCtr = s.freeCtr := rfl
@[simp] theorem State.addSat_now (s : State) (f : Fld) (n : Nat) : (s.addSat f n).now = s.now := rfl
@[simp] theorem State.addSat_bootEnd (s : State) (f : Fld) (n : Nat) : (s.addSat f n).bootEnd = s.bootEnd := rfl
@[simp] theorem State.addSat_aonMs (s : State) (f : Fld) (n : Nat) : (s.addSat f n).aonMs = s.aonMs := rfl
@[simp] theorem State.addSat_rsnaps (s : State) (f : Fld) (n : Nat) : (s.addSat f n).rsnaps = s.rsnaps := rfl
@[simp] theorem State.addSat_mode (s : State) (f : Fld) (n : Nat) : (s.addSat f n).mode = s.mode := rfl
@[simp] theorem State.addSat_role (s : State) (f : Fld) (n : Nat) : (s.addSat f n).role = s.role := rfl
@[simp] theorem State.addSat_capture (s : State) (f : Fld) (n : Nat) : (s.addSat f n).capture = s.capture := rfl
@[simp] theorem State.addSat_ladder (s : State) (f : Fld) (n : Nat) : (s.addSat f n).ladder = s.ladder := rfl
@[simp] theorem State.addSat_phase (s : State) (f : Fld) (n : Nat) : (s.addSat f n).phase = s.phase := rfl
@[simp] theorem State.addSat_transit (s : State) (f : Fld) (n : Nat) : (s.addSat f n).transit = s.transit := rfl
@[simp] theorem State.addSat_joistResult (s : State) (f : Fld) (n : Nat) : (s.addSat f n).joistResult = s.joistResult := rfl
@[simp] theorem State.addSat_joistLadderResult (s : State) (f : Fld) (n : Nat) : (s.addSat f n).joistLadderResult = s.joistLadderResult := rfl
@[simp] theorem State.addSat_dom (s : State) (f : Fld) (n : Nat) : (s.addSat f n).dom = s.dom := rfl
@[simp] theorem State.addSat_cp (s : State) (f : Fld) (n : Nat) : (s.addSat f n).cp = s.cp := rfl
@[simp] theorem State.addSat_pegs (s : State) (f : Fld) (n : Nat) : (s.addSat f n).pegs = s.pegs := rfl
@[simp] theorem State.addSat_taskSt (s : State) (f : Fld) (n : Nat) : (s.addSat f n).taskSt = s.taskSt := rfl
@[simp] theorem State.addSat_lio (s : State) (f : Fld) (n : Nat) : (s.addSat f n).lio = s.lio := rfl
@[simp] theorem State.addSat_ing (s : State) (f : Fld) (n : Nat) : (s.addSat f n).ing = s.ing := rfl
@[simp] theorem State.addSat_egr (s : State) (f : Fld) (n : Nat) : (s.addSat f n).egr = s.egr := rfl
@[simp] theorem State.addSat_dyn (s : State) (f : Fld) (n : Nat) : (s.addSat f n).dyn = s.dyn := rfl
@[simp] theorem State.addSat_storeBufs (s : State) (f : Fld) (n : Nat) : (s.addSat f n).storeBufs = s.storeBufs := rfl
@[simp] theorem State.addSat_storeOrder (s : State) (f : Fld) (n : Nat) : (s.addSat f n).storeOrder = s.storeOrder := rfl
@[simp] theorem State.addSat_stamp (s : State) (f : Fld) (n : Nat) : (s.addSat f n).stamp = s.stamp := rfl
@[simp] theorem State.addSat_lanes (s : State) (f : Fld) (n : Nat) : (s.addSat f n).lanes = s.lanes := rfl
@[simp] theorem State.addSat_tly (s : State) (f : Fld) (n : Nat) : (s.addSat f n).tly = s.tly := rfl
@[simp] theorem State.addSat_trs (s : State) (f : Fld) (n : Nat) : (s.addSat f n).trs = s.trs := rfl
@[simp] theorem State.addSat_tasks (s : State) (f : Fld) (n : Nat) : (s.addSat f n).tasks = s.tasks := rfl
@[simp] theorem State.addSat_cur (s : State) (f : Fld) (n : Nat) : (s.addSat f n).cur = s.cur := rfl
@[simp] theorem State.addSat_ran (s : State) (f : Fld) (n : Nat) : (s.addSat f n).ran = s.ran := rfl
@[simp] theorem State.addSat_ranUnits (s : State) (f : Fld) (n : Nat) : (s.addSat f n).ranUnits = s.ranUnits := rfl
@[simp] theorem State.addSat_seqStore (s : State) (f : Fld) (n : Nat) : (s.addSat f n).seqStore = s.seqStore := rfl
@[simp] theorem State.addSat_ni (s : State) (f : Fld) (n : Nat) : (s.addSat f n).ni = s.ni := rfl
@[simp] theorem State.addSat_rings (s : State) (f : Fld) (n : Nat) : (s.addSat f n).rings = s.rings := rfl
@[simp] theorem State.addSat_memc (s : State) (f : Fld) (n : Nat) : (s.addSat f n).memc = s.memc := rfl
@[simp] theorem State.addSat_held (s : State) (f : Fld) (n : Nat) : (s.addSat f n).held = s.held := rfl
@[simp] theorem State.addSat_jig (s : State) (f : Fld) (n : Nat) : (s.addSat f n).jig = s.jig := rfl
@[simp] theorem State.addSat_uart (s : State) (f : Fld) (n : Nat) : (s.addSat f n).uart = s.uart := rfl
@[simp] theorem State.addSat_log (s : State) (f : Fld) (n : Nat) : (s.addSat f n).log = s.log := rfl
@[simp] theorem State.addSat_sup (s : State) (f : Fld) (n : Nat) : (s.addSat f n).sup = s.sup := rfl
@[simp] theorem State.addSat_flash (s : State) (f : Fld) (n : Nat) : (s.addSat f n).flash = s.flash := rfl
@[simp] theorem State.addSat_boot (s : State) (f : Fld) (n : Nat) : (s.addSat f n).boot = s.boot := rfl
@[simp] theorem State.addSat_clk (s : State) (f : Fld) (n : Nat) : (s.addSat f n).clk = s.clk := rfl
@[simp] theorem State.addSat_wear (s : State) (f : Fld) (n : Nat) : (s.addSat f n).wear = s.wear := rfl
@[simp] theorem State.addSat_otp (s : State) (f : Fld) (n : Nat) : (s.addSat f n).otp = s.otp := rfl
@[simp] theorem State.addSat_scr (s : State) (f : Fld) (n : Nat) : (s.addSat f n).scr = s.scr := rfl
@[simp] theorem State.addSat_stopHeld (s : State) (f : Fld) (n : Nat) : (s.addSat f n).stopHeld = s.stopHeld := rfl
@[simp] theorem State.addSat_tap (s : State) (f : Fld) (n : Nat) : (s.addSat f n).tap = s.tap := rfl
@[simp] theorem State.addSat_lad (s : State) (f : Fld) (n : Nat) : (s.addSat f n).lad = s.lad := rfl
@[simp] theorem State.addSat_rails (s : State) (f : Fld) (n : Nat) : (s.addSat f n).rails = s.rails := rfl

@[simp] theorem State.resetRegs_pending (s : State) (lo hi : Nat) : (s.resetRegs lo hi).pending = s.pending := rfl
@[simp] theorem State.resetRegs_freeCtr (s : State) (lo hi : Nat) : (s.resetRegs lo hi).freeCtr = s.freeCtr := rfl
@[simp] theorem State.resetRegs_now (s : State) (lo hi : Nat) : (s.resetRegs lo hi).now = s.now := rfl
@[simp] theorem State.resetRegs_bootEnd (s : State) (lo hi : Nat) : (s.resetRegs lo hi).bootEnd = s.bootEnd := rfl
@[simp] theorem State.resetRegs_aonMs (s : State) (lo hi : Nat) : (s.resetRegs lo hi).aonMs = s.aonMs := rfl
@[simp] theorem State.resetRegs_mode (s : State) (lo hi : Nat) : (s.resetRegs lo hi).mode = s.mode := rfl
@[simp] theorem State.resetRegs_role (s : State) (lo hi : Nat) : (s.resetRegs lo hi).role = s.role := rfl
@[simp] theorem State.resetRegs_capture (s : State) (lo hi : Nat) : (s.resetRegs lo hi).capture = s.capture := rfl
@[simp] theorem State.resetRegs_ladder (s : State) (lo hi : Nat) : (s.resetRegs lo hi).ladder = s.ladder := rfl
@[simp] theorem State.resetRegs_phase (s : State) (lo hi : Nat) : (s.resetRegs lo hi).phase = s.phase := rfl
@[simp] theorem State.resetRegs_transit (s : State) (lo hi : Nat) : (s.resetRegs lo hi).transit = s.transit := rfl
@[simp] theorem State.resetRegs_joistResult (s : State) (lo hi : Nat) : (s.resetRegs lo hi).joistResult = s.joistResult := rfl
@[simp] theorem State.resetRegs_joistLadderResult (s : State) (lo hi : Nat) : (s.resetRegs lo hi).joistLadderResult = s.joistLadderResult := rfl
@[simp] theorem State.resetRegs_dom (s : State) (lo hi : Nat) : (s.resetRegs lo hi).dom = s.dom := rfl
@[simp] theorem State.resetRegs_cp (s : State) (lo hi : Nat) : (s.resetRegs lo hi).cp = s.cp := rfl
@[simp] theorem State.resetRegs_pegs (s : State) (lo hi : Nat) : (s.resetRegs lo hi).pegs = s.pegs := rfl
@[simp] theorem State.resetRegs_taskSt (s : State) (lo hi : Nat) : (s.resetRegs lo hi).taskSt = s.taskSt := rfl
@[simp] theorem State.resetRegs_lio (s : State) (lo hi : Nat) : (s.resetRegs lo hi).lio = s.lio := rfl
@[simp] theorem State.resetRegs_ing (s : State) (lo hi : Nat) : (s.resetRegs lo hi).ing = s.ing := rfl
@[simp] theorem State.resetRegs_egr (s : State) (lo hi : Nat) : (s.resetRegs lo hi).egr = s.egr := rfl
@[simp] theorem State.resetRegs_dyn (s : State) (lo hi : Nat) : (s.resetRegs lo hi).dyn = s.dyn := rfl
@[simp] theorem State.resetRegs_storeBufs (s : State) (lo hi : Nat) : (s.resetRegs lo hi).storeBufs = s.storeBufs := rfl
@[simp] theorem State.resetRegs_storeOrder (s : State) (lo hi : Nat) : (s.resetRegs lo hi).storeOrder = s.storeOrder := rfl
@[simp] theorem State.resetRegs_stamp (s : State) (lo hi : Nat) : (s.resetRegs lo hi).stamp = s.stamp := rfl
@[simp] theorem State.resetRegs_lanes (s : State) (lo hi : Nat) : (s.resetRegs lo hi).lanes = s.lanes := rfl
@[simp] theorem State.resetRegs_tly (s : State) (lo hi : Nat) : (s.resetRegs lo hi).tly = s.tly := rfl
@[simp] theorem State.resetRegs_trs (s : State) (lo hi : Nat) : (s.resetRegs lo hi).trs = s.trs := rfl
@[simp] theorem State.resetRegs_tasks (s : State) (lo hi : Nat) : (s.resetRegs lo hi).tasks = s.tasks := rfl
@[simp] theorem State.resetRegs_cur (s : State) (lo hi : Nat) : (s.resetRegs lo hi).cur = s.cur := rfl
@[simp] theorem State.resetRegs_ran (s : State) (lo hi : Nat) : (s.resetRegs lo hi).ran = s.ran := rfl
@[simp] theorem State.resetRegs_ranUnits (s : State) (lo hi : Nat) : (s.resetRegs lo hi).ranUnits = s.ranUnits := rfl
@[simp] theorem State.resetRegs_seqStore (s : State) (lo hi : Nat) : (s.resetRegs lo hi).seqStore = s.seqStore := rfl
@[simp] theorem State.resetRegs_ni (s : State) (lo hi : Nat) : (s.resetRegs lo hi).ni = s.ni := rfl
@[simp] theorem State.resetRegs_rings (s : State) (lo hi : Nat) : (s.resetRegs lo hi).rings = s.rings := rfl
@[simp] theorem State.resetRegs_memc (s : State) (lo hi : Nat) : (s.resetRegs lo hi).memc = s.memc := rfl
@[simp] theorem State.resetRegs_held (s : State) (lo hi : Nat) : (s.resetRegs lo hi).held = s.held := rfl
@[simp] theorem State.resetRegs_jig (s : State) (lo hi : Nat) : (s.resetRegs lo hi).jig = s.jig := rfl
@[simp] theorem State.resetRegs_uart (s : State) (lo hi : Nat) : (s.resetRegs lo hi).uart = s.uart := rfl
@[simp] theorem State.resetRegs_log (s : State) (lo hi : Nat) : (s.resetRegs lo hi).log = s.log := rfl
@[simp] theorem State.resetRegs_sup (s : State) (lo hi : Nat) : (s.resetRegs lo hi).sup = s.sup := rfl
@[simp] theorem State.resetRegs_flash (s : State) (lo hi : Nat) : (s.resetRegs lo hi).flash = s.flash := rfl
@[simp] theorem State.resetRegs_boot (s : State) (lo hi : Nat) : (s.resetRegs lo hi).boot = s.boot := rfl
@[simp] theorem State.resetRegs_clk (s : State) (lo hi : Nat) : (s.resetRegs lo hi).clk = s.clk := rfl
@[simp] theorem State.resetRegs_wear (s : State) (lo hi : Nat) : (s.resetRegs lo hi).wear = s.wear := rfl
@[simp] theorem State.resetRegs_otp (s : State) (lo hi : Nat) : (s.resetRegs lo hi).otp = s.otp := rfl
@[simp] theorem State.resetRegs_scr (s : State) (lo hi : Nat) : (s.resetRegs lo hi).scr = s.scr := rfl
@[simp] theorem State.resetRegs_stopHeld (s : State) (lo hi : Nat) : (s.resetRegs lo hi).stopHeld = s.stopHeld := rfl
@[simp] theorem State.resetRegs_tap (s : State) (lo hi : Nat) : (s.resetRegs lo hi).tap = s.tap := rfl
@[simp] theorem State.resetRegs_lad (s : State) (lo hi : Nat) : (s.resetRegs lo hi).lad = s.lad := rfl
@[simp] theorem State.resetRegs_rails (s : State) (lo hi : Nat) : (s.resetRegs lo hi).rails = s.rails := rfl

@[simp] theorem State.atT_pending (s : State) (t : Nat) : (s.atT t).pending = s.pending := rfl
@[simp] theorem State.atT_freeCtr (s : State) (t : Nat) : (s.atT t).freeCtr = s.freeCtr := rfl
@[simp] theorem State.atT_bootEnd (s : State) (t : Nat) : (s.atT t).bootEnd = s.bootEnd := rfl
@[simp] theorem State.atT_aonMs (s : State) (t : Nat) : (s.atT t).aonMs = s.aonMs := rfl
@[simp] theorem State.atT_regs (s : State) (t : Nat) : (s.atT t).regs = s.regs := rfl
@[simp] theorem State.atT_rsnaps (s : State) (t : Nat) : (s.atT t).rsnaps = s.rsnaps := rfl
@[simp] theorem State.atT_mode (s : State) (t : Nat) : (s.atT t).mode = s.mode := rfl
@[simp] theorem State.atT_role (s : State) (t : Nat) : (s.atT t).role = s.role := rfl
@[simp] theorem State.atT_capture (s : State) (t : Nat) : (s.atT t).capture = s.capture := rfl
@[simp] theorem State.atT_ladder (s : State) (t : Nat) : (s.atT t).ladder = s.ladder := rfl
@[simp] theorem State.atT_phase (s : State) (t : Nat) : (s.atT t).phase = s.phase := rfl
@[simp] theorem State.atT_transit (s : State) (t : Nat) : (s.atT t).transit = s.transit := rfl
@[simp] theorem State.atT_joistResult (s : State) (t : Nat) : (s.atT t).joistResult = s.joistResult := rfl
@[simp] theorem State.atT_joistLadderResult (s : State) (t : Nat) : (s.atT t).joistLadderResult = s.joistLadderResult := rfl
@[simp] theorem State.atT_dom (s : State) (t : Nat) : (s.atT t).dom = s.dom := rfl
@[simp] theorem State.atT_cp (s : State) (t : Nat) : (s.atT t).cp = s.cp := rfl
@[simp] theorem State.atT_pegs (s : State) (t : Nat) : (s.atT t).pegs = s.pegs := rfl
@[simp] theorem State.atT_taskSt (s : State) (t : Nat) : (s.atT t).taskSt = s.taskSt := rfl
@[simp] theorem State.atT_lio (s : State) (t : Nat) : (s.atT t).lio = s.lio := rfl
@[simp] theorem State.atT_ing (s : State) (t : Nat) : (s.atT t).ing = s.ing := rfl
@[simp] theorem State.atT_egr (s : State) (t : Nat) : (s.atT t).egr = s.egr := rfl
@[simp] theorem State.atT_dyn (s : State) (t : Nat) : (s.atT t).dyn = s.dyn := rfl
@[simp] theorem State.atT_storeBufs (s : State) (t : Nat) : (s.atT t).storeBufs = s.storeBufs := rfl
@[simp] theorem State.atT_storeOrder (s : State) (t : Nat) : (s.atT t).storeOrder = s.storeOrder := rfl
@[simp] theorem State.atT_stamp (s : State) (t : Nat) : (s.atT t).stamp = s.stamp := rfl
@[simp] theorem State.atT_lanes (s : State) (t : Nat) : (s.atT t).lanes = s.lanes := rfl
@[simp] theorem State.atT_tly (s : State) (t : Nat) : (s.atT t).tly = s.tly := rfl
@[simp] theorem State.atT_trs (s : State) (t : Nat) : (s.atT t).trs = s.trs := rfl
@[simp] theorem State.atT_tasks (s : State) (t : Nat) : (s.atT t).tasks = s.tasks := rfl
@[simp] theorem State.atT_cur (s : State) (t : Nat) : (s.atT t).cur = s.cur := rfl
@[simp] theorem State.atT_ran (s : State) (t : Nat) : (s.atT t).ran = s.ran := rfl
@[simp] theorem State.atT_ranUnits (s : State) (t : Nat) : (s.atT t).ranUnits = s.ranUnits := rfl
@[simp] theorem State.atT_seqStore (s : State) (t : Nat) : (s.atT t).seqStore = s.seqStore := rfl
@[simp] theorem State.atT_ni (s : State) (t : Nat) : (s.atT t).ni = s.ni := rfl
@[simp] theorem State.atT_rings (s : State) (t : Nat) : (s.atT t).rings = s.rings := rfl
@[simp] theorem State.atT_memc (s : State) (t : Nat) : (s.atT t).memc = s.memc := rfl
@[simp] theorem State.atT_held (s : State) (t : Nat) : (s.atT t).held = s.held := rfl
@[simp] theorem State.atT_jig (s : State) (t : Nat) : (s.atT t).jig = s.jig := rfl
@[simp] theorem State.atT_uart (s : State) (t : Nat) : (s.atT t).uart = s.uart := rfl
@[simp] theorem State.atT_log (s : State) (t : Nat) : (s.atT t).log = s.log := rfl
@[simp] theorem State.atT_sup (s : State) (t : Nat) : (s.atT t).sup = s.sup := rfl
@[simp] theorem State.atT_flash (s : State) (t : Nat) : (s.atT t).flash = s.flash := rfl
@[simp] theorem State.atT_boot (s : State) (t : Nat) : (s.atT t).boot = s.boot := rfl
@[simp] theorem State.atT_clk (s : State) (t : Nat) : (s.atT t).clk = s.clk := rfl
@[simp] theorem State.atT_wear (s : State) (t : Nat) : (s.atT t).wear = s.wear := rfl
@[simp] theorem State.atT_otp (s : State) (t : Nat) : (s.atT t).otp = s.otp := rfl
@[simp] theorem State.atT_scr (s : State) (t : Nat) : (s.atT t).scr = s.scr := rfl
@[simp] theorem State.atT_stopHeld (s : State) (t : Nat) : (s.atT t).stopHeld = s.stopHeld := rfl
@[simp] theorem State.atT_tap (s : State) (t : Nat) : (s.atT t).tap = s.tap := rfl
@[simp] theorem State.atT_lad (s : State) (t : Nat) : (s.atT t).lad = s.lad := rfl
@[simp] theorem State.atT_rails (s : State) (t : Nat) : (s.atT t).rails = s.rails := rfl

@[simp] theorem State.irq_pending (s : State) (n : Nat) : (s.irq n).pending = s.pending := rfl
@[simp] theorem State.irq_freeCtr (s : State) (n : Nat) : (s.irq n).freeCtr = s.freeCtr := rfl
@[simp] theorem State.irq_now (s : State) (n : Nat) : (s.irq n).now = s.now := rfl
@[simp] theorem State.irq_bootEnd (s : State) (n : Nat) : (s.irq n).bootEnd = s.bootEnd := rfl
@[simp] theorem State.irq_aonMs (s : State) (n : Nat) : (s.irq n).aonMs = s.aonMs := rfl
@[simp] theorem State.irq_regs (s : State) (n : Nat) : (s.irq n).regs = s.regs := rfl
@[simp] theorem State.irq_rsnaps (s : State) (n : Nat) : (s.irq n).rsnaps = s.rsnaps := rfl
@[simp] theorem State.irq_mode (s : State) (n : Nat) : (s.irq n).mode = s.mode := rfl
@[simp] theorem State.irq_role (s : State) (n : Nat) : (s.irq n).role = s.role := rfl
@[simp] theorem State.irq_capture (s : State) (n : Nat) : (s.irq n).capture = s.capture := rfl
@[simp] theorem State.irq_ladder (s : State) (n : Nat) : (s.irq n).ladder = s.ladder := rfl
@[simp] theorem State.irq_phase (s : State) (n : Nat) : (s.irq n).phase = s.phase := rfl
@[simp] theorem State.irq_transit (s : State) (n : Nat) : (s.irq n).transit = s.transit := rfl
@[simp] theorem State.irq_joistResult (s : State) (n : Nat) : (s.irq n).joistResult = s.joistResult := rfl
@[simp] theorem State.irq_joistLadderResult (s : State) (n : Nat) : (s.irq n).joistLadderResult = s.joistLadderResult := rfl
@[simp] theorem State.irq_dom (s : State) (n : Nat) : (s.irq n).dom = s.dom := rfl
@[simp] theorem State.irq_pegs (s : State) (n : Nat) : (s.irq n).pegs = s.pegs := rfl
@[simp] theorem State.irq_taskSt (s : State) (n : Nat) : (s.irq n).taskSt = s.taskSt := rfl
@[simp] theorem State.irq_lio (s : State) (n : Nat) : (s.irq n).lio = s.lio := rfl
@[simp] theorem State.irq_ing (s : State) (n : Nat) : (s.irq n).ing = s.ing := rfl
@[simp] theorem State.irq_egr (s : State) (n : Nat) : (s.irq n).egr = s.egr := rfl
@[simp] theorem State.irq_dyn (s : State) (n : Nat) : (s.irq n).dyn = s.dyn := rfl
@[simp] theorem State.irq_storeBufs (s : State) (n : Nat) : (s.irq n).storeBufs = s.storeBufs := rfl
@[simp] theorem State.irq_storeOrder (s : State) (n : Nat) : (s.irq n).storeOrder = s.storeOrder := rfl
@[simp] theorem State.irq_stamp (s : State) (n : Nat) : (s.irq n).stamp = s.stamp := rfl
@[simp] theorem State.irq_lanes (s : State) (n : Nat) : (s.irq n).lanes = s.lanes := rfl
@[simp] theorem State.irq_tly (s : State) (n : Nat) : (s.irq n).tly = s.tly := rfl
@[simp] theorem State.irq_trs (s : State) (n : Nat) : (s.irq n).trs = s.trs := rfl
@[simp] theorem State.irq_tasks (s : State) (n : Nat) : (s.irq n).tasks = s.tasks := rfl
@[simp] theorem State.irq_cur (s : State) (n : Nat) : (s.irq n).cur = s.cur := rfl
@[simp] theorem State.irq_ran (s : State) (n : Nat) : (s.irq n).ran = s.ran := rfl
@[simp] theorem State.irq_ranUnits (s : State) (n : Nat) : (s.irq n).ranUnits = s.ranUnits := rfl
@[simp] theorem State.irq_seqStore (s : State) (n : Nat) : (s.irq n).seqStore = s.seqStore := rfl
@[simp] theorem State.irq_ni (s : State) (n : Nat) : (s.irq n).ni = s.ni := rfl
@[simp] theorem State.irq_rings (s : State) (n : Nat) : (s.irq n).rings = s.rings := rfl
@[simp] theorem State.irq_memc (s : State) (n : Nat) : (s.irq n).memc = s.memc := rfl
@[simp] theorem State.irq_held (s : State) (n : Nat) : (s.irq n).held = s.held := rfl
@[simp] theorem State.irq_jig (s : State) (n : Nat) : (s.irq n).jig = s.jig := rfl
@[simp] theorem State.irq_uart (s : State) (n : Nat) : (s.irq n).uart = s.uart := rfl
@[simp] theorem State.irq_log (s : State) (n : Nat) : (s.irq n).log = s.log := rfl
@[simp] theorem State.irq_sup (s : State) (n : Nat) : (s.irq n).sup = s.sup := rfl
@[simp] theorem State.irq_flash (s : State) (n : Nat) : (s.irq n).flash = s.flash := rfl
@[simp] theorem State.irq_boot (s : State) (n : Nat) : (s.irq n).boot = s.boot := rfl
@[simp] theorem State.irq_clk (s : State) (n : Nat) : (s.irq n).clk = s.clk := rfl
@[simp] theorem State.irq_wear (s : State) (n : Nat) : (s.irq n).wear = s.wear := rfl
@[simp] theorem State.irq_otp (s : State) (n : Nat) : (s.irq n).otp = s.otp := rfl
@[simp] theorem State.irq_scr (s : State) (n : Nat) : (s.irq n).scr = s.scr := rfl
@[simp] theorem State.irq_stopHeld (s : State) (n : Nat) : (s.irq n).stopHeld = s.stopHeld := rfl
@[simp] theorem State.irq_tap (s : State) (n : Nat) : (s.irq n).tap = s.tap := rfl
@[simp] theorem State.irq_lad (s : State) (n : Nat) : (s.irq n).lad = s.lad := rfl
@[simp] theorem State.irq_rails (s : State) (n : Nat) : (s.irq n).rails = s.rails := rfl

@[simp] theorem State.setRail_pending (s : State) (r : Fin 24) (x : Rail) : (s.setRail r x).pending = s.pending := rfl
@[simp] theorem State.setRail_freeCtr (s : State) (r : Fin 24) (x : Rail) : (s.setRail r x).freeCtr = s.freeCtr := rfl
@[simp] theorem State.setRail_now (s : State) (r : Fin 24) (x : Rail) : (s.setRail r x).now = s.now := rfl
@[simp] theorem State.setRail_bootEnd (s : State) (r : Fin 24) (x : Rail) : (s.setRail r x).bootEnd = s.bootEnd := rfl
@[simp] theorem State.setRail_aonMs (s : State) (r : Fin 24) (x : Rail) : (s.setRail r x).aonMs = s.aonMs := rfl
@[simp] theorem State.setRail_regs (s : State) (r : Fin 24) (x : Rail) : (s.setRail r x).regs = s.regs := rfl
@[simp] theorem State.setRail_rsnaps (s : State) (r : Fin 24) (x : Rail) : (s.setRail r x).rsnaps = s.rsnaps := rfl
@[simp] theorem State.setRail_mode (s : State) (r : Fin 24) (x : Rail) : (s.setRail r x).mode = s.mode := rfl
@[simp] theorem State.setRail_role (s : State) (r : Fin 24) (x : Rail) : (s.setRail r x).role = s.role := rfl
@[simp] theorem State.setRail_capture (s : State) (r : Fin 24) (x : Rail) : (s.setRail r x).capture = s.capture := rfl
@[simp] theorem State.setRail_ladder (s : State) (r : Fin 24) (x : Rail) : (s.setRail r x).ladder = s.ladder := rfl
@[simp] theorem State.setRail_phase (s : State) (r : Fin 24) (x : Rail) : (s.setRail r x).phase = s.phase := rfl
@[simp] theorem State.setRail_transit (s : State) (r : Fin 24) (x : Rail) : (s.setRail r x).transit = s.transit := rfl
@[simp] theorem State.setRail_joistResult (s : State) (r : Fin 24) (x : Rail) : (s.setRail r x).joistResult = s.joistResult := rfl
@[simp] theorem State.setRail_joistLadderResult (s : State) (r : Fin 24) (x : Rail) : (s.setRail r x).joistLadderResult = s.joistLadderResult := rfl
@[simp] theorem State.setRail_dom (s : State) (r : Fin 24) (x : Rail) : (s.setRail r x).dom = s.dom := rfl
@[simp] theorem State.setRail_cp (s : State) (r : Fin 24) (x : Rail) : (s.setRail r x).cp = s.cp := rfl
@[simp] theorem State.setRail_pegs (s : State) (r : Fin 24) (x : Rail) : (s.setRail r x).pegs = s.pegs := rfl
@[simp] theorem State.setRail_taskSt (s : State) (r : Fin 24) (x : Rail) : (s.setRail r x).taskSt = s.taskSt := rfl
@[simp] theorem State.setRail_lio (s : State) (r : Fin 24) (x : Rail) : (s.setRail r x).lio = s.lio := rfl
@[simp] theorem State.setRail_ing (s : State) (r : Fin 24) (x : Rail) : (s.setRail r x).ing = s.ing := rfl
@[simp] theorem State.setRail_egr (s : State) (r : Fin 24) (x : Rail) : (s.setRail r x).egr = s.egr := rfl
@[simp] theorem State.setRail_dyn (s : State) (r : Fin 24) (x : Rail) : (s.setRail r x).dyn = s.dyn := rfl
@[simp] theorem State.setRail_storeBufs (s : State) (r : Fin 24) (x : Rail) : (s.setRail r x).storeBufs = s.storeBufs := rfl
@[simp] theorem State.setRail_storeOrder (s : State) (r : Fin 24) (x : Rail) : (s.setRail r x).storeOrder = s.storeOrder := rfl
@[simp] theorem State.setRail_stamp (s : State) (r : Fin 24) (x : Rail) : (s.setRail r x).stamp = s.stamp := rfl
@[simp] theorem State.setRail_lanes (s : State) (r : Fin 24) (x : Rail) : (s.setRail r x).lanes = s.lanes := rfl
@[simp] theorem State.setRail_tly (s : State) (r : Fin 24) (x : Rail) : (s.setRail r x).tly = s.tly := rfl
@[simp] theorem State.setRail_trs (s : State) (r : Fin 24) (x : Rail) : (s.setRail r x).trs = s.trs := rfl
@[simp] theorem State.setRail_tasks (s : State) (r : Fin 24) (x : Rail) : (s.setRail r x).tasks = s.tasks := rfl
@[simp] theorem State.setRail_cur (s : State) (r : Fin 24) (x : Rail) : (s.setRail r x).cur = s.cur := rfl
@[simp] theorem State.setRail_ran (s : State) (r : Fin 24) (x : Rail) : (s.setRail r x).ran = s.ran := rfl
@[simp] theorem State.setRail_ranUnits (s : State) (r : Fin 24) (x : Rail) : (s.setRail r x).ranUnits = s.ranUnits := rfl
@[simp] theorem State.setRail_seqStore (s : State) (r : Fin 24) (x : Rail) : (s.setRail r x).seqStore = s.seqStore := rfl
@[simp] theorem State.setRail_ni (s : State) (r : Fin 24) (x : Rail) : (s.setRail r x).ni = s.ni := rfl
@[simp] theorem State.setRail_rings (s : State) (r : Fin 24) (x : Rail) : (s.setRail r x).rings = s.rings := rfl
@[simp] theorem State.setRail_memc (s : State) (r : Fin 24) (x : Rail) : (s.setRail r x).memc = s.memc := rfl
@[simp] theorem State.setRail_held (s : State) (r : Fin 24) (x : Rail) : (s.setRail r x).held = s.held := rfl
@[simp] theorem State.setRail_jig (s : State) (r : Fin 24) (x : Rail) : (s.setRail r x).jig = s.jig := rfl
@[simp] theorem State.setRail_uart (s : State) (r : Fin 24) (x : Rail) : (s.setRail r x).uart = s.uart := rfl
@[simp] theorem State.setRail_log (s : State) (r : Fin 24) (x : Rail) : (s.setRail r x).log = s.log := rfl
@[simp] theorem State.setRail_sup (s : State) (r : Fin 24) (x : Rail) : (s.setRail r x).sup = s.sup := rfl
@[simp] theorem State.setRail_flash (s : State) (r : Fin 24) (x : Rail) : (s.setRail r x).flash = s.flash := rfl
@[simp] theorem State.setRail_boot (s : State) (r : Fin 24) (x : Rail) : (s.setRail r x).boot = s.boot := rfl
@[simp] theorem State.setRail_clk (s : State) (r : Fin 24) (x : Rail) : (s.setRail r x).clk = s.clk := rfl
@[simp] theorem State.setRail_wear (s : State) (r : Fin 24) (x : Rail) : (s.setRail r x).wear = s.wear := rfl
@[simp] theorem State.setRail_otp (s : State) (r : Fin 24) (x : Rail) : (s.setRail r x).otp = s.otp := rfl
@[simp] theorem State.setRail_scr (s : State) (r : Fin 24) (x : Rail) : (s.setRail r x).scr = s.scr := rfl
@[simp] theorem State.setRail_stopHeld (s : State) (r : Fin 24) (x : Rail) : (s.setRail r x).stopHeld = s.stopHeld := rfl
@[simp] theorem State.setRail_tap (s : State) (r : Fin 24) (x : Rail) : (s.setRail r x).tap = s.tap := rfl
@[simp] theorem State.setRail_lad (s : State) (r : Fin 24) (x : Rail) : (s.setRail r x).lad = s.lad := rfl

/-- Setting a field on a condition, as one update of the register file. -/
theorem State.raiseIf_eq (s : State) (c : Bool) (f : Fld) :
    s.raiseIf c f = { s with regs := (s.raiseIf c f).regs } := by cases c <;> rfl

/-- Queueing a log record changes the log alone. -/
theorem State.pushLog_eq (s : State) (typ : Nat) (p : List Byte) :
    s.pushLog typ p = { s with log := (s.pushLog typ p).log } := by unfold State.pushLog; split <;> rfl

/-- A control-port error changes the control port alone. -/
theorem State.cpError_eq (s : State) (n : Nat) : s.cpError n = { s with cp := (s.cpError n).cp } := by
  unfold State.cpError; dsimp only; split <;> rfl

/-- A supervisor warning changes the ingest block alone. -/
theorem State.supervisorWarning_eq (s : State) :
    s.supervisorWarning = { s with ing := s.supervisorWarning.ing } := rfl

/-- A write through a field descriptor is a write of its register. -/
theorem State.setFld_eq (s : State) (f : Fld) (v : Nat) :
    s.setFld f v = { s with regs := (s.setFld f v).regs } := rfl

/-- A new record is queued while fewer than 16 wait (R605). -/
theorem State.pushLog_queue (s : State) (typ : Nat) (p : List Byte) (h : s.log.queue.length < 16) :
    (s.pushLog typ p).log.queue =
      s.log.queue ++ [{ typ := BitVec.ofNat 8 typ, ms := s.aonMs, sev := logSeverity typ, payload := p }] := by
  unfold State.pushLog; rw [if_pos h]

end Sys2Proof.Machine
end

