-- ==== Sys2Proof/Laws/Ops.lean ====
section
/-! SUPPORT. What each shared operation of a block may write: one lemma per operation. Proofs cite these in place of the
definitions. -/

namespace Sys2Proof.Machine

/-! ### One field of State -/

theorem State.setDom_writes (s : State) (d : Fin 76) (x : DomState) : s.setDom d x = { s with dom := s.dom.set d x } := rfl

theorem State.setPeg_writes (s : State) (p : Fin 32) (x : Peg) : s.setPeg p x = { s with pegs := s.pegs.set p x } := rfl

theorem State.setTask_writes (s : State) (n : Fin 8) (x : Task) : s.setTask n x = { s with tasks := s.tasks.set n x } := rfl

theorem State.setTaskSt_writes (s : State) (n : Fin 8) (x : TaskSt) : s.setTaskSt n x = { s with taskSt := s.taskSt.set n x } := rfl

theorem State.setNi_writes (s : State) (n : Fin 16) (x : Ni) : s.setNi n x = { s with ni := s.ni.set n x } := rfl

theorem State.setChannel_writes (s : State) (c : Fin 12) (v : Vector RPort 16) :
    ∃ w, s.setChannel c v = { s with rings := s.rings.set c w } := ⟨_, rfl⟩

theorem State.inject_writes (s : State) (c : Fin 12) (n : Fin 16) (r : FlitRun) :
    ∃ w, s.inject c n r = { s with rings := s.rings.set c w } := ⟨_, rfl⟩

theorem State.eject_writes (s : State) (c : Fin 12) (n : Fin 16) (tag : Byte) :
    ∃ w, s.eject c n tag = { s with rings := s.rings.set c w } := ⟨_, rfl⟩

theorem State.setUart_writes (s : State) (n : Fin 2) (u : Uart) : s.setUart n u = { s with uart := s.uart.set n u } := rfl

theorem State.setDesc_writes (s : State) (n : Fin 2) (d : Fin 16) (x : UartDesc) :
    ∃ u, s.setDesc n d x = { s with uart := s.uart.set n u } := ⟨_, rfl⟩

theorem State.onRails_writes (s : State) (m : BitVec 24) (g : Rail → Rail) : ∃ v, s.onRails m g = { s with rails := v } := ⟨_, rfl⟩

/-! ### One field of a block -/

theorem State.setEnc_writes (s : State) (n : Fin 3) (e : Encoder) :
    s.setEnc n e = { s with lio := { s.lio with enc := s.lio.enc.set n e } } := rfl

theorem State.setMark_writes (s : State) (m : Fin 4) (x : Mark) :
    s.setMark m x = { s with lio := { s.lio with marks := s.lio.marks.set m x } } := rfl

theorem State.setStb_writes (s : State) (n : Fin 8) (c : Strobe) :
    s.setStb n c = { s with lio := { s.lio with stb := s.lio.stb.set n c } } := rfl

theorem State.setEnt_writes (s : State) (v : Nat) (e : PlaneEnt) : ∃ m, s.setEnt v e = { s with tly := { s.tly with map := m } } :=
  ⟨_, rfl⟩

theorem State.setWin_writes (s : State) (w : Window) : s.setWin w = { s with cp := { s.cp with win := w } } := rfl

theorem State.restage_writes (s : State) (p base len v : Nat) : ∃ m, s.restage p base len v = { s with cp := { s.cp with staged := m } } :=
  ⟨_, rfl⟩

theorem State.setPath_writes (s : State) (ring : Bool) (p : SupPath) : ∃ u, s.setPath ring p = { s with sup := u } := ⟨_, rfl⟩

theorem State.memcSetErr_writes (s : State) (w n : Nat) : ∃ m, s.memcSetErr w n = { s with memc := { s.memc with errs := m } } :=
  ⟨_, rfl⟩

theorem State.setSlot_writes (s : State) (k : Nat) (wide : Bool) (x : SlotSt) :
    ∃ v, s.setSlot k wide x = { s with ing := { s.ing with slots := v } } := by
  simp only [State.setSlot]
  split <;> split <;> try split
  all_goals exact ⟨_, rfl⟩

/-! ### Several fields -/

theorem State.drawWord_writes (s : State) : s.drawWord.2 = { s with freeCtr := s.freeCtr + 1 } := rfl

theorem State.memcForget_writes (s : State) (lo len : Nat) :
    ∃ m, s.memcForget lo len = { s with freeCtr := s.freeCtr + len, memc := m } := ⟨_, rfl⟩

/-- A look at a rail, and any number of looks, change rails only. -/
theorem State.railLook_writes (s : State) (r : Fin 24) : ∃ v, s.railLook r = { s with rails := v } := by
  unfold State.railLook
  dsimp only
  repeat' split
  all_goals exact ⟨_, rfl⟩

theorem State.railLooks_writes (l : List (Fin 24)) (s : State) :
    ∃ v, l.foldl (fun s r => s.railLook r) s = { s with rails := v } := by
  induction l generalizing s with
  | nil => exact ⟨_, rfl⟩
  | cons r l ih =>
    obtain ⟨v, h⟩ := s.railLook_writes r
    obtain ⟨w, k⟩ := ih { s with rails := v }
    exact ⟨w, by rw [List.foldl_cons, h, k]⟩

theorem State.railsRounds_writes (n : Nat) (s : State) : ∃ v, State.railsRounds n s = { s with rails := v } := by
  induction n generalizing s with
  | zero => exact ⟨_, rfl⟩
  | succ n ih =>
    obtain ⟨v, h⟩ := State.railLooks_writes (List.finRange 24) s
    obtain ⟨w, k⟩ := ih { s with rails := v }
    refine ⟨w, ?_⟩
    rw [State.railsRounds, State.railsLook, h]
    exact k

theorem State.railsWait_writes (n : Nat) (s : State) : ∃ v, s.railsWait n = { s with rails := v } :=
  State.railsRounds_writes n s

theorem State.s5Up_writes (s : State) : ∃ v u, s.s5Up = { s with rails := v, sup := u } := by
  unfold State.s5Up
  split
  · exact ⟨_, _, rfl⟩
  · dsimp only
    generalize Vector.ofFn _ = rs
    obtain ⟨v, h⟩ := State.railsWait_writes 24 { s with rails := rs, sup := { s.sup with seq := 1 } }
    exact ⟨v, { s.sup with seq := 1 }, h⟩

/-- A wake starts an exit, or changes nothing: its cause is noted, an entry that it ends is answered, and the rails that S5 took
down start again. -/
theorem State.wake_writes (s : State) (src : Nat) (who : Requester) :
    ∃ r p c j v u, s.wake src who =
      { s with regs := r, phase := p, cp := c, joistLadderResult := j, rails := v, sup := u } := by
  unfold State.wake
  split
  · dsimp only
    split
    · obtain ⟨v, u, h⟩ := State.s5Up_writes _
      exact ⟨_, _, _, _, v, u, h⟩
    · obtain ⟨v, u, h⟩ := State.s5Up_writes _
      exact ⟨_, _, _, _, v, u, h⟩
  · exact ⟨_, _, _, _, _, _, rfl⟩

/-- An event of a task sets its bit, may end the task's WAIT, and may wake the device. -/
theorem State.setEvent_writes (s : State) (n : Fin 8) (bit : Nat) :
    ∃ r t p c j v u, s.setEvent n bit =
      { s with regs := r, taskSt := t, phase := p, cp := c, joistLadderResult := j, rails := v, sup := u } := by
  unfold State.setEvent
  split
  · dsimp only
    split
    · split
      · obtain ⟨r, p, c, j, v, u, h⟩ := State.wake_writes _ 3 .caused
        exact ⟨r, _, p, c, j, v, u, h⟩
      · exact ⟨_, _, _, _, _, _, _, rfl⟩
    · exact ⟨_, _, _, _, _, _, _, rfl⟩
  · exact ⟨_, _, _, _, _, _, _, rfl⟩

/-- A log record joins the queue, or is counted as lost. -/
theorem State.pushLog_writes (s : State) (typ : Nat) (payload : List Byte) : ∃ l, s.pushLog typ payload = { s with log := l } := by
  simp only [State.pushLog]
  split <;> exact ⟨_, rfl⟩

end Sys2Proof.Machine
end

