-- ==== Sys2Proof/Tests/Slice0.lean ====
section
/-! SUPPORT. Tests: for every statement with hypotheses, states and operands that meet the hypotheses of each of its clauses; ill-formed
terms that WellFormed refuses; the worked examples of the spec. -/

section
open Sys2Proof Sys2Proof.Machine Sys2Proof.Spec

/-- With no wait inside an instruction ended, nothing settles. -/
theorem Sys2Proof.Machine.State.settleWaits_eq (s : State) (h : ∀ n : Fin 8, s.waitEnded n = false) : s.settleWaits = s := by
  have ht : (Vector.ofFn fun n : Fin 8 => s.tasks[n]) = s.tasks := by ext i hi; simp
  have hs : (Vector.ofFn fun n : Fin 8 => s.taskSt[n]) = s.taskSt := by ext i hi; simp
  simp only [State.settleWaits, h, Bool.false_and, if_false, Bool.false_eq_true]
  rw [ht, hs]

/-- `issuesAny`, with no state compared. -/
def Sys2Proof.Tests.issuesAnyB (s : State) (n : Fin 8) : Bool := decide
  ((∀ m : Fin 8, s.waitEnded m = false) ∧ s.jReady = some n ∧ (s.tasks[n]).abortDue = false ∧ (s.jFetch n).rep = false ∧ (s.jFetch n).cause = 0 ∧
   ∀ r ∈ (s.jFetch n).touches false, (s.tasks[n]).pend.contains r = false)

/-- `issues`, with no state compared. -/
def Sys2Proof.Tests.issuesB (s : State) (n : Fin 8) (k : Nat) : Bool :=
  Tests.issuesAnyB s n && decide ((s.jFetch n).arr = false ∧ (s.jFetch n).op = some k)

theorem Sys2Proof.Tests.issuesAny_of (s : State) (n : Fin 8) (h : Tests.issuesAnyB s n = true) : issuesAny s n := by
  simp only [Tests.issuesAnyB, decide_eq_true_eq] at h
  exact ⟨s.settleWaits_eq h.1, h.2⟩

theorem Sys2Proof.Tests.issues_of (s : State) (n : Fin 8) (k : Nat) (h : Tests.issuesB s n k = true) : issues s n k := by
  simp only [Tests.issuesB, Bool.and_eq_true, decide_eq_true_eq] at h
  exact ⟨Tests.issuesAny_of s n h.1, h.2⟩

/-- `ready` as a test. -/
def Sys2Proof.Tests.readyB (s : State) (w : MacroWord) (ws : List MacroWord) : Bool := decide (s.trs.queue = w :: ws) && s.trsCanStart w

theorem Sys2Proof.Tests.ready_of (s : State) (w : MacroWord) (ws : List MacroWord) (h : Tests.readyB s w ws = true) : ready s w ws := by
  simp only [Tests.readyB, Bool.and_eq_true, decide_eq_true_eq] at h
  exact h

/-- `settled` as a test. -/
def Sys2Proof.Tests.settledB (s : State) : Bool := decide (s.transit = none ∧ s.ladder = .s0 ∧ s.phase = .stable)

/-- A decidable proposition as a Bool. -/
def Sys2Proof.Tests.holds (p : Prop) (h : Decidable p := by first | infer_instance | (dsimp only; infer_instance)) : Bool := @decide p h

end

section
set_option Elab.async false
open Sys2Proof Sys2Proof.Machine Sys2Proof.Spec Sys2Proof.Tests
namespace Sys2Proof.Tests

/-! ### Small states -/

/-- SETUP with every domain ON, a session, the rail table loaded and the PLL running. -/
def setup : State := { State.reset with
  mode := .setup, now := 1000, dom := Vector.replicate 76 .on, cp := { State.reset.cp with sess := { active := true, epoch := 3 } }
  sup := { State.reset.sup with loaded := true }, clk := { State.reset.clk with run := true } }
/-- TRACK capture. -/
def track : State := { setup with mode := .track, capture := true }
/-- LOCKSTEP capture as a follower. -/
def lock : State := { setup with mode := .lockstep, capture := true, role := true }
/-- SETUP with no session. -/
def nosess : State := { setup with cp := State.reset.cp }
/-- SUPERVISE with the rail table loaded. -/
def idle : State := { State.reset with sup := { State.reset.sup with loaded := true } }
/-- The session's level. -/
def leveled (l : Level) (s : State) : State := { s with cp := { s.cp with sess := { s.cp.sess with level := l } } }
/-- Task 2 is RUN at 0x100, where the given bytes stand, with two registers set. -/
def joist (bytes : List Nat) (g6 g7 : Word := 0) : State := { setup with
  seqStore := SMap.setBytes zeroByte [] 0x100 (bytes.map (BitVec.ofNat 8)), taskSt := setup.taskSt.set 2 .run, cur := 2
  tasks := setup.tasks.set 2 { pc := 0x100, g := ((Vector.replicate 32 0).set 6 g6).set 7 g7, gen := 7 } }
/-- Rails GOOD. -/
def railsUp (s : State) : State := { s with rails := s.rails.map fun x => { x with st := .good } }
def pegged (s : State) (x : Peg) : State := { s with pegs := s.pegs.set 6 x }
def window (w : Window) : State := { setup with cp := { setup.cp with win := w } }
def answeredWin (r : RingResp) : State := { window { busy := true, fSize := 2 } with ni := setup.ni.set 0 { inbox := [({}, r)] } }
def withEnc (e : Encoder) : State := { setup with lio := { setup.lio with enc := setup.lio.enc.set 1 e } }
def withMark (x : Mark) : State := { setup with lio := { setup.lio with marks := setup.lio.marks.set 2 x } }
def withStb (c : Strobe) : State := { setup with lio := { setup.lio with stb := setup.lio.stb.set 3 c } }
def withPrs (p : Presence) : State :=
  { (setup.setFld (F.JIG_PINj_FUNC 34) 1).setFld F.PRS_CFG_EN 1 with lio := { setup.lio with prs := p } }
def withIng (i : Ingest) : State := ({ setup with ing := i } : State).setFld F.ING_CFG_EN 1
def withTap : Tap := { instr := .extest, acts := true }
def line9 : Trig := { num := 9, pos := 77, t := 500, ltmo := 100 }
def filling5 : Filling := { trig := line9, slot := 5, bytes := [5, 6, 7] }
def ended5 : Filling := { filling5 with ended := true }
/-- A macro-op word from its fields. -/
def macroWord (op n m f opt d s1 s2 x : Nat) : MacroWord :=
  { w0 := BitVec.ofNat 32 (op + (n - 1) * 2 ^ 8 + (m - 1) * 2 ^ 14 + f * 2 ^ 20 + opt * 2 ^ 24)
    w1 := BitVec.ofNat 32 (d + s1 * 2 ^ 16), w2 := BitVec.ofNat 32 (s2 + x * 2 ^ 16) }
/-- The word is at the head of the Truss queue, its operands on the bench. -/
def queued (w : MacroWord) : State := { setup with trs := { queue := [w], head := .ready } }
def executing (x : Exec) : State := { joist [0] with trs := { exec := some x }, storeBufs := #v[some {}, none] }
def flags7 : Exec := { word := { w0 := 0x18, task := 2, gen := 7 }, cyc := 99 }
def mappedPlanes : List (Nat × PlaneEnt) :=
  [(5, { level := .bench, slot := 3, pinB := true }), (6, { level := .yard, slot := 3 }), (9, { level := .far })]
def tallyCmd (c : TallyCmd) : State := { setup with tly := { map := mappedPlanes, data := [(5, 77), (6, 33)], cmd := some c } }
def moving (m : FarMove) : State := { setup with tly := { map := mappedPlanes, data := [(5, 77), (6, 33)], moves := [m] } }
def readyTasks : State := ({ setup with taskSt := #v[.off, .ready, .ready, .off, .ready, .wait, .off, .off] } : State).setFld
  (F.SEQ_Tn_WMASK 5) 0x200
def storeBuf : StoreBuf := { pixels := List.replicate 256 9, n := 8, ready := true, ctx := 3 }
def codecCfg : KrfCfg := { near := 2, blklen := 256 }
def block1 : KrfBlock := { pixels := [1, 2], cfg := codecCfg, buf := 1 }
def egressFull (k : KrfBlock) : State :=
  { setup with lanes := #v[some k, none, none, none], egr := { bufs := Vector.replicate 64 { st := .queued } } }
def egressOn : State := ((setup.raise F.EGR_CFG_EN).raise F.EGR_STAT_RX_SYNC).raise F.EGR_STAT_LINK_UP
def egressBuf (b : EgrBuf) : State :=
  { egressOn with egr := { bufs := (Vector.replicate 64 ({} : EgrBuf)).set 7 b, nextSeq := 9, limit := 20 } }
def inflight5 : EgrBuf := { st := .inflight, seq := 5, sends := 1, frame := EgrFrame.make 1 .image 3 4 5 6 [1, 2] }
def dynPort1 : DynPortSt := { trained := true, txq := [.pos false 3, .user 7, .gor 2 3] }
def dynTrained : Dyn := { up := dynPort1, dn := dynPort1, hop := 3 }
def follower : State := { lock with dyn := dynTrained }
def master : State := { lock with dyn := { dynTrained with hop := 0 }, role := false }
def memory : State := { (((setup.setFld F.MEMC_CAP 512).raise F.MEMC_STAT_TRAINED).raise F.MEMC_CFG_ECC_EN).setFld F.MEMC_SCRUB_PER 3
  with memc := { store := [(0x100, 7), (0x103, 9), (0x200, 4)] } }
def request1 : RingReq := { src := 1, dst := 3, off := 0x100, len := 4, data := [5, 6, 7, 8], client := .task 2 1 5 .word }
def waiting (s : State) (q : RingReq) : State := { s with ni := s.ni.set 1 { s.ni[1] with bridge := [q] } }
def sentTag (k : ReqKind) : TagEnt := { tag := 7, req := { request1 with kind := k }, primary := false }
def tagged (s : State) (e : TagEnt) : State := { s with ni := s.ni.set 1 { s.ni[1] with tags := [{ tag := 3, req := { dst := 8 } }, e] } }
def jigged (j : Jig) : State := { setup with jig := j }
def jigTags : List TagEnt := [{ tag := 9, req := { dst := 6, off := 0x10000006, len := 8, kind := .read } }]
def jigTagged (j : Jig) : State := { jigged j with ni := setup.ni.set 2 { setup.ni[2] with tags := jigTags } }
def jigRt (words : List Nat) : JigRt := { stop := 2, tag := 9, req := { off := 0x10000006, len := 8 }, words := words }
def treed (t : JigTree) : State := jigged { st := .run, trees := (Vector.replicate 4 ({} : JigTree)).set 1 t }
def uarted (u : Uart) : State :=
  ((({ setup with uart := Vector.replicate 2 u } : State).raise (F.UAn_CFG_RX_EN 1)).raise (F.UAn_CFG_TX_EN 1)).setFld (F.UAn_Dd_ADDR_HI 1 3) 1
def char41 : UartTx := { v := 0x41 }
def uartDesc (x : UartDesc) : Vector UartDesc 16 := (Vector.replicate 16 ({} : UartDesc)).set 3 x
def dmaAnswered (x : UartDesc) (r : RingResp) : State :=
  let s := uarted { desc := uartDesc x }
  { s with ni := s.ni.set (uartStop 1) { inbox := [({ client := .uart 1 3 x.order }, r)] } }
/-- A start of an unsigned image with one Joist section and a Jig image of five sections, in slot A. -/
def jigSection (typ idx n : Nat) : List Byte := [BitVec.ofNat 8 typ, BitVec.ofNat 8 idx, 0, 0] ++ leBytes n 4 ++ List.replicate n 0
def jigBody : List Byte :=
  leBytes 0x3147494A 4 ++ leBytes 1 2 ++ [0, 0] ++ leBytes 2444 4 ++ [0, 0] ++ leBytes 5 2 ++ List.replicate 16 0 ++
    jigSection 2 4 2048 ++ jigSection 4 0 64 ++ jigSection 5 0 32 ++ jigSection 6 0 64 ++ jigSection 7 0 160
def jigImage : List Byte := jigBody ++ leBytes (crc32 jigBody).toNat 4
def bootFields : List Byte :=
  leBytes 0x4236314B 4 ++ leBytes 1 2 ++ leBytes 0x140 2 ++ leBytes 2780 4 ++ leBytes 5 4 ++ [0, 2, 0, 0] ++ leBytes 0x100 4 ++
    leBytes 0x101 4 ++ leBytes 0 4 ++ ([1, 0, 0, 0] ++ leBytes 320 4 ++ leBytes 4 4 ++ leBytes 0x100 4) ++
    ([2, 0, 0, 0] ++ leBytes 336 4 ++ leBytes 2444 4 ++ leBytes 0 4) ++ List.replicate 64 0
def bootHeader : List Byte := bootFields ++ sha256 (bootFields ++ ([1, 2, 3, 4] ++ (jigImage ++ []))) ++ List.replicate 160 0
def booting : State := { State.reset with
  mode := .boot, sup := { State.reset.sup with attempt := true, loaded := true }, clk := { run := true } }
def bootImage : List Byte := bootHeader ++ ([1, 2, 3, 4] ++ List.replicate 12 0) ++ jigImage
def bootable : State := { booting with
  flash := { store := SMap.setBytes erasedByte [] 0 bootImage } }
def fallback : State := { State.reset with
  mode := .fallback, transit := none, sup := { State.reset.sup with loaded := true }, cp := { fbReason := 1 } }
def flashed (a : Nat) (op : Option (FlOp × Nat × List Byte)) (m : Mode := .setup) : State :=
  ({ setup with mode := m, boot := { slot := some false }, flash := { op := op, store := [(0x10005, 4)] } } : State).setFld F.PWR_FL_ADDR a
/-- Rail 7 in a state, the others GOOD; rail 8 hangs on it, and rails 7 and 10 share a group. -/
def railed (st : RailSt) (react : BitVec 2 := 0) (f : Rail → Rail := id) : State :=
  let e (k : Nat) : RailEntry := if k < 6 then RailEntry.default k else
    { en := true, nom := 1000, warn := 50, react := react, group := if k % 3 = 1 then 2 else 0, parent := if k = 8 then 0x80 else 0 }
  { setup with rails := Vector.ofFn fun k => f { entry := e k.val, st := if k.val = 7 then st else .good } }
def busHead (s : State) : State := { s with otp := { s.otp with head := [{ value := 0x103 }] } }
def clearable (s : State) : State := { s with otp := { s.otp with logPolicy := [{ value := 1 }] } }
def rtBytes (e : RailEntry) : BitVec 136 := BitVec.ofNat 136 (ofLeBytes e.bytes)
def goodEntry : RailEntry := RailEntry.core 0 750 712 788 20
def record3 : LogRec := { typ := 0x0C, ms := 0x123456, sev := 3, payload := [1, 2, 3] }
def busAsked (q : BusReq) : State := { setup with sup := { setup.sup with cmdRes := 1, busReq := some q } }
def locked (s : State) : State := (s.raise F.CLK_STAT_LOCKED).setFld F.CLK_CFG_AUTO_FB 1
def dynakRef (s : State) : State := ({ s with dyn := { s.dyn with up := { s.dyn.up with trained := true } } } : State).setFld F.CLK_CFG_REF_SEL 1
def keyed (s : State) : State := { s with otp := { s.otp with keys := Vector.replicate 4 (some { value := 5 }) } }
def programming (p : OtpProg) (o : OtpSlot) : State :=
  { setup with cp := { setup.cp with svcKey := 2 }, otp := (setup.otp.onRow (fun _ => [o]) p.setting) } |> fun s =>
    { s with otp := { s.otp with prog := some p } }
def scribing (c : ScrCmd) : State := { setup with scr := some c }
/-- Samples of sixteen equal segments staged. -/
def compandable : State :=
  (List.range 16).foldl (fun s j => (s.setFld (F.ING_CMP_SEGj_B j) (j * 256)).setFld (F.ING_CMP_SEGj_S j) 4) setup
/-- The samples of an exact presence code. -/
def prsExact : BitVec 496 :=
  BitVec.ofNat 496 ((List.range 31).foldl (fun a i => if (prsChips 31 (getBits ({} : Presence).cfg 13 5)).getD i false then
    a + (2 ^ 16 - 1) * 2 ^ (16 * i) else a) 0)
def toTrack : Transit := { target := .track, by_ := .host }
def toSetup : Transit := { target := .setup, by_ := .host }
def loadWord : MacroWord := macroWord 0x28 1 1 0 0 110 0 0 1
def loadl3 : Loadl := { claimed := [(3, false)], complete := true }
/-- A LOADL at the head, ten planes on the bench, and one line of 200 pixels held. -/
def loading (l : Loadl) : State := { queued loadWord with
  trs := { (queued loadWord).trs with loadl := some l }
  tly := { map := (List.range 10).map fun i => (110 + i, { level := .bench, slot := i }) }
  ing := { setup.ing with hdr := setup.ing.hdr.set 3 { npix := 200 }, store := [(3 * 16384 + 5, 77)] } }
/-- The Jig image stands at the end of the sequencer store and is being loaded. -/
def loadingJig : State :=
  ({ jigged { st := .loading } with seqStore := SMap.setBytes zeroByte [] (0x40000 - 2444) jigImage }.setFld F.JIG_RECFG_ADDR_HI 1).setFld
    F.JIG_RECFG_ADDR_LO (0x40000 - 2444)
/-- Eight sensors, some of them invalid, the hottest at `a`. -/
def temps (a : Int) : List (Option Int) := [none, some (a - 9), some a, some a, none, some (a - 50), none, some (-5)]
/-- A response whose key is enrolled in slot 1, with a P-256 signature over the challenge of epoch 3. -/
def grantResp : List Byte := leBytes
  (0xc9f9c1e8fbb5979eed201421db8723ac87a467f33799a6bc3729bccd5e735edac9f9c1e8fbb5979eed201421db8723ac87a467f33799a6bc3729bccd5e735eda * 2 ^ 512 +
   0x5d653a440e8be37cbb66a649df7d85013d1e844655e4ede0ae5b31cb9caff9cc1c8d55acf6aeec7611c647339bb1f945f930763827d65c3efb09e1d9c5fa663b) 128
def grantChal : List Byte := 1 :: List.replicate 43 0 ++ [3, 1, 0, 0]
def granted : State := { setup with
  cp := { setup.cp with svcRun := some (.service, grantChal, grantResp) }
  otp := { setup.otp with keys := #v[none, some { value := 0x4d16301e0bf9f946b77e30fa58e9e67f44355503d1fbdb4022ab24e8c1c5c915 }, none, none] } }
/-- The sections of the Jig image. -/
def jigSecs : List (Nat × List Byte) :=
  [(0x204, List.replicate 2048 0), (0x400, List.replicate 64 0), (0x500, List.replicate 32 0), (0x600, List.replicate 64 0),
   (0x700, List.replicate 160 0)]
def counting (s : State) : State := { s with lio := { s.lio with counting := true } }
def ending (l : Loadl) : State := { (withIng { filling := [ended5, filling5] } : State) with trs := { loadl := some l } }
def tagsFull (s : State) : State := { s with ni := s.ni.set 1 { tags := List.replicate 256 {} } }
/-- A state changed in one respect. -/
def inFallback (s : State) : State := { s with mode := .fallback }
def inTrack (s : State) : State := { s with mode := .track, capture := true }
def inLock (s : State) : State := { s with mode := .lockstep, capture := true, role := true }
def noSession (s : State) : State := { s with cp := { s.cp with sess := {} } }
def inTransit (s : State) : State := { s with transit := some { target := .track, by_ := .host } }
def allOff (s : State) : State := { s with dom := Vector.replicate 76 .off }
def tapped (s : State) : State := { s with tap := { acts := true, instr := .extest } }
def lampCut (s : State) : State := { s with lio := { s.lio with ilkLow := true } }
def heldDown (s : State) : State := { s with held := [64, 65, 66] }
def framed (s : State) : State := { s with ing := { s.ing with frames := [{ num := 3, issued := 5, closed := true, resolved := 4 }] } }
def newRun (s : State) : State := { s with tasks := s.tasks.map fun t => { t with live := t.gen + 1 } }
def atS3 (s : State) : State := { s with ladder := .s3 }
def deterministic (s : State) : State := s.raise F.TLY_CFG_MODE
def farOn (s : State) : State := s.raise F.TLY_CFG_FAR_EN

/-! ### The hypotheses of each clause, and where they are met

`meets_<Name> c …` says that the hypotheses of clause c of Obligations.<Name>, as they stand there, hold of the state and operands
given (in a clause that several Joist instructions share, of opcode k and access size). `issuesB`, `readyB` and `settledB` stand for `issues`, `ready`
and `settled`, and that no wait has ended for `settleWaits s = s` (`issues_of`, `ready_of`, `State.settleWaits_eq`). -/

/-- The hypotheses of the clauses of CaptureRequestIsAccepted. -/
def meets_CaptureRequestIsAccepted (clause : Nat) (s : State) (m : Mode) (v : Byte) : Bool :=
  match clause with
  | 0 => holds (
    (settledB s = true) ∧
    (v.toNat % 8 = m.code.toNat) ∧
    (bitOf v.toNat 7 = true) ∧
    let role := bitOf v.toNat 3 && m == .lockstep
    ((s.mode = .setup ∧ m.isCapture = true ∧ s.capturePre m role = none) ∨ (s.mode.isCapture = true ∧ m = .setup)) ∧
    (s.cp.sess.active = true))
  | 1 => holds (
    (settledB s = true) ∧
    (v.toNat % 8 = m.code.toNat) ∧
    (bitOf v.toNat 7 = true) ∧
    let role := bitOf v.toNat 3 && m == .lockstep
    ((s.mode = .setup ∧ m.isCapture = true ∧ s.capturePre m role = none) ∨ (s.mode.isCapture = true ∧ m = .setup)) ∧
    (s.plateUp = true))
  | _ => true

theorem witness_CaptureRequestIsAccepted :
    (∀ c ∈ [0, 1], meets_CaptureRequestIsAccepted c (setup.setFld F.ENC_LTIMER_LTIMER 500) .freeRun 0x85) := by decide +kernel

/-- The hypotheses of the clauses of LockstepRoleChangeIsRefused. -/
def meets_LockstepRoleChangeIsRefused (clause : Nat) (s : State) (v : Byte) : Bool :=
  match clause with
  | 0 => holds (
    (s.mode = .lockstep) ∧
    (settledB s = true) ∧
    (v.toNat % 8 = 7) ∧
    (bitOf v.toNat 7 = true) ∧
    (bitOf v.toNat 3 ≠ s.role) ∧
    (s.cp.sess.active = true))
  | 1 => holds (
    (s.mode = .lockstep) ∧
    (settledB s = true) ∧
    (v.toNat % 8 = 7) ∧
    (bitOf v.toNat 7 = true) ∧
    (bitOf v.toNat 3 ≠ s.role) ∧
    (s.plateUp = true))
  | _ => true

theorem witness_LockstepRoleChangeIsRefused :
    (∀ c ∈ [0, 1], meets_LockstepRoleChangeIsRefused c lock 0x87) := by decide +kernel

/-- The hypotheses of the clauses of ModeRequestsDuringATransition. -/
def meets_ModeRequestsDuringATransition (clause : Nat) (s : State) (v : Byte) (tr : Transit) : Bool :=
  match clause with
  | 0 => holds (
    (s.mode ≠ .unpowered) ∧
    (s.cp.sess.active = false))
  | 1 => holds (
    (s.mode ≠ .unpowered) ∧
    (s.cp.sess.active = true) ∧
    (bitOf v.toNat 7 = false))
  | 2 => holds (
    (s.mode ≠ .unpowered) ∧
    (bitOf v.toNat 7 = true))
  | 3 => holds (
    (s.mode ≠ .unpowered) ∧
    let m := Mode.ofCode (v.toNat % 8)
    (s.cp.sess.active = true) ∧
    (bitOf v.toNat 7 = true) ∧
    (s.transit = some tr) ∧
    (m ≠ .fallback) ∧
    (m ≠ .supervise) ∧
    (m ≠ .setup))
  | 4 => holds (
    (s.mode ≠ .unpowered) ∧
    let m := Mode.ofCode (v.toNat % 8)
    (s.cp.sess.active = true) ∧
    (bitOf v.toNat 7 = true) ∧
    (s.transit = some tr) ∧
    (m = .setup) ∧
    (tr.target ≠ .setup ∨ bitOf v.toNat 4 = false ∨ tr.now = true))
  | 5 => holds (
    (s.mode ≠ .unpowered) ∧
    let m := Mode.ofCode (v.toNat % 8)
    (s.cp.sess.active = true) ∧
    (bitOf v.toNat 7 = true) ∧
    (s.transit = some tr) ∧
    (m = .setup) ∧
    (tr.target = .setup) ∧
    (bitOf v.toNat 4 = true) ∧
    (tr.now = false))
  | 6 => holds (
    (s.mode ≠ .unpowered) ∧
    let m := Mode.ofCode (v.toNat % 8)
    (s.cp.sess.active = true) ∧
    (bitOf v.toNat 7 = true) ∧
    (settledB s = true) ∧
    (m ≠ s.mode) ∧
    (modePermits s.mode m = false))
  | 7 => holds (
    (s.mode ≠ .unpowered) ∧
    let m := Mode.ofCode (v.toNat % 8)
    (s.cp.sess.active = true) ∧
    (bitOf v.toNat 7 = true) ∧
    (settledB s = true) ∧
    (m = s.mode) ∧
    (m ≠ .lockstep) ∧
    (m ≠ .supervise))
  | 8 => holds (
    (s.mode ≠ .unpowered) ∧
    (s.plateUp = true) ∧
    (bitOf v.toNat 7 = false))
  | 9 => holds (
    (s.mode ≠ .unpowered) ∧
    (s.plateUp = true) ∧
    (bitOf v.toNat 7 = true))
  | _ => true

theorem witness_ModeRequestsDuringATransition :
    (∀ c ∈ [0, 2, 9], meets_ModeRequestsDuringATransition c nosess 0x85 toTrack) ∧
    (∀ c ∈ [1, 8], meets_ModeRequestsDuringATransition c setup 0x05 toTrack) ∧
    meets_ModeRequestsDuringATransition 3 { setup with transit := some toTrack } 0x85 toTrack ∧
    meets_ModeRequestsDuringATransition 4 { setup with transit := some toTrack } 0x84 toTrack ∧
    meets_ModeRequestsDuringATransition 5 { track with transit := some toSetup } 0x94 toSetup ∧
    meets_ModeRequestsDuringATransition 6 setup 0x80 toTrack ∧
    meets_ModeRequestsDuringATransition 7 setup 0x84 toTrack := by decide +kernel

/-- The hypotheses of the clauses of CaptureStartsAndEnds. -/
def meets_CaptureStartsAndEnds (clause : Nat) (s : State) (tr : Transit) (_t : Nat) : Bool :=
  match clause with
  | 0 => holds (
    (s.transit = some tr) ∧
    (s.lad.modeWait = false) ∧
    (s.memWf = true) ∧
    (s.mode = .setup) ∧
    (tr.target.isCapture = true))
  | 1 => holds (
    (s.transit = some tr) ∧
    (s.lad.modeWait = false) ∧
    (s.memWf = true) ∧
    (s.mode.isCapture = true) ∧
    (tr.target = .setup) ∧
    (s.frameOver tr = true))
  | 2 => holds (
    (s.transit = some tr) ∧
    (s.lad.modeWait = false) ∧
    (s.memWf = true) ∧
    (s.mode.isCapture = true) ∧
    (tr.target = .setup) ∧
    (s.frameOver tr = false))
  | _ => true

theorem witness_CaptureStartsAndEnds :
    meets_CaptureStartsAndEnds 0 { setup with transit := some toTrack } toTrack 1234 ∧
    meets_CaptureStartsAndEnds 1 { track with transit := some toSetup } toSetup 1234 ∧
    meets_CaptureStartsAndEnds 2 (framed { track with transit := some toSetup }) toSetup 1234 := by decide +kernel

/-- The hypotheses of the clauses of VaonRiseAndFall. -/
def meets_VaonRiseAndFall (clause : Nat) (s : State) (_w : Option (Fin 4)) (_held : Bool) : Bool :=
  match clause with
  | 0 => holds (
    (s.mode = .unpowered ∨ (s.mode = .supervise ∧ s.sup.loaded = false)))
  | 1 => holds (
    (s.mode ≠ .unpowered) ∧
    (s.mode ≠ .supervise ∨ s.sup.loaded = true))
  | 2 => holds (
    (s.mode = .unpowered))
  | 3 => holds (
    (s.mode ≠ .unpowered))
  | _ => true

theorem witness_VaonRiseAndFall :
    (∀ c ∈ [0, 2], meets_VaonRiseAndFall c { State.reset with mode := .unpowered } none false) ∧
    (∀ c ∈ [1, 3], meets_VaonRiseAndFall c setup (some 2) false) := by decide +kernel

/-- The hypotheses of the clauses of SessionsOpenAndEnd. -/
def meets_SessionsOpenAndEnd (clause : Nat) (s : State) : Bool :=
  match clause with
  | 0 => holds (
    (s.mode ≠ .unpowered) ∧
    (s.cp.sess.active = false))
  | 1 => holds (
    (s.mode ≠ .unpowered) ∧
    (s.cp.sess.active = true))
  | 2 => holds (
    (s.mode ≠ .unpowered))
  | _ => true

theorem witness_SessionsOpenAndEnd :
    (∀ c ∈ [0, 2], meets_SessionsOpenAndEnd c nosess) ∧
    meets_SessionsOpenAndEnd 1 setup := by decide +kernel

/-- The hypotheses of the clauses of TransfersAndTheDoorbell. -/
def meets_TransfersAndTheDoorbell (clause : Nat) (s : State) (_v : Byte) : Bool :=
  match clause with
  | 0 => holds (
    (s.mode ≠ .unpowered) ∧
    (s.cp.doorbellRead = true))
  | 1 => holds (
    (s.mode ≠ .unpowered) ∧
    (s.cp.doorbellRead = false) ∧
    (s.cp.cpErr.getLsbD 3 = false))
  | 2 => holds (
    (s.mode ≠ .unpowered))
  | _ => true

theorem witness_TransfersAndTheDoorbell :
    (∀ c ∈ [0, 2], meets_TransfersAndTheDoorbell c setup 0x41) ∧
    meets_TransfersAndTheDoorbell 1 { setup with cp := { setup.cp with doorbellRead := false } } 0x41 := by decide +kernel

/-- The hypotheses of the clauses of TransfersAndTheDoorbell, part 2. -/
def meets_TransfersAndTheDoorbell_2 (clause : Nat) (s : State) (v : Byte) (c : Byte) : Bool :=
  match clause with
  | 0 => holds (
    (s.mode ≠ .unpowered))
  | 2 => holds (
    (s.mode ≠ .unpowered) ∧
    (s.cp.crcEn = false))
  | 3 => holds (
    (s.mode ≠ .unpowered) ∧
    (s.cp.crcEn = false) ∧
    (s.cp.page = 0) ∧
    (v ≠ 0))
  | 4 => holds (
    (s.mode ≠ .unpowered) ∧
    (s.cp.crcEn = false) ∧
    (s.cp.page = 2) ∧
    (s.cp.sess.active = false))
  | 5 => holds (
    (s.mode ≠ .unpowered) ∧
    (s.cp.crcEn = true) ∧
    (crc8 [0x91, 0, v] ≠ c))
  | _ => true

theorem witness_TransfersAndTheDoorbell_2 :
    (∀ c ∈ [0, 2, 3], meets_TransfersAndTheDoorbell_2 c setup 0xFF 0) ∧
    meets_TransfersAndTheDoorbell_2 4 { nosess with cp := { nosess.cp with page := 2 } } 0x41 0 ∧
    meets_TransfersAndTheDoorbell_2 5 { setup with cp := { setup.cp with crcEn := true } } 0x41 0 := by decide +kernel

/-- The hypotheses of the clauses of WindowAccessesStartAndComplete. -/
def meets_WindowAccessesStartAndComplete (clause : Nat) (s : State) (v : Byte) (_d : Word) : Bool :=
  match clause with
  | 0 => holds (
    (s.mode ≠ .unpowered) ∧
    (s.cp.sess.active = false))
  | 2 => holds (
    (s.mode ≠ .unpowered) ∧
    let w := s.cp.win
    let size : BitVec 2 := v.extractLsb' 2 2
    let a := w.addr.toNat
    let reach : Prop := s.mode ≠ .supervise ∧ s.ladder ≠ .s5
    (s.cp.sess.active = true) ∧
    (reach) ∧
    (w.busy = false) ∧
    (size ≠ 3) ∧
    (a % winBytes size = 0))
  | 3 => holds (
    (s.mode ≠ .unpowered) ∧
    let w := s.cp.win
    let size : BitVec 2 := v.extractLsb' 2 2
    let a := w.addr.toNat
    let reach : Prop := s.mode ≠ .supervise ∧ s.ladder ≠ .s5
    (s.cp.sess.active = true) ∧
    (reach) ∧
    (w.busy = false) ∧
    (size ≠ 3) ∧
    (a % winBytes size ≠ 0))
  | 4 => holds (
    (s.mode ≠ .unpowered) ∧
    let w := s.cp.win
    let size : BitVec 2 := v.extractLsb' 2 2
    let reach : Prop := s.mode ≠ .supervise ∧ s.ladder ≠ .s5
    (s.cp.sess.active = true) ∧
    (reach) ∧
    (w.busy = false) ∧
    (size = 3))
  | 5 => holds (
    (s.mode ≠ .unpowered) ∧
    let w := s.cp.win
    let reach : Prop := s.mode ≠ .supervise ∧ s.ladder ≠ .s5
    (s.cp.sess.active = true) ∧
    (¬reach) ∧
    (w.busy = false))
  | 6 => holds (
    (s.mode ≠ .unpowered) ∧
    let w := s.cp.win
    (s.cp.sess.active = true) ∧
    (w.busy = true))
  | 7 => holds (
    (s.mode ≠ .unpowered) ∧
    let w := s.cp.win
    let a := w.addr.toNat
    let reach : Prop := s.mode ≠ .supervise ∧ s.ladder ≠ .s5
    (s.cp.sess.active = true) ∧
    (w.stream = true) ∧
    (w.dir = true) ∧
    (reach) ∧
    (w.busy = false) ∧
    (w.size ≠ 3) ∧
    (a % winBytes w.size = 0))
  | 8 => holds (
    (s.mode ≠ .unpowered) ∧
    let w := s.cp.win
    (s.cp.sess.active = true) ∧
    (w.stream = false ∨ w.dir = false))
  | 9 => holds (
    (s.mode ≠ .unpowered) ∧
    let w := s.cp.win
    let a := w.addr.toNat
    let reach : Prop := s.mode ≠ .supervise ∧ s.ladder ≠ .s5
    (w.stream = true) ∧
    (w.dir = false) ∧
    (reach) ∧
    (w.busy = false) ∧
    (w.size ≠ 3) ∧
    (a % winBytes w.size = 0))
  | 10 => holds (
    (s.mode ≠ .unpowered) ∧
    let w := s.cp.win
    (w.stream = false ∨ w.dir = true))
  | _ => true

theorem witness_WindowAccessesStartAndComplete :
    meets_WindowAccessesStartAndComplete 0 (noSession (window { addr := 0xFFFFFFFFC })) 0x09 7 ∧
    (∀ c ∈ [2, 8, 10], meets_WindowAccessesStartAndComplete c (window { addr := 0xFFFFFFFFC }) 0x09 7) ∧
    meets_WindowAccessesStartAndComplete 3 (window { addr := 0xFFFFFFFFE }) 0x09 7 ∧
    meets_WindowAccessesStartAndComplete 4 (window { addr := 0x300000104 }) 0x0D 7 ∧
    meets_WindowAccessesStartAndComplete 5 { window { addr := 0x300000104 } with mode := .supervise } 0x09 7 ∧
    meets_WindowAccessesStartAndComplete 6 (window { busy := true }) 0x09 7 ∧
    meets_WindowAccessesStartAndComplete 7 (window { addr := 0x300000104, stream := true, dir := true }) 0 7 ∧
    meets_WindowAccessesStartAndComplete 9 (window { addr := 0x300000104, stream := true }) 0 7 := by decide +kernel

/-- The hypotheses of the clauses of WindowAccessesStartAndComplete, part 2. -/
def meets_WindowAccessesStartAndComplete_2 (clause : Nat) (s : State) (q : RingReq) (r : RingResp) : Bool :=
  match clause with
  | 0 => holds (
    (s.ni[(0 : Fin 16)].inbox.find? (fun p => p.1.client.isWindow) = some (q, r)) ∧
    (s.cp.win.busy = true))
  | _ => true

theorem witness_WindowAccessesStartAndComplete_2 :
    meets_WindowAccessesStartAndComplete_2 0 (answeredWin { data := [1, 2, 3, 4] }) {} { data := [1, 2, 3, 4] } := by decide +kernel

/-- The hypotheses of the clauses of ServiceChallenge. -/
def meets_ServiceChallenge (clause : Nat) (s : State) (_f : Bool) (_v : Byte) (l : Level) (chal : List Byte) (resp : List Byte) : Bool :=
  match clause with
  | 0 => holds (
    (s.mode ≠ .unpowered) ∧
    (s.cp.sess.active = false))
  | 4 => holds (
    (s.mode ≠ .unpowered) ∧
    (s.cp.sess.active = true) ∧
    (s.svcLocked = true))
  | 5 => holds (
    (s.mode ≠ .unpowered) ∧
    (s.cp.sess.active = true) ∧
    (s.svcLocked = false))
  | 6 => holds (
    (s.mode ≠ .unpowered) ∧
    (s.cp.sess.active = true) ∧
    (s.cp.svcResp.length < 128))
  | 7 => holds (
    (s.mode ≠ .unpowered) ∧
    (s.cp.sess.active = true) ∧
    (128 ≤ s.cp.svcResp.length))
  | 8 => holds (
    (s.mode ≠ .unpowered) ∧
    (s.cp.sess.active = true))
  | 9 => holds (
    (s.mode ≠ .unpowered) ∧
    (s.cp.svcRun = none))
  | 10 => holds (
    (s.mode ≠ .unpowered) ∧
    let j := s.svcJudge l chal resp
    (s.cp.svcRun = some (l, chal, resp)) ∧
    (j.1 = 8))
  | 11 => holds (
    (s.mode ≠ .unpowered) ∧
    let j := s.svcJudge l chal resp
    (s.cp.svcRun = some (l, chal, resp)) ∧
    (j.1 = 3))
  | 12 => holds (
    (s.mode ≠ .unpowered) ∧
    let j := s.svcJudge l chal resp
    (s.cp.svcRun = some (l, chal, resp)) ∧
    (j.1 = 6))
  | 13 => holds (
    (s.mode ≠ .unpowered) ∧
    let j := s.svcJudge l chal resp
    (s.cp.svcRun = some (l, chal, resp)) ∧
    (j.1 = 4 ∨ j.1 = 5))
  | 14 => holds (
    (s.mode ≠ .unpowered) ∧
    (s.cp.sess.active = true) ∧
    (s.cp.sess.level = .field))
  | 15 => holds (
    (s.mode ≠ .unpowered) ∧
    (s.cp.sess.active = true) ∧
    (s.cp.sess.level ≠ .field))
  | 16 => holds (
    (s.mode ≠ .unpowered))
  | _ => true

theorem witness_ServiceChallenge :
    meets_ServiceChallenge 0 (noSession { setup with cp := { setup.cp with svcFails := 4, svcFailMs := some 0 } }) false 5 .field [] [] ∧
    (∀ c ∈ [4, 6, 8, 9, 14, 16], meets_ServiceChallenge c { setup with cp := { setup.cp with svcFails := 4, svcFailMs := some 0 } } false 5 .field [] []) ∧
    meets_ServiceChallenge 5 setup false 5 .field [] [] ∧
    (∀ c ∈ [7, 10, 15], meets_ServiceChallenge c { leveled .service setup with cp := { (leveled .service setup).cp with svcResp := List.replicate 128 0, svcRun := some (.service, [], []) } } false 5 .service [] []) ∧
    meets_ServiceChallenge 11 granted false 5 .service grantChal grantResp ∧
    meets_ServiceChallenge 12 { granted with otp := { granted.otp with dbg := [{ value := 2 }] }, cp := { granted.cp with svcRun := some (.factory, grantChal, grantResp) } } true 5 .factory grantChal grantResp ∧
    meets_ServiceChallenge 13 { granted with cp := { granted.cp with svcRun := some (.service, grantChal, grantResp.set 70 0) } } false 5 .service grantChal (grantResp.set 70 0) := by decide +kernel

/-- The hypotheses of the clauses of LadderRequestsAreJudged. -/
def meets_LadderRequestsAreJudged (clause : Nat) (s : State) (v : Byte) : Bool :=
  match clause with
  | 0 => holds (
    (s.ladder = .s0) ∧
    (s.phase = .stable) ∧
    (s.mode ≠ .unpowered) ∧
    (s.cp.sess.active = false))
  | 1 => holds (
    (s.ladder = .s0) ∧
    (s.phase = .stable) ∧
    (s.mode ≠ .unpowered) ∧
    let t := v.toNat % 8
    (6 ≤ t) ∧
    (s.cp.sess.active = true))
  | 2 => holds (
    (s.ladder = .s0) ∧
    (s.phase = .stable) ∧
    (s.mode ≠ .unpowered) ∧
    let t := v.toNat % 8
    (6 ≤ t) ∧
    (s.plateUp = true))
  | 3 => holds (
    (s.ladder = .s0) ∧
    (s.phase = .stable) ∧
    (s.mode ≠ .unpowered) ∧
    let t := v.toNat % 8
    (t ≤ 5) ∧
    (bitOf v.toNat 7 = false) ∧
    (s.cp.sess.active = true))
  | 4 => holds (
    (s.ladder = .s0) ∧
    (s.phase = .stable) ∧
    (s.mode ≠ .unpowered) ∧
    let t := v.toNat % 8
    (t ≤ 5) ∧
    (bitOf v.toNat 7 = false) ∧
    (s.plateUp = true))
  | 5 => holds (
    (s.ladder = .s0) ∧
    (s.phase = .stable) ∧
    (s.mode ≠ .unpowered) ∧
    let t := v.toNat % 8
    (t ≤ 5) ∧
    (bitOf v.toNat 7 = true) ∧
    (s.transit ≠ none) ∧
    (s.cp.sess.active = true))
  | 6 => holds (
    (s.ladder = .s0) ∧
    (s.phase = .stable) ∧
    (s.mode ≠ .unpowered) ∧
    let t := v.toNat % 8
    (t ≤ 5) ∧
    (bitOf v.toNat 7 = true) ∧
    (s.transit ≠ none) ∧
    (s.plateUp = true))
  | 7 => holds (
    (s.ladder = .s0) ∧
    (s.phase = .stable) ∧
    (s.mode ≠ .unpowered) ∧
    let t := v.toNat % 8
    let lad := Ladder.ofCode t
    (t ≤ 5) ∧
    (bitOf v.toNat 7 = true) ∧
    (s.transit = none) ∧
    (1 ≤ t) ∧
    (s.ladPermits lad = true) ∧
    (s.held = []) ∧
    (s.cp.sess.active = true))
  | 8 => holds (
    (s.ladder = .s0) ∧
    (s.phase = .stable) ∧
    (s.mode ≠ .unpowered) ∧
    let t := v.toNat % 8
    let lad := Ladder.ofCode t
    (t ≤ 5) ∧
    (bitOf v.toNat 7 = true) ∧
    (s.transit = none) ∧
    (1 ≤ t) ∧
    (s.ladPermits lad = true) ∧
    (s.held = []) ∧
    (s.plateUp = true))
  | 9 => holds (
    (s.ladder = .s0) ∧
    (s.phase = .stable) ∧
    (s.mode ≠ .unpowered) ∧
    let t := v.toNat % 8
    let lad := Ladder.ofCode t
    (t ≤ 5) ∧
    (bitOf v.toNat 7 = true) ∧
    (s.transit = none) ∧
    (1 ≤ t) ∧
    (s.ladPermits lad = true) ∧
    (s.held ≠ []) ∧
    (s.cp.sess.active = true))
  | 10 => holds (
    (s.ladder = .s0) ∧
    (s.phase = .stable) ∧
    (s.mode ≠ .unpowered) ∧
    let t := v.toNat % 8
    let lad := Ladder.ofCode t
    (t ≤ 5) ∧
    (bitOf v.toNat 7 = true) ∧
    (s.transit = none) ∧
    (1 ≤ t) ∧
    (s.ladPermits lad = true) ∧
    (s.held ≠ []) ∧
    (s.plateUp = true))
  | 11 => holds (
    (s.ladder = .s0) ∧
    (s.phase = .stable) ∧
    (s.mode ≠ .unpowered) ∧
    let t := v.toNat % 8
    let lad := Ladder.ofCode t
    (t ≤ 5) ∧
    (bitOf v.toNat 7 = true) ∧
    (s.transit = none) ∧
    (1 ≤ t) ∧
    (s.ladPermits lad = false) ∧
    (s.cp.sess.active = true))
  | 12 => holds (
    (s.ladder = .s0) ∧
    (s.phase = .stable) ∧
    (s.mode ≠ .unpowered) ∧
    let t := v.toNat % 8
    let lad := Ladder.ofCode t
    (t ≤ 5) ∧
    (bitOf v.toNat 7 = true) ∧
    (s.transit = none) ∧
    (1 ≤ t) ∧
    (s.ladPermits lad = false) ∧
    (s.plateUp = true))
  | 13 => holds (
    (s.ladder = .s0) ∧
    (s.phase = .stable) ∧
    (s.mode ≠ .unpowered) ∧
    let t := v.toNat % 8
    (t ≤ 5) ∧
    (bitOf v.toNat 7 = true) ∧
    (s.transit = none) ∧
    (t = 0) ∧
    (s.mode.isRun = true ∨ s.mode = .boot ∨ s.mode = .fallback) ∧
    (s.cp.sess.active = true))
  | 14 => holds (
    (s.ladder = .s0) ∧
    (s.phase = .stable) ∧
    (s.mode ≠ .unpowered) ∧
    let t := v.toNat % 8
    (t ≤ 5) ∧
    (bitOf v.toNat 7 = true) ∧
    (s.transit = none) ∧
    (t = 0) ∧
    (s.mode.isRun = true ∨ s.mode = .boot ∨ s.mode = .fallback) ∧
    (s.plateUp = true))
  | 15 => holds (
    (s.ladder = .s0) ∧
    (s.phase = .stable) ∧
    (s.mode ≠ .unpowered) ∧
    let t := v.toNat % 8
    (t ≤ 5) ∧
    (bitOf v.toNat 7 = true) ∧
    (s.transit = none) ∧
    (t = 0) ∧
    (s.mode = .supervise) ∧
    (s.cp.sess.active = true))
  | _ => true

theorem witness_LadderRequestsAreJudged :
    (∀ c ∈ [0, 8], meets_LadderRequestsAreJudged c nosess 0x81) ∧
    (∀ c ∈ [1, 2], meets_LadderRequestsAreJudged c setup 0x87) ∧
    (∀ c ∈ [3, 4], meets_LadderRequestsAreJudged c setup 0x01) ∧
    meets_LadderRequestsAreJudged 5 (inTransit setup) 0x81 ∧
    meets_LadderRequestsAreJudged 6 (inTransit nosess) 0x81 ∧
    meets_LadderRequestsAreJudged 7 setup 0x81 ∧
    meets_LadderRequestsAreJudged 9 (heldDown setup) 0x81 ∧
    meets_LadderRequestsAreJudged 10 (heldDown nosess) 0x81 ∧
    (∀ c ∈ [11, 12], meets_LadderRequestsAreJudged c track 0x83) ∧
    (∀ c ∈ [13, 14], meets_LadderRequestsAreJudged c setup 0x80) ∧
    meets_LadderRequestsAreJudged 15 { setup with mode := .supervise } 0x80 := by decide +kernel

/-- The hypotheses of the clauses of LadderEntryProceeds. -/
def meets_LadderEntryProceeds (clause : Nat) (s : State) (g : Ladder) (_ns : Nat) (d : Nat) : Bool :=
  match clause with
  | 0 => holds (
    (s.memWf = true) ∧
    (s.phase = .waiting g .host) ∧
    (s.quiescence g = none))
  | 2 => holds (
    (s.memWf = true) ∧
    (s.phase = .waiting g .host) ∧
    (s.quiescence g = some d))
  | 3 => holds (
    (s.memWf = true) ∧
    (s.phase = .waiting g .host) ∧
    (s.quiescence g = some d) ∧
    (s.trs.queue = []))
  | 4 => holds (
    (s.memWf = true) ∧
    (s.phase = .entering g .host) ∧
    (g = .s5) ∧
    (s.sup.seq = 2))
  | 5 => holds (
    (s.memWf = true) ∧
    (s.phase = .entering g .host) ∧
    (g ≠ .s5 ∨ s.sup.seq ≠ 2))
  | _ => true

theorem witness_LadderEntryProceeds :
    meets_LadderEntryProceeds 0 { setup with phase := .waiting .s1 .host } .s1 5 0 ∧
    (∀ c ∈ [2, 3], meets_LadderEntryProceeds c { setup with phase := .waiting .s4 .host } .s4 5 3) ∧
    meets_LadderEntryProceeds 4 { setup with phase := .entering .s5 .host, sup := { setup.sup with seq := 2 } } .s5 5 0 ∧
    meets_LadderEntryProceeds 5 { setup with phase := .entering .s3 .host } .s3 5 0 := by decide +kernel

/-- The hypotheses of the clauses of LadderWakesAndExits. -/
def meets_LadderWakesAndExits (clause : Nat) (s : State) (g : Ladder) (_ns : Nat) (_image : Bool) (_dr : List (Option Int)) : Bool :=
  match clause with
  | 0 => holds (
    (s.memWf = true) ∧
    let timed := s.fld F.PWR_WAKE_TIMER ≠ 0 ∧ bitOf (s.reg Reg.PWR_WAKE_EN).toNat 1 = true
    (s.phase = .stable) ∧
    (s.ladder = g) ∧
    (g ≠ .s0) ∧
    (timed))
  | 1 => holds (
    (s.memWf = true) ∧
    let timed := s.fld F.PWR_WAKE_TIMER ≠ 0 ∧ bitOf (s.reg Reg.PWR_WAKE_EN).toNat 1 = true
    (s.phase ≠ .stable ∨ s.ladder = .s0 ∨ ¬timed))
  | 2 => holds (
    (s.memWf = true) ∧
    let up := s.clk.run = true ∧ (s.lad.s5Down = [] ∨ ((s.rails[0]).st = .good ∧ (s.rails[1]).st = .good))
    (s.phase = .exiting g .host) ∧
    (g = .s1 ∨ g = .s2) ∧
    (up) ∧
    (s.lad.modeWait = false) ∧
    (s.wear.due = false) ∧
    (s.trs.queue = []))
  | 3 => holds (
    (s.memWf = true) ∧
    let up := s.clk.run = true ∧ (s.lad.s5Down = [] ∨ ((s.rails[0]).st = .good ∧ (s.rails[1]).st = .good))
    (s.phase = .exiting g .host) ∧
    (¬up))
  | 4 => holds (
    (s.memWf = true) ∧
    (s.phase = .exiting g .host) ∧
    (g = .s1 ∨ g = .s2) ∧
    (s.lad.modeWait = false))
  | 5 => holds (
    (s.memWf = true) ∧
    let up := s.clk.run = true ∧ (s.lad.s5Down = [] ∨ ((s.rails[0]).st = .good ∧ (s.rails[1]).st = .good))
    (s.phase = .exiting g .host) ∧
    (g = .s4 ∨ g = .s5) ∧
    (up) ∧
    (s.lad.modeWait = false) ∧
    (s.transit = none))
  | _ => true

theorem witness_LadderWakesAndExits :
    meets_LadderWakesAndExits 0 (({ setup with ladder := .s2 } : State).setFld F.PWR_WAKE_TIMER 5 |>.setReg Reg.PWR_WAKE_EN 2) .s2 77 true [] ∧
    (∀ c ∈ [1, 2, 4], meets_LadderWakesAndExits c { setup with ladder := .s2, phase := .exiting .s2 .host } .s2 77 true []) ∧
    meets_LadderWakesAndExits 3 { setup with ladder := .s2, phase := .exiting .s2 .host, clk := {} } .s2 77 true [] ∧
    meets_LadderWakesAndExits 5 { setup with ladder := .s4, phase := .exiting .s4 .host } .s4 77 true [] := by decide +kernel

/-- The hypotheses of the clauses of DomainsAreSwitched. -/
def meets_DomainsAreSwitched (clause : Nat) (s : State) (_w : Fin 3) (x : Fin 64) (v : Word) : Bool :=
  match clause with
  | 0 => holds (
    (s.memWf = true) ∧
    (s.trs.queue = []) ∧
    (s.trs.exec = none) ∧
    (s.phase ≠ .stable) ∧
    (s.mode ≠ .unpowered))
  | 1 => holds (
    (s.memWf = true) ∧
    (s.trs.queue = []) ∧
    (s.trs.exec = none) ∧
    (s.phase = .stable) ∧
    (s.mode ≠ .unpowered))
  | 2 => holds (
    (s.memWf = true) ∧
    (s.trs.queue = []) ∧
    (s.trs.exec = none) ∧
    (s.phase = .stable) ∧
    (s.mode.isCapture = true) ∧
    (s.reg Reg.PWR_DOM_OFF_C = 0) ∧
    (s.held = []) ∧
    ((∀ n : Fin 64, s.domSwitchedOff n.val = false)))
  | 3 => holds (
    (s.memWf = true) ∧
    (s.trs.queue = []) ∧
    (s.trs.exec = none) ∧
    (s.mode = .unpowered))
  | 4 => holds (
    (s.memWf = true) ∧
    (s.trs.queue = []) ∧
    (s.trs.exec = none) ∧
    (s.phase = .stable) ∧
    (s.mode = .setup) ∧
    (s.reg Reg.PWR_DOM_OFF_C = 0) ∧
    (s.held = []) ∧
    ((∀ n : Fin 64, s.domSwitchedOff n.val = false)))
  | 5 => holds (
    (s.memWf = true) ∧
    (s.trs.queue = []) ∧
    (s.trs.exec = none) ∧
    (s.phase = .stable) ∧
    (s.ladder = .s0) ∧
    (s.domOn Dom.truss = true) ∧
    (s.tileOn x = false) ∧
    (s.tileDown x.val = false))
  | 6 => holds (
    (s.memWf = true) ∧
    (s.trs.queue = []) ∧
    (s.trs.exec = none) ∧
    (s.domSwitchedOff 75 = true) ∧
    (s.domOn Dom.sill = true) ∧
    (s.sillBusy = false))
  | 7 => holds (
    (s.memWf = true) ∧
    (s.trs.queue = []) ∧
    (s.trs.exec = none) ∧
    let b := getBits v 21 11
    let fits := b * 2 ^ 21 + 2 ^ 21 ≤ s.memcCap ∧
      ¬(s.fld F.TLY_FAR_BASE_BASE * 2 ^ 27 < b * 2 ^ 21 + 2 ^ 21 ∧ b * 2 ^ 21 < s.fld F.TLY_FAR_BASE_BASE * 2 ^ 27 + 2 ^ 27)
    (s.plateUp = true) ∧
    (s.mode = .setup) ∧
    (fits))
  | 8 => holds (
    (s.memWf = true) ∧
    (s.trs.queue = []) ∧
    (s.trs.exec = none) ∧
    let b := getBits v 21 11
    let fits := b * 2 ^ 21 + 2 ^ 21 ≤ s.memcCap ∧
      ¬(s.fld F.TLY_FAR_BASE_BASE * 2 ^ 27 < b * 2 ^ 21 + 2 ^ 21 ∧ b * 2 ^ 21 < s.fld F.TLY_FAR_BASE_BASE * 2 ^ 27 + 2 ^ 27)
    (s.plateUp = true) ∧
    (¬(s.mode = .setup ∧ fits)))
  | _ => true

theorem witness_DomainsAreSwitched :
    (∀ c ∈ [0, 8], meets_DomainsAreSwitched c { setup with phase := .entering .s3 .host } 2 5 0) ∧
    (∀ c ∈ [1, 4], meets_DomainsAreSwitched c setup 2 63 0) ∧
    meets_DomainsAreSwitched 2 track 2 63 0 ∧
    meets_DomainsAreSwitched 3 { State.reset with mode := .unpowered } 2 5 0 ∧
    meets_DomainsAreSwitched 5 { setup with dom := setup.dom.set 63 .off } 2 63 0 ∧
    meets_DomainsAreSwitched 6 (setup.setReg Reg.PWR_DOM_OFF_C 0x800) 2 5 0 ∧
    meets_DomainsAreSwitched 7 (setup.setFld F.MEMC_CAP 65535) 2 5 0x20000000 := by decide +kernel

/-- The hypotheses of the clauses of TriggerConfigWrites. -/
def meets_TriggerConfigWrites (clause : Nat) (s : State) (v : Word) : Bool :=
  match clause with
  | 0 => holds (
    (s.memWf = true) ∧
    (s.domOn Dom.lineio = true) ∧
    let sel := getBits v 0 2
    (s.capture = true) ∧
    (sel ≠ s.fld F.ENC_TRIG_CFG_SEL))
  | 1 => holds (
    (s.memWf = true) ∧
    (s.domOn Dom.lineio = true) ∧
    let sel := getBits v 0 2
    (s.capture = false ∨ sel = s.fld F.ENC_TRIG_CFG_SEL))
  | _ => true

theorem witness_TriggerConfigWrites :
    meets_TriggerConfigWrites 0 track 2 ∧
    meets_TriggerConfigWrites 1 setup 2 := by decide +kernel

/-- The hypotheses of the clauses of EncoderPresets. -/
def meets_EncoderPresets (clause : Nat) (s : State) (n : Fin 3) (_v : Word) : Bool :=
  match clause with
  | 0 => holds (
    (s.memWf = true) ∧
    (s.domOn Dom.lineio = true) ∧
    let sel := s.fld F.ENC_TRIG_CFG_SEL = n.val
    (sel) ∧
    (s.capture = true))
  | 1 => holds (
    (s.memWf = true) ∧
    (s.domOn Dom.lineio = true) ∧
    let sel := s.fld F.ENC_TRIG_CFG_SEL = n.val
    (¬(sel ∧ s.capture = true)))
  | _ => true

theorem witness_EncoderPresets :
    meets_EncoderPresets 0 (track.setFld F.ENC_TRIG_CFG_SEL 0) 0 0x1234 ∧
    meets_EncoderPresets 1 track 0 0x1234 := by decide +kernel

/-- The hypotheses of the clauses of EncodersCountAndMeasure. -/
def meets_EncodersCountAndMeasure (clause : Nat) (s : State) (n : Fin 3) (i : EncInput) (l : Bool) (h : Nat) (_t : Nat) (v : Word) : Bool :=
  match clause with
  | 0 => holds (
    (s.memWf = true) ∧
    (s.domOn Dom.lineio = true) ∧
    let e := s.lio.enc[n]
    let runs' := s.lio.counting = true ∧ s.encBalls n = true
    (runs') ∧
    (s.tapActs = false) ∧
    (e.acc i ≠ l) ∧
    (0 < h) ∧
    (h < s.fld (F.ENCn_CFG_FILT n)))
  | 1 => holds (
    (s.memWf = true) ∧
    (s.domOn Dom.lineio = true) ∧
    let e := s.lio.enc[n]
    let runs' := s.lio.counting = true ∧ s.encBalls n = true
    (runs') ∧
    (s.tapActs = false) ∧
    (e.acc i ≠ l) ∧
    (0 < h) ∧
    (s.fld (F.ENCn_CFG_FILT n) ≤ h) ∧
    (i ≠ .z ∨ l = false ∨ s.bit (F.ENCn_CFG_Z_EN n) = false))
  | 2 => holds (
    (s.memWf = true) ∧
    (s.domOn Dom.lineio = true) ∧
    let e := s.lio.enc[n]
    let runs' := s.lio.counting = true ∧ s.encBalls n = true
    (runs') ∧
    (s.tapActs = false) ∧
    (e.accZ = false) ∧
    (0 < h) ∧
    (s.fld (F.ENCn_CFG_FILT n) ≤ h) ∧
    (s.bit (F.ENCn_CFG_Z_EN n) = true))
  | 3 => holds (
    (s.memWf = true) ∧
    (s.domOn Dom.lineio = true) ∧
    let e := s.lio.enc[n]
    let runs' := s.lio.counting = true ∧ s.encBalls n = true
    (¬runs' ∨ s.tapActs = true ∨ e.acc i = l ∨ h = 0))
  | 4 => holds (
    (s.memWf = true) ∧
    (s.domOn Dom.lineio = true) ∧
    let e := s.lio.enc[n]
    let runs' := s.lio.counting = true ∧ s.encBalls n = true
    (runs') ∧
    (e.accA ≠ e.synA) ∧
    (e.accB ≠ e.synB))
  | 5 => holds (
    (s.memWf = true) ∧
    (s.domOn Dom.lineio = true) ∧
    let e := s.lio.enc[n]
    let runs' := s.lio.counting = true ∧ s.encBalls n = true
    let one := (e.accA != e.synA) != (e.accB != e.synB)
    (runs') ∧
    (one = true) ∧
    (e.counted (s.fld (F.ENCn_CFG_DECODE n)) = false))
  | 6 => holds (
    (s.memWf = true) ∧
    (s.domOn Dom.lineio = true) ∧
    let e := s.lio.enc[n]
    let runs' := s.lio.counting = true ∧ s.encBalls n = true
    let d : Int := if s.bit (F.ENCn_CFG_INV_DIR n) then -e.dir else e.dir
    let one := (e.accA != e.synA) != (e.accB != e.synB)
    (runs') ∧
    (one = true) ∧
    (e.counted (s.fld (F.ENCn_CFG_DECODE n)) = true) ∧
    let pos := e.pos + BitVec.ofInt 48 d
    (s.capture = false ∨ s.fld F.ENC_TRIG_CFG_SEL ≠ n.val ∨ posDiff pos s.lio.hwm ≤ 0))
  | 7 => holds (
    (s.memWf = true) ∧
    (s.domOn Dom.lineio = true) ∧
    let e := s.lio.enc[n]
    let runs' := s.lio.counting = true ∧ s.encBalls n = true
    (¬runs' ∨ (e.accA = e.synA ∧ e.accB = e.synB)))
  | 8 => holds (
    (s.memWf = true) ∧
    (s.domOn Dom.lineio = true) ∧
    (s.lio.counting = true))
  | 9 => holds (
    (s.memWf = true) ∧
    (s.domOn Dom.lineio = true) ∧
    (s.lio.counting = false))
  | 10 => holds (
    (s.memWf = true) ∧
    (s.domOn Dom.lineio = true) ∧
    let m := getBits v 0 24
    let bad := s.fld F.ENC_DIV_N_N = 0 ∨ m = 0 ∨ s.fld F.ENC_DIV_N_N < m
    (bad))
  | 11 => holds (
    (s.memWf = true) ∧
    (s.domOn Dom.lineio = true) ∧
    let m := getBits v 0 24
    let bad := s.fld F.ENC_DIV_N_N = 0 ∨ m = 0 ∨ s.fld F.ENC_DIV_N_N < m
    (¬bad))
  | _ => true

theorem witness_EncodersCountAndMeasure :
    (∀ c ∈ [0, 8], meets_EncodersCountAndMeasure c (counting (setup.setFld (F.ENCn_CFG_FILT 1) 8)) 1 .a true 5 3000 0) ∧
    meets_EncodersCountAndMeasure 1 (counting (setup.setFld (F.ENCn_CFG_FILT 1) 8)) 1 .b true 8 3000 0 ∧
    meets_EncodersCountAndMeasure 2 (counting ((setup.setFld (F.ENCn_CFG_FILT 1) 8).raise (F.ENCn_CFG_Z_EN 1))) 1 .z true 9 3000 0 ∧
    (∀ c ∈ [3, 7, 9, 10], meets_EncodersCountAndMeasure c setup 0 .a true 0 3000 0) ∧
    meets_EncodersCountAndMeasure 4 (counting (withEnc { accA := true, accB := true })) 1 .a true 0 3000 7 ∧
    meets_EncodersCountAndMeasure 5 (counting ((withEnc { accB := true }).setFld (F.ENCn_CFG_DECODE 1) 0)) 1 .a true 0 3000 0 ∧
    meets_EncodersCountAndMeasure 6 (counting (withEnc { accA := true, pos := 70, msCount := 3 })) 1 .a true 0 3000 0 ∧
    meets_EncodersCountAndMeasure 11 (setup.setFld F.ENC_DIV_N_N 9) 2 .z true 0 3000 9 := by decide +kernel

/-- The hypotheses of the clauses of LineTimerAndExposure. -/
def meets_LineTimerAndExposure (clause : Nat) (s : State) (e : Nat) (_t : Nat) (_v : Word) : Bool :=
  match clause with
  | 0 => holds (
    (s.memWf = true) ∧
    (s.mode = .freeRun) ∧
    (s.capture = true) ∧
    (s.lio.ltNext = some e) ∧
    (s.lio.prs.gateOn = false) ∧
    (s.ing.pend.length < 16) ∧
    (s.tooClose e = false))
  | 1 => holds (
    (s.memWf = true) ∧
    (s.mode = .freeRun) ∧
    (s.capture = true) ∧
    (s.lio.ltNext = some e) ∧
    (s.lio.prs.gateOn = false) ∧
    (s.tooClose e = true))
  | 2 => holds (
    (s.memWf = true) ∧
    (s.mode ≠ .freeRun ∨ s.capture = false ∨ s.lio.ltNext = none))
  | 3 => holds (
    (s.memWf = true) ∧
    (s.domOn Dom.lineio = true))
  | _ => true

theorem witness_LineTimerAndExposure :
    (∀ c ∈ [0, 3], meets_LineTimerAndExposure c { setup with mode := .freeRun, capture := true, lio := { setup.lio with ltNext := some 2000 } } 2000 1500 7) ∧
    meets_LineTimerAndExposure 1 { setup with mode := .freeRun, capture := true, lio := { setup.lio with ltNext := some 2000, lastExpoTrig := some 1999 } } 2000 1500 7 ∧
    meets_LineTimerAndExposure 2 (inFallback { setup with mode := .freeRun, capture := true, lio := { setup.lio with ltNext := some 2000 } }) 2000 1500 7 := by decide +kernel

/-- The hypotheses of the clauses of LineTimerAndExposure, part 2. -/
def meets_LineTimerAndExposure_2 (clause : Nat) (s : State) (e : Expo) (rest : List Expo) : Bool :=
  match clause with
  | 0 => holds (
    (s.memWf = true) ∧
    (s.domOn Dom.lineio = true) ∧
    (expoFirst s.lio.expos = some (e, rest)))
  | 1 => holds (
    (s.memWf = true) ∧
    (s.lio.expoOn = true) ∧
    (s.dyn.gPending = none))
  | 2 => holds (
    (s.memWf = true) ∧
    (s.lio.expoOn = false))
  | _ => true

theorem witness_LineTimerAndExposure_2 :
    (∀ c ∈ [0, 2], meets_LineTimerAndExposure_2 c { setup with lio := { setup.lio with expos := [{ start := 1200, stop := 1300 }] } } { start := 1200, stop := 1300 } []) ∧
    meets_LineTimerAndExposure_2 1 { setup with lio := { setup.lio with expoOn := true } } {} [] := by decide +kernel

/-- The hypotheses of the clauses of MarkOutputs. -/
def meets_MarkOutputs (clause : Nat) (s : State) (m : Fin 4) (_v : Word) (_t : Nat) (e : MarkEntry) (q : List MarkEntry) : Bool :=
  match clause with
  | 0 => holds (
    (s.memWf = true) ∧
    (s.domOn Dom.lineio = true) ∧
    let x := s.lio.marks[m]
    let due := s.lioRuns = true ∧ ∃ e ∈ x.queue.head?, 0 ≤ posDiff (s.markPos m) e.target
    (s.mode ≠ .fallback) ∧
    (¬due) ∧
    (x.queue.length < 64))
  | 1 => holds (
    (s.memWf = true) ∧
    (s.domOn Dom.lineio = true) ∧
    let x := s.lio.marks[m]
    let due := s.lioRuns = true ∧ ∃ e ∈ x.queue.head?, 0 ≤ posDiff (s.markPos m) e.target
    (s.mode ≠ .fallback) ∧
    (¬due) ∧
    (64 ≤ x.queue.length))
  | 2 => holds (
    (s.memWf = true) ∧
    (s.domOn Dom.lineio = true) ∧
    let x := s.lio.marks[m]
    let due := s.lioRuns = true ∧ ∃ e ∈ x.queue.head?, 0 ≤ posDiff (s.markPos m) e.target
    (due) ∧
    (x.queue = e :: q) ∧
    (q.length < 64))
  | 3 => holds (
    (s.memWf = true) ∧
    (s.domOn Dom.lineio = true) ∧
    (s.mode = .fallback))
  | 5 => holds (
    (s.memWf = true) ∧
    (s.domOn Dom.lineio = true) ∧
    let x := s.lio.marks[m]
    let due := s.lioRuns = true ∧ ∃ e ∈ x.queue.head?, 0 ≤ posDiff (s.markPos m) e.target
    (due) ∧
    (x.queue = e :: q))
  | 6 => holds (
    (s.memWf = true) ∧
    (s.domOn Dom.lineio = true) ∧
    let x := s.lio.marks[m]
    let due := s.lioRuns = true ∧ ∃ e ∈ x.queue.head?, 0 ≤ posDiff (s.markPos m) e.target
    (¬due))
  | 7 => holds (
    (s.memWf = true) ∧
    (s.domOn Dom.lineio = true) ∧
    (s.mode ≠ .fallback))
  | 8 => holds (
    (s.memWf = true) ∧
    (s.domOn Dom.lineio = true) ∧
    (s.lioRuns = true) ∧
    (s.tapActs = false))
  | 9 => holds (
    (s.memWf = true) ∧
    (s.domOn Dom.lineio = true) ∧
    (s.tapActs = true))
  | 10 => holds (
    (s.memWf = true) ∧
    (s.domOn Dom.lineio = true) ∧
    let x := s.lio.marks[m]
    (x.out = true))
  | 11 => holds (
    (s.memWf = true) ∧
    (s.domOn Dom.lineio = true) ∧
    let x := s.lio.marks[m]
    (x.out = false))
  | _ => true

theorem witness_MarkOutputs :
    (∀ c ∈ [0, 6], meets_MarkOutputs c (withMark {}) 2 0x50007 1500 {} []) ∧
    meets_MarkOutputs 1 (withMark { queue := List.replicate 64 { target := 1000 } }) 2 0x50007 1500 {} [] ∧
    (∀ c ∈ [2, 5, 7, 8, 11], meets_MarkOutputs c (withMark { queue := [{ target := 0 }] }) 2 0x50007 1500 { target := 0 } []) ∧
    meets_MarkOutputs 3 (inFallback (withMark { queue := [{ target := 0 }] })) 2 0x50007 1500 { target := 0 } [] ∧
    meets_MarkOutputs 9 (tapped (withMark { queue := [{ target := 0 }] })) 2 0x50007 1500 { target := 0 } [] ∧
    meets_MarkOutputs 10 (withMark { queue := List.replicate 64 {}, out := true }) 2 0x50007 1500 {} [] := by decide +kernel

/-- The hypotheses of the clauses of PresenceCodes. -/
def meets_PresenceCodes (clause : Nat) (s : State) (prx : BitVec 496) (amb : List (BitVec 10)) (_t : Nat) (v : Word) : Bool :=
  match clause with
  | 0 => holds (
    (s.memWf = true) ∧
    (s.domOn Dom.lineio = true) ∧
    let p := s.lio.prs
    let c := prsCorr prx (getBits p.cfg 13 5)
    let seen := (BitVec.ofNat 6 (getBits p.thr 0 6)).toInt
    let on := p.running = true ∧ (p.next.getD s.prsWritten).1.getLsbD 0 = true
    let ready := on ∧ p.discard = false ∧ s.ballFixed 34 = true ∧ s.prsCause prx amb = 0
    (ready) ∧
    (seen ≤ c))
  | 1 => holds (
    (s.memWf = true) ∧
    (s.domOn Dom.lineio = true) ∧
    let p := s.lio.prs
    let c := prsCorr prx (getBits p.cfg 13 5)
    let seen := (BitVec.ofNat 6 (getBits p.thr 0 6)).toInt
    let gone := (BitVec.ofNat 6 (getBits p.thr 8 6)).toInt
    let on := p.running = true ∧ (p.next.getD s.prsWritten).1.getLsbD 0 = true
    let ready := on ∧ p.discard = false ∧ s.ballFixed 34 = true ∧ s.prsCause prx amb = 0
    (ready) ∧
    (c < seen) ∧
    (c ≤ gone))
  | 2 => holds (
    (s.memWf = true) ∧
    (s.domOn Dom.lineio = true) ∧
    let p := s.lio.prs
    let c := prsCorr prx (getBits p.cfg 13 5)
    let seen := (BitVec.ofNat 6 (getBits p.thr 0 6)).toInt
    let gone := (BitVec.ofNat 6 (getBits p.thr 8 6)).toInt
    let on := p.running = true ∧ (p.next.getD s.prsWritten).1.getLsbD 0 = true
    let ready := on ∧ p.discard = false ∧ s.ballFixed 34 = true ∧ s.prsCause prx amb = 0
    (ready) ∧
    (c < seen) ∧
    (gone < c))
  | 3 => holds (
    (s.memWf = true) ∧
    (s.domOn Dom.lineio = true) ∧
    let p := s.lio.prs
    let on := p.running = true ∧ (p.next.getD s.prsWritten).1.getLsbD 0 = true
    (on) ∧
    (p.discard = false) ∧
    (s.ballFixed 34 = true) ∧
    (s.prsCause prx amb ≠ 0))
  | 4 => holds (
    (s.memWf = true) ∧
    (s.domOn Dom.lineio = true) ∧
    let p := s.lio.prs
    let on := p.running = true ∧ (p.next.getD s.prsWritten).1.getLsbD 0 = true
    (on) ∧
    (p.discard = true))
  | 5 => holds (
    (s.memWf = true) ∧
    (s.domOn Dom.lineio = true) ∧
    let p := s.lio.prs
    let on := p.running = true ∧ (p.next.getD s.prsWritten).1.getLsbD 0 = true
    (p.running = true) ∧
    (¬on))
  | 6 => holds (
    (s.memWf = true) ∧
    (s.domOn Dom.lineio = true) ∧
    let p := s.lio.prs
    (p.running = false))
  | 7 => holds (
    (s.memWf = true) ∧
    (s.domOn Dom.lineio = true) ∧
    (3200 ≤ getBits v 0 12))
  | 8 => holds (
    (s.memWf = true) ∧
    (s.domOn Dom.lineio = true) ∧
    (getBits v 0 12 < 3200))
  | 9 => holds (
    (s.memWf = true) ∧
    (s.domOn Dom.lineio = true) ∧
    let thrOk := (BitVec.ofNat 6 (getBits v 8 6)).toInt < (BitVec.ofNat 6 (getBits v 0 6)).toInt
    (thrOk))
  | 10 => holds (
    (s.memWf = true) ∧
    (s.domOn Dom.lineio = true) ∧
    let thrOk := (BitVec.ofNat 6 (getBits v 8 6)).toInt < (BitVec.ofNat 6 (getBits v 0 6)).toInt
    (¬thrOk))
  | 11 => holds (
    (s.memWf = true) ∧
    (s.domOn Dom.lineio = true) ∧
    let cfgOk := getBits v 9 4 ≠ 0 ∧ getBits v 13 5 ≠ 0 ∧ getBits v 3 2 ≠ 3
    (¬cfgOk))
  | 12 => holds (
    (s.memWf = true) ∧
    (s.domOn Dom.lineio = true) ∧
    let cfgOk := getBits v 9 4 ≠ 0 ∧ getBits v 13 5 ≠ 0 ∧ getBits v 3 2 ≠ 3
    (cfgOk))
  | _ => true

theorem witness_PresenceCodes :
    (∀ c ∈ [0, 8, 10, 11], meets_PresenceCodes c (withPrs { running := true }) prsExact [] 2000 3199) ∧
    meets_PresenceCodes 1 (withPrs { running := true }) 0 [] 2000 3199 ∧
    (∀ c ∈ [2, 9], meets_PresenceCodes c (withPrs { running := true, thr := 0x2C14 }) 0 [] 2000 20) ∧
    meets_PresenceCodes 3 (withPrs { running := true }) 0 (List.replicate 31 1023) 2000 3199 ∧
    meets_PresenceCodes 4 (withPrs { running := true, discard := true }) 0 [] 2000 3199 ∧
    meets_PresenceCodes 5 ({ withPrs { running := true } with } |> fun s => s.setFld F.PRS_CFG_EN 0) 0 [] 2000 3199 ∧
    (∀ c ∈ [6, 12], meets_PresenceCodes c setup 0 [] 2000 0x203E41) ∧
    meets_PresenceCodes 7 (withPrs { running := true }) 0 [] 2000 3200 := by decide +kernel

/-- The hypotheses of the clauses of StrobePulses. -/
def meets_StrobePulses (clause : Nat) (s : State) (n : Fin 8) (line : Word) (t : Nat) (due : List (Word × Nat)) (p : Pulse) (v : Word) (isns : List Nat) (vsns : List Nat) : Bool :=
  match clause with
  | 0 => holds (
    (s.memWf = true) ∧
    let c := s.lio.stb[n]
    let off := s.stbPinOff n = true ∨ s.ilk = true
    (c.due = (line, t) :: due) ∧
    (¬off) ∧
    (s.bit (F.STBn_STAT_DISABLED n) = false) ∧
    (c.gate = none))
  | 1 => holds (
    (s.memWf = true) ∧
    let c := s.lio.stb[n]
    let off := s.stbPinOff n = true ∨ s.ilk = true
    (c.due = (line, t) :: due) ∧
    (off))
  | 2 => holds (
    (s.memWf = true) ∧
    let c := s.lio.stb[n]
    let off := s.stbPinOff n = true ∨ s.ilk = true
    (c.due = (line, t) :: due) ∧
    (¬off) ∧
    (s.bit (F.STBn_STAT_DISABLED n) = true))
  | 3 => holds (
    (s.memWf = true) ∧
    let c := s.lio.stb[n]
    let off := s.stbPinOff n = true ∨ s.ilk = true
    (c.due = (line, t) :: due) ∧
    (¬off) ∧
    (s.bit (F.STBn_STAT_DISABLED n) = false) ∧
    (c.gate = some p))
  | 4 => holds (
    (s.memWf = true) ∧
    let c := s.lio.stb[n]
    (c.due = []))
  | 5 => holds (
    (s.memWf = true) ∧
    let c := s.lio.stb[n]
    let off := s.stbPinOff n = true ∨ s.ilk = true
    (s.domOn Dom.lineio = true) ∧
    (getBits v 0 1 = 1) ∧
    (s.mode = .setup) ∧
    (s.bit (F.STBn_STAT_DISABLED n) = false) ∧
    (¬off) ∧
    (c.gate = none))
  | 6 => holds (
    (s.memWf = true) ∧
    (s.domOn Dom.lineio = true) ∧
    (getBits v 0 1 = 1) ∧
    (s.mode ≠ .setup ∨ s.bit (F.STBn_STAT_DISABLED n) = true))
  | 7 => holds (
    (s.memWf = true) ∧
    let c := s.lio.stb[n]
    let judged := c.gate = some p ∧ p.judged = false ∧ p.settle + 80 ≤ p.len
    (judged) ∧
    (60 ≤ isnsAbove c.ref isns) ∧
    (vsnsBelow (s.fld (F.STBn_LIM_VSHORT n)) vsns < 60) ∧
    (s.stbFault n = false))
  | 8 => holds (
    (s.memWf = true) ∧
    let c := s.lio.stb[n]
    let judged := c.gate = some p ∧ p.judged = false ∧ p.settle + 80 ≤ p.len
    (judged) ∧
    (isnsAbove c.ref isns < 60))
  | 9 => holds (
    (s.memWf = true) ∧
    let c := s.lio.stb[n]
    let judged := c.gate = some p ∧ p.judged = false ∧ p.settle + 80 ≤ p.len
    (judged) ∧
    (60 ≤ isnsAbove c.ref isns) ∧
    (60 ≤ vsnsBelow (s.fld (F.STBn_LIM_VSHORT n)) vsns))
  | 10 => holds (
    (s.memWf = true) ∧
    let c := s.lio.stb[n]
    (c.gate = none ∨ (c.gate = some p ∧ (p.judged = true ∨ p.len < p.settle + 80))))
  | 11 => holds (
    (s.memWf = true) ∧
    let c := s.lio.stb[n]
    (c.gate = some p) ∧
    (p.settle + 80 ≤ p.len) ∧
    (s.dyn.gPending = none) ∧
    (s.fld (F.WR_LAMPn_RATED n) = 0))
  | 12 => holds (
    (s.memWf = true) ∧
    let c := s.lio.stb[n]
    (c.gate = some p) ∧
    (p.len < p.settle + 80) ∧
    (s.dyn.gPending = none) ∧
    (s.fld (F.WR_LAMPn_RATED n) = 0))
  | 13 => holds (
    (s.memWf = true) ∧
    let c := s.lio.stb[n]
    (c.gate = none))
  | 14 => holds (
    (s.memWf = true) ∧
    let c := s.lio.stb[n]
    (c.stuckDue = some t) ∧
    (s.domOn Dom.lineio = true) ∧
    (s.mode ≠ .fallback) ∧
    (s.stbPinOff n = false))
  | 15 => holds (
    (s.memWf = true) ∧
    let c := s.lio.stb[n]
    (c.stuckDue = none))
  | _ => true

theorem witness_StrobePulses :
    (∀ c ∈ [0, 5, 10, 13, 15], meets_StrobePulses c (withStb { due := [(7, 1500)] }) 3 7 1500 [] {} 1 (List.replicate 80 0) (List.replicate 80 0)) ∧
    meets_StrobePulses 1 (lampCut (withStb { due := [(7, 1500)] })) 3 7 1500 [] {} 1 (List.replicate 80 0) (List.replicate 80 0) ∧
    meets_StrobePulses 2 ((withStb { due := [(7, 1500)] }).raise (F.STBn_STAT_DISABLED 3)) 3 7 1500 [] {} 1 (List.replicate 80 0) (List.replicate 80 0) ∧
    meets_StrobePulses 3 (withStb { due := [(7, 1500)], gate := some {} }) 3 7 1500 [] {} 1 (List.replicate 80 0) (List.replicate 80 0) ∧
    (∀ c ∈ [4, 6], meets_StrobePulses c { withStb {} with mode := .track } 3 7 1500 [] {} 1 (List.replicate 80 0) (List.replicate 80 0)) ∧
    meets_StrobePulses 7 (withStb { gate := some { len := 4000 }, ref := 12 }) 3 7 1500 [] { len := 4000 } 1 (List.replicate 60 4000000 ++ List.replicate 20 0) (List.replicate 21 4000000 ++ List.replicate 59 0) ∧
    meets_StrobePulses 8 (withStb { gate := some { len := 4000 }, ref := 12 }) 3 7 1500 [] { len := 4000 } 1 (List.replicate 59 4000000 ++ List.replicate 21 0) (List.replicate 80 4000000) ∧
    (∀ c ∈ [9, 11], meets_StrobePulses c (withStb { gate := some { len := 4000 } }) 3 7 1500 [] { len := 4000 } 1 (List.replicate 60 4000 ++ List.replicate 20 0) (List.replicate 59 4000 ++ List.replicate 21 0)) ∧
    meets_StrobePulses 12 (withStb { gate := some { judged := true } }) 3 7 1500 [] { judged := true } 1 (List.replicate 80 0) (List.replicate 80 0) ∧
    meets_StrobePulses 14 (withStb { stuckDue := some 1500, ref := 12 }) 3 7 1500 [] {} 0 (List.replicate 60 4000000 ++ List.replicate 20 0) (List.replicate 80 0) := by decide +kernel

/-- The hypotheses of the clauses of ProofPulsesAndInterlock. -/
def meets_ProofPulsesAndInterlock (clause : Nat) (s : State) (n : Fin 8) (t : Nat) (_g : Nat) (w : Nat × Nat) (ws : List (Nat × Nat)) (_v : Word) : Bool :=
  match clause with
  | 0 => holds (
    (s.memWf = true) ∧
    (s.domOn Dom.lineio = true) ∧
    let r := winJoin w.1 w.2 ws
    (s.lio.wins = w :: ws) ∧
    ((∀ e ∈ s.lio.expos, r.1.2 < e.start)))
  | 1 => holds (
    (s.memWf = true) ∧
    (s.domOn Dom.lineio = true) ∧
    let r := winJoin w.1 w.2 ws
    (s.lio.wins = [] ∨ (s.lio.wins = w :: ws ∧ ∃ e ∈ s.lio.expos, e.start ≤ r.1.2)))
  | 2 => holds (
    (s.memWf = true) ∧
    (s.domOn Dom.lineio = true) ∧
    let c := s.lio.stb[n]
    (c.proofAt = some t) ∧
    (s.stbPinOff n = false) ∧
    (s.ilk = false) ∧
    (s.bit (F.STBn_STAT_DISABLED n) = false) ∧
    (s.mode.isCapture = true) ∧
    (c.gate = none))
  | 3 => holds (
    (s.memWf = true) ∧
    (s.domOn Dom.lineio = true) ∧
    let c := s.lio.stb[n]
    (c.proofAt = some t) ∧
    (s.stbPinOff n = true ∨ s.ilk = true))
  | 4 => holds (
    (s.memWf = true) ∧
    (s.domOn Dom.lineio = true) ∧
    let c := s.lio.stb[n]
    (c.proofAt = none))
  | 5 => holds (
    (s.memWf = true) ∧
    (s.domOn Dom.lineio = true) ∧
    (s.lio.ilkLow = false) ∧
    (s.tapActs = false))
  | 6 => holds (
    (s.memWf = true) ∧
    (s.domOn Dom.lineio = true) ∧
    (s.lio.ilkLow = false) ∧
    (s.tapActs = true))
  | 7 => holds (
    (s.memWf = true) ∧
    (s.domOn Dom.lineio = true) ∧
    (s.lio.ilkLow = true))
  | 8 => holds (
    (s.memWf = true) ∧
    (s.domOn Dom.lineio = true))
  | 9 => holds (
    (s.memWf = true) ∧
    (s.domOn Dom.lineio = true) ∧
    (s.fld (F.WR_LAMPn_RATED n) = 0))
  | _ => true

theorem witness_ProofPulsesAndInterlock :
    (∀ c ∈ [0, 4, 5, 8, 9], meets_ProofPulsesAndInterlock c { setup with lio := { setup.lio with wins := [(5, 6)] } } 7 1200 0 (5, 6) [] 7) ∧
    meets_ProofPulsesAndInterlock 1 (withStb { proofAt := some 1200 }) 3 1200 0 (5, 6) [] 7 ∧
    meets_ProofPulsesAndInterlock 2 (inTrack (withStb { proofAt := some 1200 })) 3 1200 0 (5, 6) [] 7 ∧
    meets_ProofPulsesAndInterlock 3 (lampCut (withStb { proofAt := some 1200 })) 3 1200 0 (5, 6) [] 7 ∧
    meets_ProofPulsesAndInterlock 6 (tapped { setup with lio := { setup.lio with wins := [(5, 6)] } }) 7 1200 0 (5, 6) [] 7 ∧
    meets_ProofPulsesAndInterlock 7 (lampCut { setup with lio := { setup.lio with wins := [(5, 6)] } }) 7 1200 0 (5, 6) [] 7 := by decide +kernel

/-- The hypotheses of the clauses of PixelWordsMakeLines. -/
def meets_PixelWordsMakeLines (clause : Nat) (s : State) (w : PixelWord) (t : Nat) (k : Nat) (p : Trig) (ps : List Trig) : Bool :=
  match clause with
  | 0 => holds (
    (s.memWf = true) ∧
    let on := s.domOn Dom.ingest = true ∧ s.bit F.ING_CFG_EN = true
    let companded := s.bit F.ING_CFG_CMP_EN
    let wide := s.bit F.ING_CFG_DEPTH16 && !companded
    let intime := ∀ x ∈ s.ing.pend, t ≤ x.t + x.ltmo
    (on) ∧
    (s.receiving = false) ∧
    (w.valid = true) ∧
    (w.sol = true) ∧
    (w.eol = false) ∧
    (s.ing.pend = p :: ps) ∧
    (intime) ∧
    (s.findSlot wide = some k))
  | 1 => holds (
    (s.memWf = true) ∧
    let on := s.domOn Dom.ingest = true ∧ s.bit F.ING_CFG_EN = true
    (on) ∧
    (s.receiving = false) ∧
    (w.valid = true) ∧
    (w.sol = true) ∧
    (w.eol = false) ∧
    (s.ing.pend = []))
  | 2 => holds (
    (s.memWf = true) ∧
    let on := s.domOn Dom.ingest = true ∧ s.bit F.ING_CFG_EN = true
    (on) ∧
    (s.receiving = true) ∧
    ((∀ f ∈ s.ing.filling, f.ended = false → t < f.trig.t + f.trig.ltmo)) ∧
    (w.valid = true) ∧
    (w.sol = false))
  | 3 => holds (
    (s.memWf = true) ∧
    let on := s.domOn Dom.ingest = true ∧ s.bit F.ING_CFG_EN = true
    (¬on))
  | 4 => holds (
    (s.memWf = true) ∧
    (s.domOn Dom.ingest = true) ∧
    (s.ing.pend = p :: ps) ∧
    (p.t + p.ltmo ≤ t) ∧
    ((∀ x ∈ ps, t < x.t + x.ltmo)))
  | 5 => holds (
    (s.memWf = true) ∧
    let intime := ∀ x ∈ s.ing.pend, t ≤ x.t + x.ltmo
    (s.domOn Dom.ingest = true) ∧
    (intime))
  | _ => true

theorem witness_PixelWordsMakeLines :
    (∀ c ∈ [0, 4, 5], meets_PixelWordsMakeLines c (withIng { pend := [line9] }) { data := [1, 2, 3], sol := true } 600 0 line9 []) ∧
    meets_PixelWordsMakeLines 1 (withIng {}) { data := [1], sol := true } 600 0 line9 [] ∧
    meets_PixelWordsMakeLines 2 (withIng { filling := [filling5], pend := [line9] }) { data := [1], valid := true } 550 0 line9 [] ∧
    meets_PixelWordsMakeLines 3 (allOff (withIng { pend := [line9] })) { data := [1, 2, 3], sol := true } 600 0 line9 [] := by decide +kernel

/-- The hypotheses of the clauses of LinesBecomeFilled. -/
def meets_LinesBecomeFilled (clause : Nat) (s : State) (f : Filling) (fs : List Filling) (l : Loadl) : Bool :=
  match clause with
  | 0 => holds (
    (s.memWf = true) ∧
    let due : Prop := s.domOn Dom.ingest = true ∧ s.ing.filling = f :: fs ∧ f.ended = true ∧ f.slot + b2n f.wide < 128 ∧
      (f.wide = true → f.slot % 2 = 0)
    (due) ∧
    (s.trs.loadl = none))
  | 1 => holds (
    (s.memWf = true) ∧
    (f.wide = false) ∧
    (f.companded = false))
  | 2 => holds (
    (s.memWf = true) ∧
    let due : Prop := s.domOn Dom.ingest = true ∧ s.ing.filling = f :: fs ∧ f.ended = true ∧ f.slot + b2n f.wide < 128 ∧
      (f.wide = true → f.slot % 2 = 0)
    (due) ∧
    (s.trs.loadl = some l) ∧
    (l.complete = false) ∧
    (l.frame = none ∨ l.frame = some f.trig.frame) ∧
    ((∀ k : Fin 128, s.ing.slots[k] ≠ .filled)))
  | 3 => holds (
    (s.memWf = true) ∧
    (s.trs.loadl = some l) ∧
    (l.complete = false))
  | 4 => holds (
    (s.memWf = true) ∧
    (s.trs.loadl = none ∨ (s.trs.loadl = some l ∧ l.complete = true)))
  | 5 => holds (
    (s.memWf = true) ∧
    let due : Prop := s.domOn Dom.ingest = true ∧ s.ing.filling = f :: fs ∧ f.ended = true ∧ f.slot + b2n f.wide < 128 ∧
      (f.wide = true → f.slot % 2 = 0)
    (due) ∧
    (s.trs.loadl = some l) ∧
    (l.complete = false) ∧
    (l.frame = none ∨ l.frame = some f.trig.frame) ∧
    ((∀ k : Fin 128, s.ing.slots[k] ≠ .filled)) ∧
    (l.b ≤ l.claimed.length + 1))
  | _ => true

theorem witness_LinesBecomeFilled :
    (∀ c ∈ [0, 1, 4], meets_LinesBecomeFilled c (withIng { filling := [ended5, filling5] }) ended5 [filling5] {}) ∧
    (∀ c ∈ [2, 5], meets_LinesBecomeFilled c (ending {}) ended5 [filling5] {}) ∧
    meets_LinesBecomeFilled 3 { setup with trs := { loadl := some {} } } ended5 [] {} := by decide +kernel

/-- The hypotheses of the clauses of IngestSettings. -/
def meets_IngestSettings (clause : Nat) (s : State) (v : Word) : Bool :=
  match clause with
  | 0 => holds (
    (s.memWf = true) ∧
    (s.domOn Dom.ingest = true) ∧
    let table : Prop := bitOf v.toNat 2 = false ∨ s.ing.cmp ≠ none
    let empty : Prop := s.mode = .setup ∧ s.slotCount .free = 128
    (s.ing.filling = []) ∧
    (empty) ∧
    (table))
  | 1 => holds (
    (s.memWf = true) ∧
    (s.domOn Dom.ingest = true) ∧
    let same : Prop := getBits v 1 1 = s.fld F.ING_CFG_DEPTH16 ∧ getBits v 2 1 = s.fld F.ING_CFG_CMP_EN
    let table : Prop := bitOf v.toNat 2 = false ∨ s.ing.cmp ≠ none
    (s.ing.filling = []) ∧
    (same) ∧
    (table))
  | 2 => holds (
    (s.memWf = true) ∧
    (s.domOn Dom.ingest = true) ∧
    let same : Prop := getBits v 1 1 = s.fld F.ING_CFG_DEPTH16 ∧ getBits v 2 1 = s.fld F.ING_CFG_CMP_EN
    let table : Prop := bitOf v.toNat 2 = false ∨ s.ing.cmp ≠ none
    let empty : Prop := s.mode = .setup ∧ s.slotCount .free = 128
    (s.ing.filling = []) ∧
    (¬empty) ∧
    (¬same) ∧
    (table))
  | 3 => holds (
    (s.memWf = true) ∧
    (s.domOn Dom.ingest = true) ∧
    let table : Prop := bitOf v.toNat 2 = false ∨ s.ing.cmp ≠ none
    (¬table))
  | 4 => holds (
    (s.memWf = true) ∧
    (s.domOn Dom.ingest = true) ∧
    (getBits v 0 1 = 1) ∧
    (s.capture = true))
  | 5 => holds (
    (s.memWf = true) ∧
    (s.domOn Dom.ingest = true) ∧
    (getBits v 0 1 = 1) ∧
    (s.capture = false) ∧
    (cmpValid s.cmpStaged = false))
  | 6 => holds (
    (s.memWf = true) ∧
    (s.domOn Dom.ingest = true) ∧
    (getBits v 0 1 = 1) ∧
    (s.capture = false) ∧
    (cmpValid s.cmpStaged = true))
  | 7 => holds (
    (s.memWf = true) ∧
    (s.domOn Dom.ingest = true) ∧
    (getBits v 0 1 = 0))
  | _ => true

theorem witness_IngestSettings :
    (∀ c ∈ [0, 5], meets_IngestSettings c setup 0x00AA0003) ∧
    (∀ c ∈ [1, 4], meets_IngestSettings c track 1) ∧
    meets_IngestSettings 2 (inFallback setup) 0x00AA0003 ∧
    meets_IngestSettings 3 setup 0x00AA0007 ∧
    meets_IngestSettings 6 compandable 1 ∧
    meets_IngestSettings 7 setup 0 := by decide +kernel

/-- The hypotheses of the clauses of MacroOpsWriteTheirFields. -/
def meets_MacroOpsWriteTheirFields (clause : Nat) (u : State) (w : MacroWord) (ws : List MacroWord) : Bool :=
  match clause with
  | 0 => holds (
    (u.memWf = true) ∧
    let s := atStart u
    (readyB s w ws = true) ∧
    (w.op = 0x01))
  | 1 => holds (
    (u.memWf = true) ∧
    let s := atStart u
    (readyB s w ws = true) ∧
    (w.op = 0x02))
  | 2 => holds (
    (u.memWf = true) ∧
    let s := atStart u
    (readyB s w ws = true) ∧
    (w.op = 0x03))
  | 3 => holds (
    (u.memWf = true) ∧
    let s := atStart u
    (readyB s w ws = true) ∧
    (w.op = 0x04))
  | 4 => holds (
    (u.memWf = true) ∧
    let s := atStart u
    (readyB s w ws = true) ∧
    (w.op = 0x05))
  | 5 => holds (
    (u.memWf = true) ∧
    let s := atStart u
    (readyB s w ws = true) ∧
    (w.op = 0x06))
  | 6 => holds (
    (u.memWf = true) ∧
    let s := atStart u
    (readyB s w ws = true) ∧
    (w.op = 0x08))
  | 7 => holds (
    (u.memWf = true) ∧
    let s := atStart u
    (readyB s w ws = true) ∧
    (w.op = 0x0D))
  | 8 => holds (
    (u.memWf = true) ∧
    let s := atStart u
    (readyB s w ws = true) ∧
    (w.op = 0x10))
  | 9 => holds (
    (u.memWf = true) ∧
    let s := atStart u
    (readyB s w ws = true) ∧
    (w.op = 0x11))
  | 10 => holds (
    (u.memWf = true) ∧
    let s := atStart u
    (readyB s w ws = true) ∧
    (w.op = 0x12))
  | 11 => holds (
    (u.memWf = true) ∧
    let s := atStart u
    (readyB s w ws = true) ∧
    (w.op = 0x14))
  | 12 => holds (
    (u.memWf = true) ∧
    let s := atStart u
    (readyB s w ws = true) ∧
    (w.op = 0x15))
  | 13 => holds (
    (u.memWf = true) ∧
    let s := atStart u
    (readyB s w ws = true) ∧
    (w.op = 0x16))
  | _ => true

theorem witness_MacroOpsWriteTheirFields :
    meets_MacroOpsWriteTheirFields 0 (queued (macroWord 1 2 2 0 0 90 100 104 0)) (macroWord 1 2 2 0 0 90 100 104 0) [] ∧
    meets_MacroOpsWriteTheirFields 1 (queued (macroWord 2 2 2 0 0 90 100 104 0)) (macroWord 2 2 2 0 0 90 100 104 0) [] ∧
    meets_MacroOpsWriteTheirFields 2 (queued (macroWord 3 2 2 0 0 90 100 104 0)) (macroWord 3 2 2 0 0 90 100 104 0) [] ∧
    meets_MacroOpsWriteTheirFields 3 (queued (macroWord 4 2 2 0 0 90 100 104 0)) (macroWord 4 2 2 0 0 90 100 104 0) [] ∧
    meets_MacroOpsWriteTheirFields 4 (queued (macroWord 5 2 2 0 0 90 100 104 0)) (macroWord 5 2 2 0 0 90 100 104 0) [] ∧
    meets_MacroOpsWriteTheirFields 5 (queued (macroWord 6 2 2 0 0 90 100 104 0)) (macroWord 6 2 2 0 0 90 100 104 0) [] ∧
    meets_MacroOpsWriteTheirFields 6 (queued (macroWord 8 2 2 0 0 90 100 104 0)) (macroWord 8 2 2 0 0 90 100 104 0) [] ∧
    meets_MacroOpsWriteTheirFields 7 (queued (macroWord 13 2 2 0 0 90 100 104 0)) (macroWord 13 2 2 0 0 90 100 104 0) [] ∧
    meets_MacroOpsWriteTheirFields 8 (queued (macroWord 0x10 2 2 0 0 90 100 104 0)) (macroWord 0x10 2 2 0 0 90 100 104 0) [] ∧
    meets_MacroOpsWriteTheirFields 9 (queued (macroWord 0x11 2 2 0 0 90 100 104 0)) (macroWord 0x11 2 2 0 0 90 100 104 0) [] ∧
    meets_MacroOpsWriteTheirFields 10 (queued (macroWord 0x12 2 2 0 0 90 100 104 0)) (macroWord 0x12 2 2 0 0 90 100 104 0) [] ∧
    meets_MacroOpsWriteTheirFields 11 (queued (macroWord 0x14 2 2 0 0 90 100 104 0)) (macroWord 0x14 2 2 0 0 90 100 104 0) [] := by decide +kernel

theorem witness_MacroOpsWriteTheirFields_b :
    meets_MacroOpsWriteTheirFields 12 (queued (macroWord 0x15 2 2 0 0 90 100 104 0)) (macroWord 0x15 2 2 0 0 90 100 104 0) [] ∧
    meets_MacroOpsWriteTheirFields 13 (queued (macroWord 0x16 2 2 0 0 90 100 104 0)) (macroWord 0x16 2 2 0 0 90 100 104 0) [] := by decide +kernel

/-- The hypotheses of the clauses of DivisionAndImportSetFlags. -/
def meets_DivisionAndImportSetFlags (clause : Nat) (u : State) (w : MacroWord) (ws : List MacroWord) : Bool :=
  match clause with
  | 0 => holds (
    (u.memWf = true) ∧
    let s := atStart u
    (readyB s w ws = true) ∧
    (w.op = 0x18))
  | 1 => holds (
    (u.memWf = true) ∧
    let s := atStart u
    (readyB s w ws = true) ∧
    (w.op = 0x1A))
  | 2 => holds (
    (u.memWf = true) ∧
    let s := atStart u
    (readyB s w ws = true) ∧
    (w.op = 0x19))
  | 3 => holds (
    (u.memWf = true) ∧
    let s := atStart u
    (readyB s w ws = true) ∧
    (w.op = 0x1B))
  | 4 => holds (
    (u.memWf = true) ∧
    let s := atStart u
    (readyB s w ws = true) ∧
    (w.op = 0x30))
  | _ => true

theorem witness_DivisionAndImportSetFlags :
    meets_DivisionAndImportSetFlags 0 (queued (macroWord 0x18 2 2 0 0 90 100 104 0)) (macroWord 0x18 2 2 0 0 90 100 104 0) [] ∧
    meets_DivisionAndImportSetFlags 1 (queued (macroWord 0x1A 2 2 0 0 90 100 104 0)) (macroWord 0x1A 2 2 0 0 90 100 104 0) [] ∧
    meets_DivisionAndImportSetFlags 2 (queued (macroWord 0x19 2 2 0 0 90 100 104 0)) (macroWord 0x19 2 2 0 0 90 100 104 0) [] ∧
    meets_DivisionAndImportSetFlags 3 (queued (macroWord 0x1B 2 2 0 0 90 100 104 0)) (macroWord 0x1B 2 2 0 0 90 100 104 0) [] ∧
    meets_DivisionAndImportSetFlags 4 (queued (macroWord 0x30 12 32 0 0 90 100 104 0)) (macroWord 0x30 12 32 0 0 90 100 104 0) [] := by decide +kernel

/-- The hypotheses of the clauses of ActivityReductionsAndTokens. -/
def meets_ActivityReductionsAndTokens (clause : Nat) (u : State) (w : MacroWord) (ws : List MacroWord) : Bool :=
  match clause with
  | 0 => holds (
    (u.memWf = true) ∧
    let s := atStart u
    (readyB s w ws = true) ∧
    (w.op = 0x0C) ∧
    (w.f = 0))
  | 1 => holds (
    (u.memWf = true) ∧
    let s := atStart u
    (readyB s w ws = true) ∧
    (w.op = 0x0C) ∧
    (w.f = 1))
  | 2 => holds (
    (u.memWf = true) ∧
    let s := atStart u
    (readyB s w ws = true) ∧
    (w.op = 0x0C) ∧
    (w.f = 2))
  | 3 => holds (
    (u.memWf = true) ∧
    let s := atStart u
    (readyB s w ws = true) ∧
    (w.op = 0x0C) ∧
    (w.f = 3))
  | 4 => holds (
    (u.memWf = true) ∧
    let s := atStart u
    (readyB s w ws = true) ∧
    (w.op = 0x0C) ∧
    (w.f = 4))
  | 5 => holds (
    (u.memWf = true) ∧
    let s := atStart u
    (readyB s w ws = true) ∧
    (w.op = 0x0C) ∧
    (w.f = 6))
  | 6 => holds (
    (u.memWf = true) ∧
    let s := atStart u
    (readyB s w ws = true) ∧
    (w.op = 0x0C) ∧
    (w.f = 5))
  | 7 => holds (
    (u.memWf = true) ∧
    let s := atStart u
    (readyB s w ws = true) ∧
    (w.op = 0x20) ∧
    (s.bit F.TRS_ARR_CFG_GOR_RTZ = false))
  | 8 => holds (
    (u.memWf = true) ∧
    let s := atStart u
    (readyB s w ws = true) ∧
    (w.op = 0x20) ∧
    (s.bit F.TRS_ARR_CFG_GOR_RTZ = true))
  | 9 => holds (
    (u.memWf = true) ∧
    let s := atStart u
    (readyB s w ws = true) ∧
    (w.op = 0x21))
  | 10 => holds (
    (u.memWf = true) ∧
    let s := atStart u
    (readyB s w ws = true) ∧
    (w.op = 0x3F))
  | 11 => holds (
    (u.memWf = true) ∧
    let s := atStart u
    (readyB s w ws = true) ∧
    (w.op = 0x38) ∧
    (w.f = 0))
  | 12 => holds (
    (u.memWf = true) ∧
    let s := atStart u
    (readyB s w ws = true) ∧
    (w.op = 0x38) ∧
    (w.f = 1))
  | _ => true

theorem witness_ActivityReductionsAndTokens :
    meets_ActivityReductionsAndTokens 0 (queued (macroWord 0x0C 1 1 0 0 90 100 104 0)) (macroWord 0x0C 1 1 0 0 90 100 104 0) [] ∧
    meets_ActivityReductionsAndTokens 1 (queued (macroWord 0x0C 1 1 1 0 90 100 104 0)) (macroWord 0x0C 1 1 1 0 90 100 104 0) [] ∧
    meets_ActivityReductionsAndTokens 2 (queued (macroWord 0x0C 1 1 2 0 90 100 104 0)) (macroWord 0x0C 1 1 2 0 90 100 104 0) [] ∧
    meets_ActivityReductionsAndTokens 3 (queued (macroWord 0x0C 1 1 3 0 90 100 104 0)) (macroWord 0x0C 1 1 3 0 90 100 104 0) [] ∧
    meets_ActivityReductionsAndTokens 4 (queued (macroWord 0x0C 1 1 4 0 90 100 104 0)) (macroWord 0x0C 1 1 4 0 90 100 104 0) [] ∧
    meets_ActivityReductionsAndTokens 5 (queued (macroWord 0x0C 1 1 6 0 90 100 104 0)) (macroWord 0x0C 1 1 6 0 90 100 104 0) [] ∧
    meets_ActivityReductionsAndTokens 6 (queued (macroWord 0x0C 1 1 5 0 90 100 104 0)) (macroWord 0x0C 1 1 5 0 90 100 104 0) [] ∧
    meets_ActivityReductionsAndTokens 7 ((queued (macroWord 0x20 1 1 0 0 90 100 104 0)).setFld F.TRS_ARR_CFG_GOR_RTZ 0) (macroWord 0x20 1 1 0 0 90 100 104 0) [] ∧
    meets_ActivityReductionsAndTokens 8 (queued (macroWord 0x20 1 1 0 0 90 100 104 0)) (macroWord 0x20 1 1 0 0 90 100 104 0) [] ∧
    meets_ActivityReductionsAndTokens 9 (queued (macroWord 0x21 1 1 0 7 90 100 104 0)) (macroWord 0x21 1 1 0 7 90 100 104 0) [] ∧
    meets_ActivityReductionsAndTokens 10 (queued (macroWord 0x3F 1 1 0 7 90 100 104 0)) (macroWord 0x3F 1 1 0 7 90 100 104 0) [] ∧
    meets_ActivityReductionsAndTokens 11 (queued (macroWord 0x38 1 1 0 0 90 100 104 0)) (macroWord 0x38 1 1 0 0 90 100 104 0) [] := by decide +kernel

theorem witness_ActivityReductionsAndTokens_b :
    meets_ActivityReductionsAndTokens 12 (queued (macroWord 0x38 1 1 1 0 90 100 104 0)) (macroWord 0x38 1 1 1 0 90 100 104 0) [] := by decide +kernel

/-- The hypotheses of the clauses of LinesInAndOutOfTheArray. -/
def meets_LinesInAndOutOfTheArray (clause : Nat) (u : State) (w : MacroWord) (ws : List MacroWord) (i : Fin 2) (l : Loadl) (k : Nat) (h : LineHeader) : Bool :=
  match clause with
  | 0 => holds (
    (u.memWf = true) ∧
    let s := atStart u
    (readyB s w ws = true) ∧
    (w.op = 0x29) ∧
    (s.freeStoreBuf = some i))
  | 1 => holds (
    (u.memWf = true) ∧
    let s := atStart u
    (readyB s w ws = true) ∧
    (w.op = 0x2A) ∧
    (s.freeStoreBuf = some i))
  | 2 => holds (
    (u.memWf = true) ∧
    let s := atStart u
    (readyB s w ws = true) ∧
    (w.op = 0x28) ∧
    (w.opt = 0) ∧
    (w.x = 1) ∧
    (s.loadlW = 8) ∧
    (s.trs.loadl = some l) ∧
    (l.b = 1) ∧
    (l.index = false) ∧
    (s.loadlSplit ((List.range 10).map (w.d + ·)) = false) ∧
    ((∀ j : Fin 10, (s.ent (w.d + j)).level = .bench ∧ (s.ent (w.d + j)).poison = false)) ∧
    (l.claimed = [(k, false)]) ∧
    (s.ing.hdr[k]? = some h))
  | 3 => holds (
    (u.memWf = true) ∧
    let s := atStart u
    (readyB s w ws = true) ∧
    (w.op = 0x28) ∧
    (w.opt = 0) ∧
    (w.x = 1) ∧
    (s.loadlW = 8) ∧
    (s.trs.loadl = some l) ∧
    (l.b = 1) ∧
    (l.index = false) ∧
    (s.loadlSplit ((List.range 10).map (w.d + ·)) = false) ∧
    ((∀ j : Fin 10, (s.ent (w.d + j)).level = .bench ∧ (s.ent (w.d + j)).poison = false)) ∧
    (l.claimed = []))
  | _ => true

theorem witness_LinesInAndOutOfTheArray :
    meets_LinesInAndOutOfTheArray 0 (queued (macroWord 0x29 5 1 0 3 90 100 130 40)) (macroWord 0x29 5 1 0 3 90 100 130 40) [] 0 {} 3 {} ∧
    meets_LinesInAndOutOfTheArray 1 (queued (macroWord 0x2A 5 1 0 3 90 100 130 40)) (macroWord 0x2A 5 1 0 3 90 100 130 40) [] 0 {} 3 {} ∧
    meets_LinesInAndOutOfTheArray 2 (loading loadl3) loadWord [] 0 loadl3 3 { npix := 200 } ∧
    meets_LinesInAndOutOfTheArray 3 (loading { complete := true }) loadWord [] 0 { complete := true } 3 {} := by decide +kernel

/-- The hypotheses of the clauses of MacroOpsArePushedAndCompleted. -/
def meets_MacroOpsArePushedAndCompleted (clause : Nat) (s : State) (n : Fin 8) (x : Exec) (l : Loadl) (_t : Nat) (_wait : Nat) (code : Nat) (k : Fin 32) (v : Word) (hit : Bool) (tiles : BitVec 64) : Bool :=
  match clause with
  | 0 => holds (
    (s.memWf = true) ∧
    let i := s.jFetch n
    let pushes : Prop := issuesAnyB s n = true ∧ i.arr = true ∧ s.domOn Dom.truss = true ∧ s.trs.queue.length < 64
    (pushes) ∧
    (s.trs.exec ≠ none))
  | 1 => holds (
    (s.memWf = true) ∧
    let i := s.jFetch n
    let pushes : Prop := issuesAnyB s n = true ∧ i.arr = true ∧ s.domOn Dom.truss = true ∧ s.trs.queue.length < 64
    (pushes) ∧
    (s.trsOn = false))
  | 2 => holds (
    (s.memWf = true) ∧
    let i := s.jFetch n
    let task := s.tasks[n]
    let word : MacroWord := i.word s n
    let pushes : Prop := issuesAnyB s n = true ∧ i.arr = true ∧ s.domOn Dom.truss = true ∧ s.trs.queue.length < 64
    (pushes) ∧
    (s.trsOn = true) ∧
    (s.trs.exec = none) ∧
    (s.trs.queue = []) ∧
    (s.trs.loadl = none) ∧
    (task.live ≤ task.gen) ∧
    (s.macroCheck word = some code) ∧
    (s.trs.head = .fresh))
  | 3 => holds (
    (s.memWf = true) ∧
    let i := s.jFetch n
    (issuesAnyB s n = true) ∧
    (i.arr = true) ∧
    (s.domOn Dom.truss = false ∨ 64 ≤ s.trs.queue.length))
  | 4 => holds (
    (s.memWf = true) ∧
    let drained : Prop := x.drain = false ∨ (s.storeBufs[0] = none ∧ s.storeBufs[1] = none)
    let quiet : Prop := s.trsOn = true ∧ s.trs.queue = [] ∧ s.trs.exec = some x ∧ x.word.op ≠ 0x28 ∧ x.burst = none ∧ drained ∧
      ∀ c : Fin 64, s.tileDown c = false
    (quiet) ∧
    (x.gor = none) ∧
    (x.deliver = none))
  | 5 => holds (
    (s.memWf = true) ∧
    let drained : Prop := x.drain = false ∨ (s.storeBufs[0] = none ∧ s.storeBufs[1] = none)
    let quiet : Prop := s.trsOn = true ∧ s.trs.queue = [] ∧ s.trs.exec = some x ∧ x.word.op ≠ 0x28 ∧ x.burst = none ∧ drained ∧
      ∀ c : Fin 64, s.tileDown c = false
    (quiet) ∧
    (x.gor = none) ∧
    (x.deliver = some (k.val, v)) ∧
    (k.val ≠ 0) ∧
    (s.tasks[x.word.task].live ≤ x.word.gen))
  | 6 => holds (
    (s.memWf = true) ∧
    let drained : Prop := x.drain = false ∨ (s.storeBufs[0] = none ∧ s.storeBufs[1] = none)
    let quiet : Prop := s.trsOn = true ∧ s.trs.queue = [] ∧ s.trs.exec = some x ∧ x.word.op ≠ 0x28 ∧ x.burst = none ∧ drained ∧
      ∀ c : Fin 64, s.tileDown c = false
    (quiet) ∧
    (x.gor = none) ∧
    (x.deliver = some (k.val, v)) ∧
    (x.word.gen < s.tasks[x.word.task].live))
  | 7 => holds (
    (s.memWf = true) ∧
    let drained : Prop := x.drain = false ∨ (s.storeBufs[0] = none ∧ s.storeBufs[1] = none)
    let quiet : Prop := s.trsOn = true ∧ s.trs.queue = [] ∧ s.trs.exec = some x ∧ x.word.op ≠ 0x28 ∧ x.burst = none ∧ drained ∧
      ∀ c : Fin 64, s.tileDown c = false
    (quiet) ∧
    (x.deliver = none) ∧
    (x.gor = some (hit, tiles)))
  | 8 => holds (
    (s.memWf = true) ∧
    (s.trsOn = true) ∧
    (s.trs.queue = []) ∧
    (s.trs.exec = some x) ∧
    (x.burst = some l) ∧
    (l.b ≤ x.lines) ∧
    (x.drain = false) ∧
    (x.gor = none) ∧
    (x.deliver = none))
  | 9 => holds (
    (s.memWf = true) ∧
    (s.trs.exec = none ∨ s.trsOn = false))
  | 10 => holds (
    (s.memWf = true) ∧
    (s.domOn Dom.truss = true))
  | 11 => holds (
    (s.memWf = true) ∧
    (s.domOn Dom.truss = false))
  | _ => true

theorem witness_MacroOpsArePushedAndCompleted :
    (∀ c ∈ [0, 4, 10], meets_MacroOpsArePushedAndCompleted c { joist [0xE1, 0x10, 0, 0, 5, 6, 7] with trs := { exec := some {} } } 2 {} {} 7 8 1 5 77 true 77) ∧
    meets_MacroOpsArePushedAndCompleted 1 (atS3 { joist [0xE1, 0x10, 0, 0, 5, 6, 7] with trs := { exec := some {} } }) 2 {} {} 7 8 1 5 77 true 77 ∧
    meets_MacroOpsArePushedAndCompleted 2 (joist [0xE1, 0x3E, 0, 0, 5, 6, 7]) 2 {} {} 7 8 (((joist [0xE1, 0x3E, 0, 0, 5, 6, 7]).macroCheck (((joist [0xE1, 0x3E, 0, 0, 5, 6, 7]).jFetch 2).word (joist [0xE1, 0x3E, 0, 0, 5, 6, 7]) 2)).getD 0) 5 77 true 77 ∧
    meets_MacroOpsArePushedAndCompleted 3 { joist [0xE1, 0x10, 0, 0, 5, 6, 7] with trs := { exec := some {}, queue := List.replicate 64 {} } } 2 {} {} 7 8 1 5 77 true 77 ∧
    meets_MacroOpsArePushedAndCompleted 5 (executing { flags7 with deliver := some (5, 77) }) 2 { flags7 with deliver := some (5, 77) } {} 7 8 1 5 77 true 77 ∧
    meets_MacroOpsArePushedAndCompleted 6 (newRun (executing { flags7 with deliver := some (5, 77) })) 2 { flags7 with deliver := some (5, 77) } {} 7 8 1 5 77 true 77 ∧
    meets_MacroOpsArePushedAndCompleted 7 (executing { flags7 with gor := some (true, 77) }) 2 { flags7 with gor := some (true, 77) } {} 7 8 1 5 77 true 77 ∧
    meets_MacroOpsArePushedAndCompleted 8 (executing { word := loadWord, burst := some { claimed := [(3, false)], complete := true }, lines := 1 }) 2 { word := loadWord, burst := some { claimed := [(3, false)], complete := true }, lines := 1 } { claimed := [(3, false)], complete := true } 7 8 1 5 77 true 77 ∧
    meets_MacroOpsArePushedAndCompleted 9 (joist [0xE1, 0x10, 0, 0, 5, 6, 7]) 2 {} {} 7 8 (((joist [0xE1, 0x10, 0, 0, 5, 6, 7]).macroCheck (((joist [0xE1, 0x10, 0, 0, 5, 6, 7]).jFetch 2).word (joist [0xE1, 0x10, 0, 0, 5, 6, 7]) 2)).getD 0) 5 77 true 77 ∧
    meets_MacroOpsArePushedAndCompleted 11 (allOff { joist [0xE1, 0x10, 0, 0, 5, 6, 7] with trs := { exec := some {} } }) 2 {} {} 7 8 1 5 77 true 77 := by decide +kernel

/-- The hypotheses of the clauses of TallyCommandsAreWrittenAndAct. -/
def meets_TallyCommandsAreWrittenAndAct (clause : Nat) (s : State) (c : TallyCmd) (m : FarMove) (ms : List FarMove) (_stall : Nat) (_before : Nat) : Bool :=
  match clause with
  | 0 => holds (
    (s.memWf = true) ∧
    (s.domOn Dom.tally = true))
  | 1 => holds (
    (s.memWf = true) ∧
    (s.domOn Dom.tally = false))
  | 16 => holds (
    (s.memWf = true) ∧
    let onBoundary : Prop := s.trsOn = true ∧ s.trs.queue = [] ∧ s.trs.exec = none ∧ s.trs.head = .fresh ∧ s.tly.cmd = some c ∧
      c.acted = false
    (onBoundary) ∧
    (s.bit F.TLY_CFG_MODE = true))
  | 17 => holds (
    (s.memWf = true) ∧
    let onBoundary : Prop := s.trsOn = true ∧ s.trs.queue = [] ∧ s.trs.exec = none ∧ s.trs.head = .fresh ∧ s.tly.cmd = some c ∧
      c.acted = false
    (onBoundary) ∧
    (s.bit F.TLY_CFG_MODE = false) ∧
    (c.op ≠ 8) ∧
    (c.op = 0 ∨ 8 < c.op ∨ 65536 < c.start + c.count))
  | 18 => holds (
    (s.memWf = true) ∧
    let onBoundary : Prop := s.trsOn = true ∧ s.trs.queue = [] ∧ s.trs.exec = none ∧ s.trs.head = .fresh ∧ s.tly.cmd = some c ∧
      c.acted = false
    (onBoundary) ∧
    (s.bit F.TLY_CFG_MODE = false) ∧
    (c.op = 8) ∧
    ((∃ i : Fin 16, s.bit (F.TLY_WSi_A_EN i) = true ∧ 65536 < s.fld (F.TLY_WSi_A_START i) + s.fld (F.TLY_WSi_B_COUNT i))))
  | 19 => holds (
    (s.memWf = true) ∧
    let onBoundary : Prop := s.trsOn = true ∧ s.trs.queue = [] ∧ s.trs.exec = none ∧ s.trs.head = .fresh ∧ s.tly.cmd = some c ∧
      c.acted = false
    let still : Prop := s.bit F.TLY_CFG_MODE = false ∧ c.start + c.count ≤ 65536 ∧ 1 ≤ c.count ∧ c.done = 0 ∧ c.result = 0 ∧
      ∀ p ∈ s.tly.map, p.2.moving = false
    let mine (p : Nat → PlaneEnt → Bool) : Nat := ((List.range c.count).map (c.start + ·)).countP fun v => p v (s.ent v)
    let pins (b : Bool) : Nat := s.tly.map.countP fun p => p.2.pinB || (!b && p.2.pinY)
    let fits (b : Bool) : Prop := pins true + (if b then mine fun _ e => !e.pinB else 0) ≤ 224 ∧
      pins false + (mine fun _ e => !e.pinB && !e.pinY) ≤ 4032
    (onBoundary) ∧
    (still) ∧
    (c.op = 1 ∧ ¬fits true ∨ c.op = 2 ∧ ¬fits false))
  | 20 => holds (
    (s.memWf = true) ∧
    let onBoundary : Prop := s.trsOn = true ∧ s.trs.queue = [] ∧ s.trs.exec = none ∧ s.trs.head = .fresh ∧ s.tly.cmd = some c ∧
      c.acted = false
    let still : Prop := s.bit F.TLY_CFG_MODE = false ∧ c.start + c.count ≤ 65536 ∧ 1 ≤ c.count ∧ c.done = 0 ∧ c.result = 0 ∧
      ∀ p ∈ s.tly.map, p.2.moving = false
    let mine (p : Nat → PlaneEnt → Bool) : Nat := ((List.range c.count).map (c.start + ·)).countP fun v => p v (s.ent v)
    let pins (b : Bool) : Nat := s.tly.map.countP fun p => p.2.pinB || (!b && p.2.pinY)
    let fits (b : Bool) : Prop := pins true + (if b then mine fun _ e => !e.pinB else 0) ≤ 224 ∧
      pins false + (mine fun _ e => !e.pinB && !e.pinY) ≤ 4032
    let all (p : PlaneEnt → Bool) : Prop := mine (fun _ e => p e) = c.count
    (onBoundary) ∧
    (still) ∧
    (c.op = 1) ∧
    (fits true) ∧
    (all (·.level == .bench)))
  | 21 => holds (
    (s.memWf = true) ∧
    let onBoundary : Prop := s.trsOn = true ∧ s.trs.queue = [] ∧ s.trs.exec = none ∧ s.trs.head = .fresh ∧ s.tly.cmd = some c ∧
      c.acted = false
    let still : Prop := s.bit F.TLY_CFG_MODE = false ∧ c.start + c.count ≤ 65536 ∧ 1 ≤ c.count ∧ c.done = 0 ∧ c.result = 0 ∧
      ∀ p ∈ s.tly.map, p.2.moving = false
    let mine (p : Nat → PlaneEnt → Bool) : Nat := ((List.range c.count).map (c.start + ·)).countP fun v => p v (s.ent v)
    let pins (b : Bool) : Nat := s.tly.map.countP fun p => p.2.pinB || (!b && p.2.pinY)
    let fits (b : Bool) : Prop := pins true + (if b then mine fun _ e => !e.pinB else 0) ≤ 224 ∧
      pins false + (mine fun _ e => !e.pinB && !e.pinY) ≤ 4032
    let all (p : PlaneEnt → Bool) : Prop := mine (fun _ e => p e) = c.count
    (onBoundary) ∧
    (still) ∧
    (c.op = 2) ∧
    (fits false) ∧
    (all (·.level != .far)))
  | 22 => holds (
    (s.memWf = true) ∧
    let onBoundary : Prop := s.trsOn = true ∧ s.trs.queue = [] ∧ s.trs.exec = none ∧ s.trs.head = .fresh ∧ s.tly.cmd = some c ∧
      c.acted = false
    let still : Prop := s.bit F.TLY_CFG_MODE = false ∧ c.start + c.count ≤ 65536 ∧ 1 ≤ c.count ∧ c.done = 0 ∧ c.result = 0 ∧
      ∀ p ∈ s.tly.map, p.2.moving = false
    (onBoundary) ∧
    (still) ∧
    (c.op = 3))
  | 23 => holds (
    (s.memWf = true) ∧
    let onBoundary : Prop := s.trsOn = true ∧ s.trs.queue = [] ∧ s.trs.exec = none ∧ s.trs.head = .fresh ∧ s.tly.cmd = some c ∧
      c.acted = false
    let still : Prop := s.bit F.TLY_CFG_MODE = false ∧ c.start + c.count ≤ 65536 ∧ 1 ≤ c.count ∧ c.done = 0 ∧ c.result = 0 ∧
      ∀ p ∈ s.tly.map, p.2.moving = false
    let mine (p : Nat → PlaneEnt → Bool) : Nat := ((List.range c.count).map (c.start + ·)).countP fun v => p v (s.ent v)
    let all (p : PlaneEnt → Bool) : Prop := mine (fun _ e => p e) = c.count
    (onBoundary) ∧
    (still) ∧
    (c.op = 4) ∧
    (all (·.level != .far)))
  | 24 => holds (
    (s.memWf = true) ∧
    let onBoundary : Prop := s.trsOn = true ∧ s.trs.queue = [] ∧ s.trs.exec = none ∧ s.trs.head = .fresh ∧ s.tly.cmd = some c ∧
      c.acted = false
    let still : Prop := s.bit F.TLY_CFG_MODE = false ∧ c.start + c.count ≤ 65536 ∧ 1 ≤ c.count ∧ c.done = 0 ∧ c.result = 0 ∧
      ∀ p ∈ s.tly.map, p.2.moving = false
    let mine (p : Nat → PlaneEnt → Bool) : Nat := ((List.range c.count).map (c.start + ·)).countP fun v => p v (s.ent v)
    let all (p : PlaneEnt → Bool) : Prop := mine (fun _ e => p e) = c.count
    (onBoundary) ∧
    (still) ∧
    (c.op = 5) ∧
    (all (fun e => e.level == .zero || e.level == .far)))
  | 25 => holds (
    (s.memWf = true) ∧
    let onBoundary : Prop := s.trsOn = true ∧ s.trs.queue = [] ∧ s.trs.exec = none ∧ s.trs.head = .fresh ∧ s.tly.cmd = some c ∧
      c.acted = false
    let still : Prop := s.bit F.TLY_CFG_MODE = false ∧ c.start + c.count ≤ 65536 ∧ 1 ≤ c.count ∧ c.done = 0 ∧ c.result = 0 ∧
      ∀ p ∈ s.tly.map, p.2.moving = false
    (onBoundary) ∧
    (still) ∧
    (c.op = 6) ∧
    (s.bit F.TLY_CFG_FAR_EN = true))
  | 26 => holds (
    (s.memWf = true) ∧
    let onBoundary : Prop := s.trsOn = true ∧ s.trs.queue = [] ∧ s.trs.exec = none ∧ s.trs.head = .fresh ∧ s.tly.cmd = some c ∧
      c.acted = false
    let still : Prop := s.bit F.TLY_CFG_MODE = false ∧ c.start + c.count ≤ 65536 ∧ 1 ≤ c.count ∧ c.done = 0 ∧ c.result = 0 ∧
      ∀ p ∈ s.tly.map, p.2.moving = false
    let mine (p : Nat → PlaneEnt → Bool) : Nat := ((List.range c.count).map (c.start + ·)).countP fun v => p v (s.ent v)
    let all (p : PlaneEnt → Bool) : Prop := mine (fun _ e => p e) = c.count
    (onBoundary) ∧
    (still) ∧
    (s.bit F.TLY_CFG_FAR_EN = false) ∧
    (c.op = 6 ∨ c.op = 5 ∧ all (fun e => e.level == .bench || e.level == .yard)))
  | 27 => holds (
    (s.memWf = true) ∧
    let onBoundary : Prop := s.trsOn = true ∧ s.trs.queue = [] ∧ s.trs.exec = none ∧ s.trs.head = .fresh ∧ s.tly.cmd = some c ∧
      c.acted = false
    let still : Prop := s.bit F.TLY_CFG_MODE = false ∧ c.start + c.count ≤ 65536 ∧ 1 ≤ c.count ∧ c.done = 0 ∧ c.result = 0 ∧
      ∀ p ∈ s.tly.map, p.2.moving = false
    (onBoundary) ∧
    (still) ∧
    (c.op = 7))
  | 28 => holds (
    (s.memWf = true) ∧
    let answered : Prop := s.domOn Dom.tally = true ∧ s.tly.moves = m :: ms ∧ m.left = 0 ∧ s.tly.cmd = none ∧ s.trs.exec = none
    (answered) ∧
    (s.trs.queue = []) ∧
    (m.code = .ok) ∧
    (m.toFar = true))
  | 29 => holds (
    (s.memWf = true) ∧
    let answered : Prop := s.domOn Dom.tally = true ∧ s.tly.moves = m :: ms ∧ m.left = 0 ∧ s.tly.cmd = none ∧ s.trs.exec = none
    (answered) ∧
    (s.trs.queue = []) ∧
    (m.code = .ok) ∧
    (m.toFar = false))
  | 30 => holds (
    (s.memWf = true) ∧
    let answered : Prop := s.domOn Dom.tally = true ∧ s.tly.moves = m :: ms ∧ m.left = 0 ∧ s.tly.cmd = none ∧ s.trs.exec = none
    (answered) ∧
    (s.trs.queue = []) ∧
    (m.code ≠ .ok))
  | 31 => holds (
    (s.memWf = true) ∧
    let answered : Prop := s.domOn Dom.tally = true ∧ s.tly.moves = m :: ms ∧ m.left = 0 ∧ s.tly.cmd = none ∧ s.trs.exec = none
    (answered) ∧
    (s.trs.queue ≠ []) ∧
    (s.trsOn = false) ∧
    (m.code = .ok))
  | 32 => holds (
    (s.memWf = true) ∧
    (s.tly.moves = []))
  | _ => true

theorem witness_TallyCommandsAreWrittenAndAct :
    (∀ c ∈ [0, 22, 32], meets_TallyCommandsAreWrittenAndAct c (tallyCmd { op := 3, start := 5, count := 3 }) { op := 3, start := 5, count := 3 } {} [] 7 3) ∧
    meets_TallyCommandsAreWrittenAndAct 1 { tallyCmd { op := 3, start := 5, count := 3 } with dom := Vector.replicate 76 .off } { op := 3, start := 5, count := 3 } {} [] 7 3 ∧
    meets_TallyCommandsAreWrittenAndAct 16 ((tallyCmd { op := 7, start := 5, count := 2 }).raise F.TLY_CFG_MODE) { op := 7, start := 5, count := 2 } {} [] 7 3 ∧
    meets_TallyCommandsAreWrittenAndAct 17 (tallyCmd { op := 1, start := 65530, count := 7 }) { op := 1, start := 65530, count := 7 } {} [] 7 3 ∧
    meets_TallyCommandsAreWrittenAndAct 18 (((tallyCmd { op := 8 }).raise (F.TLY_WSi_A_EN 3)).setFld (F.TLY_WSi_A_START 3) 65535 |>.setFld (F.TLY_WSi_B_COUNT 3) 2) { op := 8 } {} [] 7 3 ∧
    meets_TallyCommandsAreWrittenAndAct 19 (tallyCmd { op := 1, start := 100, count := 300 }) { op := 1, start := 100, count := 300 } {} [] 7 3 ∧
    meets_TallyCommandsAreWrittenAndAct 20 (tallyCmd { op := 1, start := 5, count := 1 }) { op := 1, start := 5, count := 1 } {} [] 7 3 ∧
    meets_TallyCommandsAreWrittenAndAct 21 (tallyCmd { op := 2, start := 5, count := 2 }) { op := 2, start := 5, count := 2 } {} [] 7 3 ∧
    meets_TallyCommandsAreWrittenAndAct 23 (tallyCmd { op := 4, start := 5, count := 2 }) { op := 4, start := 5, count := 2 } {} [] 7 3 ∧
    meets_TallyCommandsAreWrittenAndAct 24 (tallyCmd { op := 5, start := 9, count := 2 }) { op := 5, start := 9, count := 2 } {} [] 7 3 ∧
    meets_TallyCommandsAreWrittenAndAct 25 ((tallyCmd { op := 6, start := 5, count := 2 }).raise F.TLY_CFG_FAR_EN) { op := 6, start := 5, count := 2 } {} [] 7 3 ∧
    meets_TallyCommandsAreWrittenAndAct 26 ((tallyCmd { op := 6, start := 5, count := 2 }).setFld F.TLY_CFG_FAR_EN 0) { op := 6, start := 5, count := 2 } {} [] 7 3 := by decide +kernel

theorem witness_TallyCommandsAreWrittenAndAct_b :
    meets_TallyCommandsAreWrittenAndAct 27 (tallyCmd { op := 7, start := 5, count := 2 }) { op := 7, start := 5, count := 2 } {} [] 7 3 ∧
    meets_TallyCommandsAreWrittenAndAct 28 (moving { id := 3, plane := 6, toFar := true, left := 0 }) {} { id := 3, plane := 6, toFar := true, left := 0 } [] 7 3 ∧
    meets_TallyCommandsAreWrittenAndAct 29 (moving { id := 3, plane := 9, slot := 4, left := 0, data := [(0, [1, 2, 3])] }) {} { id := 3, plane := 9, slot := 4, left := 0, data := [(0, [1, 2, 3])] } [] 7 3 ∧
    meets_TallyCommandsAreWrittenAndAct 30 (moving { id := 3, plane := 9, left := 0, code := .timeout }) {} { id := 3, plane := 9, left := 0, code := .timeout } [] 7 3 ∧
    meets_TallyCommandsAreWrittenAndAct 31 (moving { id := 3, plane := 6, toFar := true, left := 0 } |> fun s => { s with trs := { s.trs with queue := [loadWord] }, dom := s.dom.set Dom.truss .off }) {} { id := 3, plane := 6, toFar := true, left := 0 } [] 7 3 := by decide +kernel

/-- The hypotheses of the clauses of TallySettings. -/
def meets_TallySettings (clause : Nat) (s : State) (v : Word) (_i : Fin 16) : Bool :=
  match clause with
  | 0 => holds (
    (s.memWf = true) ∧
    (s.domOn Dom.tally = true) ∧
    let idle : Prop := s.trs.queue = [] ∧ s.trs.exec = none ∧ s.tly.moves = []
    let m := v.getLsbD 0
    let f := v.getLsbD 1
    let was := s.bit F.TLY_CFG_MODE
    let bad : Prop := ((m ≠ was ∨ f ≠ s.bit F.TLY_CFG_FAR_EN) ∧ ¬idle) ∨ (was = false ∧ m = true ∧ s.tly.staged = false) ∨
      (was = true ∧ m = false ∧ f = false)
    (getBits v 4 3 ≤ 4) ∧
    (¬bad))
  | 1 => holds (
    (s.memWf = true) ∧
    (s.domOn Dom.tally = true) ∧
    let idle : Prop := s.trs.queue = [] ∧ s.trs.exec = none ∧ s.tly.moves = []
    let m := v.getLsbD 0
    let f := v.getLsbD 1
    let was := s.bit F.TLY_CFG_MODE
    let bad : Prop := ((m ≠ was ∨ f ≠ s.bit F.TLY_CFG_FAR_EN) ∧ ¬idle) ∨ (was = false ∧ m = true ∧ s.tly.staged = false) ∨
      (was = true ∧ m = false ∧ f = false)
    (getBits v 4 3 ≤ 4) ∧
    (bad))
  | 2 => holds (
    (s.memWf = true) ∧
    (s.domOn Dom.tally = true) ∧
    (4 < getBits v 4 3))
  | 3 => holds (
    (s.memWf = true) ∧
    (s.domOn Dom.tally = true) ∧
    let base := getBits v 27 5
    let fits : Prop := s.mode = .setup ∧ s.bit F.TLY_CFG_FAR_EN = false ∧ (base + 1) * 2 ^ 27 ≤ s.memcCap
    (fits))
  | 4 => holds (
    (s.memWf = true) ∧
    (s.domOn Dom.tally = true) ∧
    let base := getBits v 27 5
    let fits : Prop := s.mode = .setup ∧ s.bit F.TLY_CFG_FAR_EN = false ∧ (base + 1) * 2 ^ 27 ≤ s.memcCap
    (¬fits))
  | 5 => holds (
    (s.memWf = true) ∧
    (s.domOn Dom.tally = true))
  | 6 => holds (
    (s.memWf = true) ∧
    (s.domOn Dom.tally = true) ∧
    (1 ≤ getBits v 0 13) ∧
    (getBits v 0 13 ≤ 4096))
  | 7 => holds (
    (s.memWf = true) ∧
    (s.domOn Dom.tally = true) ∧
    (getBits v 0 13 = 0 ∨ 4096 < getBits v 0 13))
  | _ => true

theorem witness_TallySettings :
    (∀ c ∈ [0, 4, 5, 6], meets_TallySettings c setup 2 3) ∧
    meets_TallySettings 1 (moving {}) 2 3 ∧
    meets_TallySettings 2 setup 0x50 3 ∧
    (∀ c ∈ [3, 7], meets_TallySettings c memory 0 3) := by decide +kernel

/-- The hypotheses of the clauses of JoistArithmetic. -/
def meets_JoistArithmetic (clause k : Nat) (s : State) (n : Fin 8) : Bool :=
  match clause with
  | 0 => holds (
    (s.memWf = true) ∧
    (issuesB s n k = true))
  | 18 => holds (
    (s.memWf = true) ∧
    (issuesB s n 0x28 = true))
  | _ => true

theorem witness_JoistArithmetic :
    meets_JoistArithmetic 0 0x10 (joist [0x10, 5, 6, 7, 0] 9 3) 2 ∧
    meets_JoistArithmetic 0 0x11 (joist [0x11, 5, 6, 7, 0] 9 3) 2 ∧
    meets_JoistArithmetic 0 0x12 (joist [0x12, 5, 6, 7, 0] 9 3) 2 ∧
    meets_JoistArithmetic 0 0x13 (joist [0x13, 5, 6, 7, 0] 9 3) 2 ∧
    meets_JoistArithmetic 0 0x14 (joist [0x14, 5, 6, 7, 0] 9 3) 2 ∧
    meets_JoistArithmetic 0 0x15 (joist [0x15, 5, 6, 7, 0] 9 3) 2 ∧
    meets_JoistArithmetic 0 0x16 (joist [0x16, 5, 6, 7, 0] 9 3) 2 ∧
    meets_JoistArithmetic 0 0x17 (joist [0x17, 5, 6, 7, 0] 9 3) 2 ∧
    meets_JoistArithmetic 0 0x18 (joist [0x18, 5, 6, 7, 0] 9 3) 2 ∧
    meets_JoistArithmetic 0 0x19 (joist [0x19, 5, 6, 7, 0] 9 3) 2 ∧
    meets_JoistArithmetic 0 0x1A (joist [0x1A, 5, 6, 7, 0] 9 3) 2 ∧
    meets_JoistArithmetic 0 0x1B (joist [0x1B, 5, 6, 7, 0] 9 3) 2 := by decide +kernel

theorem witness_JoistArithmetic_b :
    meets_JoistArithmetic 0 0x20 (joist [0x20, 5, 6, 7, 0] 9 3) 2 ∧
    meets_JoistArithmetic 0 0x21 (joist [0x21, 5, 6, 7, 0] 9 3) 2 ∧
    meets_JoistArithmetic 0 0x22 (joist [0x22, 5, 6, 7, 0] 9 3) 2 ∧
    meets_JoistArithmetic 0 0x23 (joist [0x23, 5, 6, 7, 0] 9 3) 2 ∧
    meets_JoistArithmetic 0 0x24 (joist [0x24, 5, 6, 7, 0] 9 3) 2 ∧
    meets_JoistArithmetic 0 0x25 (joist [0x25, 5, 6, 7, 0] 9 3) 2 ∧
    meets_JoistArithmetic 18 0 (joist [0x28, 5, 6, 7, 0] 9 3) 2 ∧
    meets_JoistArithmetic 0 0x29 (joist [0x29, 5, 6, 7, 0] 9 3) 2 ∧
    meets_JoistArithmetic 0 0x30 (joist [0x30, 5, 6, 7, 0] 9 3) 2 ∧
    meets_JoistArithmetic 0 0x31 (joist [0x31, 5, 6, 7, 0] 9 3) 2 ∧
    meets_JoistArithmetic 0 0x32 (joist [0x32, 5, 6, 7, 0] 9 3) 2 ∧
    meets_JoistArithmetic 0 0x33 (joist [0x33, 5, 6, 7, 0] 9 3) 2 := by decide +kernel

theorem witness_JoistArithmetic_c :
    meets_JoistArithmetic 0 0x34 (joist [0x34, 5, 6, 7, 0] 9 3) 2 ∧
    meets_JoistArithmetic 0 0x35 (joist [0x35, 5, 6, 7, 0] 9 3) 2 ∧
    meets_JoistArithmetic 0 0x36 (joist [0x36, 5, 6, 7, 0] 9 3) 2 ∧
    meets_JoistArithmetic 0 0x38 (joist [0x38, 5, 6, 7, 0] 9 3) 2 ∧
    meets_JoistArithmetic 0 0x39 (joist [0x39, 5, 6, 7, 0] 9 3) 2 ∧
    meets_JoistArithmetic 0 0x3A (joist [0x3A, 5, 6, 7, 0] 9 3) 2 ∧
    meets_JoistArithmetic 0 0x3B (joist [0x3B, 5, 6, 7, 0] 9 3) 2 ∧
    meets_JoistArithmetic 0 0x3C (joist [0x3C, 5, 6, 7, 0] 9 3) 2 ∧
    meets_JoistArithmetic 0 0x3D (joist [0x3D, 5, 6, 7, 0] 9 3) 2 ∧
    meets_JoistArithmetic 0 0x1C (joist [0x1C, 5, 6, 7, 0] 9 3) 2 ∧
    meets_JoistArithmetic 0 0x1D (joist [0x1D, 5, 6, 7, 0] 9 3) 2 ∧
    meets_JoistArithmetic 0 0x1E (joist [0x1E, 5, 6, 7, 0] 9 3) 2 := by decide +kernel

theorem witness_JoistArithmetic_d :
    meets_JoistArithmetic 0 0x1F (joist [0x1F, 5, 6, 7, 0] 9 3) 2 := by decide +kernel

/-- The hypotheses of the clauses of JoistDecimalInstructions. -/
def meets_JoistDecimalInstructions (clause k : Nat) (s : State) (n : Fin 8) : Bool :=
  match clause with
  | 0 => holds (
    (s.memWf = true) ∧
    let x := s.jFetch n
    let a := s.jReg n (x.r 1)
    let b := s.jReg n (x.r 2)
    let bad1 : Bool := (List.range 8).any fun i => decide (9 < nib a i)
    let bad : Bool := bad1 || (List.range 8).any fun i => decide (9 < nib b i)
    (bad = false) ∧
    (issuesB s n k = true))
  | 4 => holds (
    (s.memWf = true) ∧
    (issuesB s n k = true))
  | _ => true

theorem witness_JoistDecimalInstructions :
    (∀ c ∈ [0, 4], meets_JoistDecimalInstructions c 0x70 (joist [0x70, 5, 6, 7, 0x85] 9 3) 2) ∧
    (∀ c ∈ [0, 4], meets_JoistDecimalInstructions c 0x71 (joist [0x71, 5, 6, 7, 0x85] 9 3) 2) ∧
    (∀ c ∈ [0, 4], meets_JoistDecimalInstructions c 0x72 (joist [0x72, 5, 6, 7, 0x85] 9 3) 2) ∧
    (∀ c ∈ [0, 4], meets_JoistDecimalInstructions c 0x73 (joist [0x73, 5, 6, 7, 0x85] 9 3) 2) ∧
    meets_JoistDecimalInstructions 4 0x74 (joist [0x74, 5, 6, 7, 0x85] 9 3) 2 ∧
    meets_JoistDecimalInstructions 4 0x75 (joist [0x75, 5, 6, 7, 0x85] 9 3) 2 ∧
    meets_JoistDecimalInstructions 4 0x76 (joist [0x76, 5, 6, 7, 0x85] 9 3) 2 ∧
    meets_JoistDecimalInstructions 4 0x77 (joist [0x77, 5, 6, 7, 0x85] 9 3) 2 := by decide +kernel

/-- The hypotheses of the clauses of JoistControlAndTaskInstructions. -/
def meets_JoistControlAndTaskInstructions (clause : Nat) (s : State) (n : Fin 8) : Bool :=
  match clause with
  | 0 => holds (
    (s.memWf = true) ∧
    (issuesB s n 0x00 = true))
  | 1 => holds (
    (s.memWf = true) ∧
    (issuesB s n 0x40 = true))
  | 2 => holds (
    (s.memWf = true) ∧
    (issuesB s n 0x41 = true))
  | 3 => holds (
    (s.memWf = true) ∧
    (issuesB s n 0x42 = true))
  | 4 => holds (
    (s.memWf = true) ∧
    (issuesB s n 0x44 = true))
  | 5 => holds (
    (s.memWf = true) ∧
    (issuesB s n 0x45 = true))
  | 6 => holds (
    (s.memWf = true) ∧
    (issuesB s n 0x46 = true))
  | 7 => holds (
    (s.memWf = true) ∧
    (issuesB s n 0x47 = true))
  | 8 => holds (
    (s.memWf = true) ∧
    (issuesB s n 0x01 = true) ∧
    ((∀ k : Fin 32, s.pegs[k].owner ≠ some (.task n))))
  | 9 => holds (
    (s.memWf = true) ∧
    (issuesB s n 0x01 = true) ∧
    ((∃ k : Fin 32, s.pegs[k].owner = some (.task n))))
  | 10 => holds (
    (s.memWf = true) ∧
    let x := s.jFetch n
    let task := s.tasks[n]
    let r (i : Nat) : Word := s.jReg n (x.r i)
    let ev := s.fld (F.SEQ_Tn_EV n)
    let m := (r 1).toNat % 1024
    (issuesB s n 0x02 = true) ∧
    (task.woken = true ∨ ev &&& m ≠ 0))
  | 11 => holds (
    (s.memWf = true) ∧
    let x := s.jFetch n
    let task := s.tasks[n]
    let r (i : Nat) : Word := s.jReg n (x.r i)
    let m := (r 1).toNat % 1024
    (issuesB s n 0x02 = true) ∧
    (task.woken = false) ∧
    (m = 0))
  | 12 => holds (
    (s.memWf = true) ∧
    let x := s.jFetch n
    let task := s.tasks[n]
    let r (i : Nat) : Word := s.jReg n (x.r i)
    let ev := s.fld (F.SEQ_Tn_EV n)
    let m := (r 1).toNat % 1024
    (issuesB s n 0x02 = true) ∧
    (task.woken = false) ∧
    (ev &&& m = 0) ∧
    (m ≠ 0))
  | 13 => holds (
    (s.memWf = true) ∧
    let task := s.tasks[n]
    (issuesB s n 0x03 = true) ∧
    (task.inflight = 0))
  | 14 => holds (
    (s.memWf = true) ∧
    let task := s.tasks[n]
    (issuesB s n 0x03 = true) ∧
    (task.inflight ≠ 0))
  | 15 => holds (
    (s.memWf = true) ∧
    let x := s.jFetch n
    let p : Fin 32 := Fin.ofNat 32 (x.b 1)
    let peg := s.pegs[p]
    (issuesB s n 0x08 = true) ∧
    (peg.owner ≠ none))
  | 16 => holds (
    (s.memWf = true) ∧
    let x := s.jFetch n
    let p : Fin 32 := Fin.ofNat 32 (x.b 1)
    let peg := s.pegs[p]
    (issuesB s n 0x08 = true) ∧
    (peg.owner = none))
  | 17 => holds (
    (s.memWf = true) ∧
    let x := s.jFetch n
    let p : Fin 32 := Fin.ofNat 32 (x.b 1)
    let peg := s.pegs[p]
    (issuesB s n 0x0A = true) ∧
    (peg.owner = some (.task n)) ∧
    (peg.st = .broken))
  | 18 => holds (
    (s.memWf = true) ∧
    let x := s.jFetch n
    let p : Fin 32 := Fin.ofNat 32 (x.b 1)
    let peg := s.pegs[p]
    (issuesB s n 0x0A = true) ∧
    (¬(peg.owner = some (.task n) ∧ peg.st = .broken)))
  | 19 => holds (
    (s.memWf = true) ∧
    let x := s.jFetch n
    let q : Fin 32 := Fin.ofNat 32 (x.b 0)
    (issuesB s n 0x09 = true) ∧
    (s.pegs[q].owner = some (.task n)))
  | 20 => holds (
    (s.memWf = true) ∧
    let x := s.jFetch n
    let q : Fin 32 := Fin.ofNat 32 (x.b 0)
    (issuesB s n 0x09 = true) ∧
    (s.pegs[q].owner ≠ some (.task n)))
  | _ => true

theorem witness_JoistControlAndTaskInstructions :
    meets_JoistControlAndTaskInstructions 0 (joist [0x00, 5, 6, 7, 0x85] 9 3) 2 ∧
    meets_JoistControlAndTaskInstructions 1 (joist [0x40, 5, 6, 7, 0x85] 9 3) 2 ∧
    meets_JoistControlAndTaskInstructions 2 (joist [0x41, 5, 6, 7, 0x85] 9 3) 2 ∧
    meets_JoistControlAndTaskInstructions 3 (joist [0x42, 5, 6, 7, 0x85] 9 3) 2 ∧
    meets_JoistControlAndTaskInstructions 4 (joist [0x44, 5, 6, 7, 0x85] 9 3) 2 ∧
    meets_JoistControlAndTaskInstructions 5 (joist [0x45, 5, 6, 7, 0x85] 9 3) 2 ∧
    meets_JoistControlAndTaskInstructions 6 (joist [0x46, 5, 6, 7, 0x85] 9 3) 2 ∧
    meets_JoistControlAndTaskInstructions 7 (joist [0x47, 5, 6, 7, 0x85] 9 3) 2 ∧
    meets_JoistControlAndTaskInstructions 8 (joist [0x01] 9 3) 2 ∧
    meets_JoistControlAndTaskInstructions 9 (pegged (joist [0x01]) { st := .held, owner := some (.task 2), epoch := 3 }) 2 ∧
    meets_JoistControlAndTaskInstructions 10 ((joist [0x02, 5, 6] 9 3).setFld (F.SEQ_Tn_EV 2) 9) 2 ∧
    meets_JoistControlAndTaskInstructions 11 (joist [0x02, 5, 6] 0 3) 2 := by decide +kernel

theorem witness_JoistControlAndTaskInstructions_b :
    meets_JoistControlAndTaskInstructions 12 (joist [0x02, 5, 6] 9 3) 2 ∧
    meets_JoistControlAndTaskInstructions 13 (joist [0x03, 5] 9 3) 2 ∧
    meets_JoistControlAndTaskInstructions 14 (joist [0x03, 5] |> fun s => { s with tasks := s.tasks.set 2 { s.tasks[2] with inflight := 1 } }) 2 ∧
    meets_JoistControlAndTaskInstructions 15 (pegged (joist [0x08, 5, 6]) { st := .held, owner := some (.task 2), epoch := 3 }) 2 ∧
    meets_JoistControlAndTaskInstructions 16 (joist [0x08, 5, 6] 9 3) 2 ∧
    meets_JoistControlAndTaskInstructions 17 (pegged (joist [0x0A, 5, 6]) { st := .broken, owner := some (.task 2), epoch := 3 }) 2 ∧
    meets_JoistControlAndTaskInstructions 18 (joist [0x0A, 5, 6]) 2 ∧
    meets_JoistControlAndTaskInstructions 19 (pegged (joist [0x09, 6]) { st := .held, owner := some (.task 2), epoch := 3 }) 2 ∧
    meets_JoistControlAndTaskInstructions 20 (joist [0x09, 6]) 2 := by decide +kernel

/-- The hypotheses of the clauses of JoistMemoryInstructions. -/
def meets_JoistMemoryInstructions (clause k size : Nat) (s : State) (n : Fin 8) (q : RingReq) (ans : RingResp) (rest : List (RingReq × RingResp)) (gen : Nat) (rn : Fin 32) (u : JoistUse) : Bool :=
  match clause with
  | 0 => holds (
    (s.memWf = true) ∧
    let x := s.jFetch n
    let stop := x.b 2 % 16
    let own : Prop := stop = 1 ∧ s.mode ≠ .fallback
    let long : Bool := (BitVec.ofNat 8 (x.b 2)).getLsbD 5
    let ofs (i : Nat) : Nat := ((s.jReg n (x.r 1)).toNat + (x.simm i (if long then 4 else 2)).toNat) % 2 ^ 32
    let o := ofs 3
    (issuesB s n k = true) ∧
    (own) ∧
    (o % size = 0) ∧
    (o + size ≤ 0x40000))
  | 1 => holds (
    (s.memWf = true) ∧
    let x := s.jFetch n
    let stop := x.b 2 % 16
    let long : Bool := (BitVec.ofNat 8 (x.b 2)).getLsbD 5
    let ofs (i : Nat) : Nat := ((s.jReg n (x.r 1)).toNat + (x.simm i (if long then 4 else 2)).toNat) % 2 ^ 32
    let o := ofs 3
    (issuesB s n k = true) ∧
    (stop ≠ 1) ∧
    (o % size = 0) ∧
    (s.seqTagsFull = false))
  | 2 => holds (
    (s.memWf = true) ∧
    let x := s.jFetch n
    let stop := x.b 2 % 16
    let long : Bool := (BitVec.ofNat 8 (x.b 2)).getLsbD 5
    let nb : Bool := (BitVec.ofNat 8 (x.b 2)).getLsbD 4
    let ofs (i : Nat) : Nat := ((s.jReg n (x.r 1)).toNat + (x.simm i (if long then 4 else 2)).toNat) % 2 ^ 32
    let o := ofs 3
    (issuesB s n k = true) ∧
    (stop ≠ 1) ∧
    (o % size = 0) ∧
    (s.seqTagsFull = true) ∧
    (nb = false))
  | 3 => holds (
    (s.memWf = true) ∧
    let x := s.jFetch n
    let stop := x.b 2 % 16
    let long : Bool := (BitVec.ofNat 8 (x.b 2)).getLsbD 5
    let nb : Bool := (BitVec.ofNat 8 (x.b 2)).getLsbD 4
    let ofs (i : Nat) : Nat := ((s.jReg n (x.r 1)).toNat + (x.simm i (if long then 4 else 2)).toNat) % 2 ^ 32
    let o := ofs 3
    (issuesB s n k = true) ∧
    (stop ≠ 1) ∧
    (o % size = 0) ∧
    (s.seqTagsFull = true) ∧
    (nb = true))
  | 4 => holds (
    (s.memWf = true) ∧
    let x := s.jFetch n
    let stop := x.b 2 % 16
    let long : Bool := (BitVec.ofNat 8 (x.b 2)).getLsbD 5
    let ofs (i : Nat) : Nat := ((s.jReg n (x.r 1)).toNat + (x.simm i (if long then 4 else 2)).toNat) % 2 ^ 32
    let o := ofs 3
    (issuesB s n k = true) ∧
    (o % size ≠ 0 ∨ (stop = 1 ∧ offsetInUse 1 o = false ∧ s.accessDown 1 o = false)))
  | 40 => holds (
    (s.memWf = true) ∧
    let x := s.jFetch n
    let stop := x.b 2 % 16
    let own : Prop := stop = 1 ∧ s.mode ≠ .fallback
    let long : Bool := (BitVec.ofNat 8 (x.b 2)).getLsbD 5
    let ofs (i : Nat) : Nat := ((s.jReg n (x.r 1)).toNat + (x.simm i (if long then 4 else 2)).toNat) % 2 ^ 32
    let oa := ofs 4
    (issuesB s n k = true) ∧
    (own) ∧
    (oa % 4 = 0) ∧
    (oa + 4 ≤ 0x40000))
  | 41 => holds (
    (s.memWf = true) ∧
    let x := s.jFetch n
    let stop := x.b 2 % 16
    let long : Bool := (BitVec.ofNat 8 (x.b 2)).getLsbD 5
    let ofs (i : Nat) : Nat := ((s.jReg n (x.r 1)).toNat + (x.simm i (if long then 4 else 2)).toNat) % 2 ^ 32
    let oa := ofs 4
    (issuesB s n k = true) ∧
    (stop ≠ 1) ∧
    (oa % 4 = 0) ∧
    (s.seqTagsFull = false))
  | 42 => holds (
    (s.memWf = true) ∧
    let x := s.jFetch n
    let stop := x.b 2 % 16
    let long : Bool := (BitVec.ofNat 8 (x.b 2)).getLsbD 5
    let nb : Bool := (BitVec.ofNat 8 (x.b 2)).getLsbD 4
    let ofs (i : Nat) : Nat := ((s.jReg n (x.r 1)).toNat + (x.simm i (if long then 4 else 2)).toNat) % 2 ^ 32
    let oa := ofs 4
    (issuesB s n k = true) ∧
    (stop ≠ 1) ∧
    (oa % 4 = 0) ∧
    (s.seqTagsFull = true) ∧
    (nb = false))
  | 43 => holds (
    (s.memWf = true) ∧
    let x := s.jFetch n
    let stop := x.b 2 % 16
    let long : Bool := (BitVec.ofNat 8 (x.b 2)).getLsbD 5
    let nb : Bool := (BitVec.ofNat 8 (x.b 2)).getLsbD 4
    let ofs (i : Nat) : Nat := ((s.jReg n (x.r 1)).toNat + (x.simm i (if long then 4 else 2)).toNat) % 2 ^ 32
    let oa := ofs 4
    (issuesB s n k = true) ∧
    (stop ≠ 1) ∧
    (oa % 4 = 0) ∧
    (s.seqTagsFull = true) ∧
    (nb = true))
  | 44 => holds (
    (s.memWf = true) ∧
    let x := s.jFetch n
    let stop := x.b 2 % 16
    let long : Bool := (BitVec.ofNat 8 (x.b 2)).getLsbD 5
    let ofs (i : Nat) : Nat := ((s.jReg n (x.r 1)).toNat + (x.simm i (if long then 4 else 2)).toNat) % 2 ^ 32
    let oa := ofs 4
    (issuesB s n k = true) ∧
    (oa % 4 ≠ 0 ∨ (stop = 1 ∧ 0x40000 ≤ oa ∧ s.accessDown 1 oa = false)))
  | 70 => holds (
    (s.memWf = true) ∧
    let task := s.tasks[n]
    let came : Prop := s.ni[1].inbox = (q, ans) :: rest ∧ q.client = .task n gen rn u
    (came) ∧
    (task.live ≤ gen) ∧
    (u ≠ .store) ∧
    (rn.val ≠ 0) ∧
    (s.domOn Dom.seq = true))
  | 71 => holds (
    (s.memWf = true) ∧
    let task := s.tasks[n]
    let came : Prop := s.ni[1].inbox = (q, ans) :: rest ∧ q.client = .task n gen rn u
    (came) ∧
    (task.live ≤ gen) ∧
    (u = .store ∨ rn.val = 0))
  | 72 => holds (
    (s.memWf = true) ∧
    let task := s.tasks[n]
    let came : Prop := s.ni[1].inbox = (q, ans) :: rest ∧ q.client = .task n gen rn u
    (came) ∧
    (gen < task.live))
  | 73 => holds (
    (s.memWf = true) ∧
    (s.ni[1].inbox = []))
  | _ => true

theorem witness_JoistMemoryInstructions :
    meets_JoistMemoryInstructions 0 0x50 1 (joist [0x50, 5, 6, 1, 0, 0] 0x200) 2 {} {} [] 7 5 .word ∧
    meets_JoistMemoryInstructions 73 0 0 (joist [0x50, 5, 6, 1, 0, 0] 0x200) 2 {} {} [] 7 5 .word ∧
    meets_JoistMemoryInstructions 1 0x50 1 (joist [0x50, 5, 6, 3, 0, 0] 0x200) 2 {} {} [] 7 5 .word ∧
    meets_JoistMemoryInstructions 2 0x50 1 (tagsFull (joist [0x50, 5, 6, 3, 0, 0] 0x200)) 2 {} {} [] 7 5 .word ∧
    meets_JoistMemoryInstructions 3 0x50 1 (tagsFull (joist [0x50, 5, 6, 0x13, 0, 0] 0x200)) 2 {} {} [] 7 5 .word ∧
    meets_JoistMemoryInstructions 4 0x50 1 (joist [0x50, 5, 6, 1, 0, 0] 0x90000) 2 {} {} [] 7 5 .word ∧
    meets_JoistMemoryInstructions 0 0x51 2 (joist [0x51, 5, 6, 1, 0, 0] 0x200) 2 {} {} [] 7 5 .word ∧
    meets_JoistMemoryInstructions 1 0x51 2 (joist [0x51, 5, 6, 3, 0, 0] 0x200) 2 {} {} [] 7 5 .word ∧
    meets_JoistMemoryInstructions 2 0x51 2 (tagsFull (joist [0x51, 5, 6, 3, 0, 0] 0x200)) 2 {} {} [] 7 5 .word ∧
    meets_JoistMemoryInstructions 3 0x51 2 (tagsFull (joist [0x51, 5, 6, 0x13, 0, 0] 0x200)) 2 {} {} [] 7 5 .word ∧
    meets_JoistMemoryInstructions 4 0x51 2 (joist [0x51, 5, 6, 1, 0, 0] 0x101) 2 {} {} [] 7 5 .word ∧
    meets_JoistMemoryInstructions 0 0x52 4 (joist [0x52, 5, 6, 1, 0, 0] 0x200) 2 {} {} [] 7 5 .word := by decide +kernel

theorem witness_JoistMemoryInstructions_b :
    meets_JoistMemoryInstructions 1 0x52 4 (joist [0x52, 5, 6, 3, 0, 0] 0x200) 2 {} {} [] 7 5 .word ∧
    meets_JoistMemoryInstructions 2 0x52 4 (tagsFull (joist [0x52, 5, 6, 3, 0, 0] 0x200)) 2 {} {} [] 7 5 .word ∧
    meets_JoistMemoryInstructions 3 0x52 4 (tagsFull (joist [0x52, 5, 6, 0x13, 0, 0] 0x200)) 2 {} {} [] 7 5 .word ∧
    meets_JoistMemoryInstructions 4 0x52 4 (joist [0x52, 5, 6, 1, 0, 0] 0x101) 2 {} {} [] 7 5 .word ∧
    meets_JoistMemoryInstructions 0 0x53 1 (joist [0x53, 5, 6, 1, 0, 0] 0x200) 2 {} {} [] 7 5 .word ∧
    meets_JoistMemoryInstructions 1 0x53 1 (joist [0x53, 5, 6, 3, 0, 0] 0x200) 2 {} {} [] 7 5 .word ∧
    meets_JoistMemoryInstructions 2 0x53 1 (tagsFull (joist [0x53, 5, 6, 3, 0, 0] 0x200)) 2 {} {} [] 7 5 .word ∧
    meets_JoistMemoryInstructions 3 0x53 1 (tagsFull (joist [0x53, 5, 6, 0x13, 0, 0] 0x200)) 2 {} {} [] 7 5 .word ∧
    meets_JoistMemoryInstructions 4 0x53 1 (joist [0x53, 5, 6, 1, 0, 0] 0x90000) 2 {} {} [] 7 5 .word ∧
    meets_JoistMemoryInstructions 0 0x54 2 (joist [0x54, 5, 6, 1, 0, 0] 0x200) 2 {} {} [] 7 5 .word ∧
    meets_JoistMemoryInstructions 1 0x54 2 (joist [0x54, 5, 6, 3, 0, 0] 0x200) 2 {} {} [] 7 5 .word ∧
    meets_JoistMemoryInstructions 2 0x54 2 (tagsFull (joist [0x54, 5, 6, 3, 0, 0] 0x200)) 2 {} {} [] 7 5 .word := by decide +kernel

theorem witness_JoistMemoryInstructions_c :
    meets_JoistMemoryInstructions 3 0x54 2 (tagsFull (joist [0x54, 5, 6, 0x13, 0, 0] 0x200)) 2 {} {} [] 7 5 .word ∧
    meets_JoistMemoryInstructions 4 0x54 2 (joist [0x54, 5, 6, 1, 0, 0] 0x101) 2 {} {} [] 7 5 .word ∧
    meets_JoistMemoryInstructions 0 0x58 1 (joist [0x58, 5, 6, 1, 0, 0] 0x200) 2 {} {} [] 7 5 .word ∧
    meets_JoistMemoryInstructions 1 0x58 1 (joist [0x58, 5, 6, 3, 0, 0] 0x200) 2 {} {} [] 7 5 .word ∧
    meets_JoistMemoryInstructions 2 0x58 1 (tagsFull (joist [0x58, 5, 6, 3, 0, 0] 0x200)) 2 {} {} [] 7 5 .word ∧
    meets_JoistMemoryInstructions 3 0x58 1 (tagsFull (joist [0x58, 5, 6, 0x13, 0, 0] 0x200)) 2 {} {} [] 7 5 .word ∧
    meets_JoistMemoryInstructions 4 0x58 1 (joist [0x58, 5, 6, 1, 0, 0] 0x90000) 2 {} {} [] 7 5 .word ∧
    meets_JoistMemoryInstructions 0 0x59 2 (joist [0x59, 5, 6, 1, 0, 0] 0x200) 2 {} {} [] 7 5 .word ∧
    meets_JoistMemoryInstructions 1 0x59 2 (joist [0x59, 5, 6, 3, 0, 0] 0x200) 2 {} {} [] 7 5 .word ∧
    meets_JoistMemoryInstructions 2 0x59 2 (tagsFull (joist [0x59, 5, 6, 3, 0, 0] 0x200)) 2 {} {} [] 7 5 .word ∧
    meets_JoistMemoryInstructions 3 0x59 2 (tagsFull (joist [0x59, 5, 6, 0x13, 0, 0] 0x200)) 2 {} {} [] 7 5 .word ∧
    meets_JoistMemoryInstructions 4 0x59 2 (joist [0x59, 5, 6, 1, 0, 0] 0x101) 2 {} {} [] 7 5 .word := by decide +kernel

theorem witness_JoistMemoryInstructions_d :
    meets_JoistMemoryInstructions 0 0x5A 4 (joist [0x5A, 5, 6, 1, 0, 0] 0x200) 2 {} {} [] 7 5 .word ∧
    meets_JoistMemoryInstructions 1 0x5A 4 (joist [0x5A, 5, 6, 3, 0, 0] 0x200) 2 {} {} [] 7 5 .word ∧
    meets_JoistMemoryInstructions 2 0x5A 4 (tagsFull (joist [0x5A, 5, 6, 3, 0, 0] 0x200)) 2 {} {} [] 7 5 .word ∧
    meets_JoistMemoryInstructions 3 0x5A 4 (tagsFull (joist [0x5A, 5, 6, 0x13, 0, 0] 0x200)) 2 {} {} [] 7 5 .word ∧
    meets_JoistMemoryInstructions 4 0x5A 4 (joist [0x5A, 5, 6, 1, 0, 0] 0x101) 2 {} {} [] 7 5 .word ∧
    meets_JoistMemoryInstructions 40 0x60 0 (joist [0xE4, 0x60, 5, 6, 1, 7, 0, 0] 0x200) 2 {} {} [] 7 5 .word ∧
    meets_JoistMemoryInstructions 41 0x60 0 (joist [0xE4, 0x60, 5, 6, 3, 7, 0, 0] 0x200) 2 {} {} [] 7 5 .word ∧
    meets_JoistMemoryInstructions 42 0x60 0 (tagsFull (joist [0xE4, 0x60, 5, 6, 3, 7, 0, 0] 0x200)) 2 {} {} [] 7 5 .word ∧
    meets_JoistMemoryInstructions 43 0x60 0 (tagsFull (joist [0xE4, 0x60, 5, 6, 0x13, 7, 0, 0] 0x200)) 2 {} {} [] 7 5 .word ∧
    meets_JoistMemoryInstructions 44 0x60 0 (joist [0xE4, 0x60, 5, 6, 1, 7, 0, 0] 0x202) 2 {} {} [] 7 5 .word ∧
    meets_JoistMemoryInstructions 40 0x61 0 (joist [0xE4, 0x61, 5, 6, 1, 7, 0, 0] 0x200) 2 {} {} [] 7 5 .word ∧
    meets_JoistMemoryInstructions 41 0x61 0 (joist [0xE4, 0x61, 5, 6, 3, 7, 0, 0] 0x200) 2 {} {} [] 7 5 .word := by decide +kernel

theorem witness_JoistMemoryInstructions_e :
    meets_JoistMemoryInstructions 42 0x61 0 (tagsFull (joist [0xE4, 0x61, 5, 6, 3, 7, 0, 0] 0x200)) 2 {} {} [] 7 5 .word ∧
    meets_JoistMemoryInstructions 43 0x61 0 (tagsFull (joist [0xE4, 0x61, 5, 6, 0x13, 7, 0, 0] 0x200)) 2 {} {} [] 7 5 .word ∧
    meets_JoistMemoryInstructions 44 0x61 0 (joist [0xE4, 0x61, 5, 6, 1, 7, 0, 0] 0x202) 2 {} {} [] 7 5 .word ∧
    meets_JoistMemoryInstructions 40 0x62 0 (joist [0xE4, 0x62, 5, 6, 1, 7, 0, 0] 0x200) 2 {} {} [] 7 5 .word ∧
    meets_JoistMemoryInstructions 41 0x62 0 (joist [0xE4, 0x62, 5, 6, 3, 7, 0, 0] 0x200) 2 {} {} [] 7 5 .word ∧
    meets_JoistMemoryInstructions 42 0x62 0 (tagsFull (joist [0xE4, 0x62, 5, 6, 3, 7, 0, 0] 0x200)) 2 {} {} [] 7 5 .word ∧
    meets_JoistMemoryInstructions 43 0x62 0 (tagsFull (joist [0xE4, 0x62, 5, 6, 0x13, 7, 0, 0] 0x200)) 2 {} {} [] 7 5 .word ∧
    meets_JoistMemoryInstructions 44 0x62 0 (joist [0xE4, 0x62, 5, 6, 1, 7, 0, 0] 0x202) 2 {} {} [] 7 5 .word ∧
    meets_JoistMemoryInstructions 40 0x63 0 (joist [0xE4, 0x63, 5, 6, 1, 7, 0, 0] 0x200) 2 {} {} [] 7 5 .word ∧
    meets_JoistMemoryInstructions 41 0x63 0 (joist [0xE4, 0x63, 5, 6, 3, 7, 0, 0] 0x200) 2 {} {} [] 7 5 .word ∧
    meets_JoistMemoryInstructions 42 0x63 0 (tagsFull (joist [0xE4, 0x63, 5, 6, 3, 7, 0, 0] 0x200)) 2 {} {} [] 7 5 .word ∧
    meets_JoistMemoryInstructions 43 0x63 0 (tagsFull (joist [0xE4, 0x63, 5, 6, 0x13, 7, 0, 0] 0x200)) 2 {} {} [] 7 5 .word := by decide +kernel

theorem witness_JoistMemoryInstructions_f :
    meets_JoistMemoryInstructions 44 0x63 0 (joist [0xE4, 0x63, 5, 6, 1, 7, 0, 0] 0x202) 2 {} {} [] 7 5 .word ∧
    meets_JoistMemoryInstructions 40 0x64 0 (joist [0xE4, 0x64, 5, 6, 1, 7, 0, 0] 0x200) 2 {} {} [] 7 5 .word ∧
    meets_JoistMemoryInstructions 41 0x64 0 (joist [0xE4, 0x64, 5, 6, 3, 7, 0, 0] 0x200) 2 {} {} [] 7 5 .word ∧
    meets_JoistMemoryInstructions 42 0x64 0 (tagsFull (joist [0xE4, 0x64, 5, 6, 3, 7, 0, 0] 0x200)) 2 {} {} [] 7 5 .word ∧
    meets_JoistMemoryInstructions 43 0x64 0 (tagsFull (joist [0xE4, 0x64, 5, 6, 0x13, 7, 0, 0] 0x200)) 2 {} {} [] 7 5 .word ∧
    meets_JoistMemoryInstructions 44 0x64 0 (joist [0xE4, 0x64, 5, 6, 1, 7, 0, 0] 0x202) 2 {} {} [] 7 5 .word ∧
    meets_JoistMemoryInstructions 40 0x65 0 (joist [0xE4, 0x65, 5, 6, 1, 7, 0, 0] 0x200) 2 {} {} [] 7 5 .word ∧
    meets_JoistMemoryInstructions 41 0x65 0 (joist [0xE4, 0x65, 5, 6, 3, 7, 0, 0] 0x200) 2 {} {} [] 7 5 .word ∧
    meets_JoistMemoryInstructions 42 0x65 0 (tagsFull (joist [0xE4, 0x65, 5, 6, 3, 7, 0, 0] 0x200)) 2 {} {} [] 7 5 .word ∧
    meets_JoistMemoryInstructions 43 0x65 0 (tagsFull (joist [0xE4, 0x65, 5, 6, 0x13, 7, 0, 0] 0x200)) 2 {} {} [] 7 5 .word ∧
    meets_JoistMemoryInstructions 44 0x65 0 (joist [0xE4, 0x65, 5, 6, 1, 7, 0, 0] 0x202) 2 {} {} [] 7 5 .word ∧
    meets_JoistMemoryInstructions 70 0 0 { joist [0] with ni := setup.ni.set 1 { inbox := [({ client := .task 2 7 5 .word, dst := 3 }, { data := [1, 2, 3, 4] })] } } 2 { client := .task 2 7 5 .word, dst := 3 } { data := [1, 2, 3, 4] } [] 7 5 .word := by decide +kernel

theorem witness_JoistMemoryInstructions_g :
    meets_JoistMemoryInstructions 71 0 0 { joist [0] with ni := setup.ni.set 1 { inbox := [({ client := .task 2 7 0 .store, dst := 3 }, {})] } } 2 { client := .task 2 7 0 .store, dst := 3 } {} [] 7 0 .store ∧
    meets_JoistMemoryInstructions 72 0 0 { joist [0] with ni := setup.ni.set 1 { inbox := [({ client := .task 2 6 5 .word, dst := 3 }, {})] }, tasks := (joist [0]).tasks.set 2 { (joist [0]).tasks[2] with live := 7, outst := 2 } } 2 { client := .task 2 6 5 .word, dst := 3 } {} [] 6 5 .word := by decide +kernel

/-- The hypotheses of the clauses of TasksTimersEventsAndTheSwitch. -/
def meets_TasksTimersEventsAndTheSwitch (clause : Nat) (s : State) (n : Fin 8) (b : Fin 8) (_v : Word) (_took : Nat) : Bool :=
  match clause with
  | 0 => holds (
    (s.memWf = true) ∧
    (s.domOn Dom.seq = true) ∧
    (s.taskSt[n] = .off))
  | 1 => holds (
    (s.memWf = true) ∧
    (s.domOn Dom.seq = true) ∧
    (s.taskSt[n] ≠ .off))
  | 3 => holds (
    (s.memWf = true) ∧
    (s.domOn Dom.seq = true) ∧
    (s.taskSt[n] ≠ .off) ∧
    ((∀ p : Fin 32, s.pegs[p].owner ≠ some (.task n))) ∧
    (s.trs.queue = []))
  | 4 => holds (
    (s.memWf = true) ∧
    (s.domOn Dom.seq = true))
  | 6 => holds (
    (s.memWf = true) ∧
    (s.domOn Dom.seq = true) ∧
    let task := s.tasks[n]
    (task.timerOn = true))
  | 7 => holds (
    (s.memWf = true) ∧
    (s.domOn Dom.seq = true) ∧
    let task := s.tasks[n]
    (task.timerOn = false))
  | 9 => holds (
    (s.memWf = true) ∧
    (s.domOn Dom.seq = true) ∧
    (s.fld F.SEQ_SCHED_QUANTUM ≠ 0) ∧
    (s.taskSt[n] = .run))
  | 10 => holds (
    (s.memWf = true) ∧
    (s.domOn Dom.seq = true) ∧
    (s.fld F.SEQ_SCHED_QUANTUM = 0))
  | 11 => holds (
    (s.memWf = true) ∧
    (s.domOn Dom.seq = true) ∧
    ((∀ m : Fin 8, s.waitEnded m = false)) ∧
    (s.runTask = none) ∧
    (s.bestReady = some b))
  | 12 => holds (
    (s.memWf = true) ∧
    (s.domOn Dom.seq = true) ∧
    ((∀ m : Fin 8, s.waitEnded m = false)) ∧
    (s.runTask = some n) ∧
    ((s.tasks[n]).wait ≠ .none) ∧
    (s.bestReady = some b))
  | 13 => holds (
    (s.memWf = true) ∧
    (s.domOn Dom.seq = true) ∧
    ((∀ m : Fin 8, s.waitEnded m = false)) ∧
    (s.runTask = some n) ∧
    ((s.tasks[n]).wait = .none) ∧
    (s.bestReady = some b) ∧
    (s.fld (F.SEQ_Tn_PRI b) < s.fld (F.SEQ_Tn_PRI n) ∨ (s.fld (F.SEQ_Tn_PRI b) = s.fld (F.SEQ_Tn_PRI n) ∧ s.fld F.SEQ_SCHED_QUANTUM ≠ 0 ∧ s.fld F.SEQ_SCHED_QUANTUM ≤ s.ranUnits)))
  | 14 => holds (
    (s.memWf = true) ∧
    (s.domOn Dom.seq = true) ∧
    ((∀ m : Fin 8, s.waitEnded m = false)) ∧
    (s.bestReady = none))
  | _ => true

theorem witness_TasksTimersEventsAndTheSwitch :
    (∀ c ∈ [0, 4, 7, 10, 14], meets_TasksTimersEventsAndTheSwitch c setup 3 3 5 7) ∧
    (∀ c ∈ [1, 3], meets_TasksTimersEventsAndTheSwitch c (joist [0]) 2 3 0x55 7) ∧
    meets_TasksTimersEventsAndTheSwitch 6 { setup with tasks := setup.tasks.set 3 { timerOn := true } } 3 3 5 7 ∧
    meets_TasksTimersEventsAndTheSwitch 9 (joist [0] |>.setFld F.SEQ_SCHED_QUANTUM 4) 2 3 0x55 7 ∧
    meets_TasksTimersEventsAndTheSwitch 11 readyTasks 3 1 5 7 ∧
    meets_TasksTimersEventsAndTheSwitch 12 { readyTasks with taskSt := readyTasks.taskSt.set 6 .run, tasks := readyTasks.tasks.set 6 { wait := .rsync, inflight := 1 } } 6 1 5 7 ∧
    meets_TasksTimersEventsAndTheSwitch 13 { readyTasks with taskSt := readyTasks.taskSt.set 6 .run } 6 1 5 7 := by decide +kernel

/-- The hypotheses of the clauses of PegRequests. -/
def meets_PegRequests (clause : Nat) (s : State) (q : PegParty) (p : Fin 32) : Bool :=
  match clause with
  | 0 => holds (
    (s.memWf = true) ∧
    (s.domOn Dom.seq = true) ∧
    (s.cp.sess.active = true) ∧
    let peg := s.pegs[p]
    (peg.owner = none))
  | 1 => holds (
    (s.memWf = true) ∧
    (s.domOn Dom.seq = true) ∧
    (s.cp.sess.active = true) ∧
    let peg := s.pegs[p]
    (peg.owner ≠ none))
  | 2 => holds (
    (s.memWf = true) ∧
    (s.domOn Dom.seq = true) ∧
    (s.cp.sess.active = true) ∧
    let me : PegOwner := match q with | .host => .host | .jig => .jig | .supv => .supv
    let peg := s.pegs[p]
    (peg.st = .broken) ∧
    (peg.owner = some me))
  | 3 => holds (
    (s.memWf = true) ∧
    (s.domOn Dom.seq = true) ∧
    (s.cp.sess.active = true) ∧
    let me : PegOwner := match q with | .host => .host | .jig => .jig | .supv => .supv
    let peg := s.pegs[p]
    (¬(peg.st = .broken ∧ peg.owner = some me)))
  | 4 => holds (
    (s.memWf = true) ∧
    (s.domOn Dom.seq = true) ∧
    (s.cp.sess.active = true) ∧
    let me : PegOwner := match q with | .host => .host | .jig => .jig | .supv => .supv
    let peg := s.pegs[p]
    (peg.owner = some me) ∧
    (peg.st = .held))
  | 5 => holds (
    (s.memWf = true) ∧
    (s.domOn Dom.seq = true) ∧
    (s.cp.sess.active = true) ∧
    let me : PegOwner := match q with | .host => .host | .jig => .jig | .supv => .supv
    let peg := s.pegs[p]
    (peg.owner = some me) ∧
    (peg.st = .broken))
  | 6 => holds (
    (s.memWf = true) ∧
    (s.domOn Dom.seq = true) ∧
    (s.cp.sess.active = true) ∧
    let me : PegOwner := match q with | .host => .host | .jig => .jig | .supv => .supv
    let peg := s.pegs[p]
    (peg.owner ≠ some me))
  | _ => true

theorem witness_PegRequests :
    (∀ c ∈ [0, 3, 6], meets_PegRequests c setup .host 6) ∧
    (∀ c ∈ [1, 4], meets_PegRequests c (pegged setup { st := .held, owner := some .host, epoch := 3 }) .host 6) ∧
    (∀ c ∈ [2, 5], meets_PegRequests c (pegged setup { st := .broken, owner := some .supv, epoch := 3 }) .supv 6) := by decide +kernel

/-- The hypotheses of the clauses of KerfBlocksAndEgressFrames. -/
def meets_KerfBlocksAndEgressFrames (clause : Nat) (s : State) (i : Fin 2) (b : StoreBuf) (c : KrfCfg) (lane : Fin 4) (k : KrfBlock) (f : Fin 64) (v : Word) (seq : Half) (_held : Nat) (sh : BufShare) : Bool :=
  match clause with
  | 0 => holds (
    (s.memWf = true) ∧
    (s.domOn Dom.egress = true) ∧
    (s.krfBuf? = some i) ∧
    (s.storeBufs[i] = some b) ∧
    (s.krfLane? = some lane) ∧
    (b.cfg = some c))
  | 1 => holds (
    (s.memWf = true) ∧
    (s.domOn Dom.egress = true) ∧
    (s.krfBuf? = some i) ∧
    (s.storeBufs[i] = some b) ∧
    (s.krfLane? = some lane) ∧
    (b.cfg = none) ∧
    (s.bit (F.KRF_CTXc_CFG_EN b.ctx) = true) ∧
    (c = s.krfCfg b.ctx))
  | 2 => holds (
    (s.memWf = true) ∧
    (s.domOn Dom.egress = true) ∧
    (s.krfBuf? = some i) ∧
    (s.storeBufs[i] = some b) ∧
    (s.krfLane? = some lane) ∧
    (b.cfg = none) ∧
    (s.bit (F.KRF_CTXc_CFG_EN b.ctx) = false))
  | 3 => holds (
    (s.memWf = true) ∧
    (s.domOn Dom.egress = true) ∧
    (s.lanes[lane] = some k) ∧
    (k.payload = none) ∧
    (s.egrFreeBuf? = none) ∧
    (s.storeBufs[k.buf] = none))
  | 4 => holds (
    (s.memWf = true) ∧
    (s.domOn Dom.egress = true) ∧
    (s.bit F.EGR_CFG_EN = false))
  | 5 => holds (
    (s.memWf = true) ∧
    (s.domOn Dom.egress = true) ∧
    let plen := s.fld F.EGR_ENQ_D0_LEN
    (s.bit F.EGR_CFG_EN = true) ∧
    (s.fld F.EGR_ENQ_D0_TYPE = 2) ∧
    (1 ≤ plen) ∧
    (plen ≤ 4096) ∧
    (s.egrShare? .record = some sh) ∧
    (s.egrFreeBuf? = some f))
  | 6 => holds (
    (s.memWf = true) ∧
    (s.domOn Dom.egress = true) ∧
    (s.bit F.EGR_STAT_LINK_UP = true) ∧
    (s.egrNext? = some f))
  | 7 => holds (
    (s.memWf = true) ∧
    (s.domOn Dom.egress = true) ∧
    (s.bit F.EGR_STAT_LINK_UP = false))
  | 8 => holds (
    (s.memWf = true) ∧
    (s.domOn Dom.egress = true) ∧
    let rx : Prop := s.tapActs = false ∧ s.bit F.EGR_CFG_EN = true ∧ s.bit F.EGR_STAT_RX_SYNC = true
    (rx))
  | 9 => holds (
    (s.memWf = true) ∧
    (s.domOn Dom.egress = true) ∧
    let quiet : Prop := (∀ j : Fin 4, s.lanes[j] = none) ∧ s.egr.sumOpen = none ∧ s.egr.sumAcc = none ∧ s.egr.dropAcc = none
    let rx : Prop := s.tapActs = false ∧ s.bit F.EGR_CFG_EN = true ∧ s.bit F.EGR_STAT_RX_SYNC = true
    (rx) ∧
    (quiet) ∧
    (s.egrInflight? seq = some f))
  | 10 => holds (
    (s.memWf = true) ∧
    (s.domOn Dom.egress = true) ∧
    let rx : Prop := s.tapActs = false ∧ s.bit F.EGR_CFG_EN = true ∧ s.bit F.EGR_STAT_RX_SYNC = true
    (rx) ∧
    (s.egrInflight? seq = none))
  | 13 => holds (
    (s.memWf = true) ∧
    (s.domOn Dom.egress = true) ∧
    let fb := s.egr.bufs[f]
    (fb.st = .inflight) ∧
    (fb.resend = false) ∧
    (fb.sends ≤ s.fld F.EGR_CFG_RETRY_MAX))
  | 14 => holds (
    (s.memWf = true) ∧
    (s.domOn Dom.egress = true) ∧
    let fb := s.egr.bufs[f]
    let rx : Prop := s.tapActs = false ∧ s.bit F.EGR_CFG_EN = true ∧ s.bit F.EGR_STAT_RX_SYNC = true
    (fb.st = .inflight) ∧
    (fb.resend = false) ∧
    (fb.sends ≤ s.fld F.EGR_CFG_RETRY_MAX) ∧
    (rx) ∧
    (s.egrInflight? seq = some f))
  | 15 => holds (
    (s.memWf = true) ∧
    (s.domOn Dom.egress = true) ∧
    let fb := s.egr.bufs[f]
    let quiet : Prop := (∀ j : Fin 4, s.lanes[j] = none) ∧ s.egr.sumOpen = none ∧ s.egr.sumAcc = none ∧ s.egr.dropAcc = none
    (fb.st = .inflight) ∧
    (fb.resend = false) ∧
    (s.fld F.EGR_CFG_RETRY_MAX < fb.sends) ∧
    (f.val < 62) ∧
    (quiet))
  | 16 => holds (
    (s.memWf = true) ∧
    (s.domOn Dom.egress = true) ∧
    (s.egrFreeBuf? = none) ∧
    (s.lanes[lane] = some k) ∧
    (k.payload ≠ none) ∧
    (k.cfg.record = false))
  | 17 => holds (
    (s.memWf = true) ∧
    (s.domOn Dom.egress = true) ∧
    (s.bit F.EGR_CFG_EN = true))
  | 19 => holds (
    (s.memWf = true) ∧
    (s.domOn Dom.egress = true) ∧
    (getBits v 16 8 = 0))
  | 20 => holds (
    (s.memWf = true) ∧
    (s.domOn Dom.egress = true) ∧
    (getBits v 16 8 ≠ 0) ∧
    (v.getLsbD 0 = s.bit F.EGR_CFG_EN))
  | 21 => holds (
    (s.memWf = true) ∧
    (s.domOn Dom.egress = true) ∧
    (getBits v 16 8 ≠ 0) ∧
    (v.getLsbD 0 = true) ∧
    (s.bit F.EGR_CFG_EN = false))
  | 22 => holds (
    (s.memWf = true) ∧
    (s.domOn Dom.egress = true) ∧
    (getBits v 16 8 ≠ 0) ∧
    (v.getLsbD 0 = false) ∧
    (s.bit F.EGR_CFG_EN = true) ∧
    ((∀ j : Fin 4, s.lanes[j] = none)))
  | 23 => holds (
    (s.memWf = true) ∧
    (s.domOn Dom.egress = true) ∧
    (s.bit F.EGR_CFG_EN = false) ∧
    (getBits v 0 6 + getBits v 8 6 ≤ 61))
  | 24 => holds (
    (s.memWf = true) ∧
    (s.domOn Dom.egress = true) ∧
    (¬(s.bit F.EGR_CFG_EN = false ∧ getBits v 0 6 + getBits v 8 6 ≤ 61)))
  | _ => true

theorem witness_KerfBlocksAndEgressFrames :
    (∀ c ∈ [0, 4, 7, 19, 23], meets_KerfBlocksAndEgressFrames c { setup with storeBufs := #v[some { storeBuf with cfg := some codecCfg }, none] } 0 { storeBuf with cfg := some codecCfg } codecCfg 0 block1 7 0x0 5 7 .shared) ∧
    meets_KerfBlocksAndEgressFrames 1 (({ setup with storeBufs := #v[some storeBuf, none] } : State).raise (F.KRF_CTXc_CFG_EN 3)) 0 storeBuf (({ setup with storeBufs := #v[some storeBuf, none] } : State).krfCfg 3) 0 block1 7 0x0 5 7 .shared ∧
    meets_KerfBlocksAndEgressFrames 2 { setup with storeBufs := #v[some storeBuf, none] } 0 storeBuf codecCfg 0 block1 7 0x0 5 7 .shared ∧
    meets_KerfBlocksAndEgressFrames 3 (egressFull block1) 0 {} codecCfg 0 block1 7 0x0 5 7 .shared ∧
    (∀ c ∈ [5, 8, 10, 17, 24], meets_KerfBlocksAndEgressFrames c ((egressOn.setFld F.EGR_ENQ_D0_TYPE 2).setFld F.EGR_ENQ_D0_LEN 3) 0 {} codecCfg 0 block1 0 0 5 7 .resvRec) ∧
    meets_KerfBlocksAndEgressFrames 6 (egressBuf { st := .queued, seq := 5, frame := EgrFrame.make 1 .image 3 4 5 6 [1, 2] }) 0 {} codecCfg 0 block1 7 0x0 5 7 .shared ∧
    (∀ c ∈ [9, 13, 14], meets_KerfBlocksAndEgressFrames c (egressBuf inflight5) 0 {} codecCfg 0 block1 7 0x0 5 7 .shared) ∧
    meets_KerfBlocksAndEgressFrames 15 (egressBuf { inflight5 with sends := 200 }) 0 {} codecCfg 0 block1 7 0x0 5 7 .shared ∧
    meets_KerfBlocksAndEgressFrames 16 (egressFull { block1 with payload := some [1] }) 0 {} codecCfg 0 { block1 with payload := some [1] } 7 0x0 5 7 .shared ∧
    meets_KerfBlocksAndEgressFrames 20 setup 0 {} codecCfg 0 block1 7 0x50000 5 7 .shared ∧
    meets_KerfBlocksAndEgressFrames 21 setup 0 {} codecCfg 0 block1 7 0x50001 5 7 .shared ∧
    meets_KerfBlocksAndEgressFrames 22 egressOn 0 {} codecCfg 0 block1 7 0x50000 5 7 .shared := by decide +kernel

/-- The hypotheses of the clauses of DynakLinksAndMessages. -/
def meets_DynakLinksAndMessages (clause : Nat) (s : State) (p : DynPort) (_t : Nat) (_frac : Nat) (_r : Nat) (_fopen : Bool) (_flast : Bool) (_noexpo : Bool) (linepos : Bool) (_tgt : BitVec 24) (lnum : BitVec 24) (_turn : BitVec 24) (_pos : Pos) (hop : BitVec 5) (_gwin : Half) (_fnum : Word) (v : Word) (_idx : Byte) (bs : List Byte) (m : DynMsg) (q : List DynMsg) (a : Nat) (b : Nat) : Bool :=
  match clause with
  | 0 => holds (
    (s.memWf = true) ∧
    (s.dynOn = true) ∧
    let x := s.dynPort p
    (s.domOn Dom.dynak = true) ∧
    (x.trained = false) ∧
    ((s.bit F.DYN_CFG_AUTOCAL = false ∨ s.isMaster = true)))
  | 1 => holds (
    (s.memWf = true) ∧
    (s.dynOn = true) ∧
    let x := s.dynPort p
    (x.trained = true) ∧
    (p ≠ s.dynSrc))
  | 2 => holds (
    (s.memWf = true) ∧
    (s.dynOn = true) ∧
    (s.dyn.lost = false) ∧
    (s.dynMaster = false) ∧
    (s.canFailover = false))
  | 3 => holds (
    (s.memWf = true) ∧
    (s.dynOn = true) ∧
    (s.dyn.lost = false) ∧
    (s.dynMaster = false) ∧
    (s.canFailover = true))
  | 4 => holds (
    (s.memWf = true) ∧
    (s.dynOn = true) ∧
    let takes : Prop := s.dynTakes p = true
    (takes) ∧
    (s.mode = .lockstep) ∧
    (s.dynMaster = true))
  | 5 => holds (
    (s.memWf = true) ∧
    (s.dynOn = true) ∧
    let takes : Prop := s.dynTakes p = true
    let from_ : Prop := takes ∧ s.dynMaster = false ∧ p = s.dynSrc
    (from_) ∧
    (s.isFollower = true) ∧
    (s.dyn.tooLong = false) ∧
    (s.lineDup lnum = true))
  | 6 => holds (
    (s.memWf = true) ∧
    (s.dynOn = true) ∧
    let takes : Prop := s.dynTakes p = true
    let from_ : Prop := takes ∧ s.dynMaster = false ∧ p = s.dynSrc
    (from_) ∧
    (s.isFollower = true) ∧
    (s.dyn.tooLong = false) ∧
    (s.lineDup lnum = false) ∧
    (s.capture = true) ∧
    (s.dyn.freewheel = false) ∧
    (s.dyn.lastNum ≠ none) ∧
    (s.dyn.stopped = false))
  | 7 => holds (
    (s.memWf = true) ∧
    (s.dynOn = true) ∧
    let takes : Prop := s.dynTakes p = true
    let from_ : Prop := takes ∧ s.dynMaster = false ∧ p = s.dynSrc
    (from_) ∧
    (s.mode ≠ .lockstep ∨ s.dynMaster = false) ∧
    (s.dynForwards = false) ∧
    (linepos = false))
  | 8 => holds (
    (s.memWf = true) ∧
    (s.dynOn = true) ∧
    let takes : Prop := s.dynTakes p = true
    (takes) ∧
    (hop ≠ s.dyn.hop) ∧
    (s.dynForwards = false))
  | 9 => holds (
    (s.memWf = true) ∧
    (s.dynOn = true) ∧
    let takes : Prop := s.dynTakes p = true
    let from_ : Prop := takes ∧ s.dynMaster = false ∧ p = s.dynSrc
    (from_) ∧
    (s.lineQuiet = true))
  | 10 => holds (
    (s.memWf = true) ∧
    (s.dynOn = true) ∧
    let takes : Prop := s.dynTakes p = true
    let from_ : Prop := takes ∧ s.dynMaster = false ∧ p = s.dynSrc
    (from_))
  | 11 => holds (
    (s.memWf = true) ∧
    (s.dynOn = true) ∧
    let x := s.dynPort p
    let takes : Prop := s.dynTakes p = true
    (takes) ∧
    (x.txq.length < 16))
  | 12 => holds (
    (s.memWf = true) ∧
    (s.dynOn = true) ∧
    let takes : Prop := s.dynTakes p = true
    (takes) ∧
    (s.dyn.calBusy = true))
  | 13 => holds (
    (s.memWf = true) ∧
    (s.dynOn = true) ∧
    let takes : Prop := s.dynTakes p = true
    (takes) ∧
    (s.isMaster = false) ∧
    (p = .up) ∧
    (hop ≠ 31))
  | 14 => holds (
    (s.memWf = true) ∧
    (s.dynOn = true) ∧
    let takes : Prop := s.dynTakes p = true
    (takes) ∧
    (s.isMaster = false) ∧
    (p = .up))
  | 15 => holds (
    (s.memWf = true) ∧
    (s.dynOn = true) ∧
    let takes : Prop := s.dynTakes p = true
    (takes) ∧
    (s.dynForwards = false))
  | 16 => holds (
    (s.memWf = true) ∧
    (s.dynOn = true) ∧
    let takes : Prop := s.dynTakes p = true
    (takes))
  | 17 => holds (
    (s.memWf = true) ∧
    (s.dynOn = true) ∧
    let takes : Prop := s.dynTakes p = true
    (takes) ∧
    (DynMsg.parse bs = .crcFail))
  | 18 => holds (
    (s.memWf = true) ∧
    (s.dynOn = true) ∧
    let takes : Prop := s.dynTakes p = true
    (takes) ∧
    (DynMsg.parse bs = .reserved))
  | 19 => holds (
    (s.memWf = true) ∧
    (s.dynOn = true) ∧
    let x := s.dynPort p
    (dynPick x.txq = some (m, q)))
  | 21 => holds (
    (s.memWf = true) ∧
    (s.dynOn = true) ∧
    let room : Prop := s.dyn.up.txq.length < 13 ∧ s.dyn.dn.txq.length < 13
    (room) ∧
    (s.dyn.tooLong = false) ∧
    (s.dynMaster = true))
  | 22 => holds (
    (s.memWf = true) ∧
    (s.dynOn = true) ∧
    let room : Prop := s.dyn.up.txq.length < 13 ∧ s.dyn.dn.txq.length < 13
    (room) ∧
    (s.isMaster = true) ∧
    (s.fld F.DYN_POS_PER ≠ 0) ∧
    (s.trigPos ≠ s.dyn.lastPos))
  | 23 => holds (
    (s.memWf = true) ∧
    (s.dynOn = true) ∧
    (s.domOn Dom.dynak = true) ∧
    (v.getLsbD 0 = true) ∧
    (s.isMaster = false))
  | 24 => holds (
    (s.memWf = true) ∧
    (s.dynOn = true) ∧
    let x := s.dynPort p
    let ring := s.bit F.DYN_CFG_RING
    (s.dyn.calBusy = true) ∧
    (ring = false) ∧
    (p = s.dynSrc) ∧
    (x.calProbes < 64) ∧
    (x.txq.length < 16))
  | 25 => holds (
    (s.memWf = true) ∧
    (s.dynOn = true) ∧
    let x := s.dynPort p
    let ring := s.bit F.DYN_CFG_RING
    (s.dyn.calBusy = true) ∧
    (s.dyn.tooLong = false) ∧
    (ring = false) ∧
    (p = s.dynSrc) ∧
    (x.calEchoes < 48))
  | 26 => holds (
    (s.memWf = true) ∧
    (s.dynOn = true) ∧
    let x := s.dynPort p
    let ring := s.bit F.DYN_CFG_RING
    (s.dyn.calBusy = true) ∧
    (s.dyn.tooLong = false) ∧
    (ring = false) ∧
    (p = s.dynSrc) ∧
    (48 ≤ x.calEchoes))
  | 27 => holds (
    (s.memWf = true) ∧
    (s.dynOn = true) ∧
    let x := s.dynPort p
    (s.isFollower = true) ∧
    (s.capture = true) ∧
    (s.bit F.DYN_CFG_TRACK_EN = true) ∧
    (p = s.dynSrc) ∧
    (x.txq.length < 16))
  | 28 => holds (
    (s.memWf = true) ∧
    (s.dynOn = true) ∧
    (s.dyn.freewheel = true) ∧
    (s.capture = true) ∧
    (s.dyn.prevTarget = some a) ∧
    (s.dyn.lastTarget = some b))
  | 29 => holds (
    (s.memWf = true) ∧
    (s.dynOn = true) ∧
    let room : Prop := s.dyn.up.txq.length < 13 ∧ s.dyn.dn.txq.length < 13
    (room) ∧
    (s.dyn.up.trained = true) ∧
    (s.dyn.dn.trained = true) ∧
    (s.domOn Dom.dynak = true))
  | _ => true

theorem witness_DynakLinksAndMessages :
    (∀ c ∈ [0, 2, 23, 27], meets_DynakLinksAndMessages c { follower.setFld F.DYN_CFG_AUTOCAL 0 with dyn := { dynTrained with up := {} } } .up 5000 17 40 true true false false 5060 77 12 9 4 30 6 0x12345679 3 [1, 2, 3, 4, 5, 6, 7, 8] (.user 7) [] 1000 2000) ∧
    (∀ c ∈ [1, 8, 11, 15, 16, 17, 29], meets_DynakLinksAndMessages c follower .dn 5000 17 40 true true false false 5060 77 12 9 4 30 6 0x12345679 3 [1, 2, 3, 4, 5, 6, 7, 8] (.user 7) [] 1000 2000) ∧
    (∀ c ∈ [3, 7, 9, 10, 13, 14], meets_DynakLinksAndMessages c { (follower.raise F.DYN_CFG_RING) with dyn := { dynTrained with up := { trained := true, calDone := true }, dn := { trained := true, calDone := true } } } .up 5000 17 40 true true false false 5060 77 12 9 4 30 6 0x12345679 3 [1, 2, 3, 4, 5, 6, 7, 8] (.user 7) [] 1000 2000) ∧
    (∀ c ∈ [4, 21], meets_DynakLinksAndMessages c master .up 5000 17 40 true true false false 5060 77 12 9 4 30 6 0x12345679 3 [1, 2, 3, 4, 5, 6, 7, 8] (.user 7) [] 1000 2000) ∧
    meets_DynakLinksAndMessages 5 { follower.raise F.DYN_CFG_RING with dyn := { dynTrained with lastNum := some 77 } } .up 5000 17 40 true true false false 5060 77 12 9 4 30 6 0x12345679 3 [1, 2, 3, 4, 5, 6, 7, 8] (.user 7) [] 1000 2000 ∧
    meets_DynakLinksAndMessages 6 { follower with dyn := { dynTrained with lastNum := some 77 } } .up 5000 17 40 true true false false 5060 77 12 9 4 30 6 0x12345679 3 [1, 2, 3, 4, 5, 6, 7, 8] (.user 7) [] 1000 2000 ∧
    (∀ c ∈ [12, 24, 25], meets_DynakLinksAndMessages c { setup with dyn := { dynTrained with calBusy := true } } .up 5000 17 40 true true false false 5060 77 12 9 4 30 6 0x12345679 3 [1, 2, 3, 4, 5, 6, 7, 8] (.user 7) [] 1000 2000) ∧
    meets_DynakLinksAndMessages 18 follower .up 5000 17 40 true true false false 5060 77 12 9 4 30 6 0x12345679 3 [7, 0, 0, 0, 0, 0, 0, crc8 [7, 0, 0, 0, 0, 0, 0]] (.user 7) [] 1000 2000 ∧
    meets_DynakLinksAndMessages 19 follower .up 5000 17 40 true true false false 5060 77 12 9 4 30 6 0x12345679 3 [1, 2, 3, 4, 5, 6, 7, 8] (.gor 2 3) [.pos false 3, .user 7] 1000 2000 ∧
    meets_DynakLinksAndMessages 22 ({ master with lio := { master.lio with enc := master.lio.enc.set 0 { pos := 55 } } }.setFld F.DYN_POS_PER 8 |>.setFld F.ENC_TRIG_CFG_SEL 0) .up 5000 17 40 true true false false 5060 77 12 9 4 30 6 0x12345679 3 [1, 2, 3, 4, 5, 6, 7, 8] (.user 7) [] 1000 2000 ∧
    meets_DynakLinksAndMessages 26 { setup with dyn := { dynTrained with calBusy := true, up := { trained := true, calEchoes := 50, calSum := 3850 } } } .up 5000 17 40 true true false false 5060 77 12 9 4 30 6 0x12345679 3 [1, 2, 3, 4, 5, 6, 7, 8] (.user 7) [] 1000 2000 ∧
    meets_DynakLinksAndMessages 28 { follower with dyn := { dynTrained with freewheel := true, lost := true, prevTarget := some 1000, lastTarget := some 2000 } } .up 5000 17 40 true true false false 5060 77 12 9 4 30 6 0x12345679 3 [1, 2, 3, 4, 5, 6, 7, 8] (.user 7) [] 1000 2000 := by decide +kernel

/-- The hypotheses of the clauses of RingsTagsAndFarMemory. -/
def meets_RingsTagsAndFarMemory (clause : Nat) (s : State) (n : Fin 16) (tag : Byte) (q : RingReq) (qs : List RingReq) (e : TagEnt) (r : RingResp) (ring : Nat) (_waited : Nat) (pri : Bool) (hot : Bool) (k : Fin 64) (v : Word) (_a0 : Byte) (_a1 : Byte) (_b0 : Byte) (_b1 : Byte) (op : BitVec 3) (o : Nat) (o' : Nat) : Bool :=
  match clause with
  | 0 => holds (
    (s.memWf = true) ∧
    (s.plateUp = true) ∧
    let x := s.ni[n]
    let plain (q : RingReq) : Bool := match q.client with | .tally .. => false | .jig _ => false | _ => true
    let i := 4 * q.dst.val + classCode q.cls
    let issue : Prop := x.bridge = q :: qs ∧ x.bypass = false ∧ s.stopHeld.contains n.val = false ∧ s.phase = .stable ∧ plain q = true ∧
      q.cls ≠ .urgent ∧ q.dst ≠ n
    (issue) ∧
    (s.bit (F.NI_ROUTEi_VALID n i) = false))
  | 1 => holds (
    (s.memWf = true) ∧
    (s.plateUp = true) ∧
    let x := s.ni[n]
    let plain (q : RingReq) : Bool := match q.client with | .tally .. => false | .jig _ => false | _ => true
    let i := 4 * q.dst.val + classCode q.cls
    let issue : Prop := x.bridge = q :: qs ∧ x.bypass = false ∧ s.stopHeld.contains n.val = false ∧ s.phase = .stable ∧ plain q = true ∧
      q.cls ≠ .urgent ∧ q.dst ≠ n
    (issue) ∧
    (s.bit (F.NI_ROUTEi_VALID n i) = true) ∧
    (s.routeRing n i = none))
  | 2 => holds (
    (s.memWf = true) ∧
    (s.plateUp = true) ∧
    let x := s.ni[n]
    let plain (q : RingReq) : Bool := match q.client with | .tally .. => false | .jig _ => false | _ => true
    let i := 4 * q.dst.val + classCode q.cls
    let full : Prop := 256 ≤ x.tags.length
    let issue : Prop := x.bridge = q :: qs ∧ x.bypass = false ∧ s.stopHeld.contains n.val = false ∧ s.phase = .stable ∧ plain q = true ∧
      q.cls ≠ .urgent ∧ q.dst ≠ n
    (issue) ∧
    (s.bit (F.NI_ROUTEi_VALID n i) = true) ∧
    (s.routeRing n i = some (ring, pri)) ∧
    (s.routeHeld n q = false) ∧
    (full) ∧
    (q.nb = true))
  | 3 => holds (
    (s.memWf = true) ∧
    (s.plateUp = true) ∧
    let x := s.ni[n]
    let plain (q : RingReq) : Bool := match q.client with | .tally .. => false | .jig _ => false | _ => true
    let i := 4 * q.dst.val + classCode q.cls
    let full : Prop := 256 ≤ x.tags.length
    let issue : Prop := x.bridge = q :: qs ∧ x.bypass = false ∧ s.stopHeld.contains n.val = false ∧ s.phase = .stable ∧ plain q = true ∧
      q.cls ≠ .urgent ∧ q.dst ≠ n
    (issue) ∧
    (s.bit (F.NI_ROUTEi_VALID n i) = true) ∧
    (s.routeRing n i = some (ring, pri)) ∧
    (s.routeHeld n q = false) ∧
    (full) ∧
    (q.nb = false))
  | 4 => holds (
    (s.memWf = true) ∧
    (s.plateUp = true) ∧
    let x := s.ni[n]
    let plain (q : RingReq) : Bool := match q.client with | .tally .. => false | .jig _ => false | _ => true
    let i := 4 * q.dst.val + classCode q.cls
    let full : Prop := 256 ≤ x.tags.length
    let issue : Prop := x.bridge = q :: qs ∧ x.bypass = false ∧ s.stopHeld.contains n.val = false ∧ s.phase = .stable ∧ plain q = true ∧
      q.cls ≠ .urgent ∧ q.dst ≠ n
    (issue) ∧
    (s.bit (F.NI_ROUTEi_VALID n i) = true) ∧
    (s.routeRing n i = some (ring, pri)) ∧
    (s.routeHeld n q = false) ∧
    (¬full) ∧
    (s.tagFree n tag = true))
  | 5 => holds (
    (s.memWf = true) ∧
    (s.plateUp = true) ∧
    let q' := e.req
    let far : Prop := s.tagEnt? n tag = some e ∧ s.arrivesNext n e = true ∧ q'.dst = 3 ∧ s.ni[3].bypass = false ∧
      s.stopHeld.contains 3 = false ∧ s.memcReady = true ∧ s.mode ≠ .fallback ∧ q'.off + q'.len ≤ s.memcCap ∧
      q'.off % 128 + q'.len ≤ 128 ∧ 1 ≤ q'.len
    let clean : Prop := ∀ w ∈ memcWords q'.off q'.len, s.memcErr w = 0
    (far) ∧
    (clean) ∧
    (q'.kind = .read))
  | 6 => holds (
    (s.memWf = true) ∧
    (s.plateUp = true) ∧
    let q' := e.req
    let far : Prop := s.tagEnt? n tag = some e ∧ s.arrivesNext n e = true ∧ q'.dst = 3 ∧ s.ni[3].bypass = false ∧
      s.stopHeld.contains 3 = false ∧ s.memcReady = true ∧ s.mode ≠ .fallback ∧ q'.off + q'.len ≤ s.memcCap ∧
      q'.off % 128 + q'.len ≤ 128 ∧ 1 ≤ q'.len
    let clean : Prop := ∀ w ∈ memcWords q'.off q'.len, s.memcErr w = 0
    (far) ∧
    (clean) ∧
    (q'.kind = .write) ∧
    (q'.data.length = q'.len))
  | 7 => holds (
    (s.memWf = true) ∧
    (s.plateUp = true) ∧
    let q' := e.req
    let far : Prop := s.tagEnt? n tag = some e ∧ s.arrivesNext n e = true ∧ q'.dst = 3 ∧ s.ni[3].bypass = false ∧
      s.stopHeld.contains 3 = false ∧ s.memcReady = true ∧ s.mode ≠ .fallback ∧ q'.off + q'.len ≤ s.memcCap ∧
      q'.off % 128 + q'.len ≤ 128 ∧ 1 ≤ q'.len
    let clean : Prop := ∀ w ∈ memcWords q'.off q'.len, s.memcErr w = 0
    (far) ∧
    (clean) ∧
    (q'.kind = .amo op) ∧
    (op.toNat < 6) ∧
    (q'.off % 4 = 0) ∧
    (q'.len = 4))
  | 8 => holds (
    (s.memWf = true) ∧
    (s.plateUp = true) ∧
    let q' := e.req
    let far : Prop := s.tagEnt? n tag = some e ∧ s.arrivesNext n e = true ∧ q'.dst = 3 ∧ s.ni[3].bypass = false ∧
      s.stopHeld.contains 3 = false ∧ s.memcReady = true ∧ s.mode ≠ .fallback ∧ q'.off + q'.len ≤ s.memcCap ∧
      q'.off % 128 + q'.len ≤ 128 ∧ 1 ≤ q'.len
    (far) ∧
    (s.bit F.MEMC_CFG_ECC_EN = true) ∧
    ((∃ w ∈ memcWords q'.off q'.len, s.memcErr w = 2)) ∧
    (q'.kind = .read))
  | 9 => holds (
    (s.memWf = true) ∧
    (s.plateUp = true) ∧
    let x := s.ni[n]
    let plain (q : RingReq) : Bool := match q.client with | .tally .. => false | .jig _ => false | _ => true
    let q' := e.req
    let here : Prop := s.tagEnt? n tag = some e ∧ e.st = .answered r ∧ s.atRouter e.channel n n tag = true
    (here) ∧
    (x.bypass = false) ∧
    (plain q' = true) ∧
    (e.stale = false) ∧
    (e.primary = false))
  | 10 => holds (
    (s.memWf = true) ∧
    (s.plateUp = true) ∧
    let x := s.ni[n]
    let here : Prop := s.tagEnt? n tag = some e ∧ e.st = .answered r ∧ s.atRouter e.channel n n tag = true
    (here) ∧
    (x.bypass = false) ∧
    (e.stale = true))
  | 11 => holds (
    (s.memWf = true) ∧
    (s.plateUp = true) ∧
    let x := s.ni[n]
    let here : Prop := s.tagEnt? n tag = some e ∧ e.st = .answered r ∧ s.atRouter e.channel n n tag = true
    (here) ∧
    (x.bypass = true))
  | 12 => holds (
    (s.memWf = true) ∧
    (s.plateUp = true) ∧
    (s.tagEnt? n tag = some e) ∧
    (e.st = .answered r) ∧
    (s.atRouter e.channel n n tag = false))
  | 13 => holds (
    (s.memWf = true) ∧
    (s.plateUp = true) ∧
    let plain (q : RingReq) : Bool := match q.client with | .tally .. => false | .jig _ => false | _ => true
    let q' := e.req
    (s.tagEnt? n tag = some e) ∧
    (plain q' = true) ∧
    (e.stale = false) ∧
    (e.primary = false))
  | 14 => holds (
    (s.memWf = true) ∧
    (s.plateUp = true) ∧
    (k.val % 4 ≠ 3) ∧
    (k.val / 4 ≠ n.val) ∧
    (routeOk n k v = true))
  | 15 => holds (
    (s.memWf = true) ∧
    (s.plateUp = true) ∧
    (k.val % 4 ≠ 3) ∧
    (k.val / 4 ≠ n.val) ∧
    (routeOk n k v = false))
  | 16 => holds (
    (s.memWf = true) ∧
    (s.plateUp = true) ∧
    (s.memcReady = true) ∧
    (s.fld F.MEMC_CFG_RANKS = 0))
  | 17 => holds (
    (s.memWf = true) ∧
    (s.plateUp = true) ∧
    (s.memcReady = true) ∧
    ((hot = false ∨ s.bit F.MEMC_STAT_HOT = true)))
  | 18 => holds (
    (s.memWf = true) ∧
    (s.plateUp = true))
  | 19 => holds (
    (s.memWf = true) ∧
    (s.plateUp = true) ∧
    (o ≠ o') ∧
    (o < s.memcCap) ∧
    (o' < s.memcCap))
  | 20 => holds (
    (s.memWf = true) ∧
    (s.plateUp = true) ∧
    let cfg := s.reg Reg.MEMC_CFG
    (getBits cfg 0 1 = 0))
  | 21 => holds (
    (s.memWf = true) ∧
    (s.plateUp = true) ∧
    let cfg := s.reg Reg.MEMC_CFG
    let rankSpan := 2 ^ (29 + getBits cfg 1 3)
    (getBits cfg 0 1 = 1) ∧
    (getBits cfg 4 1 = 0) ∧
    (o < 2 * rankSpan))
  | 22 => holds (
    (s.memWf = true) ∧
    (s.plateUp = true) ∧
    let cfg := s.reg Reg.MEMC_CFG
    let rankSpan := 2 ^ (29 + getBits cfg 1 3)
    (getBits cfg 0 1 = 1) ∧
    (getBits cfg 4 1 = 1) ∧
    (o < 2 * (rankSpan / 8 * 7)))
  | 23 => holds (
    (s.memWf = true) ∧
    (s.plateUp = true) ∧
    (s.memcReady = true) ∧
    (s.fld F.MEMC_SCRUB_PER ≠ 0) ∧
    (s.memcCap ≠ 0))
  | 24 => holds (
    (s.memWf = true) ∧
    (s.plateUp = true) ∧
    let lead := getBits v 0 14
    (s.cp.sess.active = true) ∧
    (s.domOn Dom.lineio = true) ∧
    (s.domOn Dom.dynak = true) ∧
    (s.mode ≠ .fallback) ∧
    (64 ≤ lead) ∧
    (lead ≤ 16000))
  | 25 => holds (
    (s.memWf = true) ∧
    (s.plateUp = true) ∧
    let lead := getBits v 0 14
    (s.cp.sess.active = true) ∧
    (s.domOn Dom.lineio = true) ∧
    (s.domOn Dom.dynak = true) ∧
    (s.mode ≠ .fallback) ∧
    (¬(64 ≤ lead ∧ lead ≤ 16000)))
  | _ => true

theorem witness_RingsTagsAndFarMemory :
    (∀ c ∈ [0, 16, 18, 19, 20, 23, 25], meets_RingsTagsAndFarMemory c ((waiting memory request1).setReg (Reg.NI_ROUTEi 1 13) 0) 1 7 request1 [] {} {} 0 9 true true 4 0x80000000 3 4 50 6 1 3 4) ∧
    meets_RingsTagsAndFarMemory 1 { (waiting memory request1).setReg (Reg.NI_ROUTEi 1 13) 0x80000001 with dom := memory.dom.set 75 .off } 1 7 request1 [] {} {} 0 9 true true 4 0x80000000 3 4 50 6 1 3 4 ∧
    meets_RingsTagsAndFarMemory 2 { memory with ni := memory.ni.set 1 { bridge := [{ request1 with nb := true }], tags := List.replicate 256 { tag := 3 } } } 1 7 { request1 with nb := true } [] {} {} 0 9 true true 4 0x80000000 3 4 50 6 1 3 4 ∧
    meets_RingsTagsAndFarMemory 3 { memory with ni := memory.ni.set 1 { bridge := [{ request1 with nb := false }], tags := List.replicate 256 { tag := 3 } } } 1 7 { request1 with nb := false } [] {} {} 0 9 true true 4 0x80000000 3 4 50 6 1 3 4 ∧
    meets_RingsTagsAndFarMemory 4 (waiting memory request1) 1 7 request1 [] {} {} 0 9 true true 4 0x80000000 3 4 50 6 1 3 4 ∧
    (∀ c ∈ [5, 13], meets_RingsTagsAndFarMemory c (tagged memory (sentTag .read)) 1 7 request1 [] (sentTag .read) {} 0 9 true true 4 0x80000000 3 4 50 6 1 3 4) ∧
    meets_RingsTagsAndFarMemory 6 (tagged memory (sentTag .write)) 1 7 request1 [] (sentTag .write) {} 0 9 true true 4 0x80000000 3 4 50 6 1 3 4 ∧
    meets_RingsTagsAndFarMemory 7 (tagged memory (sentTag (.amo 1))) 1 7 request1 [] (sentTag (.amo 1)) {} 0 9 true true 4 0x80000000 3 4 50 6 1 3 4 ∧
    meets_RingsTagsAndFarMemory 8 (tagged { memory with memc := { memory.memc with errs := [(0x100, 2)] } } (sentTag .read)) 1 7 request1 [] (sentTag .read) {} 0 9 true true 4 0x80000000 3 4 50 6 1 3 4 ∧
    meets_RingsTagsAndFarMemory 9 (tagged memory { sentTag .read with st := .answered { data := [1] }, stale := false }) 1 7 request1 [] { sentTag .read with st := .answered { data := [1] }, stale := false } { data := [1] } 0 9 true true 4 0x80000000 3 4 50 6 1 3 4 ∧
    meets_RingsTagsAndFarMemory 10 (tagged memory { sentTag .read with st := .answered { data := [1] }, stale := true }) 1 7 request1 [] { sentTag .read with st := .answered { data := [1] }, stale := true } { data := [1] } 0 9 true true 4 0x80000000 3 4 50 6 1 3 4 ∧
    meets_RingsTagsAndFarMemory 11 (tagged memory { sentTag .read with st := .answered { data := [1] } } |> fun s => { s with ni := s.ni.set 1 { s.ni[1] with bypass := true } }) 1 7 request1 [] { sentTag .read with st := .answered { data := [1] } } { data := [1] } 0 9 true true 4 0x80000000 3 4 50 6 1 3 4 := by decide +kernel

theorem witness_RingsTagsAndFarMemory_b :
    meets_RingsTagsAndFarMemory 12 ((tagged memory { sentTag .read with st := .answered { data := [1] } }).inject ({ sentTag .read with st := .answered { data := [1] } } : TagEnt).channel 6 { stop := 1, tag := 9, dst := 1, n := 6, tot := 6 } |>.inject ({ sentTag .read with st := .answered { data := [1] } } : TagEnt).channel 6 { stop := 1, tag := 7, dst := 1, n := 2, tot := 2 }) 1 7 request1 [] { sentTag .read with st := .answered { data := [1] } } { data := [1] } 0 9 true true 4 0x80000000 3 4 50 6 1 3 4 ∧
    meets_RingsTagsAndFarMemory 14 memory 1 7 request1 [] {} {} 0 9 true true 8 0 3 4 50 6 1 3 4 ∧
    (∀ c ∈ [15, 24], meets_RingsTagsAndFarMemory c memory 9 7 request1 [] {} {} 0 9 true true 5 0x80000D14 3 4 50 6 1 3 4) ∧
    meets_RingsTagsAndFarMemory 17 (tagged memory (sentTag .read)) 1 7 request1 [] (sentTag .read) {} 0 9 true false 4 0x80000000 3 4 50 6 1 3 4 ∧
    meets_RingsTagsAndFarMemory 21 (memory.setReg Reg.MEMC_CFG 0x3) 1 7 request1 [] {} { data := [1] } 0 9 true true 4 0x80000000 3 4 50 6 1 0x8100040 0x3C000040 ∧
    meets_RingsTagsAndFarMemory 22 (memory.setReg Reg.MEMC_CFG 0x533) 1 7 request1 [] {} { data := [1] } 0 9 true true 4 0x80000000 3 4 50 6 1 0x8100040 0x3C000040 := by decide +kernel

/-- The hypotheses of the clauses of JigFabricPortsAndPins. -/
def meets_JigFabricPortsAndPins (clause : Nat) (s : State) (_t : Nat) (k : Nat) (n : Fin 16) (tag : Byte) (rest : List (Fin 16 × Byte)) (e : TagEnt) (x : JigRt) (w : Nat) (v : Word) (a : SysAddr) (_wr : Bool) (_urg : Bool) (_dead : Bool) (_j : Fin 16) (r : Fin 4) (b : Fin 40) (secs : List (Nat × List Byte)) (code : Nat) (off : Nat) (_fall : Option Nat) : Bool :=
  match clause with
  | 0 => holds (
    (s.memWf = true) ∧
    (s.jigOn = true) ∧
    (s.mode.isRun = true) ∧
    (s.jig.st = .loading))
  | 1 => holds (
    (s.memWf = true) ∧
    (s.jigOn = true) ∧
    (s.mode.isRun = true) ∧
    (s.jig.st ≠ .loading))
  | 2 => holds (
    (s.memWf = true) ∧
    (s.jigOn = true) ∧
    let img := s.jigSource
    (s.jig.st = .loading) ∧
    (jigCheck img = (code, off, secs)) ∧
    (code ≠ 0))
  | 3 => holds (
    (s.memWf = true) ∧
    (s.jigOn = true) ∧
    let img := s.jigSource
    (s.jig.st = .loading) ∧
    (jigCheck img = (0, off, secs)) ∧
    ((imgNum img 12 1).testBit 2 = false))
  | 4 => holds (
    (s.memWf = true) ∧
    (s.jigOn = true) ∧
    (s.jig.st = .init) ∧
    ((s.jig.useE = true → s.domOn Dom.jige = true)) ∧
    (s.domOn Dom.jigw = true))
  | 5 => holds (
    (s.memWf = true) ∧
    (s.jigOn = true) ∧
    (s.jig.st = .init) ∧
    (s.jig.useE = true) ∧
    (s.domOn Dom.jige = false))
  | 6 => holds (
    (s.memWf = true) ∧
    (s.jigOn = true) ∧
    let run : Prop := s.jig.st = .run
    (run) ∧
    (s.jig.rt = none) ∧
    (s.jig.rtWait = (n, tag) :: rest) ∧
    (s.tagEnt? n tag = some e))
  | 7 => holds (
    (s.memWf = true) ∧
    (s.jigOn = true) ∧
    (s.jig.rt = some x))
  | 8 => holds (
    (s.memWf = true) ∧
    (s.jigOn = true) ∧
    (s.jig.rt = some x) ∧
    (x.words = [w]))
  | 9 => holds (
    (s.memWf = true) ∧
    (s.jigOn = true) ∧
    (s.jig.rt = some x) ∧
    (x.words = w :: k :: []))
  | 11 => holds (
    (s.memWf = true) ∧
    (s.jigOn = true) ∧
    let run : Prop := s.jig.st = .run
    (run) ∧
    (s.jig.rm = []) ∧
    (a.toNat % 4 = 0))
  | 12 => holds (
    (s.memWf = true) ∧
    (s.jigOn = true) ∧
    let run : Prop := s.jig.st = .run
    (run) ∧
    (s.jig.rm = []) ∧
    (a.toNat % 4 ≠ 0))
  | 13 => holds (
    (s.memWf = true) ∧
    (s.jigOn = true) ∧
    let run : Prop := s.jig.st = .run
    (run))
  | 16 => holds (
    (s.memWf = true) ∧
    (s.jigOn = true))
  | 19 => holds (
    (s.memWf = true) ∧
    (s.jigOn = true) ∧
    let tr := s.jig.trees[r]
    let srcNow := s.fld (F.JIG_CLKr_SRC r)
    (s.jigWritable = true) ∧
    (tr.sw = none) ∧
    (getBits v 8 2 ≠ srcNow))
  | 20 => holds (
    (s.memWf = true) ∧
    (s.jigOn = true) ∧
    let tr := s.jig.trees[r]
    let srcNow := s.fld (F.JIG_CLKr_SRC r)
    (s.jigWritable = true) ∧
    (tr.sw = none) ∧
    (getBits v 8 2 = srcNow) ∧
    (getBits v 12 1 = s.fld (F.JIG_CLKr_EN r)))
  | 21 => holds (
    (s.memWf = true) ∧
    (s.jigOn = true) ∧
    let tr := s.jig.trees[r]
    let srcNow := s.fld (F.JIG_CLKr_SRC r)
    (s.jigWritable = true) ∧
    (tr.sw = none) ∧
    (getBits v 8 2 = srcNow) ∧
    (getBits v 12 1 ≠ s.fld (F.JIG_CLKr_EN r)))
  | 22 => holds (
    (s.memWf = true) ∧
    (s.jigOn = true) ∧
    let tr := s.jig.trees[r]
    (tr.sw ≠ none) ∧
    (tr.held = true))
  | 23 => holds (
    (s.memWf = true) ∧
    (s.jigOn = true) ∧
    let tr := s.jig.trees[r]
    (tr.sw ≠ none) ∧
    (tr.held = false))
  | 24 => holds (
    (s.memWf = true) ∧
    (s.jigOn = true) ∧
    (s.jigWritable = true) ∧
    (v.getLsbD 0 = true) ∧
    (sharedBall b = false))
  | 25 => holds (
    (s.memWf = true) ∧
    (s.jigOn = true) ∧
    (s.jigWritable = true) ∧
    (s.jig.st ≠ .loading) ∧
    (s.jig.park[b] = none) ∧
    (v.getLsbD 0 = s.bit (F.JIG_PINj_FUNC b)) ∧
    ((v.getLsbD 0 = true → sharedBall b = true)) ∧
    ((b.val < 27 ∨ 29 < b.val)))
  | _ => true

theorem witness_JigFabricPortsAndPins :
    (∀ c ∈ [0, 16, 19], meets_JigFabricPortsAndPins c { track with jig := { st := .loading } } 5000 0 2 9 [] {} {} 0 0x1200 0x300000008 false false false 5 1 26 [] 0 0 (some 99)) ∧
    meets_JigFabricPortsAndPins 1 track 5000 0 2 9 [] {} {} 0 0x1200 0x300000008 false false false 5 1 26 [] 0 0 (some 99) ∧
    meets_JigFabricPortsAndPins 2 (jigged { st := .loading }) 5000 0 2 9 [] {} {} 0 0x1200 0x300000008 false false false 5 1 26 ((jigCheck setup.jigSource).2.2) ((jigCheck setup.jigSource).1) ((jigCheck setup.jigSource).2.1) (some 99) ∧
    meets_JigFabricPortsAndPins 4 (jigged { st := .init }) 5000 0 2 9 [] {} {} 0 0x1200 0x300000008 false false false 5 1 26 [] 0 0 (some 99) ∧
    meets_JigFabricPortsAndPins 5 { jigged { st := .init, useE := true } with dom := setup.dom.set Dom.jige .off } 5000 0 2 9 [] {} {} 0 0x1200 0x300000008 false false false 5 1 26 [] 0 0 (some 99) ∧
    (∀ c ∈ [6, 11, 13], meets_JigFabricPortsAndPins c (jigTagged { st := .run, rtWait := [(2, 9)] }) 5000 0 2 9 [] { tag := 9, req := { dst := 6, off := 0x10000006, len := 8, kind := .read } } {} 0 0x1200 0x300000008 false false false 5 1 26 [] 0 0 (some 99)) ∧
    (∀ c ∈ [7, 8], meets_JigFabricPortsAndPins c (jigTagged { st := .run, rt := some (jigRt [0x10000004]) }) 5000 0 2 9 [] {} (jigRt [0x10000004]) 0x10000004 0x1200 0x300000008 false false false 5 1 26 [] 0 0 (some 99)) ∧
    meets_JigFabricPortsAndPins 9 (jigTagged { st := .run, rt := some (jigRt [0x10000004, 0x10000008]) }) 5000 0x10000008 2 9 [] {} (jigRt [0x10000004, 0x10000008]) 0x10000004 0x1200 0x300000008 false false false 5 1 26 [] 0 0 (some 99) ∧
    meets_JigFabricPortsAndPins 12 (jigged { st := .run }) 5000 0 2 9 [] {} {} 0 0x1200 0x300000002 false false false 5 1 26 [] 0 0 (some 99) ∧
    (∀ c ∈ [20, 25], meets_JigFabricPortsAndPins c setup 5000 0 2 9 [] {} {} 0 1 0x300000008 false false false 5 1 26 [] 0 0 (some 99)) ∧
    meets_JigFabricPortsAndPins 21 setup 5000 0 2 9 [] {} {} 0 4096 0x300000008 false false false 5 1 26 [] 0 0 (some 99) ∧
    meets_JigFabricPortsAndPins 22 (treed { sw := some (2, 3), held := true }) 5000 0 2 9 [] {} {} 0 0x1200 0x300000008 false false false 5 1 26 [] 0 0 (some 99) := by decide +kernel

theorem witness_JigFabricPortsAndPins_b :
    meets_JigFabricPortsAndPins 23 (treed { sw := some (2, 3) }) 5000 0 2 9 [] {} {} 0 0x1200 0x300000008 false false false 5 1 26 [] 0 0 (some 99) ∧
    meets_JigFabricPortsAndPins 24 setup 5000 0 2 9 [] {} {} 0 1 0x300000008 false false false 5 1 3 [] 0 0 (some 99) := by decide +kernel

/-- The hypotheses of the clauses of SerialPortsAndDescriptors. -/
def meets_SerialPortsAndDescriptors (clause : Nat) (s : State) (n : Fin 2) (smp : BitVec 3) (_l : List (BitVec 3)) (v : Word) (d : Fin 16) (e : UartTx) (h : Half) (hs : List Half) (r : RingResp) (q : RingReq) (noise : Bool) (cut : Bool) : Bool :=
  match clause with
  | 0 => holds (
    (s.memWf = true) ∧
    (s.uartOn n = true) ∧
    let u := s.uart[n]
    let hears : Prop := s.tapActs = false ∧ s.bit (F.UAn_CFG_RX_EN n) = true ∧ s.uartRxOff n = false ∧ u.rxCur = none ∧
      (u.de = false ∨ s.bit (F.UAn_CFG_ECHO n) = true)
    let ones (b : BitVec 3) : Nat := b2n (b.getLsbD 0) + b2n (b.getLsbD 1) + b2n (b.getLsbD 2)
    (hears) ∧
    (2 ≤ ones smp))
  | 1 => holds (
    (s.memWf = true) ∧
    (s.uartOn n = true) ∧
    let u := s.uart[n]
    let hears : Prop := s.tapActs = false ∧ s.bit (F.UAn_CFG_RX_EN n) = true ∧ s.uartRxOff n = false ∧ u.rxCur = none ∧
      (u.de = false ∨ s.bit (F.UAn_CFG_ECHO n) = true)
    let ones (b : BitVec 3) : Nat := b2n (b.getLsbD 0) + b2n (b.getLsbD 1) + b2n (b.getLsbD 2)
    (hears) ∧
    (ones smp < 2) ∧
    (n = 1))
  | 2 => holds (
    (s.memWf = true) ∧
    (s.uartOn n = true) ∧
    let u := s.uart[n]
    let idle : Prop := ∀ k : Fin 16, u.desc[k].st = .free
    let rcv : Prop := u.rxCur = some (noise, cut) ∧ (u.de = false ∨ s.bit (F.UAn_CFG_ECHO n) = true)
    (rcv) ∧
    (idle) ∧
    (u.rx.length < 64))
  | 3 => holds (
    (s.memWf = true) ∧
    (s.uartOn n = true) ∧
    let u := s.uart[n]
    let rcv : Prop := u.rxCur = some (noise, cut) ∧ (u.de = false ∨ s.bit (F.UAn_CFG_ECHO n) = true)
    (rcv) ∧
    (u.rx.length = 64))
  | 4 => holds (
    (s.memWf = true) ∧
    (s.uartOn n = true) ∧
    let u := s.uart[n]
    (u.tx.length < 64))
  | 5 => holds (
    (s.memWf = true) ∧
    (s.uartOn n = true) ∧
    let u := s.uart[n]
    (u.tx.length = 64))
  | 6 => holds (
    (s.memWf = true) ∧
    (s.uartOn n = true) ∧
    let u := s.uart[n]
    let idle : Prop := ∀ k : Fin 16, u.desc[k].st = .free
    (idle) ∧
    (u.rx = h :: hs))
  | 7 => holds (
    (s.memWf = true) ∧
    (s.uartOn n = true) ∧
    let u := s.uart[n]
    let x := u.desc[d]
    (u.rx = [] ∨ (x.st = .queued ∧ x.tx = false)))
  | 8 => holds (
    (s.memWf = true) ∧
    (s.uartOn n = true) ∧
    let u := s.uart[n]
    let idle : Prop := ∀ k : Fin 16, u.desc[k].st = .free
    let txq : Prop := ¬(n = 0 ∧ s.bit (F.UAn_CFG_TX_OWNER n) = false) ∧ u.agent = []
    (s.uartMaySend n = true) ∧
    (u.txCur = none) ∧
    (txq) ∧
    (u.tx.head? = some e) ∧
    (idle))
  | 9 => holds (
    (s.memWf = true) ∧
    (s.uartOn n = true) ∧
    let u := s.uart[n]
    (u.txCur = some e) ∧
    (e.last = none))
  | 10 => holds (
    (s.memWf = true) ∧
    (s.uartOn n = true) ∧
    let u := s.uart[n]
    let x := u.desc[d]
    (u.txCur = some e) ∧
    (e.last = some d) ∧
    (x.st = .active) ∧
    (x.tx = true) ∧
    ((∀ k : Fin 16, k ≠ d → u.desc[k].st = .free)))
  | 11 => holds (
    (s.memWf = true) ∧
    (s.uartOn n = true) ∧
    let u := s.uart[n]
    (u.de = true) ∧
    (u.txCur = none) ∧
    (u.tx = []) ∧
    (u.agent = []))
  | 12 => holds (
    (s.memWf = true) ∧
    (s.uartOn n = true) ∧
    let u := s.uart[n]
    (u.quiet = true))
  | 13 => holds (
    (s.memWf = true) ∧
    (s.uartOn n = true) ∧
    let u := s.uart[n]
    (n = 0) ∧
    (u.quiet = true))
  | 14 => holds (
    (s.memWf = true) ∧
    (s.uartOn n = true) ∧
    let u := s.uart[n]
    (n = 0) ∧
    (u.quiet = false))
  | 15 => holds (
    (s.memWf = true) ∧
    (s.uartOn n = true) ∧
    let u := s.uart[n]
    let x := u.desc[d]
    (x.st ≠ .free) ∧
    (v.getLsbD 25 = false))
  | 16 => holds (
    (s.memWf = true) ∧
    (s.uartOn n = true) ∧
    let u := s.uart[n]
    let idle : Prop := ∀ k : Fin 16, u.desc[k].st = .free
    (idle) ∧
    (v.getLsbD 25 = false) ∧
    (v.getLsbD 16 = false) ∧
    (u.rx = []) ∧
    (s.fld (F.UAn_Dd_ADDR_HI n d) = 1) ∧
    (s.fld (F.UAn_Dd_ADDR_LO n d) % 2 = 0) ∧
    (1 ≤ v.toNat % 2 ^ 13) ∧
    (v.toNat % 2 ^ 13 ≤ 4096) ∧
    (s.fld (F.UAn_Dd_ADDR_LO n d) + 2 * (v.toNat % 2 ^ 13) ≤ 0x40000))
  | 17 => holds (
    (s.memWf = true) ∧
    (s.uartOn n = true) ∧
    let u := s.uart[n]
    let x := u.desc[d]
    (x.st = .done))
  | 18 => holds (
    (s.memWf = true) ∧
    (s.uartOn n = true) ∧
    let u := s.uart[n]
    let x := u.desc[d]
    (x.st ≠ .done))
  | 19 => holds (
    (s.memWf = true) ∧
    (s.uartOn n = true) ∧
    let u := s.uart[n]
    let x := u.desc[d]
    (s.descActive n false = some d) ∧
    (x.busy = false) ∧
    (x.hold ≠ []))
  | 20 => holds (
    (s.memWf = true) ∧
    (s.uartOn n = true) ∧
    let u := s.uart[n]
    let x := u.desc[d]
    (s.descActive n false = some d) ∧
    (s.fld (F.UAn_CFG_RTO n) ≠ 0) ∧
    (x.busy = false) ∧
    (x.hold = []) ∧
    (1 ≤ x.count) ∧
    ((∀ k : Fin 16, k ≠ d → u.desc[k].st = .free)))
  | 21 => holds (
    (s.memWf = true) ∧
    (s.uartOn n = true) ∧
    let u := s.uart[n]
    let x := u.desc[d]
    let st := uartStop n
    let mine : Prop := x.st = .active ∧ x.busy = true ∧ s.ni[st].inbox = [(q, r)] ∧ q.client = .uart n d x.order ∧
      ∀ k : Fin 16, k ≠ d → u.desc[k].st = .free
    (mine) ∧
    (r.code = .ok) ∧
    (x.tx = false) ∧
    (x.count + x.hold.length = s.descLen n d))
  | 22 => holds (
    (s.memWf = true) ∧
    (s.uartOn n = true) ∧
    let u := s.uart[n]
    let x := u.desc[d]
    let st := uartStop n
    let mine : Prop := x.st = .active ∧ x.busy = true ∧ s.ni[st].inbox = [(q, r)] ∧ q.client = .uart n d x.order ∧
      ∀ k : Fin 16, k ≠ d → u.desc[k].st = .free
    (mine) ∧
    (r.code ≠ .ok))
  | _ => true

theorem witness_SerialPortsAndDescriptors :
    (∀ c ∈ [0, 4, 7, 12, 16, 18], meets_SerialPortsAndDescriptors c (uarted {}) 1 7 [0, 7, 7, 3, 5, 0, 7, 1, 7, 7] 5 3 {} 7 [8] {} {} false false) ∧
    meets_SerialPortsAndDescriptors 1 (uarted {}) 1 0 [0, 7, 7, 3, 5, 0, 7, 1, 7, 7] 5 3 {} 7 [8] {} {} false false ∧
    meets_SerialPortsAndDescriptors 2 (uarted { rxCur := some (false, false) }) 1 0 [0, 7, 7, 3, 5, 0, 7, 1, 7, 7] 5 3 {} 7 [8] {} {} false false ∧
    (∀ c ∈ [3, 5, 8], meets_SerialPortsAndDescriptors c (uarted { rxCur := some (false, false), rx := List.replicate 64 5, tx := List.replicate 64 {} }) 1 0 [0, 7, 7, 3, 5, 0, 7, 1, 7, 7] 5 3 {} 7 [8] {} {} false false) ∧
    meets_SerialPortsAndDescriptors 6 (uarted { rx := [7, 8] }) 1 0 [0, 7, 7, 3, 5, 0, 7, 1, 7, 7] 5 3 {} 7 [8] {} {} false false ∧
    meets_SerialPortsAndDescriptors 9 (uarted { txCur := some char41 }) 1 0 [0, 7, 7, 3, 5, 0, 7, 1, 7, 7] 5 3 char41 7 [8] {} {} false false ∧
    (∀ c ∈ [10, 15], meets_SerialPortsAndDescriptors c (uarted { desc := uartDesc { st := .active, tx := true }, txCur := some { char41 with last := some 3 } }) 1 0 [0, 7, 7, 3, 5, 0, 7, 1, 7, 7] 5 3 { char41 with last := some 3 } 7 [8] {} {} false false) ∧
    meets_SerialPortsAndDescriptors 11 (uarted { de := true }) 1 0 [0, 7, 7, 3, 5, 0, 7, 1, 7, 7] 5 3 {} 7 [8] {} {} false false ∧
    meets_SerialPortsAndDescriptors 13 (uarted {}) 0 0 [0, 7, 7, 3, 5, 0, 7, 1, 7, 7] 5 3 {} 7 [8] {} {} false false ∧
    meets_SerialPortsAndDescriptors 14 (uarted { txCur := some char41 }) 0 0 [0, 7, 7, 3, 5, 0, 7, 1, 7, 7] 5 3 {} 7 [8] {} {} false false ∧
    meets_SerialPortsAndDescriptors 17 (uarted { desc := uartDesc { st := .done } }) 1 0 [0, 7, 7, 3, 5, 0, 7, 1, 7, 7] 5 3 {} 7 [8] {} {} false false ∧
    meets_SerialPortsAndDescriptors 19 (uarted { desc := uartDesc { st := .active, hold := [5, 6] } }) 1 0 [0, 7, 7, 3, 5, 0, 7, 1, 7, 7] 5 3 {} 7 [8] {} {} false false := by decide +kernel

theorem witness_SerialPortsAndDescriptors_b :
    meets_SerialPortsAndDescriptors 20 ((uarted { desc := uartDesc { st := .active, count := 2 } }).setFld (F.UAn_CFG_RTO 1) 4) 1 0 [0, 7, 7, 3, 5, 0, 7, 1, 7, 7] 5 3 {} 7 [8] {} {} false false ∧
    meets_SerialPortsAndDescriptors 21 ((dmaAnswered { st := .active, hold := [5, 6], count := 3, busy := true } {}).setFld (F.UAn_Dd_CTRL_LEN 1 3) 5) 1 0 [0, 7, 7, 3, 5, 0, 7, 1, 7, 7] 5 3 {} 7 [8] {} { client := .uart 1 3 0 } false false ∧
    meets_SerialPortsAndDescriptors 22 ((dmaAnswered { st := .active, hold := [5, 6], count := 3, busy := true } { code := .timeout }).setFld (F.UAn_Dd_CTRL_LEN 1 3) 5) 1 0 [0, 7, 7, 3, 5, 0, 7, 1, 7, 7] 5 3 {} 7 [8] { code := .timeout } { client := .uart 1 3 0 } false false := by decide +kernel

/-- The hypotheses of the clauses of StartsOfTheHead. -/
def meets_StartsOfTheHead (clause : Nat) (s : State) (_t : Nat) (ms : Nat) (_us : Nat) (f : BitVec 6) (_dr : List (Option Int)) (h : List Byte) (_sb : Bool) : Bool :=
  match clause with
  | 0 => holds (
    (s.memWf = true) ∧
    (s.mode = .boot) ∧
    (s.sup.attempt = true) ∧
    (s.sup.loaded = true) ∧
    (s.otpOk = false))
  | 1 => holds (
    (s.memWf = true) ∧
    (s.mode = .boot) ∧
    (s.sup.attempt = true) ∧
    (s.sup.loaded = true) ∧
    (s.otpOk = true) ∧
    (s.clk.run = false))
  | 2 => holds (
    (s.memWf = true) ∧
    (s.mode = .boot) ∧
    (s.sup.attempt = true) ∧
    (s.sup.loaded = true) ∧
    (s.otpOk = true) ∧
    (s.clk.run = true) ∧
    (s.slotHeader false = none) ∧
    (s.slotHeader true = none))
  | 3 => holds (
    (s.memWf = true) ∧
    let image : Prop := s.slotHeader false = some h ∧ s.slotHeader true = none ∧ (memcInstalled (hdrCfg h)).isSome = true ∧ f = 0 ∧
      s.digestOk false h = true ∧ imgNum h 16 1 = 0 ∧ s.sigReq = false ∧ s.sectOf false h 4 = none ∧
      (jigCheck ((s.sectOf false h 2).getD [])).1 = 0
    (s.mode = .boot) ∧
    (s.sup.attempt = true) ∧
    (s.sup.loaded = true) ∧
    (s.otpOk = true) ∧
    (s.clk.run = true) ∧
    (ms ≤ 2000) ∧
    (image))
  | 4 => holds (
    (s.memWf = true) ∧
    (s.mode = .boot) ∧
    (s.sup.attempt = true) ∧
    (s.sup.loaded = true) ∧
    (s.log.queue.length < 15))
  | 5 => holds (
    (s.memWf = true) ∧
    (s.sup.retryDue = true) ∧
    (s.coreDown = true) ∧
    (s.mayAttempt = true) ∧
    (s.sup.trigReq = true))
  | 6 => holds (
    (s.memWf = true) ∧
    (s.mode = .fallback) ∧
    (s.transit = none) ∧
    (settledB s = true) ∧
    (s.tooHot = false))
  | 8 => holds (
    (s.memWf = true) ∧
    (s.mode = .fallback) ∧
    (s.transit = none) ∧
    (settledB s = true) ∧
    (s.tooHot = true))
  | _ => true

theorem witness_StartsOfTheHead :
    (∀ c ∈ [0, 4], meets_StartsOfTheHead c { booting with otp := { factOk := false } } 77 1500 5 0 [] bootHeader true) ∧
    meets_StartsOfTheHead 1 { booting with clk := {} } 77 1500 5 0 [] bootHeader true ∧
    meets_StartsOfTheHead 2 booting 77 1500 5 0 [] bootHeader true ∧
    meets_StartsOfTheHead 5 { idle with sup := { idle.sup with trigReq := true, retryDue := true } } 77 1500 5 0 [] bootHeader true ∧
    meets_StartsOfTheHead 6 fallback 77 1500 5 0 [] bootHeader true ∧
    meets_StartsOfTheHead 8 { fallback with cp := { fbReason := 7 } } 77 1500 5 0 [] bootHeader true := by decide +kernel

/-- The hypotheses of the clauses of FlashAndConsole. -/
def meets_FlashAndConsole (clause : Nat) (s : State) (n : Byte) (k : Byte) (d : List Byte) (op : FlOp) : Bool :=
  match clause with
  | 0 => holds (
    (s.memWf = true) ∧
    let free : Prop := s.plateUp = true ∧ s.mode ≠ .boot ∧ s.bit F.PWR_FL_STAT_BUSY = false
    (free))
  | 1 => holds (
    (s.memWf = true) ∧
    let a := s.fld F.PWR_FL_ADDR
    let len := n.toNat + 1
    let free : Prop := s.plateUp = true ∧ s.mode ≠ .boot ∧ s.bit F.PWR_FL_STAT_BUSY = false
    (free) ∧
    (a % 256 + len ≤ 256) ∧
    (s.flLocked a len = false))
  | 2 => holds (
    (s.memWf = true) ∧
    let a := s.fld F.PWR_FL_ADDR
    let len := n.toNat + 1
    let free : Prop := s.plateUp = true ∧ s.mode ≠ .boot ∧ s.bit F.PWR_FL_STAT_BUSY = false
    (free) ∧
    (256 < a % 256 + len))
  | 3 => holds (
    (s.memWf = true) ∧
    let a := s.fld F.PWR_FL_ADDR
    let free : Prop := s.plateUp = true ∧ s.mode ≠ .boot ∧ s.bit F.PWR_FL_STAT_BUSY = false
    (free) ∧
    (a % 65536 ≠ 0))
  | 4 => holds (
    (s.memWf = true) ∧
    let a := s.fld F.PWR_FL_ADDR
    let free : Prop := s.plateUp = true ∧ s.mode ≠ .boot ∧ s.bit F.PWR_FL_STAT_BUSY = false
    (free) ∧
    (a % 65536 = 0) ∧
    (s.flLocked a 65536 = false))
  | 5 => holds (
    (s.memWf = true) ∧
    let a := s.fld F.PWR_FL_ADDR
    let free : Prop := s.plateUp = true ∧ s.mode ≠ .boot ∧ s.bit F.PWR_FL_STAT_BUSY = false
    (free) ∧
    (a % 65536 = 0) ∧
    (s.mode = .setup) ∧
    (s.boot.slot = some false) ∧
    (a < 0x2000000))
  | 6 => holds (
    (s.memWf = true) ∧
    (s.plateUp = true) ∧
    (s.mode = .boot ∨ s.bit F.PWR_FL_STAT_BUSY = true))
  | 9 => holds (
    (s.memWf = true) ∧
    let a := s.fld F.PWR_FL_ADDR
    (s.flash.op = some (op, a, d)) ∧
    (op ≠ .read) ∧
    (a + d.length ≤ s.flash.size))
  | 10 => holds (
    (s.memWf = true) ∧
    let a := s.fld F.PWR_FL_ADDR
    (s.flash.op = some (.read, a, d)) ∧
    (d.length ≤ 256) ∧
    (a + d.length ≤ s.flash.size))
  | 11 => holds (
    (s.memWf = true) ∧
    let a := s.fld F.PWR_FL_ADDR
    (s.flash.op = some (op, a, d)))
  | 12 => holds (
    (s.memWf = true) ∧
    (s.mode = .fallback))
  | 14 => holds (
    (s.memWf = true) ∧
    (s.mode = .fallback) ∧
    (1 ≤ k.toNat) ∧
    (k.toNat ≤ 16) ∧
    (1 ≤ s.log.newest.toNat))
  | _ => true

theorem witness_FlashAndConsole :
    (∀ c ∈ [0, 1, 4], meets_FlashAndConsole c setup 5 3 [7, 8, 9] .read) ∧
    meets_FlashAndConsole 2 (flashed 0x100FF none) 5 3 [7, 8, 9] .read ∧
    (∀ c ∈ [3, 9, 11], meets_FlashAndConsole c (flashed 0x10004 (some (.program, 0x10004, [7, 8, 9]))) 5 3 [7, 8, 9] .program) ∧
    meets_FlashAndConsole 5 (flashed 0x10000 none) 5 3 [7, 8, 9] .read ∧
    meets_FlashAndConsole 6 { setup with mode := .boot } 5 3 [7, 8, 9] .read ∧
    meets_FlashAndConsole 10 (flashed 0x10004 (some (.read, 0x10004, [7, 8, 9]))) 5 3 [7, 8, 9] .read ∧
    meets_FlashAndConsole 12 fallback 5 3 [7, 8, 9] .read ∧
    meets_FlashAndConsole 14 { fallback with log := { newest := 7 } } 5 3 [7, 8, 9] .read := by decide +kernel

/-- The hypotheses of the clauses of RailsRiseFallAndFault. -/
def meets_RailsRiseFallAndFault (clause : Nat) (s : State) (r : Fin 24) (mv : BitVec 12) (_ov : Bool) (par : Bool) : Bool :=
  match clause with
  | 0 => holds (
    (s.memWf = true) ∧
    (s.mode ≠ .unpowered) ∧
    (s.sup.loaded = true) ∧
    let x := s.rails[r]
    (x.st = .delay))
  | 1 => holds (
    (s.memWf = true) ∧
    (s.mode ≠ .unpowered) ∧
    (s.sup.loaded = true) ∧
    let x := s.rails[r]
    (x.st = .retryOff))
  | 2 => holds (
    (s.memWf = true) ∧
    (s.mode ≠ .unpowered) ∧
    (s.sup.loaded = true) ∧
    let x := s.rails[r]
    (x.retrying = false))
  | 3 => holds (
    (s.memWf = true) ∧
    (s.mode ≠ .unpowered) ∧
    (s.sup.loaded = true) ∧
    let x := s.rails[r]
    let quiet : Prop := s.transit = none ∧ s.sup.sysDown = false ∧ s.sup.attempt = false
    (x.st = .ramp) ∧
    (x.inDown = false) ∧
    (x.retrying = false) ∧
    (s.sup.seq ≠ 2) ∧
    (quiet))
  | 4 => holds (
    (s.memWf = true) ∧
    (s.mode ≠ .unpowered) ∧
    (s.sup.loaded = true) ∧
    let x := s.rails[r]
    let quiet : Prop := s.transit = none ∧ s.sup.sysDown = false ∧ s.sup.attempt = false
    (x.st = .ramp) ∧
    (x.inDown = false) ∧
    (x.retrying = true) ∧
    (s.sup.seq ≠ 2) ∧
    (quiet))
  | 5 => holds (
    (s.memWf = true) ∧
    (s.mode ≠ .unpowered) ∧
    (s.sup.loaded = true) ∧
    let x := s.rails[r]
    let quiet : Prop := s.transit = none ∧ s.sup.sysDown = false ∧ s.sup.attempt = false
    (x.st = .ramp) ∧
    (x.inDown = false) ∧
    (x.retrying = false) ∧
    (quiet) ∧
    ((2 ≤ r.val ∨ s.lad.s5Down = [])) ∧
    (inMask (s.liveCone r) r = false))
  | 6 => holds (
    (s.memWf = true) ∧
    (s.mode ≠ .unpowered) ∧
    (s.sup.loaded = true) ∧
    let x := s.rails[r]
    (x.st = .ramp) ∧
    (x.inDown = false) ∧
    (x.retrying = false) ∧
    (s.sup.attempt = true) ∧
    (r.val < 6))
  | 7 => holds (
    (s.memWf = true) ∧
    (s.mode ≠ .unpowered) ∧
    (s.sup.loaded = true) ∧
    let x := s.rails[r]
    let code := s.effReact r
    let running : Prop := x.entry.en = true ∧ x.st = .good ∧ x.inDown = false ∧ s.ancestorRetries r = false
    (running) ∧
    (par = false) ∧
    (code = 0))
  | 8 => holds (
    (s.memWf = true) ∧
    (s.mode ≠ .unpowered) ∧
    (s.sup.loaded = true) ∧
    let x := s.rails[r]
    let code := s.effReact r
    let running : Prop := x.entry.en = true ∧ x.st = .good ∧ x.inDown = false ∧ s.ancestorRetries r = false
    (running) ∧
    (par = false) ∧
    (code = 1))
  | 9 => holds (
    (s.memWf = true) ∧
    (s.mode ≠ .unpowered) ∧
    (s.sup.loaded = true) ∧
    let x := s.rails[r]
    let quiet : Prop := s.transit = none ∧ s.sup.sysDown = false ∧ s.sup.attempt = false
    let code := s.effReact r
    let running : Prop := x.entry.en = true ∧ x.st = .good ∧ x.inDown = false ∧ s.ancestorRetries r = false
    (running) ∧
    (par = false) ∧
    (code = 2) ∧
    (quiet))
  | 10 => holds (
    (s.memWf = true) ∧
    (s.mode ≠ .unpowered) ∧
    (s.sup.loaded = true) ∧
    let x := s.rails[r]
    let quiet : Prop := s.transit = none ∧ s.sup.sysDown = false ∧ s.sup.attempt = false
    let code := s.effReact r
    let running : Prop := x.entry.en = true ∧ x.st = .good ∧ x.inDown = false ∧ s.ancestorRetries r = false
    (running) ∧
    (par = false) ∧
    (code = 3) ∧
    (quiet) ∧
    (s.mode ≠ .supervise) ∧
    (s.phase = .stable))
  | 11 => holds (
    (s.memWf = true) ∧
    (s.mode ≠ .unpowered) ∧
    (s.sup.loaded = true) ∧
    let x := s.rails[r]
    let running : Prop := x.entry.en = true ∧ x.st = .good ∧ x.inDown = false ∧ s.ancestorRetries r = false
    (running) ∧
    (par = true))
  | 12 => holds (
    (s.memWf = true) ∧
    (s.mode ≠ .unpowered) ∧
    (s.sup.loaded = true) ∧
    let x := s.rails[r]
    let quiet : Prop := s.transit = none ∧ s.sup.sysDown = false ∧ s.sup.attempt = false
    (x.entry.en = true) ∧
    (x.st = .good) ∧
    (x.inDown = true) ∧
    (quiet))
  | 13 => holds (
    (s.memWf = true) ∧
    (s.mode ≠ .unpowered) ∧
    (s.sup.loaded = true) ∧
    let x := s.rails[r]
    (x.inDown = true) ∧
    (x.pen = true) ∧
    ((∀ k : Fin 24, inMask (s.liveCone r) k = true → s.rails[k].inDown = true → s.rails[k].isOff = true)))
  | 14 => holds (
    (s.memWf = true) ∧
    (s.mode ≠ .unpowered) ∧
    (s.sup.loaded = true) ∧
    let x := s.rails[r]
    let quiet : Prop := s.transit = none ∧ s.sup.sysDown = false ∧ s.sup.attempt = false
    (x.st = .discharge) ∧
    (quiet))
  | 15 => holds (
    (s.memWf = true) ∧
    (s.mode ≠ .unpowered) ∧
    (s.sup.loaded = true) ∧
    let x := s.rails[r]
    let quiet : Prop := s.transit = none ∧ s.sup.sysDown = false ∧ s.sup.attempt = false
    (x.st = .discharge) ∧
    (mv.toNat * 10 < x.act.nom.toNat) ∧
    (quiet))
  | 16 => holds (
    (s.memWf = true) ∧
    (s.mode ≠ .unpowered) ∧
    (s.sup.loaded = true) ∧
    let x := s.rails[r]
    let near : Prop := x.entry.warn = 0 ∨ ((mv.toNat : Int) - x.act.nom.toNat).natAbs ≤ x.entry.warn.toNat
    (x.st = .good) ∧
    (near))
  | 17 => holds (
    (s.memWf = true) ∧
    (s.mode ≠ .unpowered) ∧
    (s.sup.loaded = true) ∧
    let x := s.rails[r]
    let near : Prop := x.entry.warn = 0 ∨ ((mv.toNat : Int) - x.act.nom.toNat).natAbs ≤ x.entry.warn.toNat
    (x.st = .good) ∧
    (¬near) ∧
    (x.armed = false))
  | 18 => holds (
    (s.memWf = true) ∧
    (s.mode ≠ .unpowered) ∧
    (s.sup.loaded = true) ∧
    let x := s.rails[r]
    let near : Prop := x.entry.warn = 0 ∨ ((mv.toNat : Int) - x.act.nom.toNat).natAbs ≤ x.entry.warn.toNat
    (x.st = .good) ∧
    (¬near) ∧
    (x.armed = true) ∧
    (x.warnMs = none))
  | 19 => holds (
    (s.memWf = true) ∧
    (s.mode ≠ .unpowered) ∧
    (s.sup.loaded = true))
  | 20 => holds (
    (s.memWf = true) ∧
    (s.mode ≠ .unpowered) ∧
    (s.sup.loaded = true) ∧
    (s.sup.epiOpen = true) ∧
    ((∀ k : Fin 24, ¬(s.rails[k].st = .ramp ∧ s.rails[k].retrying = true))))
  | 21 => holds (
    (s.memWf = true) ∧
    (s.mode ≠ .unpowered) ∧
    (s.sup.loaded = true) ∧
    (s.sup.seqIn = false) ∧
    (s.sup.casc.getLsbD 0 = false))
  | 22 => holds (
    (s.memWf = true) ∧
    (s.mode ≠ .unpowered) ∧
    (s.sup.loaded = true) ∧
    (s.sup.seqIn = false) ∧
    (s.sup.casc.getLsbD 0 = true) ∧
    (s.mayAttempt = true) ∧
    (s.transit = none))
  | 23 => holds (
    (s.memWf = true) ∧
    (s.mode ≠ .unpowered) ∧
    (s.sup.loaded = true) ∧
    (s.sup.seqIn = true) ∧
    (s.sup.casc.getLsbD 0 = false))
  | 24 => holds (
    (s.memWf = true) ∧
    (s.mode ≠ .unpowered) ∧
    (s.sup.loaded = true) ∧
    let x := s.rails[r]
    (s.sup.seqIn = true) ∧
    (s.sup.casc.getLsbD 0 = true) ∧
    (x.st = .good) ∧
    (r.val < 6) ∧
    (s.mode ≠ .supervise) ∧
    (s.transit = none) ∧
    (s.sup.sysDown = false))
  | _ => true

theorem witness_RailsRiseFallAndFault :
    (∀ c ∈ [0, 2, 19], meets_RailsRiseFallAndFault c (railed .delay) 7 1000 true false) ∧
    meets_RailsRiseFallAndFault 1 (railed .retryOff) 7 1000 true false ∧
    (∀ c ∈ [3, 5], meets_RailsRiseFallAndFault c (railed .ramp) 7 1000 true false) ∧
    meets_RailsRiseFallAndFault 4 (railed .ramp 1 fun x => { x with retrying := true, retries := 2 }) 7 1000 true false ∧
    meets_RailsRiseFallAndFault 6 { railed .good with mode := .boot, sup := { setup.sup with attempt := true }, rails := (railed .good).rails.map fun x => { x with st := .ramp } } 2 1000 true false ∧
    (∀ c ∈ [7, 16], meets_RailsRiseFallAndFault c (railed .good) 7 1000 true false) ∧
    meets_RailsRiseFallAndFault 8 (railed .good 1) 7 1000 true false ∧
    meets_RailsRiseFallAndFault 9 (railed .good 2) 7 1000 true false ∧
    meets_RailsRiseFallAndFault 10 (railed .good 3) 7 1000 true false ∧
    meets_RailsRiseFallAndFault 11 (railed .good) 7 1000 true true ∧
    meets_RailsRiseFallAndFault 12 (railed .good 0 fun x => { x with inDown := true }) 7 1000 true false ∧
    meets_RailsRiseFallAndFault 13 (railed .good 0 fun x => { x with inDown := true }) 10 1000 true false := by decide +kernel

theorem witness_RailsRiseFallAndFault_b :
    meets_RailsRiseFallAndFault 14 (railed .discharge) 7 1000 true false ∧
    meets_RailsRiseFallAndFault 15 (railed .discharge) 7 90 true false ∧
    meets_RailsRiseFallAndFault 17 (railed .good 0 fun x => { x with armed := false }) 7 3000 true false ∧
    meets_RailsRiseFallAndFault 18 (railed .good) 7 3000 true false ∧
    meets_RailsRiseFallAndFault 20 { railed .good with sup := { setup.sup with epiOpen := true, seqIn := true } } 7 1000 true false ∧
    meets_RailsRiseFallAndFault 21 { idle with sup := { idle.sup with casc := 0 } } 7 1000 true false ∧
    meets_RailsRiseFallAndFault 22 { idle with sup := { idle.sup with casc := 1 } } 7 1000 true false ∧
    meets_RailsRiseFallAndFault 23 { railed .good with sup := { setup.sup with casc := 0, seqIn := true } } 7 1000 true false ∧
    meets_RailsRiseFallAndFault 24 { railed .good with sup := { setup.sup with casc := 1, seqIn := true } } 2 1000 true false := by decide +kernel

/-- The hypotheses of the clauses of SupervisorCommandsBusAndLog. -/
def meets_SupervisorCommandsBusAndLog (clause : Nat) (s : State) (_v : Word) (b : Byte) (_src : Byte) (tag : Byte) (bytes : BitVec 136) (cmd : BitVec 3) (rec_ : LogRec) (recs : List LogRec) (q : BusReq) (p : List Byte) : Bool :=
  match clause with
  | 0 => holds (
    (s.memWf = true) ∧
    (s.mode ≠ .unpowered) ∧
    (s.sup.loaded = true) ∧
    (s.cp.sess.active = false))
  | 10 => holds (
    (s.memWf = true) ∧
    (s.mode ≠ .unpowered) ∧
    (s.sup.loaded = true) ∧
    let sess : Prop := s.cp.sess.active = true ∧ s.sup.cmdRes ≠ 1
    let level := s.cp.sess.level
    (sess) ∧
    (level = .field))
  | 14 => holds (
    (s.memWf = true) ∧
    (s.mode ≠ .unpowered) ∧
    (s.sup.loaded = true) ∧
    let sess : Prop := s.cp.sess.active = true ∧ s.sup.cmdRes ≠ 1
    let quiet : Prop := s.transit = none ∧ s.sup.sysDown = false
    (sess) ∧
    (quiet) ∧
    (s.sup.seq ≠ 2))
  | 15 => holds (
    (s.memWf = true) ∧
    (s.mode ≠ .unpowered) ∧
    (s.sup.loaded = true) ∧
    let sess : Prop := s.cp.sess.active = true ∧ s.sup.cmdRes ≠ 1
    (sess) ∧
    (s.rails[(5 : Fin 24)].st = .good) ∧
    (s.mode ≠ .supervise))
  | 16 => holds (
    (s.memWf = true) ∧
    (s.mode ≠ .unpowered) ∧
    (s.sup.loaded = true) ∧
    let sess : Prop := s.cp.sess.active = true ∧ s.sup.cmdRes ≠ 1
    (sess))
  | 17 => holds (
    (s.memWf = true) ∧
    (s.mode ≠ .unpowered) ∧
    (s.sup.loaded = true) ∧
    let sess : Prop := s.cp.sess.active = true ∧ s.sup.cmdRes ≠ 1
    let level := s.cp.sess.level
    (sess) ∧
    (level ≠ .field))
  | 18 => holds (
    (s.memWf = true) ∧
    (s.mode ≠ .unpowered) ∧
    (s.sup.loaded = true) ∧
    let sess : Prop := s.cp.sess.active = true ∧ s.sup.cmdRes ≠ 1
    let level := s.cp.sess.level
    (sess) ∧
    (level ≠ .field) ∧
    ((∃ k : Fin 24, s.rails[k].st ≠ .off)))
  | 19 => holds (
    (s.memWf = true) ∧
    (s.mode ≠ .unpowered) ∧
    (s.sup.loaded = true) ∧
    let sess : Prop := s.cp.sess.active = true ∧ s.sup.cmdRes ≠ 1
    let level := s.cp.sess.level
    let e := RailEntry.ofBytes (leBytes bytes.toNat 17)
    (sess) ∧
    (level ≠ .field) ∧
    ((∀ k : Fin 24, s.rails[k].st = .off)) ∧
    (s.sup.saved = some (List.replicate 24 e, tableCrc (List.replicate 24 e))))
  | 20 => holds (
    (s.memWf = true) ∧
    (s.mode ≠ .unpowered) ∧
    (s.sup.loaded = true) ∧
    let sess : Prop := s.cp.sess.active = true ∧ s.sup.cmdRes ≠ 1
    let level := s.cp.sess.level
    (sess) ∧
    (level ≠ .field) ∧
    (s.logPolicy % 2 = 0))
  | 21 => holds (
    (s.memWf = true) ∧
    (s.mode ≠ .unpowered) ∧
    (s.sup.loaded = true) ∧
    let sess : Prop := s.cp.sess.active = true ∧ s.sup.cmdRes ≠ 1
    let level := s.cp.sess.level
    (sess) ∧
    (level ≠ .field) ∧
    (s.logPolicy % 2 = 1))
  | 22 => holds (
    (s.memWf = true) ∧
    (s.mode ≠ .unpowered) ∧
    (s.sup.loaded = true) ∧
    let sess : Prop := s.cp.sess.active = true ∧ s.sup.cmdRes ≠ 1
    (sess) ∧
    (s.busMaster = true) ∧
    (s.sup.busDst ≠ 0xFF) ∧
    (s.sup.busOp = 4))
  | 23 => holds (
    (s.memWf = true) ∧
    (s.mode ≠ .unpowered) ∧
    (s.sup.loaded = true) ∧
    let sess : Prop := s.cp.sess.active = true ∧ s.sup.cmdRes ≠ 1
    (sess) ∧
    (s.busMaster = true) ∧
    (s.sup.busDst = 0xFF) ∧
    (s.sup.busOp = 2))
  | 24 => holds (
    (s.memWf = true) ∧
    (s.mode ≠ .unpowered) ∧
    (s.sup.loaded = true) ∧
    let sess : Prop := s.cp.sess.active = true ∧ s.sup.cmdRes ≠ 1
    (sess) ∧
    (s.busMaster = false))
  | 25 => holds (
    (s.memWf = true) ∧
    (s.mode ≠ .unpowered) ∧
    (s.sup.loaded = true) ∧
    let sess : Prop := s.cp.sess.active = true ∧ s.sup.cmdRes ≠ 1
    (sess) ∧
    (b.toNat % 32 < 24))
  | 26 => holds (
    (s.memWf = true) ∧
    (s.mode ≠ .unpowered) ∧
    (s.sup.loaded = true) ∧
    let sess : Prop := s.cp.sess.active = true ∧ s.sup.cmdRes ≠ 1
    (sess) ∧
    (24 ≤ b.toNat % 32))
  | 28 => holds (
    (s.memWf = true) ∧
    (s.mode ≠ .unpowered) ∧
    (s.sup.loaded = true) ∧
    let sess : Prop := s.cp.sess.active = true ∧ s.sup.cmdRes ≠ 1
    let level := s.cp.sess.level
    let e := RailEntry.ofBytes (leBytes bytes.toNat 17)
    let rail := s.sup.cpPath.rtSel.toNat
    (sess) ∧
    (level ≠ .field) ∧
    (rail < 24) ∧
    (e.pgTmo = 0 ∨ e.nom ≤ e.uv ∨ e.ov ≤ e.nom ∨ e.parent.getLsbD rail = true))
  | 29 => holds (
    (s.memWf = true) ∧
    (s.mode ≠ .unpowered) ∧
    (s.sup.loaded = true) ∧
    (s.log.queue = rec_ :: recs))
  | 31 => holds (
    (s.memWf = true) ∧
    (s.mode ≠ .unpowered) ∧
    (s.sup.loaded = true) ∧
    let hears (dst : Byte) : Prop := s.busMaster = false ∧ dst.toNat = s.headId
    let me := BitVec.ofNat 8 s.headId
    (hears me) ∧
    (s.mode = .supervise) ∧
    (s.mayAttempt = true) ∧
    (s.transit = none))
  | 32 => holds (
    (s.memWf = true) ∧
    (s.mode ≠ .unpowered) ∧
    (s.sup.loaded = true) ∧
    let hears (dst : Byte) : Prop := s.busMaster = false ∧ dst.toNat = s.headId
    let me := BitVec.ofNat 8 s.headId
    (hears me) ∧
    (s.mode ≠ .supervise) ∧
    (s.transit = none))
  | 33 => holds (
    (s.memWf = true) ∧
    (s.mode ≠ .unpowered) ∧
    (s.sup.loaded = true) ∧
    let hears (dst : Byte) : Prop := s.busMaster = false ∧ dst.toNat = s.headId
    let me := BitVec.ofNat 8 s.headId
    (hears me) ∧
    (s.rails[(5 : Fin 24)].st = .good) ∧
    (s.mode ≠ .supervise))
  | 34 => holds (
    (s.memWf = true) ∧
    (s.mode ≠ .unpowered) ∧
    (s.sup.loaded = true) ∧
    let hears (dst : Byte) : Prop := s.busMaster = false ∧ dst.toNat = s.headId
    let me := BitVec.ofNat 8 s.headId
    (hears me))
  | 37 => holds (
    (s.memWf = true) ∧
    (s.mode ≠ .unpowered) ∧
    (s.sup.loaded = true) ∧
    let hears (dst : Byte) : Prop := s.busMaster = false ∧ dst.toNat = s.headId
    let me := BitVec.ofNat 8 s.headId
    (hears me) ∧
    (cmd = 0 ∨ 6 ≤ cmd.toNat))
  | 38 => holds (
    (s.memWf = true) ∧
    (s.mode ≠ .unpowered) ∧
    (s.sup.loaded = true) ∧
    (s.busMaster = true ∨ (b ≠ 0xFF ∧ b.toNat ≠ s.headId)))
  | 42 => holds (
    (s.memWf = true) ∧
    (s.mode ≠ .unpowered) ∧
    (s.sup.loaded = true) ∧
    (s.sup.busReq = some q) ∧
    (q.sends < 3))
  | 43 => holds (
    (s.memWf = true) ∧
    (s.mode ≠ .unpowered) ∧
    (s.sup.loaded = true) ∧
    (s.sup.busReq = some q) ∧
    (3 ≤ q.sends))
  | 44 => holds (
    (s.memWf = true) ∧
    (s.mode ≠ .unpowered) ∧
    (s.sup.loaded = true) ∧
    (s.sup.busReq = some q) ∧
    (p.length = 12) ∧
    (q.cmd = 3))
  | 45 => holds (
    (s.memWf = true) ∧
    (s.mode ≠ .unpowered) ∧
    (s.sup.loaded = true) ∧
    (s.sup.busReq = some q) ∧
    (p.length = 32) ∧
    (q.cmd = 4))
  | 46 => holds (
    (s.memWf = true) ∧
    (s.mode ≠ .unpowered) ∧
    (s.sup.loaded = true) ∧
    (s.sup.busReq = some q))
  | 47 => holds (
    (s.memWf = true) ∧
    (s.mode ≠ .unpowered) ∧
    (s.sup.loaded = true) ∧
    (s.sup.busReq = some q) ∧
    (tag ≠ q.tag))
  | _ => true

theorem witness_SupervisorCommandsBusAndLog :
    (∀ c ∈ [0, 32, 34, 37, 38], meets_SupervisorCommandsBusAndLog c nosess 0 9 3 77 0 6 record3 [] {} []) ∧
    (∀ c ∈ [10, 14, 16, 24, 25], meets_SupervisorCommandsBusAndLog c setup 0 9 3 77 0 6 record3 [] {} []) ∧
    (∀ c ∈ [15, 33], meets_SupervisorCommandsBusAndLog c (railsUp setup) 0 9 3 77 0 6 record3 [] {} []) ∧
    (∀ c ∈ [17, 21, 28], meets_SupervisorCommandsBusAndLog c (leveled .service setup) 0 9 3 77 0 6 record3 [] {} []) ∧
    meets_SupervisorCommandsBusAndLog 18 (railsUp (leveled .service setup)) 0 9 3 77 0 6 record3 [] {} [] ∧
    meets_SupervisorCommandsBusAndLog 20 { leveled .service setup with otp := { setup.otp with logPolicy := [{ value := 0 }] } } 0 9 3 77 0 6 record3 [] {} [] ∧
    meets_SupervisorCommandsBusAndLog 22 { busHead setup with sup := { setup.sup with busOp := 4, busDst := 5 } } 0 9 3 77 0 6 record3 [] {} [] ∧
    meets_SupervisorCommandsBusAndLog 23 { busHead setup with sup := { setup.sup with busOp := 2, busDst := 0xFF } } 0 9 3 77 0 6 record3 [] {} [] ∧
    meets_SupervisorCommandsBusAndLog 26 { leveled .service setup with sup := { setup.sup with saved := some (let x := RailEntry.ofBytes (leBytes (rtBytes goodEntry).toNat 17); (List.replicate 24 x, tableCrc (List.replicate 24 x))) } } 0 30 3 77 (rtBytes goodEntry) 6 record3 [] {} [] ∧
    meets_SupervisorCommandsBusAndLog 29 { setup with log := { queue := [record3] } } 0 9 3 77 0 6 record3 [] {} [] ∧
    meets_SupervisorCommandsBusAndLog 31 idle 0 9 3 77 0 6 record3 [] {} [] ∧
    (∀ c ∈ [42, 44, 46, 47], meets_SupervisorCommandsBusAndLog c (busAsked { cmd := 3, dst := 5, tag := 8 }) 0 9 3 77 0 6 record3 [] { cmd := 3, dst := 5, tag := 8 } (List.replicate 12 7)) := by decide +kernel

theorem witness_SupervisorCommandsBusAndLog_b :
    (∀ c ∈ [43, 45], meets_SupervisorCommandsBusAndLog c (busAsked { cmd := 4, dst := 5, tag := 8, sends := 3 }) 0 9 3 77 0 6 record3 [] { cmd := 4, dst := 5, tag := 8, sends := 3 } (List.replicate 32 7)) := by decide +kernel

/-- The hypotheses of the clauses of ClocksWearAndTemperature. -/
def meets_ClocksWearAndTemperature (clause : Nat) (s : State) (_ns : Nat) (_v : Word) (ppm : Int) (dr : List (Option Int)) (ts : List (Option Int)) (i : Fin 96) (d : Int) (a : Int) (j : Fin 8) : Bool :=
  match clause with
  | 0 => holds (
    (s.memWf = true) ∧
    (s.pllOn = true) ∧
    (s.clk.run = false))
  | 1 => holds (
    (s.memWf = true) ∧
    (s.plateUp = true) ∧
    (s.bit F.CLK_STAT_SWITCHING = false))
  | 2 => holds (
    (s.memWf = true) ∧
    (s.plateUp = true) ∧
    (s.bit F.CLK_STAT_SWITCHING = true))
  | 3 => holds (
    (s.memWf = true) ∧
    let locked : Prop := s.clk.run = true ∧ s.bit F.CLK_STAT_LOCKED = true ∧ s.bit F.CLK_STAT_SWITCHING = false ∧
      s.bit F.CLK_STAT_HOLDOVER = false
    let toDynak : Prop := s.fld F.CLK_CFG_REF_SEL = 1 ∧ s.dom[Dom.dynak] = .on ∧ s.dyn.srcDn = false ∧ s.dyn.up.trained = true
    (locked) ∧
    (toDynak) ∧
    (s.fld F.CLK_STAT_REF = 0) ∧
    (ppm.natAbs ≤ 2000))
  | 4 => holds (
    (s.memWf = true) ∧
    let locked : Prop := s.clk.run = true ∧ s.bit F.CLK_STAT_LOCKED = true ∧ s.bit F.CLK_STAT_SWITCHING = false ∧
      s.bit F.CLK_STAT_HOLDOVER = false
    let toDynak : Prop := s.fld F.CLK_CFG_REF_SEL = 1 ∧ s.dom[Dom.dynak] = .on ∧ s.dyn.srcDn = false ∧ s.dyn.up.trained = true
    (locked) ∧
    (toDynak) ∧
    (s.fld F.CLK_STAT_REF = 0) ∧
    (2000 < ppm.natAbs))
  | 5 => holds (
    (s.memWf = true) ∧
    let locked : Prop := s.clk.run = true ∧ s.bit F.CLK_STAT_LOCKED = true ∧ s.bit F.CLK_STAT_SWITCHING = false ∧
      s.bit F.CLK_STAT_HOLDOVER = false
    (locked) ∧
    (s.fld F.CLK_CFG_REF_SEL = 0) ∧
    (s.fld F.CLK_STAT_REF ≠ 0))
  | 6 => holds (
    (s.memWf = true) ∧
    (s.bit F.CLK_STAT_SWITCHING = true) ∧
    (s.clk.target < 3))
  | 7 => holds (
    (s.memWf = true) ∧
    (s.clk.run = true) ∧
    (s.bit F.CLK_STAT_HOLDOVER = false))
  | 8 => holds (
    (s.memWf = true) ∧
    (s.clk.run = true) ∧
    (s.bit F.CLK_STAT_HOLDOVER = true) ∧
    (s.fld F.CLK_STAT_REF ≠ 0) ∧
    (s.bit F.CLK_CFG_AUTO_FB = true) ∧
    (s.dyn.up.trained = false) ∧
    (s.dyn.dn.trained = false))
  | 9 => holds (
    (s.memWf = true) ∧
    (s.mode ≠ .unpowered) ∧
    (s.bit F.CLK_AON_STAT_XTAL_OK = true))
  | 10 => holds (
    (s.memWf = true) ∧
    (s.mode ≠ .unpowered))
  | 12 => holds (
    (s.memWf = true) ∧
    let hour : Prop := s.mode ≠ .unpowered ∧ s.rails[(0 : Fin 24)].st = .good ∧ s.rails[(1 : Fin 24)].st = .good
    (hour) ∧
    (s.ladder ≠ .s0))
  | 13 => holds (
    (s.memWf = true) ∧
    let hour : Prop := s.mode ≠ .unpowered ∧ s.rails[(0 : Fin 24)].st = .good ∧ s.rails[(1 : Fin 24)].st = .good
    (hour) ∧
    (settledB s = true) ∧
    (s.wear.hours < 2 ^ 32) ∧
    (s.monitorOn i = true) ∧
    (dr.getD i none = some d))
  | 14 => holds (
    (s.memWf = true) ∧
    let hour : Prop := s.mode ≠ .unpowered ∧ s.rails[(0 : Fin 24)].st = .good ∧ s.rails[(1 : Fin 24)].st = .good
    (hour) ∧
    (settledB s = true) ∧
    (s.monitorOn i = false))
  | 15 => holds (
    (s.memWf = true) ∧
    let hot : Prop := ts.length = 8 ∧ s.mode ≠ .unpowered ∧ ts.getD j none = some a ∧ ∀ k : Fin 8, ∀ b ∈ ts.getD k none, b ≤ a
    (hot) ∧
    (s.stepThr 4 ≤ a))
  | 16 => holds (
    (s.memWf = true) ∧
    let hot : Prop := ts.length = 8 ∧ s.mode ≠ .unpowered ∧ ts.getD j none = some a ∧ ∀ k : Fin 8, ∀ b ∈ ts.getD k none, b ≤ a
    (hot) ∧
    (s.wear.step ≤ 3) ∧
    (s.stepThr 3 ≤ a) ∧
    (a < s.stepThr 4))
  | 17 => holds (
    (s.memWf = true) ∧
    let hot : Prop := ts.length = 8 ∧ s.mode ≠ .unpowered ∧ ts.getD j none = some a ∧ ∀ k : Fin 8, ∀ b ∈ ts.getD k none, b ≤ a
    (hot) ∧
    (s.wear.step = 2) ∧
    (s.stepThr 2 - 3 < a) ∧
    (a < s.stepThr 2))
  | 18 => holds (
    (s.memWf = true) ∧
    let hot : Prop := ts.length = 8 ∧ s.mode ≠ .unpowered ∧ ts.getD j none = some a ∧ ∀ k : Fin 8, ∀ b ∈ ts.getD k none, b ≤ a
    (hot) ∧
    (s.wear.step ≤ 4) ∧
    (a ≤ s.stepThr 1 - 3) ∧
    (a ≤ s.stepThr 2 - 3))
  | 19 => holds (
    (s.memWf = true) ∧
    let hot : Prop := ts.length = 8 ∧ s.mode ≠ .unpowered ∧ ts.getD j none = some a ∧ ∀ k : Fin 8, ∀ b ∈ ts.getD k none, b ≤ a
    (hot) ∧
    (s.stepThr 4 ≤ a) ∧
    (s.mode.isRun = true))
  | 20 => holds (
    (s.memWf = true) ∧
    (s.mode = .supervise) ∧
    ((∀ k : Fin 8, ts.getD k none = none)))
  | _ => true

theorem witness_ClocksWearAndTemperature :
    (∀ c ∈ [0, 1, 10], meets_ClocksWearAndTemperature c { setup with clk := {} } 200 0 5 [] [] 5 0 0 2) ∧
    (∀ c ∈ [2, 6, 7], meets_ClocksWearAndTemperature c (setup.raise F.CLK_STAT_SWITCHING) 200 0 5 [] [] 5 0 0 2) ∧
    meets_ClocksWearAndTemperature 3 (dynakRef (locked setup)) 200 0 5 [] [] 5 0 0 2 ∧
    meets_ClocksWearAndTemperature 4 (dynakRef (locked setup)) 200 0 (-2001) [] [] 5 0 0 2 ∧
    meets_ClocksWearAndTemperature 5 ((locked setup).setFld F.CLK_STAT_REF 1) 200 0 5 [] [] 5 0 0 2 ∧
    meets_ClocksWearAndTemperature 8 (((locked setup).raise F.CLK_STAT_HOLDOVER).setFld F.CLK_STAT_REF 2) 200 0 5 [] [] 5 0 0 2 ∧
    meets_ClocksWearAndTemperature 9 (setup.raise F.CLK_AON_STAT_XTAL_OK) 200 0 5 [] [] 5 0 0 2 ∧
    meets_ClocksWearAndTemperature 12 { railsUp setup with ladder := .s2 } 200 0 5 [] [] 5 0 0 2 ∧
    meets_ClocksWearAndTemperature 13 (railsUp setup) 200 0 5 (List.replicate 5 none ++ [some 40] ++ List.replicate 90 (some 3)) [] 5 40 0 2 ∧
    meets_ClocksWearAndTemperature 14 { railsUp setup with dom := Vector.replicate 76 .off } 200 0 5 (List.replicate 5 none ++ [some 40] ++ List.replicate 90 (some 3)) [] 5 40 0 2 ∧
    (∀ c ∈ [15, 19], meets_ClocksWearAndTemperature c { setup with wear := { step := 0 } } 200 0 5 [] (temps 120) 5 0 120 2) ∧
    meets_ClocksWearAndTemperature 16 { setup with wear := { step := 0 } } 200 0 5 [] (temps 100) 5 0 100 2 := by decide +kernel

theorem witness_ClocksWearAndTemperature_b :
    meets_ClocksWearAndTemperature 17 { setup with wear := { step := 2 } } 200 0 5 [] (temps 89) 5 0 89 2 ∧
    meets_ClocksWearAndTemperature 18 { setup with wear := { step := 2 } } 200 0 5 [] (temps 80) 5 0 80 2 ∧
    meets_ClocksWearAndTemperature 20 idle 200 0 5 [] (List.replicate 8 none) 5 0 0 2 := by decide +kernel

/-- The hypotheses of the clauses of SettingsScribeChainAndTap. -/
def meets_SettingsScribeChainAndTap (clause : Nat) (s : State) (v : Word) (k : Fin 4) (hash : BitVec 256) (n : Fin 16) (_addr : SysAddr) (arg : Half) (o : OtpSlot) (os : List OtpSlot) (p : OtpProg) (c : ScrCmd) (_bits : List Bool) : Bool :=
  match clause with
  | 0 => holds (
    (s.memWf = true) ∧
    let level := s.cp.sess.level
    let host : Prop := s.cp.sess.active = true ∧ s.plateUp = true
    let open_ : Prop := host ∧ s.mode = .setup ∧ s.otp.prog = none
    let svc : Prop := level ≠ .field
    (open_) ∧
    (svc) ∧
    (s.otp.head.length < 8))
  | 1 => holds (
    (s.memWf = true) ∧
    let level := s.cp.sess.level
    let host : Prop := s.cp.sess.active = true ∧ s.plateUp = true
    let open_ : Prop := host ∧ s.mode = .setup ∧ s.otp.prog = none
    let svc : Prop := level ≠ .field
    (open_) ∧
    (svc) ∧
    (s.otp.bootPolicy.length < 4) ∧
    (v.getLsbD 3 = true))
  | 2 => holds (
    (s.memWf = true) ∧
    let level := s.cp.sess.level
    let host : Prop := s.cp.sess.active = true ∧ s.plateUp = true
    let open_ : Prop := host ∧ s.mode = .setup ∧ s.otp.prog = none
    let svc : Prop := level ≠ .field
    (open_) ∧
    (svc) ∧
    (s.otp.keys[k] = none) ∧
    (hash ≠ 0) ∧
    (hash.toNat + 1 ≠ 2 ^ 256))
  | 3 => holds (
    (s.memWf = true) ∧
    let level := s.cp.sess.level
    let host : Prop := s.cp.sess.active = true ∧ s.plateUp = true
    let open_ : Prop := host ∧ s.mode = .setup ∧ s.otp.prog = none
    let svc : Prop := level ≠ .field
    (open_) ∧
    (svc) ∧
    (s.otp.keys[k] = some o))
  | 4 => holds (
    (s.memWf = true) ∧
    let level := s.cp.sess.level
    let host : Prop := s.cp.sess.active = true ∧ s.plateUp = true
    let open_ : Prop := host ∧ s.mode = .setup ∧ s.otp.prog = none
    let svc : Prop := level ≠ .field
    (open_) ∧
    (svc) ∧
    (s.otp.revoke = []) ∧
    (s.keyHash k ≠ none) ∧
    (v.getLsbD k = false))
  | 5 => holds (
    (s.memWf = true) ∧
    let level := s.cp.sess.level
    let host : Prop := s.cp.sess.active = true ∧ s.plateUp = true
    let open_ : Prop := host ∧ s.mode = .setup ∧ s.otp.prog = none
    let bv (m : Nat) : Nat := (v &&& BitVec.ofNat 32 m).toNat
    let svc : Prop := level ≠ .field
    (open_) ∧
    (svc) ∧
    (s.otp.revoke = []) ∧
    (bv 0xF = 15))
  | 6 => holds (
    (s.memWf = true) ∧
    let level := s.cp.sess.level
    let host : Prop := s.cp.sess.active = true ∧ s.plateUp = true
    let open_ : Prop := host ∧ s.mode = .setup ∧ s.otp.prog = none
    let svc : Prop := level ≠ .field
    (open_) ∧
    (svc) ∧
    (s.otp.logPolicy.length < 4))
  | 7 => holds (
    (s.memWf = true) ∧
    let level := s.cp.sess.level
    let host : Prop := s.cp.sess.active = true ∧ s.plateUp = true
    let open_ : Prop := host ∧ s.mode = .setup ∧ s.otp.prog = none
    let bv (m : Nat) : Nat := (v &&& BitVec.ofNat 32 m).toNat
    let svc : Prop := level ≠ .field
    (open_) ∧
    (svc) ∧
    (s.otp.dbg = []) ∧
    (bv 3 ≤ 1))
  | 8 => holds (
    (s.memWf = true) ∧
    let level := s.cp.sess.level
    let host : Prop := s.cp.sess.active = true ∧ s.plateUp = true
    let open_ : Prop := host ∧ s.mode = .setup ∧ s.otp.prog = none
    let bv (m : Nat) : Nat := (v &&& BitVec.ofNat 32 m).toNat
    let svc : Prop := level ≠ .field
    (open_) ∧
    (svc) ∧
    (s.otp.dbg = []) ∧
    (bv 3 = 2))
  | 9 => holds (
    (s.memWf = true) ∧
    let level := s.cp.sess.level
    let host : Prop := s.cp.sess.active = true ∧ s.plateUp = true
    (host) ∧
    (level = .field))
  | 11 => holds (
    (s.memWf = true) ∧
    let level := s.cp.sess.level
    let host : Prop := s.cp.sess.active = true ∧ s.plateUp = true
    let svc : Prop := level ≠ .field
    (host) ∧
    (svc) ∧
    (s.mode.isCapture = true))
  | 12 => holds (
    (s.memWf = true) ∧
    (s.otp.prog = some p) ∧
    (p.setting = .head) ∧
    (s.otp.head = os ++ [o]))
  | 13 => holds (
    (s.memWf = true) ∧
    (s.otp.prog = some p) ∧
    (p.setting = .keyRevoke) ∧
    (s.otp.revoke = os ++ [o]) ∧
    (s.cp.svcKey.toNat < 4) ∧
    (bitOf o.value s.cp.svcKey.toNat = true))
  | 14 => holds (
    (s.memWf = true) ∧
    let level := s.cp.sess.level
    let host : Prop := s.cp.sess.active = true ∧ s.plateUp = true
    (host) ∧
    (level = .factory))
  | 15 => holds (
    (s.memWf = true) ∧
    let level := s.cp.sess.level
    let host : Prop := s.cp.sess.active = true ∧ s.plateUp = true
    (host) ∧
    (level ≠ .factory))
  | 16 => holds (
    (s.memWf = true) ∧
    let free : Prop := s.scr = none
    (s.pageThreeMay = true) ∧
    (free))
  | 23 => holds (
    (s.memWf = true) ∧
    let free : Prop := s.scr = none
    let chain : Prop := s.mode.isRun = true ∧ settledB s = true
    (s.plateUp = true) ∧
    (free) ∧
    (n.val < 2) ∧
    (chain))
  | 24 => holds (
    (s.memWf = true) ∧
    (s.pageThreeMay = true) ∧
    (s.scr = some c))
  | 25 => holds (
    (s.memWf = true) ∧
    (s.scr = some c) ∧
    (c.code = 1) ∧
    (c.op = 1) ∧
    (c.joist = false) ∧
    (c.addr = Reg.CLK_LOCK_NS))
  | 26 => holds (
    (s.memWf = true) ∧
    (s.scr = some c) ∧
    (c.code = 4) ∧
    (c.op = 4) ∧
    (c.joist = false))
  | 27 => holds (
    (s.memWf = true) ∧
    let stop : Nat := 0x50 + n.val
    let runs_ (op : Nat) : Prop := c = { op := op, node := stop, arg := arg } ∧ s.scr = some c
    (runs_ 2))
  | 28 => holds (
    (s.memWf = true) ∧
    let stop : Nat := 0x50 + n.val
    let runs_ (op : Nat) : Prop := c = { op := op, node := stop, arg := arg } ∧ s.scr = some c
    (runs_ 3))
  | 29 => holds (
    (s.memWf = true) ∧
    let stop : Nat := 0x50 + n.val
    let runs_ (op : Nat) : Prop := c = { op := op, node := stop, arg := arg } ∧ s.scr = some c
    (runs_ 4))
  | 30 => holds (
    (s.memWf = true) ∧
    let stop : Nat := 0x50 + n.val
    let runs_ (op : Nat) : Prop := c = { op := op, node := stop, arg := arg } ∧ s.scr = some c
    (runs_ 5))
  | 31 => holds (
    (s.memWf = true) ∧
    let stop : Nat := 0x50 + n.val
    let runs_ (op : Nat) : Prop := c = { op := op, node := stop, arg := arg } ∧ s.scr = some c
    (runs_ 6) ∧
    (n.val ∉ s.stopHeld))
  | 32 => holds (
    (s.memWf = true) ∧
    let stop : Nat := 0x50 + n.val
    let runs_ (op : Nat) : Prop := c = { op := op, node := stop, arg := arg } ∧ s.scr = some c
    (runs_ 7))
  | 33 => holds (
    (s.memWf = true) ∧
    (s.mode ≠ .unpowered))
  | _ => true

theorem witness_SettingsScribeChainAndTap :
    (∀ c ∈ [0, 2, 6, 7, 15, 16, 33], meets_SettingsScribeChainAndTap c (leveled .service setup) 0 1 77 4 0x400000000 15 {} [] {} {} [true, false]) ∧
    meets_SettingsScribeChainAndTap 1 (leveled .service setup) 8 1 77 4 0x400000000 15 {} [] {} {} [true, false] ∧
    (∀ c ∈ [3, 4], meets_SettingsScribeChainAndTap c (keyed (leveled .service setup)) 0 1 77 4 0x400000000 15 { value := 5 } [] {} {} [true, false]) ∧
    meets_SettingsScribeChainAndTap 5 (keyed (leveled .service setup)) 15 1 77 4 0x400000000 15 {} [] {} {} [true, false] ∧
    meets_SettingsScribeChainAndTap 8 (leveled .service setup) 2 1 77 4 0x400000000 15 {} [] {} {} [true, false] ∧
    meets_SettingsScribeChainAndTap 9 setup 0 1 77 4 0x400000000 15 {} [] {} {} [true, false] ∧
    meets_SettingsScribeChainAndTap 11 (leveled .service track) 0 1 77 4 0x400000000 15 {} [] {} {} [true, false] ∧
    meets_SettingsScribeChainAndTap 12 (programming { value := 0x105, level := .service } { value := 0x105 }) 0 1 77 4 0x400000000 15 { value := 0x105 } [] { value := 0x105, level := .service } {} [true, false] ∧
    meets_SettingsScribeChainAndTap 13 (programming { value := 4, level := .service, setting := .keyRevoke } { value := 4 }) 0 1 77 4 0x400000000 15 { value := 4 } [] { value := 4, level := .service, setting := .keyRevoke } {} [true, false] ∧
    meets_SettingsScribeChainAndTap 14 (leveled .factory setup) 0 1 77 4 0x400000000 15 {} [] {} {} [true, false] ∧
    meets_SettingsScribeChainAndTap 23 setup 0 1 77 1 0x400000000 15 {} [] {} {} [true, false] ∧
    (∀ c ∈ [24, 27], meets_SettingsScribeChainAndTap c (scribing { op := 2, node := 0x54, arg := 0x0F }) 0 1 77 4 0x400000000 15 {} [] {} { op := 2, node := 0x54, arg := 0x0F } [true, false]) := by decide +kernel

theorem witness_SettingsScribeChainAndTap_b :
    meets_SettingsScribeChainAndTap 25 (scribing { op := 1, addr := Reg.CLK_LOCK_NS, code := 1 }) 0 1 77 4 0x400000000 15 {} [] {} { op := 1, addr := Reg.CLK_LOCK_NS, code := 1 } [true, false] ∧
    meets_SettingsScribeChainAndTap 26 (scribing { op := 4, code := 4 }) 0 1 77 4 0x400000000 15 {} [] {} { op := 4, code := 4 } [true, false] ∧
    meets_SettingsScribeChainAndTap 28 (scribing { op := 3, node := 0x54, arg := 0x0F }) 0 1 77 4 0x400000000 15 {} [] {} { op := 3, node := 0x54, arg := 0x0F } [true, false] ∧
    meets_SettingsScribeChainAndTap 29 (scribing { op := 4, node := 0x54, arg := 0x0F }) 0 1 77 4 0x400000000 15 {} [] {} { op := 4, node := 0x54, arg := 0x0F } [true, false] ∧
    meets_SettingsScribeChainAndTap 30 (scribing { op := 5, node := 0x54, arg := 0x0F }) 0 1 77 4 0x400000000 15 {} [] {} { op := 5, node := 0x54, arg := 0x0F } [true, false] ∧
    meets_SettingsScribeChainAndTap 31 (scribing { op := 6, node := 0x54, arg := 0x0F }) 0 1 77 4 0x400000000 15 {} [] {} { op := 6, node := 0x54, arg := 0x0F } [true, false] ∧
    meets_SettingsScribeChainAndTap 32 (scribing { op := 7, node := 0x54, arg := 0x0F }) 0 1 77 4 0x400000000 15 {} [] {} { op := 7, node := 0x54, arg := 0x0F } [true, false] := by decide +kernel

/-! ### The whole machine -/

theorem witness_StepRunsTheFrontCommand : State.reset.pending = [] := rfl

theorem witness_QueueIsLeftToTheSender : exec .memcRefresh setup = .next setup := rfl

/-- A state with a command at the front of its queue. -/
def queuedRefresh : State := { setup with pending := [.memcRefresh] }

theorem witness_StepsKeepMemoriesCanonical : queuedRefresh.memWf = true ∧ step queuedRefresh = .next setup := ⟨by decide +kernel, rfl⟩

theorem witness_StepsKeepPegOwnership : queuedRefresh.pegsOk ∧ step queuedRefresh = .next setup :=
  ⟨fun p => (show ∀ p : Fin 32, (queuedRefresh.pegs[p].st = .free → queuedRefresh.pegs[p].owner = none) ∧
    (queuedRefresh.pegs[p].st = .held → queuedRefresh.pegs[p].owner ≠ none) by decide +kernel) p, rfl⟩

theorem witness_StepsKeepOneRunningTask : queuedRefresh.oneRun ∧ step queuedRefresh = .next setup :=
  ⟨fun m n => (show ∀ m n : Fin 8, queuedRefresh.taskSt[m] = .run → queuedRefresh.taskSt[n] = .run → m = n by decide +kernel) m n, rfl⟩

theorem witness_CompandingErrorIsBounded : cmpValid ((List.range 16).map fun j => (j * 256, 4)) = true ∧ (1000 < 4096) := by decide +kernel

theorem witness_CertifiedLossStaysWithinNear :
    1 ≤ block1.n ∧ (∀ x ∈ block1.pixels, x < 2 ^ block1.n) ∧ block1.coded.2.2 = true := by decide +kernel

theorem witness_EncodingsRoundTrip :
    let s := joist [0x10, 3, 6, 7]
    let x := s.jFetch 2
    let pc := (s.tasks[2]).pc.toNat
    x.wf pc = true ∧ pc + x.encode.length ≤ 0x40000 ∧
      SMap.getBytes zeroByte s.seqStore pc x.encode.length = x.encode.map (BitVec.ofNat 8) := by decide +kernel

theorem witness_EncodingsRoundTrip_2 : ((jPrefixes {} [0x10, 3, 6, 7]).finish 0x100).cause = 0 := by decide +kernel

/-! ### WellFormed refuses -/

theorem test_wf_accepts : (Instr.registerWrite 0x110000000 5).wf = true ∧ (Instr.busUp 3 0 7).wf = true ∧ (Instr.winGo 9).wf = true := by
  decide +kernel
theorem test_wf_register : (Instr.registerWrite 0x110000002 5).wf = false := by decide +kernel
theorem test_wf_window : (Instr.winGo 8).wf = false := by decide +kernel
theorem test_wf_pixels : (Instr.pixelWord { data := List.replicate 33 0 } 5).wf = false := by decide +kernel
theorem test_wf_sensors : (Instr.thermalReading [some 5]).wf = false := by decide +kernel
theorem test_wf_monitors : (Instr.wearHour []).wf = false ∧ (Instr.ladderExitDone 5 false []).wf = false ∧
    (Instr.bootAttempt 5 5 5 0 []).wf = false := by decide +kernel
theorem test_wf_training : (Instr.bootAttempt 5 5 5 6 (List.replicate 96 none)).wf = false ∧
    (Instr.bootAttempt 5 5 5 8 (List.replicate 96 none)).wf = false := by decide +kernel
theorem test_wf_flips : (Instr.memcRequest 1 7 [(4, 1)]).wf = false ∧ (Instr.memcRequest 1 7 [(8, 0)]).wf = false := by decide +kernel
theorem test_wf_samples : (Instr.prsCodeEnd 0 [] 5).wf = false := by decide +kernel
theorem test_wf_heads : (Instr.busUp 40 0 7).wf = false ∧ (Instr.busDown 3 32 7).wf = false ∧ (Instr.busStatus 40 0 7).wf = false ∧
    (Instr.busLogRead 40 0 7 1).wf = false ∧ (Instr.busClear 40 0 7).wf = false ∧ (Instr.busReservedCmd 40 0 7 6).wf = false := by
  decide +kernel
theorem test_wf_command : (Instr.busReservedCmd 3 0 7 2).wf = false := by decide +kernel
theorem test_wf_reply : (Instr.busReply 3 7 []).wf = false := by decide +kernel
theorem test_wf_message : (Instr.dynMsgDiscard .up [] true).wf = false := by decide +kernel

/-! ### Worked examples of the spec -/

/-- Register g5 of task 2 after a command. -/
def g5After (c : Instr) (s : State) : Option Word :=
  match exec c s with
  | .next t => some (t.tasks[2]).g[5]
  | _ => none

/-- Chapter 12, the example above Table 12-7: ADD of 0x0001_4814 and 0x0000_5987. -/
theorem test_add_example : g5After .add (joist [0x10, 5, 6, 7] 0x14814 0x5987) = some 0x1A19B := by decide +kernel
/-- The same example: NCY, only nibble 2 carries. -/
theorem test_ncy_example : g5After .ncy (joist [0x74, 5, 6, 7] 0x14814 0x5987) = some 0x100 := by decide +kernel
/-- Table 12-7: DADJ gives 20,801 in packed decimal. -/
theorem test_dadj_example : g5After .dadj (joist [0x75, 5, 6, 7] 0x1A19B 0x100) = some 0x20801 := by decide +kernel
/-- Below Table 12-7: PADD gives the same word. -/
theorem test_padd_example : g5After .padd (joist [0x70, 5, 6, 7] 0x14814 0x5987) = some 0x20801 := by decide +kernel
/-- Below Table 12-7: P2B of 0x0001_4814 is 14,814. -/
theorem test_p2b_example : g5After .p2b (joist [0x76, 5, 6] 0x14814) = some 0x39DE := by decide +kernel
/-- Chapter 12: LI with the bytes 3C 03 00 71 02 00 loads 160,000; here into g5. -/
theorem test_li_example : g5After .li (joist [0x3C, 5, 0, 0x71, 2, 0]) = some 160000 := by decide +kernel
/-- Chapter 12: LUI with the bytes 3D 05 C8 00 puts 200 into [31:16]. -/
theorem test_lui_example : g5After .lui (joist [0x3D, 5, 0xC8, 0]) = some 0xC80000 := by decide +kernel
/-- R598: the check value of the CRC over "123456789". -/
theorem test_crc16_check : crc16 [0x31, 0x32, 0x33, 0x34, 0x35, 0x36, 0x37, 0x38, 0x39] = 0x29B1 := by decide +kernel
/-- FIPS 180-4, which R559 names: SHA-256 of "abc". -/
theorem test_sha256_abc : ofBeBytes (sha256 [0x61, 0x62, 0x63]) =
    0xba7816bf8f01cfea414140de5dae2223b00361a396177a9cb410ff61f20015ad := by decide +kernel
/-- R123: an exact code has the correlation 31. -/
theorem test_prs_exact : prsCorr prsExact 1 = 31 := by decide +kernel
/-- No word spells a command: the table gives no bits. -/
theorem test_no_words : decodeTableWord 32 0xFFFFFFFF = none := rfl

/-! ### Clauses whose witness needs a checksum of a long string -/

theorem holds_of {p : Prop} {h : Decidable p} (hp : p) : holds p h = true := @decide_eq_true p h hp

/-- Reading back one byte of a string written. -/
theorem get_setBytes (d : Nat → Byte) (bs : List Byte) (m : List (Nat × Byte)) (a i : Nat) (h : SMap.wf d m = true) (hi : i < bs.length) :
    SMap.get d (SMap.setBytes d m a bs) (a + i) = bs[i] := by
  induction bs generalizing m a i with
  | nil => simp at hi
  | cons b bs ih =>
    cases i with
    | zero =>
      rw [SMap.setBytes, SMap.get_setBytes_other d bs _ (a + 1) (a + 0) (by omega)]
      exact SMap.get_set_same d m a b 0 h
    | succ i =>
      have hn : a + (i + 1) = a + 1 + i := by omega
      rw [SMap.setBytes, hn, ih _ _ _ (SMap.wf_set d m a b h) (by simpa using hi)]
      rfl

theorem leBytes_length (v n : Nat) : (leBytes v n).length = n := by
  induction n generalizing v with
  | zero => rfl
  | succ n ih => simp [leBytes, ih]

theorem ofLeBytes_leBytes (v n : Nat) : ofLeBytes (leBytes v n) = v % 256 ^ n := by
  induction n generalizing v with
  | zero => simp [leBytes, ofLeBytes, Nat.mod_one]
  | succ n ih =>
    rw [leBytes, ofLeBytes, ih, Nat.pow_succ, Nat.mul_comm (256 ^ n), Nat.mod_mul]
    simp

theorem sha256_length (bs : List Byte) : (sha256 bs).length = 32 := by
  simp [sha256, beBytes, leBytes_length]

theorem jigBody_length : jigBody.length = 2440 := by decide +kernel

theorem jigImage_sections : sections jigImage 2440 5 32 [] = .ok (2440, jigSecs) := by
  have h : (match sections jigImage 2440 5 32 [] with
      | .ok r => decide (r = (2440, jigSecs))
      | .error _ => false) = true := by decide +kernel
  generalize sections jigImage 2440 5 32 [] = y at h ⊢
  cases y with
  | error _ => simp at h
  | ok r => simpa using h

theorem jigImage_ok : jigCheck jigImage = (0, 2444, jigSecs) := by
  have h1 : imgNum jigImage 8 4 = 2444 := by decide +kernel
  have h2 : jigImage.length = 2444 := by decide +kernel
  have h3 : imgNum jigImage 0 4 = 0x3147494A := by decide +kernel
  have h4 : imgNum jigImage 4 2 = 1 := by decide +kernel
  have h5 : imgNum jigImage 14 2 = 5 := by decide +kernel
  have h6 : imgNum jigImage 12 1 = 0 := by decide +kernel
  have h7 : jigImage.take 2440 = jigBody := by rw [jigImage, ← jigBody_length, List.take_left]
  have h8 : imgNum jigImage 2440 4 = (crc32 jigBody).toNat := by
    rw [imgNum, jigImage, ← jigBody_length, List.drop_left, List.take_of_length_le (Nat.le_of_eq (leBytes_length _ _)), ofLeBytes_leBytes]
    exact Nat.mod_eq_of_lt (crc32 jigBody).isLt
  have h9 : ((requiredSections (bitOf 0 0) (bitOf 0 1)).any fun k => !jigSecs.any fun p => p.1 == k) = false := by decide +kernel
  simp only [jigCheck, h1, h2, h3, h4, h5, h6]
  simp [jigImage_sections, h7, h8, h9]

theorem loadingJig_store : loadingJig.seqStore = SMap.setBytes zeroByte [] (0x40000 - 2444) jigImage := by
  simp only [loadingJig, State.setFld_seqStore]

theorem loadingJig_source : loadingJig.jigSource = jigImage := by
  have h1 : loadingJig.fld F.JIG_RECFG_ADDR_LO = 0x40000 - 2444 := by decide +kernel
  have h2 : loadingJig.fld F.JIG_RECFG_ADDR_HI = 1 := by decide +kernel
  have h3 : loadingJig.domOn Dom.seq = true := by decide +kernel
  have h4 : jigImage.length = 2444 := by decide +kernel
  have h5 := loadingJig_store
  have h6 := SMap.getBytes_setBytes zeroByte jigImage [] (0x40000 - 2444) rfl
  rw [h4] at h6
  simp only [State.jigSource, h1, h2, h3, h5]
  exact h6

theorem loadingJig_wf : loadingJig.memWf = true := by
  have h : SMap.wf zeroByte loadingJig.seqStore = true := by
    rw [loadingJig_store]; exact SMap.wf_setBytes zeroByte jigImage [] _ rfl
  simp only [State.memWf, h]
  decide +kernel

theorem meets_image (s : State) (secs : List (Nat × List Byte)) (off : Nat) (h1 : s.memWf = true) (h2 : s.jigOn = true)
    (h3 : s.jig.st = .loading) (h4 : jigCheck s.jigSource = (0, off, secs)) (h5 : (imgNum s.jigSource 12 1).testBit 2 = false) :
    meets_JigFabricPortsAndPins 3 s 5000 0 2 9 [] {} {} 0 0x1200 0x300000008 false false false 5 1 26 secs 0 off (some 99) :=
  holds_of ⟨h1, h2, h3, h4, h5⟩

theorem witness_JigFabricPortsAndPins_image :
    meets_JigFabricPortsAndPins 3 loadingJig 5000 0 2 9 [] {} {} 0 0x1200 0x300000008 false false false 5 1 26 jigSecs 0 2444 (some 99) :=
  meets_image loadingJig jigSecs 2444 loadingJig_wf (by decide +kernel) (by decide +kernel)
    (by rw [loadingJig_source]; exact jigImage_ok) (by rw [loadingJig_source]; decide +kernel)

theorem bootable_store : bootable.flash.store = SMap.setBytes erasedByte [] 0 bootImage := by
  simp only [bootable]

theorem flashBytes_getElem (s : State) (a n i : Nat) (h : i < (s.flashBytes a n).length) : (s.flashBytes a n)[i] =
    if a + i < s.flash.size then SMap.get erasedByte s.flash.store (a + i) else Config.freeByte (s.freeCtr + i) := by
  simp [State.flashBytes]

theorem bootable_slice (a n : Nat) (h : a + n ≤ 2780) : bootable.flashBytes a n = (bootImage.drop a).take n := by
  have hl : bootImage.length = 2780 := by decide +kernel
  have hs : bootable.flash.size = 0x4000000 := by decide +kernel
  have hf := bootable_store
  apply List.ext_getElem
  · rw [List.length_take, List.length_drop, hl, State.flashBytes, List.length_map, List.length_range]
    omega
  · intro i h1 h2
    have hi : i < n := by rwa [State.flashBytes, List.length_map, List.length_range] at h1
    have hg := get_setBytes erasedByte bootImage [] 0 (a + i) rfl (by omega)
    rw [Nat.zero_add] at hg
    rw [flashBytes_getElem, if_pos (by rw [hs]; omega), hf, hg, List.getElem_take, List.getElem_drop]

theorem bootable_header : bootable.flashBytes 0 320 = bootHeader := by
  have hl : bootHeader.length = 320 := by decide +kernel
  rw [bootable_slice 0 320 (by omega), List.drop_zero, ← hl, bootImage, List.append_assoc, List.take_left]

theorem bootable_body : bootable.flashBytes 336 2444 = jigImage := by
  have hl : (bootHeader ++ ([1, 2, 3, 4] ++ List.replicate 12 0)).length = 336 := by decide +kernel
  have hj : jigImage.length ≤ 2444 := by decide +kernel
  rw [bootable_slice 336 2444 (by omega), bootImage, ← hl, List.drop_left, List.take_of_length_le hj]

theorem bootable_code : bootable.flashBytes 320 4 = [1, 2, 3, 4] := by
  rw [bootable_slice 320 4 (by omega)]
  decide +kernel

theorem bootable_erased : bootable.flashBytes 0x2000000 320 = List.replicate 320 0xFF := by
  have hl : bootImage.length = 2780 := by decide +kernel
  have hs : bootable.flash.size = 0x4000000 := by decide +kernel
  have hf := bootable_store
  apply List.ext_getElem
  · rw [List.length_replicate, State.flashBytes, List.length_map, List.length_range]
  · intro i h1 h2
    have hi : i < 320 := by rwa [List.length_replicate] at h2
    have hg := SMap.get_setBytes_other erasedByte bootImage [] 0 (0x2000000 + i) (.inr (by omega))
    rw [flashBytes_getElem, if_pos (by rw [hs]; omega), hf, hg, List.getElem_replicate]
    rfl

theorem bootHeader_sects : hdrSects bootHeader =
    [{ typ := 1, rsvd := 0, off := 320, len := 4, dest := 0x100 }, { typ := 2, rsvd := 0, off := 336, len := 2444, dest := 0 }] := by
  decide +kernel

theorem bootable_wf : bootable.memWf = true := by
  have h : SMap.wf erasedByte bootable.flash.store = true := by
    rw [bootable_store]; exact SMap.wf_setBytes erasedByte bootImage [] _ rfl
  simp only [State.memWf, h]
  decide +kernel

theorem bootable_digest : bootable.digestOk false bootHeader = true := by
  have h1 : bootFields.length = 128 := by decide +kernel
  have h2 : bootHeader.take 128 = bootFields := by rw [bootHeader, List.append_assoc, ← h1, List.take_left]
  have h3 : (bootHeader.drop 128).take 32 = sha256 (bootFields ++ ([1, 2, 3, 4] ++ (jigImage ++ []))) := by
    rw [bootHeader, List.append_assoc, ← h1, List.drop_left, ← sha256_length (bootFields ++ ([1, 2, 3, 4] ++ (jigImage ++ []))), List.take_left]
  have e1 : slotBase false + 320 = 320 := rfl
  have e2 : slotBase false + 336 = 336 := rfl
  have e3 (x : ImgSect) (y : ImgSect) : [x, y].flatMap (bootable.sectBytes false) =
      bootable.sectBytes false x ++ (bootable.sectBytes false y ++ []) := rfl
  rw [State.digestOk, bootHeader_sects, h2, h3, e3, State.sectBytes, State.sectBytes, e1, e2, bootable_code, bootable_body]
  exact beq_self_eq_true _

theorem meets_start (s : State) (h : List Byte) (h1 : s.memWf = true) (h2 : s.mode = .boot) (h3 : s.sup.attempt = true)
    (h4 : s.sup.loaded = true) (h5 : s.otpOk = true) (h6 : s.clk.run = true)
    (h7 : s.slotHeader false = some h ∧ s.slotHeader true = none ∧ (memcInstalled (hdrCfg h)).isSome = true ∧ (0 : BitVec 6) = 0 ∧
      s.digestOk false h = true ∧ imgNum h 16 1 = 0 ∧ s.sigReq = false ∧ s.sectOf false h 4 = none ∧
      (jigCheck ((s.sectOf false h 2).getD [])).1 = 0) : meets_StartsOfTheHead 3 s 77 1500 5 0 [] h true :=
  holds_of ⟨h1, h2, h3, h4, h5, h6, by decide, h7⟩

theorem bootable_slotA : bootable.slotHeader false = some bootHeader := by
  have e : slotBase false = 0 := rfl
  have k : headerOk bootHeader = true := by decide +kernel
  rw [State.slotHeader, e, bootable_header]
  exact if_pos ⟨by decide +kernel, k⟩

theorem bootable_slotB : bootable.slotHeader true = none := by
  have e : slotBase true = 0x2000000 := rfl
  have k : headerOk (List.replicate 320 0xFF) = false := by decide +kernel
  rw [State.slotHeader, e, bootable_erased]
  exact if_neg fun h => by rw [k] at h; exact Bool.noConfusion h.2

theorem bootable_jig : bootable.sectOf false bootHeader 2 = some jigImage := by
  rw [State.sectOf, bootHeader_sects]
  exact congrArg some bootable_body

theorem witness_StartsOfTheHead_image : meets_StartsOfTheHead 3 bootable 77 1500 5 0 [] bootHeader true :=
  meets_start bootable bootHeader bootable_wf (by decide +kernel) (by decide +kernel) (by decide +kernel) (by decide +kernel)
    (by decide +kernel) ⟨bootable_slotA, bootable_slotB, by decide +kernel, rfl, bootable_digest, by decide +kernel, by decide +kernel,
      by rw [State.sectOf, bootHeader_sects]; rfl, by rw [bootable_jig, Option.getD_some, jigImage_ok]⟩

theorem meets_saved (s : State) (v : BitVec 136) (h1 : s.memWf = true) (h2 : s.mode ≠ .unpowered) (h3 : s.sup.loaded = true)
    (h4 : s.cp.sess.active = true ∧ s.sup.cmdRes ≠ 1) (h5 : s.cp.sess.level ≠ .field) (h6 : ∀ k : Fin 24, s.rails[k].st = .off)
    (h7 : s.sup.saved = some (List.replicate 24 (RailEntry.ofBytes (leBytes v.toNat 17)),
      tableCrc (List.replicate 24 (RailEntry.ofBytes (leBytes v.toNat 17))))) :
    meets_SupervisorCommandsBusAndLog 19 s 0 30 3 77 v 6 record3 [] {} [] :=
  holds_of ⟨h1, h2, h3, h4, h5, h6, h7⟩

/-- A table of equal entries is saved. -/
def tableSaved (v : BitVec 136) : State := { leveled .service setup with
  sup := { setup.sup with saved := some (List.replicate 24 (RailEntry.ofBytes (leBytes v.toNat 17)),
    tableCrc (List.replicate 24 (RailEntry.ofBytes (leBytes v.toNat 17)))) } }

theorem witness_SupervisorCommandsBusAndLog_table :
    meets_SupervisorCommandsBusAndLog 19 (tableSaved (rtBytes goodEntry)) 0 30 3 77 (rtBytes goodEntry) 6 record3 [] {} [] :=
  meets_saved (tableSaved (rtBytes goodEntry)) (rtBytes goodEntry) (by decide +kernel) (by decide +kernel) (by decide +kernel)
    (by decide +kernel) (by decide +kernel) (by decide +kernel) (by simp only [tableSaved])

/-- A worked offset of Table 18-2, by hand: one rank, channel A, burst 1. -/
theorem test_memcPlace : memcPlace 0x533 0x08100040 = { rank := 0, channel := 0, bank := 0, row := 0x1020, burst := 1, byte := 0 } := by
  decide +kernel

end Sys2Proof.Tests
end
end

section
/-! SUPPORT. Ladder requests made at rest at S0 (R42, R627, R691): which branch of the judgement answers, whoever asks, and what
LADDER_REQ and PWR_LADDER_REQ make of that answer. -/

namespace Sys2Proof.Machine

/-! ### The judgement -/

/-- Whoever asks for the target, and whatever the request itself stores in the control port or the register file, the judgement
leaves the phase as given and reports the result and its DETAIL. -/
def State.answersLadder (s : State) (target : Nat) (p : Requester → LadderPhase) (res det : Nat) : Prop :=
  ∀ who c r, State.ladderRequest { s with cp := c, regs := r } who target =
    State.reportLadder { s with cp := c, regs := r, phase := p who } who res det

/-- S0 is permitted in the run modes alone (Table 2-4). -/
theorem State.ladPermits_s0 (s : State) : s.ladPermits .s0 = s.mode.isRun := by
  unfold State.ladPermits
  cases s.mode <;> rfl

/-- A request that changes no phase leaves the device at rest. -/
theorem State.answersLadder_of_stays {s : State} {target res det : Nat} (hp : s.phase = .stable)
    (h : ∀ who c r, State.ladderRequest { s with cp := c, regs := r } who target =
      State.reportLadder { s with cp := c, regs := r } who res det) : s.answersLadder target (fun _ => .stable) res det := by
  intro who c r
  rw [h, ← hp]

section
variable {s : State} {who : Requester} {target : Nat}

theorem State.ladderRequest_inTransit (ht : s.transit ≠ none) : s.ladderRequest who target = s.reportLadder who 5 0 :=
  if_pos (Option.isSome_iff_ne_none.mpr ht)

section
variable (hp : s.phase = .stable) (ht : s.transit = none) (hpos : 1 ≤ target)
include hp ht hpos

theorem State.ladderRequest_permitted (hl : s.ladder = .s0) (hperm : s.ladPermits (Ladder.ofCode target) = true)
    (hheld : s.held = []) :
    s.ladderRequest who target = State.reportLadder { s with phase := .waiting (Ladder.ofCode target) who } who 1 0 := by
  have nonzero : target ≠ 0 := Nat.ne_of_gt hpos
  simp [State.ladderRequest, ht, nonzero, hp, hl, hperm, hheld]

theorem State.ladderRequest_held (hl : s.ladder = .s0) (hperm : s.ladPermits (Ladder.ofCode target) = true)
    (hheld : s.held ≠ []) : s.ladderRequest who target = s.reportLadder who 4 1 := by
  have nonzero : target ≠ 0 := Nat.ne_of_gt hpos
  simp [State.ladderRequest, ht, nonzero, hp, hl, hperm, hheld]

theorem State.ladderRequest_notPermitted (hperm : s.ladPermits (Ladder.ofCode target) = false) :
    s.ladderRequest who target = s.reportLadder who 3 0 := by
  have nonzero : target ≠ 0 := Nat.ne_of_gt hpos
  simp [State.ladderRequest, ht, nonzero, hp, hperm]

end

section
variable (hp : s.phase = .stable) (ht : s.transit = none)
include hp ht

/-- S0 at S0 in a run mode is a wake with nothing to wake. -/
theorem State.ladderRequest_s0_run (hl : s.ladder = .s0) (hrun : s.mode.isRun = true) :
    s.ladderRequest who 0 = s.reportLadder who 2 0 := by
  simp [State.ladderRequest, State.ladderWake, State.ladPermits_s0, ht, hp, hl, hrun]

/-- Outside the run modes S0 is not permitted; BOOT and FALLBACK answer DONE all the same. -/
theorem State.ladderRequest_s0_notRun (hrun : s.mode.isRun = false) :
    s.ladderRequest who 0 = if s.mode = .boot ∨ s.mode = .fallback then s.reportLadder who 2 0 else s.reportLadder who 3 0 := by
  simp [State.ladderRequest, Ladder.ofCode, State.ladPermits_s0, ht, hp, hrun]

theorem State.ladderRequest_s0_start (hmode : s.mode = .boot ∨ s.mode = .fallback) :
    s.ladderRequest who 0 = s.reportLadder who 2 0 := by
  have notRun : s.mode.isRun = false := by rcases hmode with h | h <;> rw [h] <;> rfl
  rw [State.ladderRequest_s0_notRun hp ht notRun, if_pos hmode]

theorem State.ladderRequest_s0_supervise (hmode : s.mode = .supervise) : s.ladderRequest who 0 = s.reportLadder who 3 0 := by
  have notRun : s.mode.isRun = false := by rw [hmode]; rfl
  rw [State.ladderRequest_s0_notRun hp ht notRun, if_neg (by simp [hmode])]

end

end

/-! ### The two registers -/

/-- The host's write in a session: reserved TARGETs are ignored, the others stored. -/
theorem exec_ladderReq_session {s : State} (v : Byte) (hmode : s.mode ≠ .unpowered) (hs : s.cp.sess.active = true) :
    exec (.ladderReq v) s = .next
      (if 5 < v.toNat % 8 then s
       else
        let s' : State := { s with cp := { s.cp with lrTarget := BitVec.ofNat 3 (v.toNat % 8) } }
        if bitOf v.toNat 7 then s'.ladderRequest .host (v.toNat % 8) else s') := by
  simp [exec, execLadderReq, State.writeLadderReq, hmode, hs]

/-- A byte keeps its value in a register word. -/
theorem toNat_zeroExtend_word (v : Byte) : (v.zeroExtend 32).toNat = v.toNat :=
  BitVec.toNat_setWidth_of_le (by decide)

/-- The low three bits of a byte, as PWR_LADDER_REQ stores them. -/
theorem zeroExtend_and_seven (v : Byte) : v.zeroExtend 32 &&& (7 : Word) = BitVec.ofNat 32 (v.toNat % 8) := by
  have low : v.toNat &&& 7 = v.toNat % 8 := Nat.and_two_pow_sub_one_eq_mod v.toNat 3
  apply BitVec.eq_of_toNat_eq
  rw [BitVec.toNat_and, toNat_zeroExtend_word, BitVec.toNat_ofNat, Nat.mod_eq_of_lt (by omega)]
  exact low

/-- Joist's write of a byte: reserved TARGETs are ignored, the others stored. -/
theorem exec_pwrLadderReq_byte {s : State} (v : Byte) (hup : s.plateUp = true) :
    exec (.pwrLadderReq (v.zeroExtend 32)) s = .next
      (if 5 < v.toNat % 8 then s
       else
        let s' := s.setReg Reg.PWR_LADDER_REQ (BitVec.ofNat 32 (v.toNat % 8))
        if bitOf v.toNat 7 then s'.ladderRequest .joist (v.toNat % 8) else s') := by
  have low : getBits (v.zeroExtend 32) 0 3 = v.toNat % 8 := by simp [getBits]
  simp only [exec, execPwrLadderReq, State.writePwrLadderReq, hup, if_true, low, toNat_zeroExtend_word, zeroExtend_and_seven]

section
variable {s : State} {v : Byte} {p : Requester → LadderPhase} {res det : Nat}
  (hv : v.toNat % 8 ≤ 5) (hgo : bitOf v.toNat 7 = true) (h : s.answersLadder (v.toNat % 8) p res det)
include hv hgo h

/-- The host reads the answer in LADDER_RESULT. -/
theorem exec_ladderReq_answered (hmode : s.mode ≠ .unpowered) (hs : s.cp.sess.active = true) :
    exec (.ladderReq v) s = .next { s with
      phase := p .host
      cp := { s.cp with lrTarget := BitVec.ofNat 3 (v.toNat % 8)
                        ladderResult := { result := BitVec.ofNat 4 res, detail := BitVec.ofNat 4 det } } } := by
  rw [exec_ladderReq_session v hmode hs, if_neg (Nat.not_lt.mpr hv)]
  exact congrArg _ ((if_pos hgo).trans (h .host _ _))

/-- Joist reads the answer in its own result register. -/
theorem exec_pwrLadderReq_answered (hup : s.plateUp = true) :
    exec (.pwrLadderReq (v.zeroExtend 32)) s = .next { s with
      phase := p .joist
      joistLadderResult := { result := BitVec.ofNat 4 res, detail := BitVec.ofNat 4 det }
      regs := (s.setReg Reg.PWR_LADDER_REQ (BitVec.ofNat 32 (v.toNat % 8))).regs } := by
  rw [exec_pwrLadderReq_byte v hup, if_neg (Nat.not_lt.mpr hv)]
  exact congrArg _ ((if_pos hgo).trans (h .joist _ _))

end

/-- Settles O18: the judgement answers host and Joist alike, so each clause is one branch of it read through both registers. -/
theorem ladderRequestsAreJudged : Obligations.LadderRequestsAreJudged := by
  intro s v hl hp hmode t lad host joist
  have both {p : Requester → LadderPhase} {res det : Nat} (ht : t ≤ 5) (hgo : bitOf v.toNat 7 = true)
      (h : s.answersLadder t p res det) :
      host (p .host) (BitVec.ofNat 4 res) (BitVec.ofNat 4 det) ∧ joist (p .joist) (BitVec.ofNat 4 res) (BitVec.ofNat 4 det) :=
    ⟨exec_ladderReq_answered ht hgo h hmode, exec_pwrLadderReq_answered ht hgo h⟩
  have stays {res det : Nat} (ht : t ≤ 5) (hgo : bitOf v.toNat 7 = true)
      (h : ∀ who c r, State.ladderRequest { s with cp := c, regs := r } who t =
        State.reportLadder { s with cp := c, regs := r } who res det) :=
    both ht hgo (State.answersLadder_of_stays hp h)
  refine ⟨fun hs => ?noSession, fun ht => ⟨fun hs => ?reservedHost, fun hup => ?reservedJoist⟩,
    fun ht hgo => ⟨fun hs => ?storedHost, fun hup => ?storedJoist⟩,
    fun ht hgo htr => stays ht hgo fun _ _ _ => State.ladderRequest_inTransit htr,
    fun ht hgo htr => ⟨fun hpos hperm hheld => ?permitted, fun hpos hperm hheld => ?held, fun hpos hperm => ?notPermitted,
      fun h0 hm => ?s0Done, fun h0 hm => ?s0Refused⟩⟩
  case noSession => simp [exec, execLadderReq, State.writeLadderReq, State.noSession, hmode, hs]
  case reservedHost => rw [exec_ladderReq_session v hmode hs, if_pos (Nat.lt_of_succ_le ht)]
  case reservedJoist => rw [exec_pwrLadderReq_byte v hup, if_pos (Nat.lt_of_succ_le ht)]
  case storedHost =>
    rw [exec_ladderReq_session v hmode hs, if_neg (Nat.not_lt.mpr ht)]
    exact congrArg _ (if_neg (Bool.eq_false_iff.mp hgo))
  case storedJoist =>
    rw [exec_pwrLadderReq_byte v hup, if_neg (Nat.not_lt.mpr ht)]
    exact congrArg _ (if_neg (Bool.eq_false_iff.mp hgo))
  case permitted => exact both ht hgo fun _ _ _ => State.ladderRequest_permitted hp htr hpos hl hperm hheld
  case held => exact stays ht hgo fun _ _ _ => State.ladderRequest_held hp htr hpos hl hperm hheld
  case notPermitted => exact stays ht hgo fun _ _ _ => State.ladderRequest_notPermitted hp htr hpos hperm
  case s0Done =>
    refine stays ht hgo fun who c r => ?_
    rw [h0]
    rcases hm with hrun | hstart
    · exact State.ladderRequest_s0_run hp htr hl hrun
    · exact State.ladderRequest_s0_start hp htr hstart
  case s0Refused =>
    refine (stays ht hgo fun who c r => ?_).1
    rw [h0]
    exact State.ladderRequest_s0_supervise hp htr hm

end Sys2Proof.Machine
end

section
/-! SUPPORT. Which registers an operation may write, and what a counter field reads after it has counted. -/

namespace Sys2Proof.Machine
open Sys2Proof.Spec

/-- Between two states only registers that a predicate names are written, and the register file stays canonical. -/
structure State.WritesRegs (W : Nat → Prop) (s t : State) : Prop where
  but : regsBut s t W
  wf : SMap.wf Reg.resetWord s.regs = true → SMap.wf Reg.resetWord t.regs = true

namespace State.WritesRegs
variable {W : Nat → Prop} {s t u : State}

theorem of_regs_eq (h : t.regs = s.regs) : WritesRegs W s t :=
  ⟨fun a _ => congrArg (fun m => SMap.get Reg.resetWord m a) h, fun hw => h ▸ hw⟩

theorem refl (s : State) : WritesRegs W s s := of_regs_eq rfl

theorem trans (h : WritesRegs W s t) (k : WritesRegs W t u) : WritesRegs W s u :=
  ⟨fun a ha => (k.but a ha).trans (h.but a ha), fun hw => k.wf (h.wf hw)⟩

/-- Only the register file of the first state matters. -/
theorem of_start (h : WritesRegs W t u) (e : t.regs = s.regs) : WritesRegs W s u := (of_regs_eq e).trans h

theorem mono {V : Nat → Prop} (h : WritesRegs W s t) (hWV : ∀ a, W a → V a) : WritesRegs V s t :=
  ⟨fun a ha => h.but a fun hW => ha (hWV a hW), h.wf⟩

theorem setFld (s : State) (f : Fld) (v : Nat) (hf : W f.addr) : WritesRegs W s (s.setFld f v) :=
  ⟨fun a ha => State.reg_setReg_other s _ a _ fun e => ha (e ▸ hf), State.regsWf_setFld s f v⟩

theorem inc (s : State) (f : Fld) (hf : W f.addr) : WritesRegs W s (s.inc f) := setFld s f _ hf

theorem fld (h : WritesRegs W s t) {f : Fld} (hf : ¬W f.addr) : t.fld f = s.fld f :=
  congrArg (fun w => getBits w f.lo f.w) (h.but f.addr hf)

end State.WritesRegs

/-- The register file of a state whose memories are canonical. -/
theorem State.regsWf_of_memWf {s : State} (h : s.memWf = true) : SMap.wf Reg.resetWord s.regs = true := by
  simp only [State.memWf, Bool.and_eq_true] at h
  tauto

/-- A counter field after it has counted one. -/
theorem State.fld_inc (s : State) (f : Fld) (h : SMap.wf Reg.resetWord s.regs = true) (hf : f.lo + f.w ≤ 32) :
    (s.inc f).fld f = (s.fld f + 1) % 2 ^ f.w := State.fld_setFld s f _ h hf

/-- Counting one changes the register file alone. -/
@[simp] theorem State.inc_lio (s : State) (f : Fld) : (s.inc f).lio = s.lio := rfl

end Sys2Proof.Machine
end

section
/-! SUPPORT. The MARK outputs (R28, R108 to R112, R116): what a pulse that starts does to its output, what the queue's operations
leave alone, and the effects of a push, a fire, an immediate pulse and a fall of GOR_N. -/

namespace Sys2Proof.Machine
open Sys2Proof.Spec

variable {m : Fin 4} {s t u y : State} {w n : Nat}

/-! ### One output -/

@[simp] theorem State.setMark_marks_same (s : State) (m : Fin 4) (x : Mark) : (s.setMark m x).lio.marks[m.val] = x := by
  simp [State.setMark]

@[simp] theorem State.setMark_marks_other (s : State) (x : Mark) {k : Fin 4} (h : k ≠ m) :
    (s.setMark m x).lio.marks[k] = s.lio.marks[k] := by
  have apart : m.val ≠ k.val := fun e => h (Fin.ext e.symm)
  simp [State.setMark, apart]

/-- Between two states only the outputs and the register file change. -/
def State.MarksOnly (s t : State) : Prop := t = { s with regs := t.regs, lio := { s.lio with marks := t.lio.marks } }

theorem State.MarksOnly.trans (h : State.MarksOnly s t) (k : State.MarksOnly t u) : State.MarksOnly s u :=
  Eq.trans k (congrArg (fun x => { x with regs := u.regs, lio := { x.lio with marks := u.lio.marks } }) h)

theorem State.MarksOnly.mode (h : State.MarksOnly s t) : t.mode = s.mode :=
  (congrArg State.mode h).trans rfl

/-- Between two states only output m changes, and only its counters LATE and FIRED count. -/
structure State.OnMark (m : Fin 4) (s t : State) : Prop where
  frame : State.MarksOnly s t
  others : ∀ k : Fin 4, k ≠ m → t.lio.marks[k] = s.lio.marks[k]
  regs : State.WritesRegs (fun a => a = Reg.MARKm_LATE m ∨ a = Reg.MARKm_FIRED m) s t

theorem State.OnMark.trans (h : State.OnMark m s t) (k : State.OnMark m t u) : State.OnMark m s u where
  frame := h.frame.trans k.frame
  others i hi := (k.others i hi).trans (h.others i hi)
  regs := h.regs.trans k.regs

theorem State.OnMark.refl (m : Fin 4) (s : State) : State.OnMark m s s := ⟨rfl, fun _ _ => rfl, .refl s⟩

theorem State.setMark_onMark (s : State) (m : Fin 4) (x : Mark) : State.OnMark m s (s.setMark m x) where
  frame := rfl
  others _ h := State.setMark_marks_other s x h
  regs := .of_regs_eq rfl

/-- Between two states output m keeps its pulse, and MARKm_FIRED its count. -/
structure State.Requeues (m : Fin 4) (s t : State) : Prop where
  onMark : State.OnMark m s t
  out : t.lio.marks[m].out = s.lio.marks[m].out
  pol : t.lio.marks[m].pol = s.lio.marks[m].pol
  endT : t.lio.marks[m].endT = s.lio.marks[m].endT
  regs : State.WritesRegs (fun a => a = Reg.MARKm_LATE m) s t

theorem State.Requeues.trans (h : State.Requeues m s t) (k : State.Requeues m t u) : State.Requeues m s u where
  onMark := h.onMark.trans k.onMark
  out := k.out.trans h.out
  pol := k.pol.trans h.pol
  endT := k.endT.trans h.endT
  regs := h.regs.trans k.regs

theorem State.setMark_requeues (s : State) (m : Fin 4) (q : List MarkEntry) (b : Bool) :
    State.Requeues m s (s.setMark m { s.lio.marks[m] with queue := q, headPassed := b }) where
  onMark := s.setMark_onMark m _
  out := by simp
  pol := by simp
  endT := by simp
  regs := .of_regs_eq rfl

theorem State.incLate_requeues (s : State) (m : Fin 4) : State.Requeues m s (s.inc (F.MARKm_LATE m)) where
  onMark := ⟨rfl, fun _ _ => rfl, .inc s _ (.inl rfl)⟩
  out := rfl
  pol := rfl
  endT := rfl
  regs := .inc s _ rfl

/-- A new head is looked at, and nothing else of the output changes. -/
theorem State.markHead_eq (s : State) (m : Fin 4) :
    ∃ b, s.markHead m = s.setMark m { s.lio.marks[m] with headPassed := b } := by
  unfold State.markHead
  dsimp only
  split
  · exact ⟨_, rfl⟩
  · exact ⟨_, rfl⟩

theorem State.markHead_requeues (s : State) (m : Fin 4) : State.Requeues m s (s.markHead m) := by
  obtain ⟨b, h⟩ := s.markHead_eq m
  rw [h]
  exact s.setMark_requeues m _ b

@[simp] theorem State.markHead_queue (s : State) (m : Fin 4) :
    (s.markHead m).lio.marks[m.val].queue = s.lio.marks[m].queue := by
  obtain ⟨b, h⟩ := s.markHead_eq m
  simp [h]

/-! ### Pulses -/

/-- A pulse of w ticks from edge n has begun on output m, which reads MARKm_CFG in s, and counts in MARKm_FIRED. -/
def State.PulseBegun (m : Fin 4) (w n : Nat) (s y : State) : Prop :=
  (y.lio.marks[m].out = true ∧ y.lio.marks[m].pol = s.bit (F.MARKm_CFG_POL m) ∧
    y.lio.marks[m].endT = if s.lio.marks[m].out ∧ n ≤ s.lio.marks[m].endT then
      max s.lio.marks[m].endT (n + w * s.markTick m) else n + w * s.markTick m) ∧
  y.fld (F.MARKm_FIRED m) = (s.fld (F.MARKm_FIRED m) + 1) % 2 ^ (F.MARKm_FIRED m).w

/-- Between two states output m keeps its pulse, what MARKm_CFG says of pulses, and the count of MARKm_FIRED. -/
structure State.KeepsPulse (m : Fin 4) (s t : State) : Prop where
  out : t.lio.marks[m].out = s.lio.marks[m].out
  pol : t.lio.marks[m].pol = s.lio.marks[m].pol
  endT : t.lio.marks[m].endT = s.lio.marks[m].endT
  cfg : t.reg (Reg.MARKm_CFG m) = s.reg (Reg.MARKm_CFG m)
  fired : t.reg (Reg.MARKm_FIRED m) = s.reg (Reg.MARKm_FIRED m)

theorem State.KeepsPulse.cfg_fld (h : State.KeepsPulse m s t) {f : Fld} (hf : f.addr = Reg.MARKm_CFG m) : t.fld f = s.fld f := by
  unfold State.fld
  rw [hf, h.cfg]

theorem State.KeepsPulse.cfg_bit (h : State.KeepsPulse m s t) {f : Fld} (hf : f.addr = Reg.MARKm_CFG m) : t.bit f = s.bit f :=
  congrArg (· != 0) (h.cfg_fld hf)

theorem State.KeepsPulse.fired_fld (h : State.KeepsPulse m s t) : t.fld (F.MARKm_FIRED m) = s.fld (F.MARKm_FIRED m) :=
  congrArg (fun r => getBits r 0 32) h.fired

/-- A pulse that begins later begins as if at once, when the output has kept its pulse until then. -/
theorem State.PulseBegun.of_kept_before (k : State.PulseBegun m w n t y) (h : State.KeepsPulse m s t) :
    State.PulseBegun m w n s y := by
  have tick : t.markTick m = s.markTick m := by
    unfold State.markTick
    rw [h.cfg_fld rfl]
  unfold State.PulseBegun at k ⊢
  rwa [h.cfg_bit rfl, tick, h.out, h.endT, h.fired_fld] at k

/-- A pulse that has begun stands while the output keeps it. -/
theorem State.PulseBegun.of_kept_after (k : State.PulseBegun m w n s y) (h : State.KeepsPulse m y u) :
    State.PulseBegun m w n s u := by
  unfold State.PulseBegun at k ⊢
  rwa [h.out, h.pol, h.endT, h.fired_fld]

theorem State.Requeues.keepsPulse (h : State.Requeues m s t) : State.KeepsPulse m s t where
  out := h.out
  pol := h.pol
  endT := h.endT
  cfg := h.regs.but _ (by simp only [Reg.MARKm_CFG, Reg.MARKm_LATE]; omega)
  fired := h.regs.but _ (by simp only [Reg.MARKm_FIRED, Reg.MARKm_LATE]; omega)

@[simp] theorem State.markPulse_zero (s : State) (m : Fin 4) (n : Nat) : s.markPulse m 0 n = s := if_pos rfl

theorem State.markPulse_begun (m : Fin 4) (n : Nat) (hwf : SMap.wf Reg.resetWord s.regs = true) (hw : w ≠ 0) :
    State.PulseBegun m w n s (s.markPulse m w n) := by
  unfold State.markPulse
  rw [if_neg hw]
  refine ⟨?_, State.fld_inc _ _ hwf (Nat.le_refl 32)⟩
  simp

theorem State.markPulse_onMark (s : State) (m : Fin 4) (w n : Nat) : State.OnMark m s (s.markPulse m w n) := by
  unfold State.markPulse
  split
  · exact ⟨rfl, fun _ _ => rfl, .refl s⟩
  · exact (s.setMark_onMark m _).trans ⟨rfl, fun _ _ => rfl, .inc _ _ (.inr rfl)⟩

@[simp] theorem State.markPulse_queue (s : State) (m : Fin 4) (w n : Nat) :
    (s.markPulse m w n).lio.marks[m.val].queue = s.lio.marks[m].queue := by
  unfold State.markPulse
  split <;> simp

/-! ### The queue -/

/-- LINEIO runs and the head entry's target is reached (R109). -/
def State.markDue (s : State) (m : Fin 4) : Prop :=
  s.lioRuns = true ∧ ∃ e ∈ s.lio.marks[m].queue.head?, 0 ≤ posDiff (s.markPos m) e.target

/-- The head entry has left the queue, and the next one is looked at. -/
def State.markPop (s : State) (m : Fin 4) (q : List MarkEntry) : State :=
  let x := s.lio.marks[m]
  let s := s.setMark m { x with queue := q }
  State.markHead (if x.headPassed then s.inc (F.MARKm_LATE m) else s) m

theorem State.markPop_requeues (s : State) (m : Fin 4) (q : List MarkEntry) : State.Requeues m s (s.markPop m q) := by
  have moved := s.setMark_requeues m q s.lio.marks[m].headPassed
  unfold State.markPop
  dsimp only
  split
  · exact (moved.trans (State.incLate_requeues _ m)).trans (State.markHead_requeues _ m)
  · exact moved.trans (State.markHead_requeues _ m)

@[simp] theorem State.markPop_queue (s : State) (m : Fin 4) (q : List MarkEntry) :
    (s.markPop m q).lio.marks[m.val].queue = q := by
  unfold State.markPop
  dsimp only
  split <;> simp

theorem State.markFire_notDue (h : ¬s.markDue m) (n : Nat) : s.markFire m n = s := by
  unfold State.markFire
  dsimp only
  split
  next => rfl
  next e q hq =>
    refine if_neg fun due => h ?_
    simp only [Bool.and_eq_true, decide_eq_true_eq] at due
    exact ⟨due.1, e, by rw [hq]; rfl, due.2⟩

theorem State.markFire_due {e : MarkEntry} {q : List MarkEntry} (h : s.markDue m) (hq : s.lio.marks[m].queue = e :: q) (n : Nat) :
    s.markFire m n = ((s.atT n).markPop m q).markPulse m e.width.toNat n := by
  obtain ⟨hrun, e', he, hreach⟩ := h
  rw [hq] at he
  obtain rfl : e = e' := by simpa using he
  unfold State.markFire
  dsimp only
  rw [hq]
  exact if_pos (by rw [hrun, decide_eq_true hreach]; rfl)

section
variable {e : MarkEntry} {q : List MarkEntry} (h : s.markDue m) (hq : s.lio.marks[m].queue = e :: q) (n : Nat)
include h hq

theorem State.markFire_onMark : State.OnMark m (s.atT n) (s.markFire m n) := by
  rw [State.markFire_due h hq]
  exact (State.markPop_requeues _ m q).onMark.trans (State.markPulse_onMark _ m _ n)

theorem State.markFire_queue : (s.markFire m n).lio.marks[m].queue = q := by
  simp [State.markFire_due h hq]

theorem State.markFire_begun (hwf : SMap.wf Reg.resetWord s.regs = true) (hw : e.width ≠ 0) :
    State.PulseBegun m e.width.toNat n s (s.markFire m n) := by
  have pop := State.markPop_requeues (s.atT n) m q
  have width : e.width.toNat ≠ 0 := fun z => hw (BitVec.eq_of_toNat_eq z)
  rw [State.markFire_due h hq]
  exact (State.markPulse_begun m n (pop.regs.wf hwf) width).of_kept_before (s := s.atT n) pop.keepsPulse

theorem State.markFire_noPulse (hw : e.width = 0) : (s.markFire m n).lio.marks[m].out = s.lio.marks[m].out := by
  rw [State.markFire_due h hq, hw]
  exact (State.markPop_requeues (s.atT n) m q).out

end

/-- FALLBACK is no run mode (R755). -/
theorem State.mode_ne_fallback_of_markDue (h : s.markDue m) : s.mode ≠ .fallback := by
  intro hmode
  simp [State.markDue, State.lioRuns, hmode, Mode.isRun] at h

/-- The staged target is in none of the counters. -/
theorem markQLo_apart (m : Fin 4) : ¬((F.MARKm_Q_LO m).addr = Reg.MARKm_LATE m ∨ (F.MARKm_Q_LO m).addr = Reg.MARKm_FIRED m) := by
  simp only [F.MARKm_Q_LO, Reg.MARKm_Q_LO, Reg.MARKm_LATE, Reg.MARKm_FIRED]
  omega

/-- The entry that a write of MARKm_Q_HI makes (R108). -/
def State.markEntry (s : State) (m : Fin 4) (v : Word) : MarkEntry :=
  { target := BitVec.ofNat 48 (s.fld (F.MARKm_Q_LO m) + 2 ^ 32 * getBits v 0 16), width := BitVec.ofNat 16 (getBits v 16 16) }

theorem execMarkQueuePush_on (hon : s.domOn Dom.lineio = true) (v : Word) :
    execMarkQueuePush m v s = .next (s.writeMarkQ m v) := if_pos hon

section
variable (v : Word)

theorem State.writeMarkQ_fallback (h : s.mode = .fallback) : s.writeMarkQ m v = s.inc (F.MARKm_DISCARD m) := by
  unfold State.writeMarkQ
  dsimp only
  rw [State.markFire_notDue (fun due => State.mode_ne_fallback_of_markDue due h), if_pos h]

theorem State.writeMarkQ_full (hmode : s.mode ≠ .fallback) (h : ¬s.markDue m) (hfull : 64 ≤ s.lio.marks[m].queue.length) :
    s.writeMarkQ m v = s.inc (F.MARKm_FULL_DROP m) := by
  unfold State.writeMarkQ
  dsimp only
  rw [State.markFire_notDue h, if_neg hmode, if_pos hfull]

/-- A push with room appends its entry to what the fire on its edge leaves. -/
theorem State.writeMarkQ_append (hf : s.markFire m s.now = t) (hmode : t.mode ≠ .fallback)
    (hroom : t.lio.marks[m].queue.length < 64) :
    ∃ b, s.writeMarkQ m v =
      t.setMark m { t.lio.marks[m] with queue := t.lio.marks[m].queue ++ [t.markEntry m v], headPassed := b } := by
  unfold State.writeMarkQ
  dsimp only
  rw [hf, if_neg hmode, if_neg (Nat.not_le.mpr hroom)]
  split
  · obtain ⟨b, h⟩ := State.markHead_eq
      (t.setMark m { t.lio.marks[m] with queue := t.lio.marks[m].queue ++ [t.markEntry m v] }) m
    exact ⟨b, h.trans (by simp [State.setMark])⟩
  · exact ⟨_, rfl⟩

/-- A push on which an entry fires appends to the rest of the queue. -/
theorem State.writeMarkQ_due {e : MarkEntry} {q : List MarkEntry} (h : s.markDue m) (hq : s.lio.marks[m].queue = e :: q)
    (hroom : q.length < 64) :
    ∃ b, s.writeMarkQ m v = (s.markFire m s.now).setMark m
      { (s.markFire m s.now).lio.marks[m] with queue := q ++ [s.markEntry m v], headPassed := b } := by
  have fire := State.markFire_onMark h hq s.now
  have left := State.markFire_queue h hq s.now
  have runs : (s.markFire m s.now).mode ≠ .fallback := fun hf =>
    State.mode_ne_fallback_of_markDue h (fire.frame.mode.symm.trans hf)
  have entry : (s.markFire m s.now).markEntry m v = s.markEntry m v := by
    unfold State.markEntry
    rw [fire.regs.fld (markQLo_apart m)]
    rfl
  obtain ⟨b, happ⟩ := State.writeMarkQ_append v rfl runs (by rwa [left])
  rw [left, entry] at happ
  exact ⟨b, happ⟩

end

/-! ### The global-OR path -/

/-- One output at a 0-to-1 edge of a global OR (R112). -/
def State.gorMark (src n : Nat) (s : State) (m : Fin 4) : State :=
  if s.bit (F.MARKm_CFG_GOR_EN m) && s.fld (F.MARKm_CFG_GOR_SRC m) == src then s.markPulse m (s.fld (F.MARKm_CFG_GOR_W m)) n
  else s

theorem State.gorMarks_eq (h : s.lioRuns = true) (src n : Nat) :
    s.gorMarks src n = (List.finRange 4).foldl (State.gorMark src n) s := if_pos h

theorem State.gorMark_onMark (src n : Nat) (s : State) (m : Fin 4) : State.OnMark m s (State.gorMark src n s m) := by
  unfold State.gorMark
  split
  · exact s.markPulse_onMark m _ n
  · exact .refl m s

/-- Between two states only outputs other than m change, and only their counters count. -/
structure State.OffMark (m : Fin 4) (s t : State) : Prop where
  frame : State.MarksOnly s t
  mark : t.lio.marks[m] = s.lio.marks[m]
  regs : State.WritesRegs (fun a => ∃ k : Fin 4, k ≠ m ∧ (a = Reg.MARKm_LATE k ∨ a = Reg.MARKm_FIRED k)) s t

theorem State.OffMark.trans (h : State.OffMark m s t) (k : State.OffMark m t u) : State.OffMark m s u where
  frame := h.frame.trans k.frame
  mark := k.mark.trans h.mark
  regs := h.regs.trans k.regs

theorem State.OnMark.offMark {k : Fin 4} (h : State.OnMark k s t) (hk : k ≠ m) : State.OffMark m s t where
  frame := h.frame
  mark := h.others m hk.symm
  regs := h.regs.mono fun _ ha => ⟨k, hk, ha⟩

theorem State.OffMark.keepsPulse (h : State.OffMark m s t) : State.KeepsPulse m s t where
  out := congrArg Mark.out h.mark
  pol := congrArg Mark.pol h.mark
  endT := congrArg Mark.endT h.mark
  cfg := h.regs.but _ (by simp only [Reg.MARKm_CFG, Reg.MARKm_LATE, Reg.MARKm_FIRED]; omega)
  fired := h.regs.but _ (by simp only [Reg.MARKm_LATE, Reg.MARKm_FIRED]; omega)

theorem State.gorMark_foldl_offMark (src n : Nat) (l : List (Fin 4)) (s : State) (h : m ∉ l) :
    State.OffMark m s (l.foldl (State.gorMark src n) s) := by
  induction l generalizing s with
  | nil => exact ⟨rfl, rfl, .refl s⟩
  | cons k l ih =>
    rw [List.mem_cons, not_or] at h
    exact ((State.gorMark_onMark src n s k).offMark (Ne.symm h.1)).trans (ih _ h.2)

/-- Output m is pulsed by itself, among pulses of the other outputs that do not touch it. -/
theorem State.gorMarks_split (h : s.lioRuns = true) (src n : Nat) (m : Fin 4) :
    ∃ t, State.OffMark m s t ∧ State.OffMark m (State.gorMark src n t m) (s.gorMarks src n) := by
  obtain ⟨l, r, hlr⟩ := List.append_of_mem (List.mem_finRange m)
  have once := List.nodup_finRange 4
  rw [hlr, List.nodup_middle, List.nodup_cons, List.mem_append, not_or] at once
  obtain ⟨⟨hl, hr⟩, -⟩ := once
  rw [State.gorMarks_eq h, hlr, List.foldl_append, List.foldl_cons]
  exact ⟨_, State.gorMark_foldl_offMark src n l s hl, State.gorMark_foldl_offMark src n r _ hr⟩

section
variable (h : s.lioRuns = true) (src n : Nat)
include h

theorem State.gorMarks_frame (m : Fin 4) : State.MarksOnly s (s.gorMarks src n) := by
  obtain ⟨t, before, after⟩ := State.gorMarks_split h src n m
  exact (before.frame.trans (State.gorMark_onMark src n t m).frame).trans after.frame

/-- An output that selects the edge starts its pulse (R112). -/
theorem State.gorMarks_begun (hwf : SMap.wf Reg.resetWord s.regs = true) (hen : s.bit (F.MARKm_CFG_GOR_EN m) = true)
    (hsrc : s.fld (F.MARKm_CFG_GOR_SRC m) = src) (hw : s.fld (F.MARKm_CFG_GOR_W m) ≠ 0) :
    State.PulseBegun m (s.fld (F.MARKm_CFG_GOR_W m)) n s (s.gorMarks src n) := by
  obtain ⟨t, before, after⟩ := State.gorMarks_split h src n m
  have kept := before.keepsPulse
  have begun : State.PulseBegun m (s.fld (F.MARKm_CFG_GOR_W m)) n t (State.gorMark src n t m) := by
    unfold State.gorMark
    rw [kept.cfg_bit rfl, kept.cfg_fld (f := F.MARKm_CFG_GOR_SRC m) rfl, kept.cfg_fld (f := F.MARKm_CFG_GOR_W m) rfl,
      if_pos (by simp [hen, hsrc])]
    exact State.markPulse_begun m n (before.regs.wf hwf) hw
  exact (begun.of_kept_before kept).of_kept_after after.keepsPulse

/-- Every other output stays as it is. -/
theorem State.gorMarks_still (hoff : s.bit (F.MARKm_CFG_GOR_EN m) = false ∨ s.fld (F.MARKm_CFG_GOR_SRC m) ≠ src ∨
    s.fld (F.MARKm_CFG_GOR_W m) = 0) : (s.gorMarks src n).lio.marks[m] = s.lio.marks[m] := by
  obtain ⟨t, before, after⟩ := State.gorMarks_split h src n m
  have kept := before.keepsPulse
  have still : State.gorMark src n t m = t := by
    unfold State.gorMark
    rw [kept.cfg_bit rfl, kept.cfg_fld (f := F.MARKm_CFG_GOR_SRC m) rfl, kept.cfg_fld (f := F.MARKm_CFG_GOR_W m) rfl]
    split
    next selected =>
      obtain ⟨hen, hsrc⟩ : s.bit (F.MARKm_CFG_GOR_EN m) = true ∧ s.fld (F.MARKm_CFG_GOR_SRC m) = src := by simpa using selected
      have none : s.fld (F.MARKm_CFG_GOR_W m) = 0 := by simpa [hen, hsrc] using hoff
      rw [none, State.markPulse_zero]
    next => rfl
  exact after.mark.trans ((congrArg (fun x : State => x.lio.marks[m]) still).trans before.mark)

end

/-- Settles O26: a push appends to what the fire on its edge leaves, a fire is a pop and a pulse, and the pulses of a fall of
GOR_N are apart. -/
theorem markOutputs : Obligations.MarkOutputs := by
  intro s m v n e q hmem hon x others pulse fired new due
  have hwf := State.regsWf_of_memWf hmem
  refine ⟨fun hmode hdue hroom => ?pushed, fun hmode hdue hfull => ?dropped, fun hdue hq hroom => ?pushedFired,
    fun hmode => ⟨?discardedPush, ?discardedNow⟩, fun hdue hq => ?fires, fun hdue => ?waits, fun hmode => ?immediate,
    fun hrun htap => ?gor, fun htap => ?gorTapped, fun hout => ?ends, fun hout => ?idle⟩
  case pushed =>
    obtain ⟨b, h⟩ := State.writeMarkQ_append v (State.markFire_notDue hdue s.now) hmode hroom
    refine ⟨_, execMarkQueuePush_on hon v, ?_⟩
    rw [h]
    exact ⟨rfl, fun k hk => State.setMark_marks_other s _ hk, congrArg Mark.queue (State.setMark_marks_same s m _),
      (congrArg Mark.out (State.setMark_marks_same s m _)).trans rfl⟩
  case dropped =>
    refine ⟨_, execMarkQueuePush_on hon v, ?_⟩
    rw [State.writeMarkQ_full v hmode hdue hfull]
    exact ⟨rfl, State.fld_inc _ _ hwf (Nat.le_refl 32), (State.WritesRegs.inc (W := (· = _)) s (F.MARKm_FULL_DROP m) rfl).but⟩
  case pushedFired =>
    have fire := State.markFire_onMark hdue hq s.now
    obtain ⟨b, h⟩ := State.writeMarkQ_due v hdue hq hroom
    have push := State.setMark_requeues (s.markFire m s.now) m (q ++ [new]) b
    rw [show s.markEntry m v = new from rfl] at h
    rw [← h] at push
    refine ⟨_, execMarkQueuePush_on hon v, ?_, (fire.trans push.onMark).others, ?_, fun hw => ?_⟩
    · have frame : State.MarksOnly (s.atT s.now) (s.writeMarkQ m v) := (fire.trans push.onMark).frame
      unfold State.MarksOnly State.atT at frame
      rwa [Nat.max_self] at frame
    · simp [h]
    · exact (State.markFire_begun hdue hq s.now hwf hw).of_kept_after push.keepsPulse
  case discardedPush =>
    refine ⟨_, execMarkQueuePush_on hon v, ?_⟩
    rw [State.writeMarkQ_fallback v hmode]
    exact ⟨rfl, State.fld_inc _ _ hwf (Nat.le_refl 32)⟩
  case discardedNow =>
    refine ⟨_, (if_pos hon).trans (if_pos hmode), rfl, ?_⟩
    exact State.fld_inc (s.atT n) _ hwf (Nat.le_refl 32)
  case fires =>
    have fire := State.markFire_onMark hdue hq n
    exact ⟨_, rfl, fire.frame, fire.others, State.markFire_queue hdue hq n, State.markFire_begun hdue hq n hwf,
      State.markFire_noPulse hdue hq n⟩
  case waits => exact congrArg _ (State.markFire_notDue hdue n)
  case immediate =>
    have pulse := State.markPulse_onMark (s.atT (n + 2)) m (getBits v 0 16) (n + 2)
    refine ⟨_, (if_pos hon).trans (if_neg hmode), pulse.frame, pulse.others, State.markPulse_queue _ m _ _,
      State.markPulse_begun (s := s.atT (n + 2)) m (n + 2) hwf, fun hw => ?_⟩
    rw [hw, State.markPulse_zero]
    rfl
  case gor =>
    refine ⟨_, if_neg (Bool.eq_false_iff.mp htap), State.gorMarks_frame (s := s.atT n) hrun 1 n m, fun hen hsrc hw => ?_, fun hoff => ?_⟩
    · exact State.gorMarks_begun (s := s.atT n) hrun 1 n hwf hen hsrc hw
    · exact State.gorMarks_still (s := s.atT n) hrun 1 n hoff
  case gorTapped => exact if_pos htap
  case ends => exact if_pos hout
  case idle => exact if_neg (Bool.eq_false_iff.mp hout)

end Sys2Proof.Machine
end

section
/-! SUPPORT. What events and the end of a frame may change (R182, R187, R331, R628): the unit that hears them, the record of the
frame and the burst that waits for it; the pending list, the lines being received and the line store stay. -/

namespace Sys2Proof.Machine

variable {s t u : State}

/-- The registers that events and the end of a frame write. -/
def upkeepReg (a : Nat) : Prop :=
  a = Reg.PWR_WAKE_SRC ∨ (∃ n : Fin 8, a = Reg.SEQ_Tn_EV n) ∨ a = Reg.TLY_STALL_FRAME ∨ a = Reg.TLY_STALL_LAST ∨
    (∃ n : Fin 8, a = Reg.ING_FREC n) ∨ a = Reg.ING_STAT ∨ a = Reg.EGR_DROP_CNT

/-- Between two states events are posted and frames end. -/
structure State.Upkeep (s t : State) : Prop where
  frame : t = { s with
    joistLadderResult := t.joistLadderResult, phase := t.phase, sup := t.sup, taskSt := t.taskSt, regs := t.regs
    egr := t.egr, cp := t.cp, trs := t.trs, ing := t.ing, rails := t.rails }
  pend : t.ing.pend = s.ing.pend
  filling : t.ing.filling = s.ing.filling
  store : t.ing.store = s.ing.store
  regs : State.WritesRegs upkeepReg s t

namespace State

theorem Upkeep.refl (s : State) : Upkeep s s := ⟨rfl, rfl, rfl, rfl, .refl s⟩

theorem Upkeep.trans (h : Upkeep s t) (k : Upkeep t u) : Upkeep s u where
  frame := k.frame.trans (by rw [h.frame])
  pend := k.pend.trans h.pend
  filling := k.filling.trans h.filling
  store := k.store.trans h.store
  regs := h.regs.trans k.regs

theorem Upkeep.foldl {α : Type} {f : State → α → State} (h : ∀ s a, Upkeep s (f s a)) (l : List α) (s : State) :
    Upkeep s (l.foldl f s) := by
  induction l generalizing s with
  | nil => exact .refl s
  | cons a l ih => exact (h s a).trans (ih _)

theorem Upkeep.lio (h : Upkeep s t) : t.lio = s.lio :=
  (congrArg State.lio h.frame).trans rfl

theorem setReg_upkeep (s : State) {a : Nat} (v : Word) (ha : upkeepReg a) : Upkeep s (s.setReg a v) :=
  ⟨rfl, rfl, rfl, rfl, fun b hb => s.reg_setReg_other a b v fun e => hb (e ▸ ha), s.regsWf_setReg a v⟩

theorem setFld_upkeep (s : State) {f : Fld} (v : Nat) (hf : upkeepReg f.addr) : Upkeep s (s.setFld f v) :=
  s.setReg_upkeep _ hf

/-! ### Events -/

theorem s5Up_regs (s : State) : s.s5Up.regs = s.regs := by
  obtain ⟨v, u, h⟩ := s.s5Up_writes
  rw [h]

theorem wake_writesRegs (s : State) (src : Nat) (who : Requester) : WritesRegs upkeepReg s (s.wake src who) := by
  unfold State.wake
  split
  · refine (WritesRegs.setFld s F.PWR_WAKE_SRC (s.fld F.PWR_WAKE_SRC ||| 2 ^ src) (.inl rfl)).trans (.of_regs_eq ?_)
    dsimp only
    split
    · exact s5Up_regs _
    · exact s5Up_regs _
  · exact .refl s

theorem setEvent_writesRegs (s : State) (n : Fin 8) (bit : Nat) : WritesRegs upkeepReg s (s.setEvent n bit) := by
  unfold State.setEvent
  split
  · refine (WritesRegs.setFld s (F.SEQ_Tn_EV n) (s.fld (F.SEQ_Tn_EV n) ||| 2 ^ bit) (.inr (.inl ⟨n, rfl⟩))).trans ?_
    dsimp only
    split
    · split
      · exact (wake_writesRegs _ 3 .caused).of_start rfl
      · exact .of_regs_eq rfl
    · exact .refl _
  · exact .refl s

theorem setEvent_upkeep (s : State) (n : Fin 8) (bit : Nat) : Upkeep s (s.setEvent n bit) := by
  have regs := s.setEvent_writesRegs n bit
  obtain ⟨r, t, p, c, j, v, u, h⟩ := s.setEvent_writes n bit
  rw [h] at regs ⊢
  exact ⟨rfl, rfl, rfl, rfl, regs⟩

theorem eventAll_upkeep (s : State) (bit : Nat) : Upkeep s (s.eventAll bit) :=
  Upkeep.foldl (fun s n => s.setEvent_upkeep n bit) _ s


/-! ### The waiting LOADL -/

theorem setSlot_upkeep (s : State) (k : Nat) (wide : Bool) (x : SlotSt) : Upkeep s (s.setSlot k wide x) := by
  obtain ⟨v, h⟩ := s.setSlot_writes k wide x
  rw [h]
  exact ⟨rfl, rfl, rfl, rfl, .of_regs_eq rfl⟩

theorem loadlClaim_upkeep (s : State) (l : Loadl) : Upkeep s (s.loadlClaim l).1 := by
  unfold State.loadlClaim
  split
  · dsimp only
    split
    · exact (s.setSlot_upkeep _ _ _).trans ⟨rfl, rfl, rfl, rfl, .of_regs_eq rfl⟩
    · exact .refl s
  · exact .refl s

theorem loadlDone_upkeep (s : State) (l : Loadl) : Upkeep s (s.loadlDone l) := ⟨rfl, rfl, rfl, rfl, .of_regs_eq rfl⟩

theorem loadlPoll_upkeep (n : Nat) (s : State) : Upkeep s (s.loadlPoll n) := by
  induction n generalizing s with
  | zero => exact .refl s
  | succ n ih =>
    unfold State.loadlPoll
    split
    next => exact .refl s
    next l _ =>
      have claim := s.loadlClaim_upkeep l
      split
      · exact .refl s
      · split
        next s' h =>
          rw [h] at claim
          exact claim.trans (ih s')
        next s' h =>
          rw [h] at claim
          split
          · split
            · exact claim
            · exact claim.trans (s'.loadlDone_upkeep l)
          · exact claim

/-! ### The record of a frame -/

theorem egrDrop_upkeep (s : State) (f : EgrFrame) (cause : Nat) : Upkeep s (s.egrDrop f cause) := by
  have counted := s.setFld_upkeep (f := F.EGR_DROP_CNT) (s.fld F.EGR_DROP_CNT + 1) (by simp [upkeepReg, F.EGR_DROP_CNT])
  unfold State.egrDrop
  dsimp only
  split
  · exact counted.trans ⟨rfl, rfl, rfl, rfl, .of_regs_eq rfl⟩
  · exact counted.trans ⟨rfl, rfl, rfl, rfl, .of_regs_eq rfl⟩

theorem egrFrameRecord_upkeep (s : State) (f : EgrFrame) : Upkeep s (s.egrFrameRecord f) := by
  unfold State.egrFrameRecord
  split
  next s' h =>
    unfold State.egrQueue? at h
    split at h
    · obtain rfl := Option.some.inj h
      exact ⟨rfl, rfl, rfl, rfl, .of_regs_eq rfl⟩
    · cases h
  next => exact s.egrDrop_upkeep f 2

theorem writeFrec_upkeep (s : State) (bs : List Byte) {n : Nat} (hn : n ≤ 8) : Upkeep s (s.writeFrec bs n) := by
  induction n with
  | zero => exact .refl s
  | succ n ih =>
    refine (ih (Nat.le_of_succ_le hn)).trans (setReg_upkeep _ _ ?_)
    exact .inr (.inr (.inr (.inr (.inl ⟨⟨n, hn⟩, rfl⟩))))

/-! ### Frames -/

/-- A change of the ingest block that keeps the pending list, the lines being received and the line store. -/
theorem upkeep_of_ing (s : State) (i : Ingest) (hp : i.pend = s.ing.pend) (hf : i.filling = s.ing.filling)
    (hs : i.store = s.ing.store) : Upkeep s { s with ing := i } := ⟨rfl, hp, hf, hs, .of_regs_eq rfl⟩

/-- LAST is set on the last delivered line while it is FILLED (R182). -/
def markLast (s : State) (f : Frame) : State :=
  match f.lastSlot with
  | some k =>
    if h : k < 128 then
      if s.ing.slots[k] == SlotSt.filled then
        { s with ing := { s.ing with hdr := s.ing.hdr.set k { s.ing.hdr[k] with last := true } } }
      else s
    else s
  | none => s

theorem markLast_upkeep (s : State) (f : Frame) : Upkeep s (s.markLast f) := by
  unfold State.markLast
  split
  · split
    · split
      · exact s.upkeep_of_ing _ rfl rfl rfl
      · exact .refl s
    · exact .refl s
  · exact .refl s

theorem frameEnd_upkeep (s : State) (f : Frame) : Upkeep s (s.frameEnd f) := by
  have stall (s : State) : Upkeep s ((s.setFld F.TLY_STALL_LAST (s.fld F.TLY_STALL_FRAME)).setFld F.TLY_STALL_FRAME 0) :=
    (s.setFld_upkeep _ (by simp [upkeepReg, F.TLY_STALL_LAST])).trans
      (setFld_upkeep _ _ (by simp [upkeepReg, F.TLY_STALL_FRAME]))
  have recorded (s : State) : Upkeep s ((s.writeFrec f.record 8).raise F.ING_STAT_FREC_EV) :=
    (s.writeFrec_upkeep _ (Nat.le_refl 8)).trans (setFld_upkeep _ _ (by simp [upkeepReg, F.ING_STAT_FREC_EV]))
  exact (((((s.markLast_upkeep f).trans (stall _)).trans (recorded _)).trans (eventAll_upkeep _ 2)).trans
    (egrFrameRecord_upkeep _ _)).trans (loadlPoll_upkeep 17 _)

theorem framesSettle_upkeep (n : Nat) (s : State) : Upkeep s (s.framesSettle n) := by
  induction n generalizing s with
  | zero => exact .refl s
  | succ n ih =>
    unfold State.framesSettle
    split
    next => exact .refl s
    next f fs _ =>
      split
      · exact ((s.upkeep_of_ing { s.ing with frames := fs } rfl rfl rfl).trans (frameEnd_upkeep _ f)).trans (ih _)
      · exact .refl s

theorem onFrame_upkeep (s : State) (num : Word) (g : Frame → Frame) : Upkeep s (s.onFrame num g) :=
  s.upkeep_of_ing _ rfl rfl rfl

theorem resolveLine_upkeep (s : State) (num : Word) : Upkeep s (s.resolveLine num) :=
  (s.onFrame_upkeep num _).trans (framesSettle_upkeep 64 _)

theorem frameOpen_upkeep (s : State) (frameNum first : Word) (group : Bool) : Upkeep s (s.frameOpen frameNum first group) :=
  (s.upkeep_of_ing { s.ing with
    frameNum := frameNum
    frames := s.ing.frames ++ [{ num := frameNum, first := first, len := s.fld F.ING_FRAME_LEN, group := group }] } rfl rfl rfl).trans
    (eventAll_upkeep _ 1)

theorem frameJoin_upkeep (s : State) : Upkeep s s.frameJoin := by
  unfold State.frameJoin
  split
  · exact s.upkeep_of_ing _ rfl rfl rfl
  · exact .refl s

theorem missLine_upkeep (s : State) (num : Word) : Upkeep (s.inc F.ING_MISSING) (s.missLine num) :=
  (onFrame_upkeep _ num _).trans (resolveLine_upkeep _ num)

end State
end Sys2Proof.Machine
end

section
/-! SUPPORT. The packer (R165 to R173, R189): pending triggers whose time has passed, slots, the line being received, and the
effects of a pixel word and of a timeout. -/

namespace Sys2Proof.Machine

variable {s : State}

namespace State

/-! ### Pending triggers -/

/-- With no pending trigger out of time none is missing. -/
theorem ltmoPend_intime {t : Nat} (h : ∀ p ∈ s.ing.pend, t ≤ p.t + p.ltmo) (n : Nat) : s.ltmoPend t n = s := by
  cases n with
  | zero => rfl
  | succ n =>
    have none : s.ing.pend.find? (fun p => decide (p.t + p.ltmo < t)) = none := by
      simpa [List.find?_eq_none] using h
    unfold State.ltmoPend
    simp only [none]

/-- The oldest pending trigger alone is out of time: it leaves the list and is missing. -/
theorem ltmoPend_oldest {t : Nat} {p : Trig} {ps : List Trig} (hpend : s.ing.pend = p :: ps) (hp : p.t + p.ltmo < t)
    (hps : ∀ x ∈ ps, t ≤ x.t + x.ltmo) (n : Nat) :
    s.ltmoPend t (n + 1) = State.missLine { s with ing := { s.ing with pend := ps } } p.num := by
  have found : s.ing.pend.find? (fun p => decide (p.t + p.ltmo < t)) = some p := by
    rw [hpend, List.find?_cons_of_pos (by simpa using hp)]
  have left : s.ing.pend.eraseP (fun p => decide (p.t + p.ltmo < t)) = ps := by
    rw [hpend, List.eraseP_cons_of_pos (by simpa using hp)]
  unfold State.ltmoPend
  simp only [found, left]
  refine ltmoPend_intime ?_ n
  rw [(missLine_upkeep _ p.num).pend]
  exact hps

/-! ### The line being received -/

theorem receiving_eq_false : s.receiving = false ↔ ∀ f ∈ s.ing.filling, f.ended = true := by
  simp [State.receiving]

/-- A map that changes no line being received changes nothing. -/
theorem mapFilling_id {g : Filling → Filling} (h : ∀ f ∈ s.ing.filling, g f = f) :
    { s with ing := { s.ing with filling := s.ing.filling.map g } } = s := by
  rw [(List.map_congr_left h).trans (List.map_id s.ing.filling)]

theorem cutLate_ontime {t : Nat} (h : ∀ f ∈ s.ing.filling, f.ended = false → t < f.trig.t + f.trig.ltmo) : s.cutLate t = s := by
  refine mapFilling_id fun f hf => if_neg ?_
  simpa using h f hf

theorem cutLate_idle (h : s.receiving = false) (t : Nat) : s.cutLate t = s :=
  cutLate_ontime fun f hf hopen => by simp [receiving_eq_false.mp h f hf] at hopen

theorem addWord_idle (h : s.receiving = false) (w : PixelWord) : s.addWord w = s :=
  mapFilling_id fun f hf => if_pos (receiving_eq_false.mp h f hf)

/-! ### Slots -/

/-- The slot found lies in the line store, and so does the second slot of a pair. -/
theorem findSlot_lt {wide : Bool} {k : Nat} (h : s.findSlot wide = some k) : k < 128 ∧ (wide = true → k + 1 < 128) := by
  unfold State.findSlot at h
  obtain ⟨i, -, hk⟩ := List.mem_map.mp (List.mem_of_find?_eq_some h)
  refine ⟨hk ▸ Nat.mod_lt _ (by decide), fun hwide => ?_⟩
  have free := List.find?_some h
  simp only [hwide, if_true, Bool.and_eq_true, beq_iff_eq] at free
  by_contra hout
  simp [Vector.getElem?_eq_none (Nat.not_lt.mp hout)] at free

/-- A slot, or a pair, that lies in the line store takes its new state, and no other slot does. -/
theorem setSlot_slots (s : State) {k : Nat} {wide : Bool} (x : SlotSt) (hk : k < 128) (hpair : wide = true → k + 1 < 128) :
    ∃ v : Vector SlotSt 128, s.setSlot k wide x = { s with ing := { s.ing with slots := v } } ∧ v[k]? = some x ∧
      ∀ j : Fin 128, j.val ≠ k → (wide = true → j.val ≠ k + 1) → v[j] = s.ing.slots[j] := by
  cases wide with
  | false =>
    refine ⟨s.ing.slots.set k x, by simp [State.setSlot, hk], by simp [hk], fun j hj _ => ?_⟩
    simp [Ne.symm hj]
  | true =>
    have hk' := hpair rfl
    refine ⟨(s.ing.slots.set k x).set (k + 1) x, by simp [State.setSlot, hk, hk'], ?_, fun j hj hj' => ?_⟩
    · simp [hk]
    · simp [Ne.symm hj, Ne.symm (hj' rfl)]

/-- The depth of the line store's entries while pixels are not companded (R172). -/
def wideLines (s : State) : Bool := s.bit F.ING_CFG_DEPTH16 && !s.bit F.ING_CFG_CMP_EN

/-- A PX_SOL pairs with the oldest pending trigger and takes the slot found (R167, R172). -/
theorem startLine_paired {p : Trig} {ps : List Trig} {k : Nat} (hpend : s.ing.pend = p :: ps)
    (hslot : s.findSlot s.wideLines = some k) :
    ∃ v : Vector SlotSt 128, s.startLine = { s with ing := { s.ing with
        pend := ps, slots := v, lastSlot := if s.wideLines then k + 1 else k
        filling := s.ing.filling ++ [{ trig := p, slot := k, wide := s.wideLines, companded := s.bit F.ING_CFG_CMP_EN }] } } ∧
      v[k]? = some .filling ∧ ∀ j : Fin 128, j.val ≠ k → (s.wideLines = true → j.val ≠ k + 1) → v[j] = s.ing.slots[j] := by
  obtain ⟨hk, hpair⟩ := findSlot_lt hslot
  obtain ⟨v, hset, hv⟩ := setSlot_slots { s with ing := { s.ing with pend := ps } } .filling hk hpair
  refine ⟨v, ?_, hv⟩
  have found : State.findSlot { s with ing := { s.ing with pend := ps } } s.wideLines = some k := hslot
  unfold State.startLine
  simp only [hpend]
  unfold wideLines at found hset ⊢
  split
  next h => rw [found] at h; cases h
  next k' h =>
    obtain rfl : k = k' := Option.some.inj (found.symm.trans h)
    rw [hset]

theorem startLine_orphan (hpend : s.ing.pend = []) : s.startLine = s.inc F.ING_ORPHAN := by
  unfold State.startLine
  simp only [hpend]

/-! ### Pixel words -/

/-- The line that a word begins on a slot. -/
theorem addWord_started (w : PixelWord) (f : Filling) (hold : ∀ f ∈ s.ing.filling, f.ended = true) (hopen : f.ended = false)
    (hv : w.valid = true) (he : w.eol = false) :
    (State.addWord { s with ing := { s.ing with filling := s.ing.filling ++ [f] } } w).ing.filling =
      s.ing.filling ++ [{ f with bytes := f.bytes ++ w.data.take 32, syncLost := f.syncLost || w.syncLost,
                                 laneErr := f.laneErr ||| (w.laneErr &&& BitVec.ofNat 16 (s.fld F.ING_LANES)) }] := by
  have old : (s.addWord w).ing.filling = s.ing.filling := by rw [addWord_idle (receiving_eq_false.mpr hold)]
  refine List.map_append.trans (congrArg₂ (· ++ ·) old ?_)
  simp [hopen, hv, he, State.fld, State.reg]

/-- Every line being received takes the bytes of a word. -/
theorem addWord_bytes (s : State) {w : PixelWord} (hv : w.valid = true) :
    (s.addWord w).ing.filling.map (·.bytes) =
      s.ing.filling.map fun f => if f.ended then f.bytes else f.bytes ++ w.data.take 32 := by
  unfold State.addWord
  rw [List.map_map]
  refine List.map_congr_left fun f _ => ?_
  cases hended : f.ended <;> simp [hended, hv]

@[simp] theorem addWord_receiving (s : State) (w : PixelWord) : (s.addWord w).receiving = s.receiving := by
  unfold State.receiving State.addWord
  rw [List.any_map]
  refine List.any_congr rfl fun f => ?_
  cases hended : f.ended <;> simp [hended]

theorem endLine_bytes (s : State) (cut : Bool) : (s.endLine cut).ing.filling.map (·.bytes) = s.ing.filling.map (·.bytes) := by
  unfold State.endLine
  rw [List.map_map]
  refine List.map_congr_left fun f _ => ?_
  cases hended : f.ended <;> simp [hended]

theorem endLine_receiving (s : State) (cut : Bool) : (s.endLine cut).receiving = false := by
  unfold State.receiving State.endLine
  rw [List.any_map, List.any_eq_false]
  intro f _
  cases hended : f.ended <;> simp [hended]

/-- A line out of time ends with CUT, and keeps its bytes (R169). -/
theorem cutLate_lines (s : State) (t : Nat) :
    (s.cutLate t).ing.filling.map (fun f => (f.bytes, f.ended, f.cut)) = s.ing.filling.map fun f =>
      if f.ended = false ∧ f.trig.t + f.trig.ltmo ≤ t then (f.bytes, true, true) else (f.bytes, f.ended, f.cut) := by
  unfold State.cutLate
  rw [List.map_map]
  refine List.map_congr_left fun f _ => ?_
  by_cases late : f.ended = false ∧ f.trig.t + f.trig.ltmo ≤ t <;> simp [late]

end State

theorem execPixelWord_off {w : PixelWord} {t : Nat} (h : ¬(s.domOn Dom.ingest = true ∧ s.bit F.ING_CFG_EN = true)) :
    execPixelWord w t s = .next (s.atT t) := by
  rw [← Bool.and_eq_true] at h
  exact if_neg h

section
variable {w : PixelWord} {t : Nat} (hon : s.domOn Dom.ingest = true ∧ s.bit F.ING_CFG_EN = true) (hv : w.valid = true)
include hon hv

/-- A PX_SOL between lines begins a line with the word's bytes. -/
theorem execPixelWord_sol (hidle : s.receiving = false) (hsol : w.sol = true) (heol : w.eol = false)
    (hintime : ∀ p ∈ s.ing.pend, t ≤ p.t + p.ltmo) : execPixelWord w t s = .next ((s.atT t).startLine.addWord w) := by
  have on : ((s.atT t).domOn Dom.ingest && (s.atT t).bit F.ING_CFG_EN) = true := Bool.and_eq_true_iff.mpr hon
  have idle : (s.atT t).receiving = false := hidle
  have none : (s.atT t).ltmoPend t 16 = s.atT t := State.ltmoPend_intime (s := s.atT t) hintime 16
  simp [execPixelWord, on, State.cutLate_idle idle t, hv, hsol, heol, idle, none]

/-- A later word goes to the line being received, and PX_EOL ends it. -/
theorem execPixelWord_later (hrecv : s.receiving = true) (hsol : w.sol = false)
    (hontime : ∀ f ∈ s.ing.filling, f.ended = false → t < f.trig.t + f.trig.ltmo) :
    execPixelWord w t s = .next (if w.eol then ((s.atT t).addWord w).endLine false else (s.atT t).addWord w) := by
  have on : ((s.atT t).domOn Dom.ingest && (s.atT t).bit F.ING_CFG_EN) = true := Bool.and_eq_true_iff.mpr hon
  have recv : (s.atT t).receiving = true := hrecv
  have ontime : (s.atT t).cutLate t = s.atT t := State.cutLate_ontime (s := s.atT t) hontime
  simp [execPixelWord, on, ontime, hv, hsol, recv]

end

/-- The end of a frame does not count missing lines. -/
theorem missing_not_upkeep : ¬upkeepReg F.ING_MISSING.addr := by
  rintro (h | ⟨n, h⟩ | h | h | ⟨n, h⟩ | h | h)
  case inr.inl => simp only [F.ING_MISSING, Reg.ING_MISSING, Reg.SEQ_Tn_EV] at h; omega
  case inr.inr.inr.inr.inl => simp only [F.ING_MISSING, Reg.ING_MISSING, Reg.ING_FREC] at h; omega
  all_goals exact absurd h (by decide)

/-- Settles O30: a word is the packer's one operation that its clause names, and a timeout is a missing trigger or a cut line. -/
theorem pixelWordsMakeLines : Obligations.PixelWordsMakeLines := by
  intro s w t k p ps hmem on companded wide only intime
  have hwf := State.regsWf_of_memWf hmem
  refine ⟨fun hon hidle hv hsol heol hpend hin hslot => ?starts, fun hon hidle hv hsol heol hpend => ?orphan,
    fun hon hrecv hontime hv hsol => ?continues, fun hoff => execPixelWord_off hoff, fun hdom hpend hp hps => ?misses,
    fun hdom hin => ?cuts⟩
  case starts =>
    obtain ⟨v, hstart, hmine, hothers⟩ := State.startLine_paired (s := s.atT t) hpend hslot
    have line := State.addWord_started (s := { s.atT t with ing := { s.ing with
      pend := ps, slots := v, lastSlot := if wide then k + 1 else k } }) w
      { trig := p, slot := k, wide := wide, companded := companded } (State.receiving_eq_false.mp hidle) rfl hv heol
    refine ⟨_, execPixelWord_sol hon hv hidle hsol heol hin, ?_⟩
    rw [hstart]
    refine ⟨rfl, rfl, hmine, rfl, ?_, hothers, line.trans ?_⟩
    · rw [State.addWord_receiving]
      simp [State.receiving]
    · simp [State.fld, State.reg]
  case orphan =>
    have none : ∀ x ∈ s.ing.pend, t ≤ x.t + x.ltmo := by simp [hpend]
    have counted : ((s.atT t).inc F.ING_ORPHAN).addWord w = (s.atT t).inc F.ING_ORPHAN :=
      State.addWord_idle (s := (s.atT t).inc F.ING_ORPHAN) hidle w
    refine ⟨_, execPixelWord_sol hon hv hidle hsol heol none, ?_⟩
    rw [State.startLine_orphan (s := s.atT t) hpend, counted]
    exact ⟨rfl, State.fld_inc (s.atT t) _ hwf (Nat.le_refl 32), (State.WritesRegs.inc (W := (· = _)) (s.atT t) F.ING_ORPHAN rfl).but⟩
  case continues =>
    have bytes := State.addWord_bytes (s.atT t) hv
    refine ⟨_, execPixelWord_later hon hv hrecv hsol hontime, ?_⟩
    cases w.eol with
    | true => exact ⟨rfl, (State.endLine_bytes _ false).trans bytes, State.endLine_receiving _ false⟩
    | false => exact ⟨rfl, bytes, (State.addWord_receiving _ w).trans hrecv⟩
  case misses =>
    have missed : (s.atT t).ltmoPend (t + 1) 16 = State.missLine { s.atT t with ing := { s.ing with pend := ps } } p.num :=
      State.ltmoPend_oldest (s := s.atT t) hpend (Nat.lt_succ_of_le hp) hps 15
    have ended := State.missLine_upkeep { s.atT t with ing := { s.ing with pend := ps } } p.num
    refine ⟨_, if_pos hdom, ?_⟩
    rw [if_neg Bool.false_ne_true, missed]
    refine ⟨ended.pend, (ended.regs.fld missing_not_upkeep).trans ?_, ended.store, ?_⟩
    · exact State.fld_inc { s.atT t with ing := { s.ing with pend := ps } } _ hwf (Nat.le_refl 32)
    · exact (congrArg (fun x => x.cutLate t) ended.frame).trans rfl
  case cuts =>
    have none : (s.atT t).ltmoPend t 16 = s.atT t := State.ltmoPend_intime (s := s.atT t) hin 16
    refine ⟨_, if_pos hdom, ?_⟩
    rw [if_pos rfl, none]
    exact ⟨rfl, rfl, State.cutLate_lines _ t⟩

end Sys2Proof.Machine
end

section
/-! SUPPORT. Proof gates that turn off (R148, R150, R151, R153, R154, R158, R658), and the settings that commit at an EXPO
assertion (R144, R146). -/

namespace Sys2Proof.Machine

variable {s t u : State}

/-- The registers that a proof gate turning off may write. -/
def strobeReg (a : Nat) : Prop :=
  a = Reg.WR_LAMP_EOL ∨ ∃ n : Fin 8, a = Reg.STBn_STAT n ∨ a = Reg.STBn_PROOF_ABORT n ∨ a = Reg.STBn_UNV_EV n

/-- Between two states strobe channels change, and warnings of theirs are logged and mark the lines under way. -/
structure State.StrobeUpkeep (s t : State) : Prop where
  frame : t = { s with regs := t.regs, log := t.log, ing := t.ing, sup := t.sup, lio := { s.lio with stb := t.lio.stb } }
  pend : t.ing.pend.map (fun p => (p.num, p.pos, p.t)) = s.ing.pend.map fun p => (p.num, p.pos, p.t)
  store : t.ing.store = s.ing.store
  regs : State.WritesRegs strobeReg s t

namespace State

theorem StrobeUpkeep.refl (s : State) : StrobeUpkeep s s := ⟨rfl, rfl, rfl, .refl s⟩

theorem StrobeUpkeep.trans (h : StrobeUpkeep s t) (k : StrobeUpkeep t u) : StrobeUpkeep s u where
  frame := k.frame.trans (by rw [h.frame])
  pend := k.pend.trans h.pend
  store := k.store.trans h.store
  regs := h.regs.trans k.regs

theorem StrobeUpkeep.foldl {α : Type} {f : State → α → State} (h : ∀ s a, StrobeUpkeep s (f s a)) (l : List α) (s : State) :
    StrobeUpkeep s (l.foldl f s) := by
  induction l generalizing s with
  | nil => exact .refl s
  | cons a l ih => exact (h s a).trans (ih _)

theorem setFld_strobeUpkeep (s : State) {f : Fld} (v : Nat) (hf : strobeReg f.addr) : StrobeUpkeep s (s.setFld f v) :=
  ⟨rfl, rfl, rfl, .setFld s f v hf⟩

theorem setStb_strobeUpkeep (s : State) (n : Fin 8) (c : Strobe) : StrobeUpkeep s (s.setStb n c) :=
  ⟨rfl, rfl, rfl, .of_regs_eq rfl⟩

/-- A field of STBn_STAT. -/
theorem setStat_strobeUpkeep (s : State) (n : Fin 8) {f : Fld} (v : Nat) (hf : f.addr = Reg.STBn_STAT n) :
    StrobeUpkeep s (s.setFld f v) := s.setFld_strobeUpkeep v (.inr ⟨n, .inl hf⟩)

theorem warn_strobeUpkeep (s : State) (source : Nat) (rest : List Byte) : StrobeUpkeep s (s.warn source rest) := by
  obtain ⟨l, h⟩ := s.pushLog_writes 0x05 (BitVec.ofNat 8 source :: rest)
  unfold State.warn
  rw [h]
  exact ⟨rfl, List.map_map, rfl, .of_regs_eq rfl⟩

/-- DISABLED follows FAULT_ACT on a channel with a fault (R151). -/
def stbDisable (s : State) (n : Fin 8) : State :=
  let c := s.lio.stb[n]
  if s.bit (F.STBn_CFG_FAULT_ACT n) then
    State.setStb (s.raise (F.STBn_STAT_DISABLED n)) n
      { c with due := [], proofAt := none, dac := if c.gate.isSome then c.dac else c.iset }
  else s

theorem stbDisable_strobeUpkeep (s : State) (n : Fin 8) : StrobeUpkeep s (s.stbDisable n) := by
  unfold State.stbDisable
  split
  · exact (s.setStat_strobeUpkeep n _ rfl).trans (setStb_strobeUpkeep _ n _)
  · exact .refl s

/-- The first fault bit of a clean channel writes a WARN record (R681). -/
def stbWarn (s : State) (n : Fin 8) : State :=
  let c := s.lio.stb[n]
  if c.warned then s
  else
    let bits := b2n (s.bit (F.STBn_STAT_OPEN n)) + 2 * b2n (s.bit (F.STBn_STAT_SHORT n)) +
      4 * b2n (s.bit (F.STBn_STAT_STUCK_ON n)) + 8 * b2n (s.bit (F.STBn_STAT_LAMP_UNVERIFIED n))
    (s.setStb n { c with warned := true }).warn 5 [BitVec.ofNat 8 n.val, BitVec.ofNat 8 bits]

theorem stbWarn_strobeUpkeep (s : State) (n : Fin 8) : StrobeUpkeep s (s.stbWarn n) := by
  unfold State.stbWarn
  dsimp only
  split
  · exact .refl s
  · exact (s.setStb_strobeUpkeep n _).trans (warn_strobeUpkeep _ 5 _)

theorem stbFaultUpdate_eq (s : State) (n : Fin 8) :
    s.stbFaultUpdate n = if s.stbFault n then (s.stbDisable n).stbWarn n
      else (s.setFld (F.STBn_STAT_DISABLED n) 0).setStb n { s.lio.stb[n] with warned := false } := rfl

theorem stbFaultUpdate_strobeUpkeep (s : State) (n : Fin 8) : StrobeUpkeep s (s.stbFaultUpdate n) := by
  rw [stbFaultUpdate_eq]
  split
  · exact (s.stbDisable_strobeUpkeep n).trans (stbWarn_strobeUpkeep _ n)
  · exact (s.setStat_strobeUpkeep n 0 rfl).trans (setStb_strobeUpkeep _ n _)

theorem stbWait_strobeUpkeep (s : State) (n : Fin 8) : StrobeUpkeep s (s.stbWait n) := by
  have waited : StrobeUpkeep s (s.addSat (F.STBn_STAT_WAIT n) 1) := s.setStat_strobeUpkeep n _ rfl
  have unverified (s : State) : StrobeUpkeep s ((s.raise (F.STBn_STAT_LAMP_UNVERIFIED n)).inc (F.STBn_UNV_EV n)) :=
    (s.setStat_strobeUpkeep n _ rfl).trans (setFld_strobeUpkeep _ _ (.inr ⟨n, .inr (.inr rfl)⟩))
  unfold State.stbWait
  dsimp only
  split
  · exact (waited.trans (unverified _)).trans (stbFaultUpdate_strobeUpkeep _ n)
  · exact waited

theorem stbUnverified_strobeUpkeep (s : State) (n : Fin 8) : StrobeUpkeep s (s.stbUnverified n) := by
  have counted : StrobeUpkeep s (s.addSat (F.STBn_STAT_UNV n) 1) := s.setStat_strobeUpkeep n _ rfl
  unfold State.stbUnverified
  dsimp only
  split
  · exact (counted.trans (setStat_strobeUpkeep _ n _ rfl)).trans (setStat_strobeUpkeep _ n 0 rfl)
  · exact counted

theorem lampCheck_strobeUpkeep (s : State) (n : Fin 8) : StrobeUpkeep s (s.lampCheck n) := by
  unfold State.lampCheck
  dsimp only
  split
  · exact (s.setFld_strobeUpkeep _ (.inl rfl)).trans (warn_strobeUpkeep _ 4 _)
  · exact .refl s

theorem gateOff_aborted_strobeUpkeep (s : State) (n : Fin 8) (e : Nat) : StrobeUpkeep s (s.gateOff n e .aborted) := by
  unfold State.gateOff
  dsimp only
  split
  · exact .refl s
  next p _ =>
    have off (c : Strobe) : StrobeUpkeep s ((s.setStb n c).lampCheck n) :=
      (s.setStb_strobeUpkeep n c).trans (lampCheck_strobeUpkeep _ n)
    have counted (s : State) : StrobeUpkeep s ((s.inc (F.STBn_PROOF_ABORT n)).stbWait n) :=
      (s.setFld_strobeUpkeep _ (.inr ⟨n, .inr (.inl rfl)⟩)).trans (stbWait_strobeUpkeep _ n)
    refine StrobeUpkeep.trans ?_ (counted _)
    split
    · exact (off _).trans (stbUnverified_strobeUpkeep _ n)
    · exact off _

theorem proofAbort_strobeUpkeep (s : State) (e : Nat) : StrobeUpkeep s (s.proofAbort e) := by
  refine StrobeUpkeep.foldl (fun s n => ?_) _ s
  split
  · split
    · exact s.gateOff_aborted_strobeUpkeep n e
    · exact .refl s
  · exact .refl s

theorem StrobeUpkeep.lio (h : StrobeUpkeep s t) : t.lio = { s.lio with stb := t.lio.stb } :=
  (congrArg State.lio h.frame).trans rfl

/-! ### Settings that commit -/

/-- A channel holds its staged settings (R146). -/
def Committed (s : State) (n : Fin 8) (c : Strobe) : Prop :=
  c.iset = BitVec.ofNat 10 (s.fld (F.STBn_ISET n)) ∧ c.w = s.fld (F.STBn_W n) ∧ c.ofs = s.fld (F.STBn_OFS n)

/-- One channel at an EXPO assertion (R144, R146). -/
def strobeExpo (line : Word) (e : Nat) (s : State) (n : Fin 8) : State :=
  let s := s.stbCommit n
  let c := s.lio.stb[n]
  if s.mode.isCapture && s.bit (F.STBn_CFG_EN n) && bitOf (s.fld (F.STBn_CFG_PAT n)) (line.toNat % 8) &&
      !s.bit (F.STBn_STAT_DISABLED n)
  then s.setStb n { c with due := c.due ++ [(line, e + c.ofs)] } else s

@[simp] theorem setStb_stb_same (s : State) (n : Fin 8) (c : Strobe) : (s.setStb n c).lio.stb[n.val] = c := by
  simp [State.setStb]

theorem setStb_stb_other (s : State) (c : Strobe) {n k : Fin 8} (h : k ≠ n) : (s.setStb n c).lio.stb[k] = s.lio.stb[k] := by
  have apart : n.val ≠ k.val := fun e => h (Fin.ext e.symm)
  simp [State.setStb, apart]

@[simp] theorem setStb_setStb (s : State) (n : Fin 8) (c d : Strobe) : (s.setStb n c).setStb n d = s.setStb n d := by
  simp [State.setStb]

theorem stbCommit_eq (s : State) (n : Fin 8) : ∃ c, s.stbCommit n = s.setStb n c ∧ s.Committed n c := ⟨_, rfl, rfl, rfl, rfl⟩

theorem strobeExpo_eq (line : Word) (e : Nat) (s : State) (n : Fin 8) :
    ∃ c, State.strobeExpo line e s n = s.setStb n c ∧ s.Committed n c := by
  obtain ⟨c, hset, hc⟩ := s.stbCommit_eq n
  unfold State.strobeExpo
  rw [hset]
  dsimp only [Fin.getElem_fin]
  rw [setStb_stb_same, setStb_setStb]
  split
  · exact ⟨_, rfl, hc⟩
  · exact ⟨c, rfl, hc⟩

theorem strobesExpo_strobeUpkeep (s : State) (line : Word) (e : Nat) : StrobeUpkeep s (s.strobesExpo line e) := by
  refine StrobeUpkeep.foldl (f := State.strobeExpo line e) (fun s n => ?_) _ s
  obtain ⟨c, hstep, -⟩ := State.strobeExpo_eq line e s n
  rw [hstep]
  exact s.setStb_strobeUpkeep n c

theorem strobeExpo_foldl_committed (line : Word) (e : Nat) (l : List (Fin 8)) (s : State) (n : Fin 8)
    (h : n ∈ l ∨ s.Committed n s.lio.stb[n]) : s.Committed n (l.foldl (State.strobeExpo line e) s).lio.stb[n] := by
  induction l generalizing s with
  | nil => exact h.resolve_left List.not_mem_nil
  | cons k l ih =>
    obtain ⟨c, hstep, hc⟩ := State.strobeExpo_eq line e s k
    rw [List.foldl_cons, hstep]
    refine ih (s.setStb k c) ?_
    by_cases hnk : n = k
    · subst hnk
      exact .inr ((s.setStb_stb_same n c).symm ▸ hc)
    · exact h.imp (fun h => (List.mem_cons.mp h).resolve_left hnk) fun h => (s.setStb_stb_other c hnk).symm ▸ h

/-- Every channel holds its staged settings after an EXPO assertion. -/
theorem strobesExpo_committed (s : State) (line : Word) (e : Nat) (n : Fin 8) :
    s.Committed n (s.strobesExpo line e).lio.stb[n] :=
  strobeExpo_foldl_committed line e (List.finRange 8) s n (.inl (List.mem_finRange n))

/-- The staged settings are in none of the registers that a proof gate turning off writes. -/
theorem StrobeUpkeep.committed {n : Fin 8} {c : Strobe} (h : StrobeUpkeep s t) (k : t.Committed n c) : s.Committed n c := by
  have keeps {f : Fld} (hf : f.addr = Reg.STBn_ISET n ∨ f.addr = Reg.STBn_W n ∨ f.addr = Reg.STBn_OFS n) : t.fld f = s.fld f := by
    refine h.regs.fld ?_
    unfold Reg.STBn_ISET Reg.STBn_W Reg.STBn_OFS at hf
    unfold strobeReg Reg.WR_LAMP_EOL Reg.STBn_STAT Reg.STBn_PROOF_ABORT Reg.STBn_UNV_EV
    rintro (h | ⟨m, h⟩) <;> omega
  obtain ⟨hiset, hw, hofs⟩ := k
  exact ⟨hiset.trans (congrArg _ (keeps (.inl rfl))), hw.trans (keeps (.inr (.inl rfl))), hofs.trans (keeps (.inr (.inr rfl)))⟩

end State
end Sys2Proof.Machine
end

section
/-! SUPPORT. Line triggers, the line timer and EXPO (R23, R102, R103, R107, R133, R152): a trigger takes its number, is skipped or
exposed, and has side effects that leave the trigger's own registers and the schedule alone. -/

namespace Sys2Proof.Machine

variable {s t u : State}

/-- The registers of the line trigger, ENC_TRIG_CFG to ENC_ERR. -/
def triggerReg (a : Nat) : Bool := decide (Reg.ENC_TRIG_CFG ≤ a ∧ a ≤ Reg.ENC_ERR)

theorem not_triggerReg_of_upkeepReg {a : Nat} (h : upkeepReg a) : ¬triggerReg a = true := by
  rcases h with h | ⟨n, h⟩ | h | h | ⟨n, h⟩ | h | h
  case inr.inl => simp only [h, triggerReg, Reg.SEQ_Tn_EV, Reg.ENC_TRIG_CFG, Reg.ENC_ERR, decide_eq_true_eq]; omega
  case inr.inr.inr.inr.inl => simp only [h, triggerReg, Reg.ING_FREC, Reg.ENC_TRIG_CFG, Reg.ENC_ERR, decide_eq_true_eq]; omega
  all_goals exact h ▸ by decide

theorem not_triggerReg_of_strobeReg {a : Nat} (h : strobeReg a) : ¬triggerReg a = true := by
  rcases h with h | ⟨n, h⟩
  · exact h ▸ by decide
  · unfold Reg.STBn_STAT Reg.STBn_PROOF_ABORT Reg.STBn_UNV_EV at h
    unfold triggerReg Reg.ENC_TRIG_CFG Reg.ENC_ERR
    rw [decide_eq_true_eq]
    omega

/-- What a trigger may change of the state. -/
def State.TriggerFrame (s t : State) : Prop := t = { s with
  trs := t.trs, ing := t.ing, sup := t.sup, joistLadderResult := t.joistLadderResult, cp := t.cp, phase := t.phase, egr := t.egr
  lio := t.lio, log := t.log, regs := t.regs, rails := t.rails, taskSt := t.taskSt }

/-- Between two states a trigger has side effects only: its registers, the line timer, the schedule and the presence receiver stay,
and the pending list keeps its triggers. -/
structure State.Aside (s t : State) : Prop where
  frame : State.TriggerFrame s t
  regs : State.WritesRegs (fun a => ¬triggerReg a = true) s t
  pend : t.ing.pend.map (fun p => (p.num, p.pos, p.t)) = s.ing.pend.map fun p => (p.num, p.pos, p.t)
  store : t.ing.store = s.ing.store
  expos : t.lio.expos = s.lio.expos
  ltNext : t.lio.ltNext = s.lio.ltNext
  lastTrig : t.lio.lastTrig = s.lio.lastTrig
  prevTrig : t.lio.prevTrig = s.lio.prevTrig
  lastExpoTrig : t.lio.lastExpoTrig = s.lio.lastExpoTrig
  prs : t.lio.prs = s.lio.prs

namespace State

theorem TriggerFrame.trans (h : TriggerFrame s t) (k : TriggerFrame t u) : TriggerFrame s u :=
  Eq.trans k (congrArg (fun x => { x with
    trs := u.trs, ing := u.ing, sup := u.sup, joistLadderResult := u.joistLadderResult, cp := u.cp, phase := u.phase, egr := u.egr
    lio := u.lio, log := u.log, regs := u.regs, rails := u.rails, taskSt := u.taskSt }) h)

theorem TriggerFrame.mode (h : TriggerFrame s t) : t.mode = s.mode := (congrArg State.mode h).trans rfl

theorem Aside.refl (s : State) : Aside s s := ⟨rfl, .refl s, rfl, rfl, rfl, rfl, rfl, rfl, rfl, rfl⟩

theorem Aside.trans (h : Aside s t) (k : Aside t u) : Aside s u where
  frame := h.frame.trans k.frame
  regs := h.regs.trans k.regs
  pend := k.pend.trans h.pend
  store := k.store.trans h.store
  expos := k.expos.trans h.expos
  ltNext := k.ltNext.trans h.ltNext
  lastTrig := k.lastTrig.trans h.lastTrig
  prevTrig := k.prevTrig.trans h.prevTrig
  lastExpoTrig := k.lastExpoTrig.trans h.lastExpoTrig
  prs := k.prs.trans h.prs

theorem Aside.fld (h : Aside s t) {f : Fld} (hf : triggerReg f.addr = true) : t.fld f = s.fld f := h.regs.fld fun k => k hf

theorem Aside.reg (h : Aside s t) {a : Nat} (ha : triggerReg a = true) : t.reg a = s.reg a := h.regs.but a fun k => k ha

theorem Aside.bit (h : Aside s t) {f : Fld} (hf : triggerReg f.addr = true) : t.bit f = s.bit f := congrArg (· != 0) (h.fld hf)

theorem Aside.tooClose (h : Aside s t) (e : Nat) : t.tooClose e = s.tooClose e := by
  unfold State.tooClose State.trigSpacing
  rw [h.lastExpoTrig, h.fld (f := F.ENC_TMIN_TMIN) rfl, h.fld (f := F.ENC_EXPO_W_W) rfl]

theorem Aside.pend_length (h : Aside s t) : t.ing.pend.length = s.ing.pend.length := by
  simpa using congrArg List.length h.pend

theorem Upkeep.aside (h : Upkeep s t) : Aside s t where
  frame := by
    refine h.frame.trans ?_
    rw [h.frame]
  regs := h.regs.mono fun _ => not_triggerReg_of_upkeepReg
  pend := by rw [h.pend]
  store := h.store
  expos := by rw [h.lio]
  ltNext := by rw [h.lio]
  lastTrig := by rw [h.lio]
  prevTrig := by rw [h.lio]
  lastExpoTrig := by rw [h.lio]
  prs := by rw [h.lio]

theorem StrobeUpkeep.aside (h : StrobeUpkeep s t) : Aside s t where
  frame := by
    refine h.frame.trans ?_
    rw [h.frame]
  regs := h.regs.mono fun _ => not_triggerReg_of_strobeReg
  pend := h.pend
  store := h.store
  expos := by rw [h.lio]
  ltNext := by rw [h.lio]
  lastTrig := by rw [h.lio]
  prevTrig := by rw [h.lio]
  lastExpoTrig := by rw [h.lio]
  prs := by rw [h.lio]

/-! ### A local trigger outside LOCKSTEP, with no gating -/

/-- The next line number is taken, and the spacing of triggers is noted (R23, R153). -/
def numbered (s : State) (num : Word) (e : Nat) : State :=
  { s.setReg Reg.ENC_LINE_NUM num with lio := { s.lio with prevTrig := s.lio.lastTrig, lastTrig := some e } }

theorem numbered_fld (s : State) (num : Word) (e : Nat) {f : Fld} (hf : f.addr ≠ Reg.ENC_LINE_NUM) :
    (s.numbered num e).fld f = s.fld f :=
  congrArg (fun w => getBits w f.lo f.w) (s.reg_setReg_other Reg.ENC_LINE_NUM f.addr num hf)

theorem numbered_tooClose (s : State) (num : Word) (e e' : Nat) : (s.numbered num e).tooClose e' = s.tooClose e' := by
  unfold State.tooClose State.trigSpacing
  rw [s.numbered_fld num e (f := F.ENC_TMIN_TMIN) (by decide), s.numbered_fld num e (f := F.ENC_EXPO_W_W) (by decide)]
  rfl

/-- A trigger's EXPO interval is scheduled, with ENC_EXPO_W as it stands (R107, log 53). -/
def scheduled (s : State) (num : Word) (e : Nat) : State :=
  let start := e + s.fld F.ENC_EXPO_DLY_DLY
  { s with lio := { s.lio with
      expos := s.lio.expos ++ [{ line := num, start := start, stop := start + s.fld F.ENC_EXPO_W_W }], lastExpoTrig := some e } }

/-- A scheduled trigger enters the pending list (R167). -/
def exposed (s : State) (num : Word) (pos : Pos) (e : Nat) : State :=
  { s.scheduled num e with ing := { s.ing with pend := s.ing.pend ++ [(s.scheduled num e).mkTrig num pos e false] } }

/-- A trigger too close to the last exposure is counted (R103). -/
def skipped (s : State) : State := (s.inc F.ENC_SKIP_CNT).raise F.ENC_STAT_SKIPPED

theorem numbered_frame (s : State) (num : Word) (e : Nat) : TriggerFrame s (s.numbered num e) := rfl

theorem exposed_frame (s : State) (num : Word) (pos : Pos) (e : Nat) : TriggerFrame s (s.exposed num pos e) := rfl

theorem skipped_reg (s : State) {a : Nat} (hs : a ≠ Reg.ENC_SKIP) (ht : a ≠ Reg.ENC_STAT) : s.skipped.reg a = s.reg a :=
  (State.reg_setReg_other _ _ _ _ ht).trans (State.reg_setReg_other _ _ _ _ hs)

theorem skipped_counts (s : State) (h : SMap.wf Reg.resetWord s.regs = true) :
    s.skipped.fld F.ENC_SKIP_CNT = (s.fld F.ENC_SKIP_CNT + 1) % 2 ^ F.ENC_SKIP_CNT.w ∧ s.skipped.bit F.ENC_STAT_SKIPPED = true := by
  have raised : s.skipped.fld F.ENC_STAT_SKIPPED = 1 :=
    State.fld_setFld _ F.ENC_STAT_SKIPPED _ (s.regsWf_setFld F.ENC_SKIP_CNT _ h) (by decide)
  refine ⟨(State.fld_setFld_other _ _ _ _ (by decide)).trans (s.fld_inc _ h (by decide)), ?_⟩
  unfold State.bit
  rw [raised]
  rfl

theorem skipped_frame (s : State) : TriggerFrame s s.skipped := rfl

theorem pendTrigger_room (h : s.ing.pend.length < 16) (tr : Trig) :
    s.pendTrigger tr = { s with ing := { s.ing with pend := s.ing.pend ++ [tr] } } := by
  unfold State.pendTrigger
  split
  next p ps hp => rw [if_neg (Nat.not_le.mpr h)]
  next => rfl

theorem exposeLine_tooClose {e : Nat} (h : s.tooClose e = true) (num : Word) (pos : Pos) (start : Nat) (extrap : Bool) :
    s.exposeLine num pos e e start extrap = (true, s.skipped.resolveLine num) := if_pos h

theorem exposeLine_spaced {e : Nat} (hmode : s.mode ≠ .lockstep) (h : s.tooClose e = false) (hroom : s.ing.pend.length < 16)
    (num : Word) (pos : Pos) : s.exposeLine num pos e e (s.expoAt e) false = (false, s.exposed num pos e) := by
  have start : s.expoAt e = e + s.fld F.ENC_EXPO_DLY_DLY := if_neg hmode
  have pended := pendTrigger_room (s := s.scheduled num e) hroom ((s.scheduled num e).mkTrig num pos e false)
  rw [start]
  exact (if_neg (Bool.eq_false_iff.mp h)).trans (congrArg (Prod.mk false) pended)

theorem setNotice_aside (s : State) (n : Nat) : Aside s (s.setNotice n) :=
  ⟨rfl, (WritesRegs.setFld { s with lio := { s.lio with notice := n } } F.STB_GSTAT_NOTICE_SHORT _ (by decide)).of_start rfl,
    rfl, rfl, rfl, rfl, rfl, rfl, rfl, rfl⟩

theorem clearEncFlags_aside (s : State) : Aside s s.clearEncFlags :=
  ⟨rfl, .of_regs_eq rfl, rfl, rfl, rfl, rfl, rfl, rfl, rfl, rfl⟩

theorem applyDiv_aside (s : State) : Aside s s.applyDiv := by
  unfold State.applyDiv
  split
  · exact .refl s
  · exact ⟨rfl, .of_regs_eq rfl, rfl, rfl, rfl, rfl, rfl, rfl, rfl, rfl⟩

theorem noteWindow_aside (hmode : s.mode ≠ .lockstep) (start : Nat) (expo : Bool) : Aside s (s.noteWindow start expo) := by
  unfold State.noteWindow
  dsimp only
  rw [if_neg hmode]
  split
  · exact ⟨rfl, .of_regs_eq rfl, rfl, rfl, rfl, rfl, rfl, rfl, rfl, rfl⟩
  · exact .refl s

theorem afterTrigger_aside (hmode : s.mode ≠ .lockstep) (num : Word) (pos : Pos) (e : Nat) (fopen flast noexpo : Bool) :
    Aside s (s.afterTrigger num pos e fopen flast noexpo) := by
  have posted := (s.eventAll_upkeep 0).aside
  have still : (s.eventAll 0).mode ≠ .lockstep := fun h => hmode (posted.frame.mode.symm.trans h)
  unfold State.afterTrigger
  dsimp only
  rw [if_neg still]
  exact ((posted.trans (setNotice_aside _ _)).trans (clearEncFlags_aside _)).trans (applyDiv_aside _)

theorem announce_aside (hmode : s.mode ≠ .lockstep) (start : Nat) (expo : Bool) (num : Word) (pos : Pos) (e : Nat)
    (fopen flast noexpo : Bool) : Aside s ((s.noteWindow start expo).afterTrigger num pos e fopen flast noexpo) := by
  have noted := noteWindow_aside hmode start expo
  exact noted.trans (afterTrigger_aside (fun h => hmode (noted.frame.mode.symm.trans h)) num pos e fopen flast noexpo)

section
variable (num : Word) (pos : Pos) (e : Nat)

/-- A number that is taken joins a frame (R185). -/
theorem joinTrigger_aside (hgate : s.lio.prs.gateOn = false) : Aside s (s.joinTrigger num) := by
  unfold State.joinTrigger State.gatedOut
  rw [hgate, if_neg (by simp)]
  split
  · exact s.frameJoin_upkeep.aside
  · exact ((s.frameOpen_upkeep _ num false).trans (frameJoin_upkeep _)).aside

/-- A trigger has its number and its place in a frame. -/
def trigJoined (s : State) (num : Word) (e : Nat) : State := ((s.atT e).numberTrigger num e).joinTrigger num

theorem numberTrigger_aside : Aside ((s.atT e).numbered num e) ((s.atT e).numberTrigger num e) :=
  (proofAbort_strobeUpkeep _ e).aside

variable (hgate : s.lio.prs.gateOn = false)
include hgate

theorem numberTrigger_gateOn : ((s.atT e).numberTrigger num e).lio.prs.gateOn = false := by
  rw [(numberTrigger_aside num e).prs]
  exact hgate

theorem trigJoined_aside : Aside ((s.atT e).numbered num e) (s.trigJoined num e) :=
  (numberTrigger_aside num e).trans (joinTrigger_aside num (numberTrigger_gateOn num e hgate))

theorem trigJoined_frame : TriggerFrame (s.atT e) (s.trigJoined num e) :=
  ((s.atT e).numbered_frame num e).trans (trigJoined_aside num e hgate).frame

theorem trigJoined_tooClose : (s.trigJoined num e).tooClose e = s.tooClose e :=
  ((trigJoined_aside num e hgate).tooClose e).trans ((s.atT e).numbered_tooClose num e e)

/-- With no gating, what the number's exposure leaves is announced. -/
theorem localTrigger_ungated (hnum : s.reg Reg.ENC_LINE_NUM + 1 = num) {skip : Bool} {r : State}
    (hr : (s.trigJoined num e).exposeLine num pos e e ((s.trigJoined num e).expoAt e) false = (skip, r)) :
    ∃ fopen flast, s.localTrigger pos e = (r.noteWindow (r.expoAt e) !skip).afterTrigger num pos e fopen flast skip := by
  have gateOn := numberTrigger_gateOn num e hgate
  have gate : ((s.atT e).numberTrigger num e).gateTrigger pos = (s.atT e).numberTrigger num e :=
    if_neg (Bool.eq_false_iff.mp gateOn)
  have out : ((s.atT e).numberTrigger num e).gatedOut = false := by
    unfold State.gatedOut
    rw [gateOn, Bool.false_and]
  unfold State.trigJoined at hr
  unfold State.localTrigger
  simp only [hnum, gate, out, Bool.false_eq_true, if_false, hr]
  exact ⟨_, _, rfl⟩

variable (hmode : s.mode ≠ .lockstep)
include hmode

theorem trigJoined_mode : (s.trigJoined num e).mode ≠ .lockstep :=
  fun h => hmode ((trigJoined_frame num e hgate).mode.symm.trans h)

variable (hnum : s.reg Reg.ENC_LINE_NUM + 1 = num)
include hnum

/-- A trigger too close to the last exposure is skipped (R103). -/
theorem localTrigger_tooClose (hclose : s.tooClose e = true) :
    Aside (s.trigJoined num e).skipped (s.localTrigger pos e) := by
  have running := trigJoined_mode num e hgate hmode
  have close := (trigJoined_tooClose num e hgate).trans hclose
  obtain ⟨fopen, flast, h⟩ := localTrigger_ungated num pos e hgate hnum (exposeLine_tooClose close num pos _ false)
  rw [h]
  generalize s.trigJoined num e = t at running ⊢
  have resolved := (t.skipped.resolveLine_upkeep num).aside
  have mode : (t.skipped.resolveLine num).mode = t.mode := resolved.frame.mode.trans t.skipped_frame.mode
  exact resolved.trans (announce_aside (mode ▸ running) _ _ _ _ _ _ _ _)

/-- Another trigger is exposed (R107, R167). -/
theorem localTrigger_spaced (hclose : s.tooClose e = false) (hroom : s.ing.pend.length < 16) :
    Aside ((s.trigJoined num e).exposed num pos e) (s.localTrigger pos e) := by
  have running := trigJoined_mode num e hgate hmode
  have spaced := (trigJoined_tooClose num e hgate).trans hclose
  have room := (trigJoined_aside num e hgate).pend_length.trans_lt hroom
  obtain ⟨fopen, flast, h⟩ := localTrigger_ungated num pos e hgate hnum (exposeLine_spaced running spaced room num pos)
  rw [h]
  generalize s.trigJoined num e = t at running ⊢
  exact announce_aside ((t.exposed_frame num pos e).mode ▸ running) _ _ _ _ _ _ _ _

end
end State

/-! ### The line timer and EXPO -/

/-- The line timer restarts one period after its expiry (R102). -/
def State.timerRestarted (s : State) (e : Nat) : State :=
  { s with lio := { s.lio with ltBase := e, ltNext := some (e + s.fld F.ENC_LTIMER_LTIMER) } }

theorem execLineTimerTrigger_expires {e : Nat} (hmode : s.mode = .freeRun) (hcap : s.capture = true) (hnext : s.lio.ltNext = some e) :
    execLineTimerTrigger s = .next ((s.timerRestarted e).localTrigger (s.trigPosBefore e) e) := by
  unfold execLineTimerTrigger
  rw [if_pos ⟨hmode, hcap⟩, hnext]
  rfl

theorem execLineTimerTrigger_idle (h : s.mode ≠ .freeRun ∨ s.capture = false ∨ s.lio.ltNext = none) :
    execLineTimerTrigger s = .next s := by
  unfold execLineTimerTrigger
  split
  next hrun =>
    obtain ⟨hmode, hcap⟩ := hrun
    have stopped : s.lio.ltNext = none := by simpa [hmode, hcap] using h
    rw [stopped]
  next => rfl

/-- A write of ENC_LTIMER, as one update (R102). -/
theorem State.writeLtimer_eq (s : State) (v : Word) (e : Nat) : s.writeLtimer v e =
    { s.setFld F.ENC_LTIMER_LTIMER (getBits v 0 24) with lio :=
        if s.mode = .freeRun then
          { s.lio with ltNext := if getBits v 0 24 = 0 then none else some (max (s.lio.ltBase + getBits v 0 24) (e + 1)) }
        else s.lio } := by
  unfold State.writeLtimer
  dsimp only
  rw [State.setFld_mode]
  split
  · rfl
  · rfl

theorem State.groupSettle_none (h : s.dyn.gPending = none) : s.groupSettle = s := by
  unfold State.groupSettle
  rw [h]

/-- A scheduled interval begins: EXPO asserts, or stays asserted until the later of the two ends (R107). -/
def State.expoBegun (s : State) (e : Expo) (rest : List Expo) : State :=
  { s.atT e.start with lio := { s.lio with
      expos := rest, expoOn := true, expoEnd := if s.lio.expoOn then max s.lio.expoEnd e.stop else e.stop } }

theorem execExpoStart_first {e : Expo} {rest : List Expo} (hon : s.domOn Dom.lineio = true)
    (hfirst : expoFirst s.lio.expos = some (e, rest)) :
    execExpoStart s = .next (((s.expoBegun e rest).proofAbort e.start).strobesExpo e.line e.start) := by
  unfold execExpoStart
  rw [if_pos hon, hfirst]
  rfl

/-- Settles O25: a timer trigger is the exposed or the skipped one between side effects, and EXPO_START commits every channel after
the proof gates are off. -/
theorem lineTimerAndExposure : Obligations.LineTimerAndExposure := by
  refine ⟨?timer, ?expo⟩
  case timer =>
    intro s e n v hmem per next num only
    have hwf := State.regsWf_of_memWf hmem
    have running (hmode : s.mode = .freeRun) : (s.timerRestarted e).mode ≠ .lockstep := fun h => by cases hmode.symm.trans h
    have taken : (((s.timerRestarted e).atT e).numbered num e).reg Reg.ENC_LINE_NUM = num := s.reg_setReg _ num hwf
    refine ⟨fun hmode hcap hnext hgate hroom hclose => ?exposes, fun hmode hcap hnext hgate hclose => ?skips,
      fun hidle => execLineTimerTrigger_idle hidle, fun hon => ?writes⟩
    case exposes =>
      have joined := State.trigJoined_aside (s := s.timerRestarted e) num e hgate
      have frame := State.trigJoined_frame (s := s.timerRestarted e) num e hgate
      have after := State.localTrigger_spaced (s := s.timerRestarted e) num (s.trigPosBefore e) e hgate (running hmode) rfl hclose hroom
      refine ⟨_, execLineTimerTrigger_expires hmode hcap hnext, ?_⟩
      generalize State.trigJoined (s.timerRestarted e) num e = j at joined frame after
      have dly : j.fld F.ENC_EXPO_DLY_DLY = s.fld F.ENC_EXPO_DLY_DLY :=
        (joined.fld rfl).trans (State.numbered_fld _ num e (by decide))
      have width : j.fld F.ENC_EXPO_W_W = s.fld F.ENC_EXPO_W_W := (joined.fld rfl).trans (State.numbered_fld _ num e (by decide))
      refine ⟨(frame.trans (j.exposed_frame num _ e)).trans after.frame, ((after.reg rfl).trans (joined.reg rfl)).trans taken,
        after.lastTrig.trans joined.lastTrig, after.prevTrig.trans joined.prevTrig, after.ltNext.trans joined.ltNext,
        after.pend.trans ?_, after.expos.trans ?_, after.store.trans joined.store⟩
      · exact List.map_append.trans (congrArg (· ++ [(num, s.trigPosBefore e, e)]) joined.pend)
      · rw [← dly, ← width]
        exact congrArg (· ++ [_]) joined.expos
    case skips =>
      have joined := State.trigJoined_aside (s := s.timerRestarted e) num e hgate
      have frame := State.trigJoined_frame (s := s.timerRestarted e) num e hgate
      have after := State.localTrigger_tooClose (s := s.timerRestarted e) num (s.trigPosBefore e) e hgate (running hmode) rfl hclose
      refine ⟨_, execLineTimerTrigger_expires hmode hcap hnext, ?_⟩
      generalize State.trigJoined (s.timerRestarted e) num e = j at joined frame after
      have count : j.fld F.ENC_SKIP_CNT = s.fld F.ENC_SKIP_CNT := (joined.fld rfl).trans (State.numbered_fld _ num e (by decide))
      obtain ⟨hcnt, hbit⟩ := j.skipped_counts (joined.regs.wf (s.regsWf_setReg _ num hwf))
      refine ⟨(frame.trans j.skipped_frame).trans after.frame, ?_, after.ltNext.trans joined.ltNext, after.expos.trans joined.expos,
        ((after.fld rfl).trans hcnt).trans (by rw [count]), (after.bit rfl).trans hbit⟩
      exact ((after.reg rfl).trans (j.skipped_reg (by decide) (by decide))).trans ((joined.reg rfl).trans taken)
    case writes =>
      have low : per % 2 ^ 24 = per := Nat.mod_mod _ _
      refine ⟨_, if_pos hon, ?_⟩
      rw [State.writeLtimer_eq]
      refine ⟨rfl, ?_, (State.WritesRegs.setFld (W := (· = _)) s F.ENC_LTIMER_LTIMER per rfl).but⟩
      exact (s.fld_setFld F.ENC_LTIMER_LTIMER per hwf (by decide)).trans low
  case expo =>
    intro s e rest hmem
    refine ⟨fun hon hfirst => ?asserts, fun hexpo hnone => ?deasserts, fun hexpo => if_neg (Bool.eq_false_iff.mp hexpo)⟩
    case asserts =>
      have aborted := (s.expoBegun e rest).proofAbort_strobeUpkeep e.start
      have whole := aborted.trans (State.strobesExpo_strobeUpkeep _ e.line e.start)
      refine ⟨_, execExpoStart_first hon hfirst, ?_, ?_, ?_, fun n => ?_, ?_⟩
      · rw [whole.lio]; rfl
      · rw [whole.lio]; rfl
      · rw [whole.lio]; rfl
      · exact aborted.committed (State.strobesExpo_committed _ e.line e.start n)
      · have frame := whole.frame
        rwa [← whole.lio] at frame
    case deasserts =>
      exact (if_pos hexpo).trans (congrArg _ (State.groupSettle_none hnone))

end Sys2Proof.Machine
end

section
/-! SUPPORT. Mode requests (R37, R39, R45 to R48, R51, R71): what MODE_REQ and PWR_MODE_REQ store, the verdict on a request made at
rest at S0, and what the answer changes, whoever asks. -/

namespace Sys2Proof.Machine
open Sys2Proof.Spec

variable {s : State} {m : Mode} {who : Requester} {target : Nat} {role now : Bool}

/-! ### The two registers -/

theorem execModeReq_session (v : Byte) (hmode : s.mode ≠ .unpowered) (hs : s.cp.sess.active = true) :
    exec (.modeReq v) s = .next (if bitOf v.toNat 7
      then (s.storeModeReq v).modeRequest .host (v.toNat % 8) (bitOf v.toNat 3) (bitOf v.toNat 4) else s.storeModeReq v) := by
  simp [exec, execModeReq, State.writeModeReq, hmode, hs]

theorem execModeReq_noSession (v : Byte) (hmode : s.mode ≠ .unpowered) (hs : s.cp.sess.active = false) :
    exec (.modeReq v) s = .next (s.cpError 2) := by
  simp [exec, execModeReq, State.writeModeReq, State.noSession, hmode, hs]

theorem execModeReq_caused (v : Byte) (hmode : s.mode ≠ .unpowered) (hgo : bitOf v.toNat 7 = true) :
    exec (.modeReq v true) s = .next ((s.storeModeReq v).report .host 5 0) := by
  simp [exec, execModeReq, hmode, hgo]

theorem execPwrModeReq_byte (v : Byte) (hup : s.plateUp = true) :
    exec (.pwrModeReq (v.zeroExtend 32)) s = .next (if bitOf v.toNat 7
      then (s.storePwrModeReq (v.zeroExtend 32)).modeRequest .joist (v.toNat % 8) (bitOf v.toNat 3) (bitOf v.toNat 4)
      else s.storePwrModeReq (v.zeroExtend 32)) := by
  have low : getBits (v.zeroExtend 32) 0 3 = v.toNat % 8 := by simp [getBits]
  simp only [exec, execPwrModeReq, State.writePwrModeReq, hup, low, toNat_zeroExtend_word, Bool.not_true, Bool.false_and,
    Bool.false_eq_true, if_false]

theorem execPwrModeReq_caused (v : Byte) (hup : s.plateUp = true) (hgo : bitOf v.toNat 7 = true) :
    exec (.pwrModeReq (v.zeroExtend 32) true) s = .next ((s.storePwrModeReq (v.zeroExtend 32)).report .joist 5 0) := by
  simp only [exec, execPwrModeReq, hup, hgo, toNat_zeroExtend_word, Bool.not_true, Bool.true_and, Bool.false_eq_true, if_false,
    if_true]

/-- PWR_MODE_REQ holds no other register's field. -/
theorem State.fld_storePwrModeReq (s : State) (v : Word) {f : Fld} (hf : f.addr ≠ pwrModeReqAddr) :
    (s.storePwrModeReq v).fld f = s.fld f :=
  congrArg (fun w => getBits w f.lo f.w) (s.reg_setReg_other pwrModeReqAddr f.addr _ hf)

/-! ### The verdict -/

/-- A request made at rest at S0 is judged at once. -/
theorem State.modeRequest_settled (h : settled s) : s.modeRequest who target role now = s.modeJudge who target role now := by
  obtain ⟨htr, hl, hp⟩ := h
  simp [State.modeRequest, State.modeAsk, State.ladderBusy, htr, hl, hp]

/-- A request for the mode held is done, SUPERVISE apart. -/
theorem State.modeJudge_held (hm : Mode.ofCode target = s.mode) (hlock : s.mode ≠ .lockstep) (hsup : s.mode ≠ .supervise) :
    s.modeJudge who target role now = s.report who 2 0 := by
  simp [State.modeJudge, State.modeVerdict, hm, hlock, hsup]

/-- Another mode, or LOCKSTEP in the other role, needs a row of Table 2-2. -/
theorem State.modeJudge_notPermitted (hother : Mode.ofCode target ≠ s.mode ∨ (Mode.ofCode target = .lockstep ∧ role ≠ s.role))
    (hperm : modePermits s.mode (Mode.ofCode target) = false) : s.modeJudge who target role now = s.report who 3 0 := by
  have verdict : s.modeVerdict (Mode.ofCode target) (role && Mode.ofCode target == .lockstep) = some (3, 0) := by
    unfold State.modeVerdict
    rcases hother with h | ⟨h, hrole⟩
    · rw [if_neg fun k => h k.1, hperm]
      rfl
    · rw [h] at hperm ⊢
      rw [if_neg fun k => k.2.elim (fun e => e rfl) fun e => hrole (by simpa using e), hperm]
      rfl
  simp [State.modeJudge, verdict]

/-- A capture mode from SETUP with its preconditions met, and SETUP from a capture mode. -/
def State.modeStarts (s : State) (m : Mode) (role : Bool) : Prop :=
  (s.mode = .setup ∧ m.isCapture = true ∧ s.capturePre m role = none) ∨ (s.mode.isCapture = true ∧ m = .setup)

theorem State.modeVerdict_starts (h : s.modeStarts m role) (hp : s.phase = .stable) : s.modeVerdict m role = none := by
  have rest : ({ s with phase := .stable } : State) = s := by rw [← hp]
  unfold State.modeVerdict
  rcases h with ⟨hmode, hcap, hpre⟩ | ⟨hcap, rfl⟩
  · rw [rest, hpre, hmode]
    cases m <;> simp_all [Mode.isCapture, modePermits]
  · cases hmode : s.mode <;> simp_all [Mode.isCapture, modePermits]

/-- The MODE record of a request that is accepted (Table 23-7). -/
def State.requestRecord (s : State) (m : Mode) (who : Requester) (role now : Bool) : List Byte :=
  [BitVec.ofNat 8 s.mode.code.toNat, BitVec.ofNat 8 m.code.toNat, BitVec.ofNat 8 (requesterCode who), BitVec.ofNat 8 (b2n role),
    BitVec.ofNat 8 (b2n now)]

theorem State.modeRecord_eq (s : State) (m : Mode) (who : Requester) (role now : Bool) :
    s.modeRecord m who role now = { s with log := (s.pushLog 0x07 (s.requestRecord m who role now)).log } := s.pushLog_eq _ _

/-- What queues a record depends on the log and the AON time alone. -/
theorem State.pushLog_log_congr {t : State} (hlog : t.log = s.log) (hms : t.aonMs = s.aonMs) (typ : Nat) (p : List Byte) :
    (t.pushLog typ p).log = (s.pushLog typ p).log := by
  unfold State.pushLog
  rw [hlog, hms]
  split <;> rfl

/-- A mode result changes the control port, or Joist's result register. -/
theorem State.report_writes (s : State) (who : Requester) (res det : Nat) :
    ∃ c j, s.report who res det = { s with cp := c, joistResult := j } := by
  cases who
  case host => unfold State.report; dsimp only; split <;> exact ⟨_, _, rfl⟩
  all_goals exact ⟨_, _, rfl⟩

/-- A request of a run mode is reported, logged, and in progress from then on. -/
theorem State.modeAccept_run (h : m = .setup ∨ m.isCapture = true) : s.modeAccept who m role now =
    { s.report who 1 0 with
      log := (s.pushLog 0x07 (s.requestRecord m who role now)).log
      transit := some { target := m, role := role, now := now, by_ := who, frame := s.openFrame } } := by
  have waits : s.modeAccept who m role now = { (s.report who 1 0).modeRecord m who role now with
      transit := some { target := m, role := role, now := now, by_ := who
                        frame := ((s.report who 1 0).modeRecord m who role now).openFrame } } := by
    rcases h with rfl | hcap
    · rfl
    · cases m <;> simp [Mode.isCapture] at hcap <;> rfl
  obtain ⟨c, j, hrep⟩ := s.report_writes who 1 0
  rw [waits, State.modeRecord_eq, hrep, State.pushLog_log_congr (s := s) (t := { s with cp := c, joistResult := j }) rfl rfl]
  rfl

/-- An accepted request of a run mode waits for its edge, with its MODE record queued. -/
theorem State.modeJudge_starts (hm : Mode.ofCode target = m) (h : s.modeStarts m (role && m == .lockstep)) (hp : s.phase = .stable) :
    s.modeJudge who target role now = { s.report who 1 0 with
      log := (s.pushLog 0x07 (s.requestRecord m who (role && m == .lockstep) now)).log
      transit := some { target := m, role := role && m == .lockstep, now := now, by_ := who, frame := s.openFrame } } := by
  have verdict := State.modeVerdict_starts h hp
  have stays : s.ladderSupersede = s := by simp [State.ladderSupersede, hp]
  have run : m = .setup ∨ m.isCapture = true := h.elim (fun k => .inr k.2.1) fun k => .inl k.2
  unfold State.modeJudge
  rw [hm]
  simp only [verdict, stays]
  exact State.modeAccept_run run

/-! ### Requests made at rest -/

/-- A code of Table 2-1 names its mode. -/
theorem Mode.ofCode_of_code (h : target = m.code.toNat) : Mode.ofCode target = m := by
  subst h
  cases m <;> rfl

/-- What a write of PWR_MODE_REQ stores meets no precondition of Table 2-3. -/
theorem State.capturePre_storePwrModeReq (s : State) (v : Word) (m : Mode) (role : Bool) :
    (s.storePwrModeReq v).capturePre m role = s.capturePre m role := by
  have sel := s.fld_storePwrModeReq v (f := F.ENC_TRIG_CFG_SEL) (by decide)
  have per := s.fld_storePwrModeReq v (f := F.ENC_LTIMER_LTIMER) (by decide)
  have fixed (j : Nat) (hj : j < 40) : (s.storePwrModeReq v).ballFixed j = s.ballFixed j := by
    have func := s.fld_storePwrModeReq v (f := F.JIG_PINj_FUNC j)
      (by simp only [F.JIG_PINj_FUNC, Reg.JIG_PINj, pwrModeReqAddr]; omega)
    unfold State.ballFixed State.bit
    rw [func]
    rfl
  unfold State.capturePre State.encBalls
  rw [sel, per, fixed 27 (by decide), fixed 28 (by decide), fixed 29 (by decide)]
  rfl

theorem State.modeStarts_storePwrModeReq (v : Word) (h : s.modeStarts m role) : (s.storePwrModeReq v).modeStarts m role := by
  unfold State.modeStarts
  rw [State.capturePre_storePwrModeReq]
  exact h

/-- Settles O9: host and Joist store their fields, which no precondition reads, and the same judgement accepts. -/
theorem captureRequestIsAccepted : Obligations.CaptureRequestIsAccepted := by
  intro s m v hset hcode hgo role tr rec_ h
  have hm := Mode.ofCode_of_code hcode
  obtain ⟨-, -, hp⟩ := id hset
  have powered : s.mode ≠ .unpowered := by
    intro hmode
    rcases h with ⟨k, -⟩ | ⟨k, -⟩ <;> simp [hmode, Mode.isCapture] at k
  refine ⟨fun hs => ?host, fun hup => ?joist⟩
  case host =>
    have stored : BitVec.ofNat 3 v.toNat = m.code := by
      apply BitVec.eq_of_toNat_eq
      rw [BitVec.toNat_ofNat, ← hcode]
    rw [execModeReq_session v powered hs, if_pos hgo, State.modeRequest_settled (s := s.storeModeReq v) hset,
      State.modeJudge_starts (s := s.storeModeReq v) hm h hp, State.pushLog_log_congr (t := s.storeModeReq v) (s := s) rfl rfl]
    unfold State.storeModeReq
    rw [stored]
    rfl
  case joist =>
    have starts := State.modeStarts_storePwrModeReq (v.zeroExtend 32) h
    rw [execPwrModeReq_byte v hup, if_pos hgo, State.modeRequest_settled (s := s.storePwrModeReq _) hset,
      State.modeJudge_starts (s := s.storePwrModeReq _) hm starts hp,
      State.pushLog_log_congr (t := s.storePwrModeReq _) (s := s) rfl rfl]
    rfl

/-- Settles O10: LOCKSTEP in the other role is no row of Table 2-2. -/
theorem lockstepRoleChangeIsRefused : Obligations.LockstepRoleChangeIsRefused := by
  intro s v hmode hset hcode hgo hrole
  have hm : Mode.ofCode (v.toNat % 8) = .lockstep := Mode.ofCode_of_code hcode
  have perm : modePermits s.mode (Mode.ofCode (v.toNat % 8)) = false := by rw [hm, hmode]; rfl
  refine ⟨fun hs => ⟨_, execModeReq_session v (by simp [hmode]) hs, ?host⟩, fun hup => ⟨_, execPwrModeReq_byte v hup, ?joist⟩⟩
  case host =>
    rw [if_pos hgo, State.modeRequest_settled (s := s.storeModeReq v) hset,
      State.modeJudge_notPermitted (s := s.storeModeReq v) (.inr ⟨hm, hrole⟩) perm]
    exact ⟨rfl, rfl, rfl⟩
  case joist =>
    rw [if_pos hgo, State.modeRequest_settled (s := s.storePwrModeReq _) hset,
      State.modeJudge_notPermitted (s := s.storePwrModeReq _) (.inr ⟨hm, hrole⟩) perm]
    rfl

/-! ### Requests during a transition -/

section
variable {tr : Transit} (htr : s.transit = some tr)
include htr

theorem State.modeRequest_busy (hf : Mode.ofCode target ≠ .fallback) (hs : Mode.ofCode target ≠ .supervise)
    (h : Mode.ofCode target ≠ .setup ∨ tr.target ≠ .setup ∨ now = false ∨ tr.now = true) :
    s.modeRequest who target role now = s.report who 5 0 := by
  have adds : ¬(Mode.ofCode target = .setup ∧ tr.target = .setup ∧ now = true ∧ (!tr.now) = true) := by
    rintro ⟨h1, h2, h3, h4⟩
    simp [h1, h2, h3] at h
    simp [h] at h4
  simp only [State.modeRequest, htr, if_neg adds, if_neg (not_or.mpr ⟨hf, hs⟩)]

/-- A second request for SETUP adds NOW. -/
theorem State.modeRequest_addsNow (hm : Mode.ofCode target = .setup) (htgt : tr.target = .setup) (hnow : tr.now = false) :
    s.modeRequest who target role true = State.modeRecord (State.report { s with
      transit := some { tr with now := true, also := if who = tr.by_ then tr.also else some who } } who 1 0) .setup who false true := by
  simp [State.modeRequest, htr, hm, htgt, hnow]

end

/-- Settles O11: each clause is one branch of a request, with what the write has stored. -/
theorem modeRequestsDuringATransition : Obligations.ModeRequestsDuringATransition := by
  intro s v tr hmode st m answer
  have answered {res : Nat} (hs : s.cp.sess.active = true) (hgo : bitOf v.toNat 7 = true) (hfinal : 2 ≤ res)
      (h : (s.storeModeReq v).modeRequest .host (v.toNat % 8) (bitOf v.toNat 3) (bitOf v.toNat 4) =
        (s.storeModeReq v).report .host res 0) : answer (BitVec.ofNat 4 res) := by
    have reported : (s.storeModeReq v).report .host res 0 = { s with
        cp := { st with modeResult := { result := BitVec.ofNat 4 res }, irqStatus := s.cp.irqStatus ||| 2 } } := if_pos hfinal
    show exec (.modeReq v) s = _
    rw [execModeReq_session v hmode hs, if_pos hgo, h, reported]
  refine ⟨execModeReq_noSession v hmode, fun hs hgo => ?stored, execModeReq_caused v hmode, fun hs hgo htr => ⟨?other, ?again, ?adds⟩,
    fun hs hgo hset hother hperm => ?notPermitted, fun hs hgo hset hheld hlock hsup => ?held, fun hup hgo => ?joistStored,
    fun hup hgo => execPwrModeReq_caused v hup hgo⟩
  case stored =>
    rw [execModeReq_session v hmode hs, if_neg (Bool.eq_false_iff.mp hgo)]
    rfl
  case other =>
    intro hf hsup hset
    exact answered hs hgo (by decide) (State.modeRequest_busy (s := s.storeModeReq v) htr hf hsup (.inl hset))
  case again =>
    intro hm h
    refine answered hs hgo (by decide) (State.modeRequest_busy (s := s.storeModeReq v) htr ?_ ?_ (.inr h))
    all_goals exact fun k => by cases k.symm.trans hm
  case adds =>
    intro hm htgt hnow htrnow
    refine ⟨_, execModeReq_session v hmode hs, ?_⟩
    rw [if_pos hgo, hnow, State.modeRequest_addsNow (s := s.storeModeReq v) htr hm htgt htrnow, State.modeRecord_eq]
    exact ⟨rfl, congrArg (fun x => some (x, true, tr.by_)) htgt⟩
  case notPermitted =>
    refine answered hs hgo (by decide) ?_
    rw [State.modeRequest_settled (s := s.storeModeReq v) hset]
    exact State.modeJudge_notPermitted (s := s.storeModeReq v) (.inl hother) hperm
  case held =>
    refine answered hs hgo (by decide) ?_
    rw [State.modeRequest_settled (s := s.storeModeReq v) hset]
    exact State.modeJudge_held (s := s.storeModeReq v) hheld (fun k => hlock (hheld.trans k)) (fun k => hsup (hheld.trans k))
  case joistStored =>
    rw [execPwrModeReq_byte v hup, if_neg (Bool.eq_false_iff.mp hgo)]
    rfl

end Sys2Proof.Machine
end

section
/-! SUPPORT. Strobe gates that turn off at once (R145, R148, R157), and the results of a transition (R45, R51). -/

namespace Sys2Proof.Machine
open Sys2Proof.Spec

variable {s t u : State}

namespace State

/-! ### Gates that the end of capture or the interlock turns off -/

theorem markStrobeSkip_strobeUpkeep (s : State) (line : Word) : StrobeUpkeep s (s.markStrobeSkip line) := by
  refine ⟨rfl, ?_, rfl, .of_regs_eq rfl⟩
  unfold State.markStrobeSkip
  rw [List.map_map]
  refine List.map_congr_left fun p _ => ?_
  dsimp only [Function.comp_apply]
  split <;> rfl

theorem gateOff_strobeUpkeep {why : GateOff} (h : why = .cut ∨ why = .interlock) (s : State) (n : Fin 8) (e : Nat) :
    StrobeUpkeep s (s.gateOff n e why) := by
  unfold State.gateOff
  dsimp only
  split
  · exact .refl s
  next p _ =>
    have off (c : Strobe) : StrobeUpkeep s ((s.setStb n c).lampCheck n) :=
      (s.setStb_strobeUpkeep n c).trans (lampCheck_strobeUpkeep _ n)
    rcases h with rfl | rfl
    · dsimp only
      split
      · exact (off _).trans (stbUnverified_strobeUpkeep _ n)
      · exact off _
    · dsimp only
      split
      · exact (off _).trans (markStrobeSkip_strobeUpkeep _ _)
      · exact off _

theorem stbUnverified_lio (s : State) (n : Fin 8) : (s.stbUnverified n).lio = s.lio := by
  unfold State.stbUnverified
  dsimp only
  split <;> rfl

theorem warn_lio (s : State) (source : Nat) (rest : List Byte) : (s.warn source rest).lio = s.lio := by
  obtain ⟨l, h⟩ := s.pushLog_writes 0x05 (BitVec.ofNat 8 source :: rest)
  unfold State.warn
  rw [h]
  rfl

theorem lampCheck_lio (s : State) (n : Fin 8) : (s.lampCheck n).lio = s.lio := by
  unfold State.lampCheck
  dsimp only
  split
  · exact warn_lio _ 4 _
  · rfl

/-- A gate that is cut is off, and no other channel changes. -/
theorem gateOff_cut_stb (s : State) (n : Fin 8) (e : Nat) :
    ∃ c : Strobe, c.gate = none ∧ (s.gateOff n e .cut).lio.stb = s.lio.stb.set n c := by
  unfold State.gateOff
  dsimp only
  split
  next h => exact ⟨s.lio.stb[n], h, by simp⟩
  next p _ =>
    have off (c : Strobe) : ((s.setStb n c).lampCheck n).lio = (s.setStb n c).lio := lampCheck_lio _ n
    refine ⟨{ s.lio.stb[n].addOn (e - p.cnt) with gate := none, stuckDue := some e, dac := s.lio.stb[n].restDac }, rfl, ?_⟩
    split
    · rw [stbUnverified_lio, off]
      rfl
    · rw [off]
      rfl

/-- A channel has no gate on and no pulse due. -/
def stbQuiet (s : State) (n : Fin 8) : Prop := s.lio.stb[n].gate = none ∧ s.lio.stb[n].due = []

theorem strobeOff_stb (s : State) (e : Nat) (n : Fin 8) :
    ∃ c : Strobe, (c.gate = none ∧ c.due = []) ∧ (s.strobeOff e n).lio.stb = s.lio.stb.set n c := by
  obtain ⟨c, hoff, hstb⟩ := s.gateOff_cut_stb n e
  refine ⟨{ c with due := [], proofAt := none, dac := c.iset }, ⟨hoff, rfl⟩, ?_⟩
  unfold State.strobeOff State.setStb
  simp [hstb]

theorem strobeOff_strobeUpkeep (s : State) (e : Nat) (n : Fin 8) : StrobeUpkeep s (s.strobeOff e n) :=
  (gateOff_strobeUpkeep (.inl rfl) s n e).trans (setStb_strobeUpkeep _ n _)

theorem strobesQuit_strobeUpkeep (s : State) (e : Nat) : StrobeUpkeep s (s.strobesQuit e) :=
  StrobeUpkeep.foldl (fun s n => s.strobeOff_strobeUpkeep e n) _ s

theorem strobeOff_foldl_quiet (e : Nat) (l : List (Fin 8)) (s : State) (n : Fin 8) (h : n ∈ l ∨ s.stbQuiet n) :
    (l.foldl (fun s n => s.strobeOff e n) s).stbQuiet n := by
  induction l generalizing s with
  | nil => exact h.resolve_left List.not_mem_nil
  | cons k l ih =>
    obtain ⟨c, hc, hstb⟩ := s.strobeOff_stb e k
    refine ih (s.strobeOff e k) ?_
    unfold State.stbQuiet at h ⊢
    by_cases hnk : n = k
    · subst hnk
      exact .inr (by simpa [hstb] using hc)
    · have apart : k.val ≠ n.val := fun e => hnk (Fin.ext e.symm)
      exact h.imp (fun h => (List.mem_cons.mp h).resolve_left hnk) fun h => by simpa [hstb, apart] using h

/-- Outside capture every channel is quiet. -/
theorem strobesQuit_quiet (s : State) (e : Nat) (n : Fin 8) : (s.strobesQuit e).stbQuiet n :=
  strobeOff_foldl_quiet e (List.finRange 8) s n (.inl (List.mem_finRange n))

/-- Between two states strobe channels change, whatever registers are written with them. -/
def StrobeFrame (s t : State) : Prop :=
  t = { s with regs := t.regs, log := t.log, ing := t.ing, sup := t.sup, lio := { s.lio with stb := t.lio.stb } }

theorem StrobeFrame.withRegs (h : StrobeFrame s t) (r : List (Nat × Word)) : StrobeFrame s { t with regs := r } := by
  unfold StrobeFrame at h ⊢
  exact congrArg (fun x : State => { x with regs := r }) h

theorem StrobeFrame.lio (h : StrobeFrame s t) : t.lio = { s.lio with stb := t.lio.stb } := (congrArg State.lio h).trans rfl

theorem StrobeFrame.blocks (h : StrobeFrame s t) :
    t = { s with regs := t.regs, log := t.log, ing := t.ing, sup := t.sup, lio := t.lio } := by
  have lio := h.lio
  unfold StrobeFrame at h
  rwa [← lio] at h

/-- What the interlock cuts when it comes into sight. -/
theorem ilkSettle_frame (s : State) (before : Bool) : StrobeFrame s (s.ilkSettle before) := by
  unfold State.ilkSettle State.ilkCut
  split
  · have cut := (StrobeUpkeep.foldl (fun x n => gateOff_strobeUpkeep (.inr rfl) x n s.now) (List.finRange 8) s).frame
    dsimp only
    split
    · exact StrobeFrame.withRegs (StrobeFrame.withRegs cut _) _
    · exact cut
  · exact rfl

/-! ### Results -/

/-- A result leaves MODE_CHG as it is. -/
theorem report_modeChg (s : State) (who : Requester) (res det : Nat) :
    (s.report who res det).cp.irqStatus.getLsbD 0 = s.cp.irqStatus.getLsbD 0 := by
  cases who
  case host => unfold State.report; dsimp only; split <;> simp [State.irq]
  all_goals rfl

/-- A result for another requester is no result of the host, or is the same. -/
theorem report_modeResult (s : State) (who : Requester) (h : s.cp.modeResult = { result := 2 }) :
    (s.report who 2 0).cp.modeResult = { result := 2 } := by
  cases who
  case host => rfl
  all_goals exact h

theorem report_joistResult (s : State) (who : Requester) (h : s.joistResult = { result := 2 }) :
    (s.report who 2 0).joistResult = { result := 2 } := by
  cases who
  case joist => rfl
  all_goals exact h

variable (tr : Transit)

theorem reportAll_writes (s : State) (res : Nat) : ∃ c j, s.reportAll tr res = { s with cp := c, joistResult := j } := by
  obtain ⟨c, j, h⟩ := s.report_writes tr.by_ res 0
  unfold State.reportAll
  dsimp only
  rw [h]
  split
  next who _ => exact State.report_writes { s with cp := c, joistResult := j } who res 0
  next => exact ⟨c, j, rfl⟩

theorem reportAll_modeChg (s : State) (res : Nat) : (s.reportAll tr res).cp.irqStatus.getLsbD 0 = s.cp.irqStatus.getLsbD 0 := by
  unfold State.reportAll
  dsimp only
  split
  · rw [report_modeChg, report_modeChg]
  · rw [report_modeChg]

theorem reportAll_host (s : State) (h : tr.by_ = .host) : (s.reportAll tr 2).cp.modeResult = { result := 2 } := by
  unfold State.reportAll
  rw [h]
  dsimp only
  split
  · exact report_modeResult _ _ rfl
  · rfl

theorem reportAll_joist (s : State) (h : tr.by_ = .joist) : (s.reportAll tr 2).joistResult = { result := 2 } := by
  unfold State.reportAll
  rw [h]
  dsimp only
  split
  · exact report_joistResult _ _ rfl
  · rfl

end State
end Sys2Proof.Machine
end

section
/-! SUPPORT. Capture entry and exit (R35 to R40, R100, R102, R106, R135, R145): what the head holds from the edge on. -/

namespace Sys2Proof.Machine
open Sys2Proof.Spec

variable {s t u : State}

namespace State

/-- A pending divider pair is in force (R106). -/
theorem applyDiv_writes (s : State) : ∃ n m a,
    s.applyDiv = { s with lio := { s.lio with divN := n, divM := m, divPend := none, acc := a } } := by
  unfold State.applyDiv
  split
  next h => exact ⟨s.lio.divN, s.lio.divM, s.lio.acc, by rw [← h]⟩
  next n m _ => exact ⟨n, m, _, rfl⟩

/-- A change of mode sets MODE_CHG. -/
theorem setMode_changes {m : Mode} (h : s.mode ≠ m) (role : Bool) : s.setMode m role = { s with
    mode := m, role := role && m == .lockstep, cp := { s.cp with irqStatus := s.cp.irqStatus ||| 1 } } := by
  simp only [State.setMode, if_neg h]
  rfl

theorem raiseIf_writesRegs (s : State) (b : Bool) (f : Fld) : WritesRegs (fun a => a = f.addr) s (s.raiseIf b f) := by
  cases b
  · exact .refl s
  · exact .setFld s f _ rfl

/-! ### The stages of an entry -/

/-- The mode is taken, and a pending divider pair with it. -/
def captureTaken (s : State) (m : Mode) (role : Bool) (e : Nat) : State :=
  State.applyDiv { (s.atT e).setMode m role with capture := true, transit := none }

/-- TRACK and a LOCKSTEP master load the divider's state (R100). -/
def captureLoaded (s : State) (m : Mode) (role : Bool) : State :=
  let ph := s.fld F.ENC_DIV_PHASE_PHASE
  if m == .track || (m == .lockstep && !role) then
    State.raiseIf { s with lio := { s.lio with hwm := s.trigPos, acc := if ph < s.lio.divN then ph else 0 } }
      (decide (s.lio.divN ≤ ph)) F.ENC_ERR_PHASE
  else s

/-- The line timer and the Dynak stream count from here (R102). -/
def captureTimed (s : State) (m : Mode) (role : Bool) (e : Nat) : State :=
  let per := s.fld F.ENC_LTIMER_LTIMER
  { s with
    lio := { s.lio with ltBase := e, ltNext := if m = Mode.freeRun ∧ per ≠ 0 then some (e + per) else none }
    dyn := { s.dyn with prevTarget := none, lastTarget := none, awaiting := [], lastNum := none, posFor := none, freewheel := false
                        stopped := false, fwLines := 0, lost := s.dyn.lost && role } }

theorem captureTaken_writes {m : Mode} (h : s.mode ≠ m) (role : Bool) (e : Nat) : ∃ n d a, s.captureTaken m role e = { s with
    cp := { s.cp with irqStatus := s.cp.irqStatus ||| 1 }, capture := true, transit := none, now := max s.now e, mode := m
    role := role && m == .lockstep, lio := { s.lio with divN := n, divM := d, divPend := none, acc := a } } := by
  unfold State.captureTaken
  rw [setMode_changes (s := s.atT e) h]
  exact applyDiv_writes _

theorem captureLoaded_writes (s : State) (m : Mode) (role : Bool) : ∃ h a r,
    s.captureLoaded m role = { s with regs := r, lio := { s.lio with hwm := h, acc := a } } ∧
    WritesRegs (fun a => a = F.ENC_ERR_PHASE.addr) s (s.captureLoaded m role) ∧
    (m = .track ∨ (m = .lockstep ∧ role = false) → h = s.trigPos ∧
      a = if s.fld F.ENC_DIV_PHASE_PHASE < s.lio.divN then s.fld F.ENC_DIV_PHASE_PHASE else 0) := by
  unfold State.captureLoaded
  dsimp only
  split
  next => exact ⟨_, _, _, State.raiseIf_eq _ _ _, (raiseIf_writesRegs _ _ _).of_start rfl, fun _ => ⟨rfl, rfl⟩⟩
  next h =>
    refine ⟨s.lio.hwm, s.lio.acc, s.regs, rfl, .refl s, fun k => absurd ?_ h⟩
    rcases k with rfl | ⟨rfl, rfl⟩ <;> rfl

/-- The presence gate is set up (R135). -/
theorem gateEntry_writes (s : State) : ∃ r p, s.gateEntry = { s with regs := r, lio := { s.lio with prs := p } } ∧
    WritesRegs (fun a => a = F.PRS_STAT_GATE_IGN.addr) s s.gateEntry :=
  ⟨_, _, rfl, (WritesRegs.setFld (W := (· = F.PRS_STAT_GATE_IGN.addr)) s F.PRS_STAT_GATE_IGN _ rfl).trans (.of_regs_eq rfl)⟩

/-- The head at edge e of an entry to m, before the interlock is looked at. -/
def captureSet (s : State) (m : Mode) (role : Bool) (e : Nat) : State :=
  (((s.captureTaken m role e).captureLoaded m role).captureTimed m role e).gateEntry.clearEncFlags

theorem captureStart_eq (s : State) (m : Mode) (role : Bool) (e : Nat) :
    s.captureStart m role e = (s.captureSet m role e).ilkSettle s.ilk := rfl

/-- The head holds the capture mode m from edge e on. -/
structure CaptureHeld (m : Mode) (role : Bool) (e : Nat) (s u : State) : Prop where
  frame : u = { s with
    cp := { s.cp with irqStatus := s.cp.irqStatus ||| 1 }, capture := true, transit := none, now := max s.now e, mode := m
    role := role && m == .lockstep, regs := u.regs, dyn := u.dyn, lio := u.lio }
  regs : WritesRegs (fun a => a = F.PRS_STAT_GATE_IGN.addr ∨ a = F.ENC_ERR_PHASE.addr) s u
  ilkLow : u.lio.ilkLow = s.lio.ilkLow
  divPend : u.lio.divPend = none
  track : m = .track ∨ (m = .lockstep ∧ role = false) → u.lio.hwm = s.trigPos ∧
    u.lio.acc = if s.fld F.ENC_DIV_PHASE_PHASE < u.lio.divN then s.fld F.ENC_DIV_PHASE_PHASE else 0
  ltNext : u.lio.ltNext = if m = .freeRun ∧ s.fld F.ENC_LTIMER_LTIMER ≠ 0 then some (e + s.fld F.ENC_LTIMER_LTIMER) else none

theorem captureSet_held {m : Mode} (hmode : s.mode ≠ m) (role : Bool) (e : Nat) :
    CaptureHeld m role e s (s.captureSet m role e) := by
  obtain ⟨n, d, a, htaken⟩ := captureTaken_writes hmode role e
  obtain ⟨h, a', r, hloaded, herr, htrack⟩ := (s.captureTaken m role e).captureLoaded_writes m role
  obtain ⟨r', p, hgate, hign⟩ := (((s.captureTaken m role e).captureLoaded m role).captureTimed m role e).gateEntry_writes
  have loaded : WritesRegs (fun a => a = F.ENC_ERR_PHASE.addr) s ((s.captureTaken m role e).captureLoaded m role) :=
    herr.of_start (by rw [htaken])
  have per := loaded.fld (f := F.ENC_LTIMER_LTIMER) (by decide)
  have regs : WritesRegs (fun a => a = F.PRS_STAT_GATE_IGN.addr ∨ a = F.ENC_ERR_PHASE.addr) s (s.captureSet m role e) :=
    ((loaded.mono fun _ => .inr).trans ((hign.mono fun _ h => .inl h).of_start rfl)).trans (.of_regs_eq rfl)
  rw [htaken] at hloaded htrack
  have timed := congrArg (fun x : State => x.captureTimed m role e) ((congrArg (fun x : State => x.captureLoaded m role) htaken).trans hloaded)
  unfold State.captureSet at regs ⊢
  rw [hgate, timed] at regs ⊢
  refine ⟨rfl, regs, rfl, rfl, htrack, ?_⟩
  rw [← per, htaken, hloaded]
  rfl

/-- In a capture mode no test-access instruction acts, so the interlock is seen as it stands. -/
theorem ilkSettle_capture (hcap : s.mode.isCapture = true) {b : Bool} (h : b = s.lio.ilkLow) : s.ilkSettle b = s := by
  have seen : s.ilk = s.lio.ilkLow := by
    unfold State.ilk State.tapActs
    cases hm : s.mode <;> simp_all [Mode.isCapture]
  unfold State.ilkSettle
  rw [seen, ← h]
  simp

/-! ### Exit -/

/-- Capture ends: a pending divider pair is in force, and the line timer stops (R40, R102). -/
theorem captureOff_writes (s : State) : ∃ x, s.captureOff = { s with capture := false, lio := x } ∧ x.ltNext = none ∧ x.divPend = none := by
  obtain ⟨n, m, a, h⟩ := s.applyDiv_writes
  unfold State.captureOff
  rw [h]
  exact ⟨_, rfl, rfl, rfl⟩

theorem frameClose_upkeep (s : State) (early gated : Bool) : Upkeep s (s.frameClose early gated) := by
  unfold State.frameClose
  split
  · split
    · exact .refl s
    · refine Upkeep.trans ?_ (framesSettle_upkeep 64 _)
      exact s.upkeep_of_ing _ rfl rfl rfl
  · exact .refl s

end State

theorem execCaptureEntry_enters {tr : Transit} (htr : s.transit = some tr) (hwait : s.lad.modeWait = false) (hmode : s.mode = .setup)
    (hcap : tr.target.isCapture = true) (e : Nat) : execCaptureEntry e s =
      .next (((s.captureSet tr.target tr.role e).ilkSettle s.ilk).report tr.by_ 2 0) := by
  simp only [execCaptureEntry, htr, hmode, hcap, hwait, State.captureStart_eq]
  rfl

section
variable {tr : Transit} (htr : s.transit = some tr) (hwait : s.lad.modeWait = false) (hmode : s.mode.isCapture = true)
  (htgt : tr.target = .setup) (e : Nat)
include htr hwait hmode htgt

theorem execCaptureExit_over (hover : s.frameOver tr = true) : execCaptureExit e s = .next
    (State.reportAll (State.setMode { (if s.frameTaking then (s.atT e).frameClose true false else s.atT e).captureOff.strobesQuit e with
      transit := none } .setup false) tr 2) := by
  unfold execCaptureExit
  rw [htr]
  dsimp only
  rw [if_pos ⟨hmode, htgt, by rw [hwait]; rfl⟩, if_pos hover]
  rfl

theorem execCaptureExit_waits (hover : s.frameOver tr = false) : execCaptureExit e s = .next
    (if tr.frame = none then { s with transit := some { tr with frame := s.openFrame } } else s) := by
  unfold execCaptureExit
  rw [htr]
  dsimp only
  rw [if_pos ⟨hmode, htgt, by rw [hwait]; rfl⟩, if_neg (Bool.eq_false_iff.mp hover)]
  split <;> rfl

end

/-- Settles O12: an entry is the mode held from the edge on and what the interlock cuts; an exit closes the frame, quits the strobes
and changes the mode. -/
theorem captureStartsAndEnds : Obligations.CaptureStartsAndEnds := by
  intro s tr e htr hwait hmem
  refine ⟨fun hmode hcap => ?enters, fun hmode htgt hover => ?leaves, fun hmode htgt => execCaptureExit_waits htr hwait hmode htgt e⟩
  case enters =>
    have changes : s.mode ≠ tr.target := by
      intro h
      rw [← h, hmode] at hcap
      cases hcap
    have held := State.captureSet_held changes tr.role e
    have cut := (s.captureSet tr.target tr.role e).ilkSettle_frame s.ilk
    have seen : s.tapActs = false → (s.captureSet tr.target tr.role e).ilkSettle s.ilk = s.captureSet tr.target tr.role e := by
      intro htap
      refine State.ilkSettle_capture (by rw [held.frame]; exact hcap) ?_
      rw [held.ilkLow, State.ilk, htap, Bool.not_false, Bool.and_true]
    refine ⟨_, execCaptureEntry_enters htr hwait hmode hcap e, ?_⟩
    generalize s.captureSet tr.target tr.role e = x at held cut seen
    generalize x.ilkSettle s.ilk = u at cut seen
    obtain ⟨c, j, hrep⟩ := u.report_writes tr.by_ 2 0
    have frame : u = { x with regs := u.regs, log := u.log, ing := u.ing, sup := u.sup, lio := u.lio } := cut.blocks
    have chg := State.report_modeChg u tr.by_ 2 0
    rw [held.frame] at frame
    refine ⟨?_, fun htap => ?_, fun h => ?_, fun h => ?_, ?_, ?_, fun h => ?_, ?_⟩
    · rw [hrep, frame]
    · rw [hrep, seen htap]
      refine ⟨?_, ?_, ?_, held.regs.but⟩
      all_goals rw [held.frame]
    · rw [h]; rfl
    · rw [h]; rfl
    · rw [chg, frame]
      simp
    · rw [hrep]
      exact (congrArg LineIo.divPend cut.lio).trans held.divPend
    · rw [hrep]
      obtain ⟨hhwm, hacc⟩ := held.track h
      have lio := cut.lio
      exact ⟨(congrArg LineIo.hwm lio).trans hhwm, (congrArg LineIo.acc lio).trans (by rw [hacc, congrArg LineIo.divN lio])⟩
    · rw [hrep]
      exact (congrArg LineIo.ltNext cut.lio).trans held.ltNext
  case leaves =>
    have closed : State.Upkeep (s.atT e) (if s.frameTaking then (s.atT e).frameClose true false else s.atT e) := by
      split
      · exact (s.atT e).frameClose_upkeep true false
      · exact .refl _
    refine ⟨_, execCaptureExit_over htr hwait hmode htgt e hover, ?_⟩
    generalize (if s.frameTaking then (s.atT e).frameClose true false else s.atT e) = u at closed
    obtain ⟨x, hoff, hlt, hdiv⟩ := u.captureOff_writes
    have quiet := u.captureOff.strobesQuit_quiet e
    have quit : State.StrobeFrame u.captureOff (u.captureOff.strobesQuit e) := (u.captureOff.strobesQuit_strobeUpkeep e).frame
    generalize u.captureOff.strobesQuit e = y at quiet quit
    have frame : y = { u.captureOff with regs := y.regs, log := y.log, ing := y.ing, sup := y.sup, lio := y.lio } := quit.blocks
    rw [hoff, closed.frame] at frame
    have changes : State.mode { y with transit := none } ≠ .setup := by
      intro h
      have cap : y.mode.isCapture = true := by rw [frame]; exact hmode
      rw [show y.mode = .setup from h] at cap
      cases cap
    have lio : y.lio = { x with stb := y.lio.stb } := quit.lio.trans (by rw [hoff])
    rw [State.setMode_changes changes]
    obtain ⟨c, j, hrep⟩ := State.reportAll_writes tr { y with
      transit := none, mode := .setup, role := false && Mode.setup == .lockstep, cp := { y.cp with irqStatus := y.cp.irqStatus ||| 1 } } 2
    refine ⟨?_, ?_, ?_, fun n => ?_, fun h => ?_, fun h => ?_, ?_⟩
    · rw [hrep, frame]
      rfl
    · rw [hrep]
      exact (congrArg LineIo.ltNext lio).trans hlt
    · rw [hrep]
      exact (congrArg LineIo.divPend lio).trans hdiv
    · rw [hrep]
      exact quiet n
    · exact State.reportAll_host tr _ h
    · exact State.reportAll_joist tr _ h
    · rw [State.reportAll_modeChg]
      simp

end Sys2Proof.Machine
end

section
/-! SUPPORT. VAON: the state at its rise (R34 to R36), what its rise loads (R579, R604, R605) and what its fall keeps (R605, R678, R729). -/

namespace Sys2Proof.Machine
open Sys2Proof.Spec

variable {s : State}

/-- Refutes O4: at reset ENC_TMIN reads 3,125, as its table says, and not 1,000. -/
theorem not_resetIsSupervise : ¬Obligations.ResetIsSupervise := by
  rintro ⟨-, -, -, -, -, -, -, -, -, -, -, -, -, tmin, -⟩
  have reads : State.reset.fld F.ENC_TMIN_TMIN = 3125 := by decide
  rw [reads] at tmin
  cases tmin

/-! ### The rise -/

/-- The head at the rise, with the log scanned (R604). -/
def State.riseScanned (s : State) : State :=
  { s with mode := .supervise, log := { s.log with newest := BitVec.ofNat 32 s.logScan, vaonRises := s.log.vaonRises + 1 } }

/-- The payload of the POWERON record. -/
def State.risePayload (s : State) : List Byte :=
  BitVec.ofNat 8 (s.fld F.CLK_AON_STAT_SRC) :: leBytes (s.log.vaonRises + 1).toNat 2

/-- The POWERON record is queued (R605). -/
def State.riseLogged (s : State) : State := s.riseScanned.pushLog 0x01 s.risePayload

theorem execVaonRise_rises (h : s.mode = .unpowered ∨ (s.mode = .supervise ∧ s.sup.loaded = false)) :
    execVaonRise s = .next { s.riseLogged.tableLoad with sup := { s.riseLogged.tableLoad.sup with loaded := true } } := by
  have supervise : (if s.mode = .unpowered then { s with mode := .supervise } else s) = { s with mode := .supervise } := by
    split
    · rfl
    next hm =>
      rw [← (h.resolve_left hm).1]
  unfold execVaonRise
  rw [if_pos (by simpa using h)]
  dsimp only
  rw [supervise]
  rfl

theorem execVaonRise_idle (hoff : s.mode ≠ .unpowered) (h : s.mode ≠ .supervise ∨ s.sup.loaded = true) :
    execVaonRise s = .next s := by
  refine if_neg ?_
  rintro (k | ⟨hm, hl⟩)
  · exact hoff k
  · rcases h with h | h
    · exact h hm
    · simp [h] at hl

/-- Between two states records join the queue, as far as it has room, and the queue alone of the log changes. -/
structure State.Queues (s t : State) : Prop where
  queue : s.log.queue <+: t.log.queue
  full : 16 ≤ s.log.queue.length → t.log.queue = s.log.queue
  log : t.log = { s.log with queue := t.log.queue, lost := t.log.lost, lostPend := t.log.lostPend }

theorem State.Queues.of_log_eq {t : State} (h : t.log = s.log) : State.Queues s t := by
  refine ⟨?_, fun _ => ?_, ?_⟩ <;> rw [h]

theorem State.Queues.trans {t u : State} (h : State.Queues s t) (k : State.Queues t u) : State.Queues s u where
  queue := h.queue.trans k.queue
  full hf := by
    have e := h.full hf
    rw [k.full (by rwa [e]), e]
  log := k.log.trans (by rw [h.log])

theorem State.pushLog_queues (s : State) (typ : Nat) (p : List Byte) : State.Queues s (s.pushLog typ p) := by
  unfold State.pushLog
  split
  next h => exact ⟨List.prefix_append _ _, fun k => absurd h (Nat.not_lt.mpr k), rfl⟩
  next => exact ⟨List.prefix_rfl, fun _ => rfl, rfl⟩

theorem State.loadTable_writes (s : State) (es : List RailEntry) : ∃ v, s.loadTable es = { s with rails := v } := ⟨_, rfl⟩

/-- The saved table is loaded where its CRC holds, and the default table, noted and with a CONFIG record, otherwise. -/
theorem State.tableLoad_cases (s : State) :
    (∃ v, s.tableLoad = { s with rails := v }) ∨
      ∃ v p, s.tableLoad = State.pushLog { s with rails := v, sup := { s.sup with rtDefault := true } } 0x09 p := by
  obtain ⟨v, hdefault⟩ := s.loadTable_writes RailEntry.defaults
  unfold State.tableLoad State.configRecord
  dsimp only
  rw [hdefault]
  split
  next es c h =>
    split
    next => exact .inl (s.loadTable_writes es)
    next => exact .inr ⟨v, _, rfl⟩
  next => exact .inr ⟨v, _, rfl⟩

theorem State.tableLoad_queues (s : State) : State.Queues s s.tableLoad := by
  rcases s.tableLoad_cases with ⟨v, h⟩ | ⟨v, p, h⟩
  · rw [h]
    exact .of_log_eq rfl
  · have start : State.Queues s { s with rails := v, sup := { s.sup with rtDefault := true } } := .of_log_eq rfl
    rw [h]
    exact start.trans (State.pushLog_queues _ 0x09 p)

/-- The rails take the entries, and the default is noted and logged. -/
theorem State.tableLoad_writes (s : State) : ∃ v b l,
    s.tableLoad = { s with rails := v, sup := { s.sup with rtDefault := b }, log := l } := by
  rcases s.tableLoad_cases with ⟨v, h⟩ | ⟨v, p, h⟩
  · exact ⟨v, s.sup.rtDefault, s.log, h⟩
  · rw [h]
    obtain ⟨l, hlog⟩ := State.pushLog_writes { s with rails := v, sup := { s.sup with rtDefault := true } } 0x09 p
    exact ⟨v, true, l, hlog⟩

/-- A rail takes its entry of the table. -/
theorem State.loadTable_entry (s : State) (es : List RailEntry) (r : Fin 24) : (s.loadTable es).rails[r].entry = es.getD r.val {} := by
  simp [State.loadTable]

theorem State.tableLoad_saved {es : List RailEntry} {c : Half} (hsaved : s.sup.saved = some (es, c)) (hcrc : tableCrc es = c) :
    s.tableLoad = s.loadTable es := by
  simp [State.tableLoad, hsaved, hcrc]

/-! ### The fall -/

theorem execVaonFall_powered (w : Option (Fin 4)) (held : Bool) (h : s.mode ≠ .unpowered) : ∃ o l,
    execVaonFall w held s = .next (State.cold { s with otp := o, log := { s.log with store := l } }) ∧
    (s.otp.prog = none → o = s.otp) ∧ (w = none ∨ s.log.queue = [] → l = s.log.store) ∧
    (∀ (k : Fin 4) (r : LogRec) (rs : List LogRec), w = some k → s.log.queue = r :: rs →
      let seq := (s.log.newest + 1).toNat
      let bs := logBytes seq s.log.boots s.log.lostPend r
      l = SMap.setBytes erasedByte s.log.store (32 * logSlot seq) (if held then bs else tornBytes bs k.val)) := by
  unfold execVaonFall
  rw [if_neg h]
  refine ⟨_, _, rfl, fun h => by rw [h], fun h => ?_, fun k r rs hw hq => by rw [hw, hq]⟩
  rcases h with h | h
  · rw [h]
  · rw [h]
    cases w <;> rfl

/-- Settles O13: the rise pushes its record and loads the table, and neither writes more of the log than the queue; the fall is what
the head keeps. -/
theorem vaonRiseAndFall : Obligations.VaonRiseAndFall := by
  intro s w held cause rises
  refine ⟨fun h => ⟨_, execVaonRise_rises h, ?rises⟩, fun hoff h => execVaonRise_idle hoff h, fun h => if_pos h, fun h => ?falls⟩
  case rises =>
    have table := s.riseLogged.tableLoad_queues
    have whole : State.Queues s.riseScanned s.riseLogged.tableLoad := (s.riseScanned.pushLog_queues 0x01 s.risePayload).trans table
    obtain ⟨l, hlogged⟩ : ∃ l, s.riseLogged = { s.riseScanned with log := l } := s.riseScanned.pushLog_writes 0x01 s.risePayload
    refine ⟨?_, rfl, (congrArg LogSt.vaonRises whole.log).trans rfl, (congrArg LogSt.newest whole.log).trans rfl,
      (congrArg LogSt.store whole.log).trans rfl, fun hroom => ?_, whole.full, fun es c hsaved hcrc r => ?_⟩
    · obtain ⟨v, b, l', hload⟩ := s.riseLogged.tableLoad_writes
      rw [hload, hlogged]
      rfl
    · have first : s.riseLogged.log.queue = s.log.queue ++ [rises] := s.riseScanned.pushLog_queue 0x01 s.risePayload hroom
      exact first ▸ table.queue
    · have saved : s.riseLogged.sup.saved = some (es, c) := by rw [hlogged]; exact hsaved
      have load : s.riseLogged.tableLoad.rails[r].entry = es.getD r.val {} := by
        rw [State.tableLoad_saved saved hcrc, State.loadTable_entry]
      exact load.trans (s.loadTable_entry es r).symm
  case falls =>
    obtain ⟨o, l, hfall, ho, hl, hw⟩ := execVaonFall_powered w held h
    refine ⟨_, hfall, rfl, rfl, rfl, fun n => Vector.getElem_replicate _, fun p => Vector.getElem_replicate _,
      fun d => Vector.getElem_replicate _, rfl, rfl, rfl, rfl, rfl, rfl, rfl, rfl, rfl, rfl, fun hp => ?_, hl, hw⟩
    rw [ho hp]
    unfold State.cold
    dsimp only
    rw [hp]

end Sys2Proof.Machine
end

section
/-! SUPPORT. What an entry to BOOT leaves alone (R34, R36, R44, R145, R349, R693): the queue of commands, the flash, OTP, the wear area and
the count of starts; and what the presence receiver writes as it starts and stops (R132, R138). -/

namespace Sys2Proof.Machine

variable {s t u : State}

/-- Between two states the commands waiting, the non-volatile stores and the count of starts stay. -/
structure State.Persists (s t : State) : Prop where
  pending : t.pending = s.pending
  flash : t.flash = s.flash
  otp : t.otp = s.otp
  wear : t.wear = s.wear
  boots : t.log.boots = s.log.boots

/-- The ladder stays too. -/
structure State.Rests (s t : State) : Prop extends State.Persists s t where
  ladder : t.ladder = s.ladder
  phase : t.phase = s.phase

namespace State

theorem Persists.refl (s : State) : Persists s s := ⟨rfl, rfl, rfl, rfl, rfl⟩

theorem Persists.trans (h : Persists s t) (k : Persists t u) : Persists s u where
  pending := k.pending.trans h.pending
  flash := k.flash.trans h.flash
  otp := k.otp.trans h.otp
  wear := k.wear.trans h.wear
  boots := k.boots.trans h.boots

theorem Rests.refl (s : State) : Rests s s := ⟨.refl s, rfl, rfl⟩

theorem Rests.trans (h : Rests s t) (k : Rests t u) : Rests s u :=
  ⟨h.toPersists.trans k.toPersists, k.ladder.trans h.ladder, k.phase.trans h.phase⟩

theorem Persists.foldl {α : Type} {f : State → α → State} (h : ∀ s a, Persists s (f s a)) (l : List α) (s : State) :
    Persists s (l.foldl f s) := by
  induction l generalizing s with
  | nil => exact .refl s
  | cons a l ih => exact (h s a).trans (ih _)

theorem Rests.foldl {α : Type} {f : State → α → State} (h : ∀ s a, Rests s (f s a)) (l : List α) (s : State) :
    Rests s (l.foldl f s) := by
  induction l generalizing s with
  | nil => exact .refl s
  | cons a l ih => exact (h s a).trans (ih _)

theorem setReg_rests (s : State) (a : Nat) (v : Word) : Rests s (s.setReg a v) := ⟨⟨rfl, rfl, rfl, rfl, rfl⟩, rfl, rfl⟩

theorem setFld_rests (s : State) (f : Fld) (v : Nat) : Rests s (s.setFld f v) := s.setReg_rests _ _

theorem pushLog_rests (s : State) (typ : Nat) (p : List Byte) : Rests s (s.pushLog typ p) := by
  unfold State.pushLog
  split <;> exact ⟨⟨rfl, rfl, rfl, rfl, rfl⟩, rfl, rfl⟩

theorem warn_rests (s : State) (source : Nat) (rest : List Byte) : Rests s (s.warn source rest) :=
  have raised (s : State) : Rests s { s.supervisorWarning with sup := { s.supervisorWarning.sup with ev := s.supervisorWarning.sup.ev ||| 2 } } :=
    ⟨⟨rfl, rfl, rfl, rfl, rfl⟩, rfl, rfl⟩
  (s.pushLog_rests 0x05 _).trans (raised _)

/-! ### Strobe gates -/

theorem setStb_rests (s : State) (n : Fin 8) (c : Strobe) : Rests s (s.setStb n c) := ⟨⟨rfl, rfl, rfl, rfl, rfl⟩, rfl, rfl⟩

theorem lampCheck_rests (s : State) (n : Fin 8) : Rests s (s.lampCheck n) := by
  unfold State.lampCheck
  dsimp only
  split
  · exact (s.setFld_rests _ _).trans (warn_rests _ 4 _)
  · exact .refl s

theorem stbUnverified_rests (s : State) (n : Fin 8) : Rests s (s.stbUnverified n) := by
  have counted := s.setFld_rests (F.STBn_STAT_UNV n) (min (s.fld (F.STBn_STAT_UNV n) + 1) (2 ^ (F.STBn_STAT_UNV n).w - 1))
  unfold State.stbUnverified
  dsimp only
  split
  · exact (counted.trans (setFld_rests _ _ _)).trans (setFld_rests _ _ _)
  · exact counted

theorem gateOff_rests {why : GateOff} (h : why = .cut ∨ why = .pin) (s : State) (n : Fin 8) (e : Nat) : Rests s (s.gateOff n e why) := by
  unfold State.gateOff
  dsimp only
  split
  · exact .refl s
  next p _ =>
    have off (c : Strobe) : Rests s ((s.setStb n c).lampCheck n) := (s.setStb_rests n c).trans (lampCheck_rests _ n)
    rcases h with rfl | rfl
    · dsimp only
      split
      · exact (off _).trans (stbUnverified_rests _ n)
      · exact off _
    · exact (off _).trans (setFld_rests _ _ _)

theorem strobesOff_rests (s : State) (e : Nat) : Rests s (s.strobesOff e) :=
  Rests.foldl (fun s n => ((gateOff_rests (.inl rfl) s n e).trans (setStb_rests _ n _)).trans (setFld_rests _ _ _)) _ s

/-! ### Blocks -/

theorem marksClear_rests (s : State) : Rests s s.marksClear :=
  Rests.foldl (fun s m => (Rests.mk ⟨rfl, rfl, rfl, rfl, rfl⟩ rfl rfl : Rests s (s.setMark m _)).trans (setFld_rests _ _ _)) _ s

theorem captureOff_rests (s : State) : Rests s s.captureOff := by
  obtain ⟨x, h, -, -⟩ := s.captureOff_writes
  rw [h]
  exact ⟨⟨rfl, rfl, rfl, rfl, rfl⟩, rfl, rfl⟩

theorem trsEmpty_rests (s : State) : Rests s s.trsEmpty := ⟨⟨rfl, rfl, rfl, rfl, rfl⟩, rfl, rfl⟩

theorem ingestClear_rests (s : State) : Rests s s.ingestClear := ⟨⟨rfl, rfl, rfl, rfl, rfl⟩, rfl, rfl⟩

theorem tlyClear_rests (s : State) : Rests s s.tlyClear := by
  have emptied : Rests s { s with tly := { moveId := s.tly.moveId } } := ⟨⟨rfl, rfl, rfl, rfl, rfl⟩, rfl, rfl⟩
  have sets (s : State) : Rests s ((List.range 16).foldl (fun s i => (s.setReg (Reg.TLY_WSi_A i) 0).setReg (Reg.TLY_WSi_B i) 1) s) :=
    Rests.foldl (fun s i => (s.setReg_rests _ _).trans (setReg_rests _ _ _)) _ s
  exact (((emptied.trans (sets _)).trans (setFld_rests _ _ _)).trans (setFld_rests _ _ _)).trans (setFld_rests _ _ _)

theorem egrClear_rests (s : State) : Rests s s.egrClear := ⟨⟨rfl, rfl, rfl, rfl, rfl⟩, rfl, rfl⟩

theorem krfClear_rests (s : State) : Rests s s.krfClear := ⟨⟨rfl, rfl, rfl, rfl, rfl⟩, rfl, rfl⟩

theorem rests_of_dyn (s : State) (x : Dyn) : Rests s { s with dyn := x } := ⟨⟨rfl, rfl, rfl, rfl, rfl⟩, rfl, rfl⟩

theorem dynDown_rests (s : State) : Rests s s.dynDown := s.rests_of_dyn _

theorem resetRegs_rests (s : State) (lo hi : Nat) : Rests s (s.resetRegs lo hi) := ⟨⟨rfl, rfl, rfl, rfl, rfl⟩, rfl, rfl⟩

theorem niClear_rests (s : State) : Rests s s.niClear := by
  have emptied : Rests s { s with ni := Vector.replicate 16 {}, rings := Vector.replicate 12 (Vector.replicate 16 {}) } :=
    ⟨⟨rfl, rfl, rfl, rfl, rfl⟩, rfl, rfl⟩
  exact emptied.trans (Rests.foldl (fun s n => (s.resetRegs_rests _ _).trans (resetRegs_rests _ _ _)) _ _)

theorem setUart_rests (s : State) (n : Fin 2) (x : Uart) : Rests s (s.setUart n x) := ⟨⟨rfl, rfl, rfl, rfl, rfl⟩, rfl, rfl⟩

theorem uartsModeEntry_rests (s : State) : Rests s s.uartsModeEntry :=
  ((((s.setUart_rests 0 _).trans (setUart_rests _ 1 _)).trans (setUart_rests _ 1 _)).trans (setFld_rests _ _ _)).trans (setUart_rests _ 0 _)

/-! ### Pegs -/

theorem setEvent_persists (s : State) (n : Fin 8) (bit : Nat) : Persists s (s.setEvent n bit) := by
  obtain ⟨r, t, p, c, j, v, u, h⟩ := s.setEvent_writes n bit
  rw [h]
  exact ⟨rfl, rfl, rfl, rfl, rfl⟩

theorem pegEvent_persists (s : State) (p : Fin 32) : Persists s (s.pegEvent p) := by
  refine Persists.foldl (fun s n => ?_) _ s
  split
  · exact s.setEvent_persists n 6
  · exact .refl s

theorem pegsClear_persists (s : State) : Persists s s.pegsClear := by
  have emptied : Persists s (State.setFld { s with pegs := Vector.replicate 32 {} } F.SEQ_PEG_BREAK_CNT 0) := ⟨rfl, rfl, rfl, rfl, rfl⟩
  exact emptied.trans (Persists.foldl pegEvent_persists _ _)

theorem pegBreak_persists (s : State) (p : Fin 32) : Persists s (s.pegBreak p) := by
  have broken : Persists s ((s.setPeg p { st := .broken, owner := none, epoch := s.pegs[p].epoch + 1 }).inc F.SEQ_PEG_BREAK_CNT) :=
    ⟨rfl, rfl, rfl, rfl, rfl⟩
  exact broken.trans (pegEvent_persists _ p)

theorem holderReset_persists (s : State) (o : PegOwner) (cause abortCause : Nat) : Persists s (s.holderReset o cause abortCause) := by
  unfold State.holderReset
  dsimp only
  split
  · exact .refl s
  · exact (Persists.foldl pegBreak_persists _ s).trans (pushLog_rests _ _ _).toPersists

/-! ### The session and the scribe chain -/

theorem lowerTo_persists (s : State) (l : Level) : Persists s (s.lowerTo l) := by
  unfold State.lowerTo
  dsimp only
  split
  · exact (s.pushLog_rests 0x0B _).toPersists.trans ⟨rfl, rfl, rfl, rfl, rfl⟩
  · exact .refl s

theorem persists_of_cp (s : State) (x : ControlPort) : Persists s { s with cp := x } := ⟨rfl, rfl, rfl, rfl, rfl⟩

theorem sessEnd_persists (s : State) (expired : Bool) : Persists s (s.sessEnd expired) := by
  unfold State.sessEnd
  dsimp only
  split
  · exact ((s.lowerTo_persists .field).trans (persists_of_cp _ _)).trans ((holderReset_persists _ .host 2 0).trans (persists_of_cp _ _))
  · exact .refl s

theorem windowCut_persists (s : State) : Persists s s.windowCut := by
  unfold State.windowCut
  split <;> exact ⟨rfl, rfl, rfl, rfl, rfl⟩

theorem sessModeEnd_persists (s : State) : Persists s s.sessModeEnd := by
  have ended := (s.sessEnd_persists false).trans (windowCut_persists _)
  unfold State.sessModeEnd
  dsimp only
  split
  · exact ended.trans ⟨rfl, rfl, rfl, rfl, rfl⟩
  · exact ended

theorem scrEnd_persists (s : State) (c : ScrCmd) (code count : Nat) (data : Option Word) : Persists s (s.scrEnd c code count data) := by
  have logged {b : Prop} [Decidable b] {t : State} (h : Persists s t) (p : List Byte) : Persists s (if b then t else t.pushLog 0x0D p) := by
    split
    · exact h
    · exact h.trans (t.pushLog_rests 0x0D p).toPersists
  refine logged ?_ _
  split
  · cases data <;> dsimp only <;> split <;> exact ⟨rfl, rfl, rfl, rfl, rfl⟩
  · exact ⟨rfl, rfl, rfl, rfl, rfl⟩

theorem scribeCut_persists (s : State) : Persists s s.scribeCut := by
  unfold State.scribeCut
  dsimp only
  split
  · exact ⟨rfl, rfl, rfl, rfl, rfl⟩
  next c _ => exact (s.scrEnd_persists c 6 0 none).trans ⟨rfl, rfl, rfl, rfl, rfl⟩

theorem reportLadder_persists (s : State) (who : Requester) (res det : Nat) : Persists s (s.reportLadder who res det) := by
  cases who <;> exact ⟨rfl, rfl, rfl, rfl, rfl⟩

theorem ladderSupersede_persists (s : State) : Persists s s.ladderSupersede := by
  have stable : Persists s { s with phase := .stable } := ⟨rfl, rfl, rfl, rfl, rfl⟩
  unfold State.ladderSupersede
  split
  · exact .refl s
  all_goals exact stable.trans (reportLadder_persists _ _ 6 0)

end State
end Sys2Proof.Machine
end

section
/-! SUPPORT. The presence receiver as it starts and stops (R132, R138), and the entry to BOOT (R34, R44). -/

namespace Sys2Proof.Machine

variable {s t u : State}

/-- The registers that the receiver writes as it starts, stops and places the edge of a stop. -/
def prsReg (a : Nat) : Prop :=
  a = Reg.PRS_STAT ∨ a = Reg.PRS_EDGE_POS_LO ∨ a = Reg.PRS_EDGE_POS_HI ∨ a = Reg.PRS_LATE_CNT ∨ a = Reg.PRS_MERGE_CNT

/-- Between two states the presence receiver alone changes. -/
structure State.PrsUpkeep (s t : State) : Prop where
  frame : t = { s with regs := t.regs, lio := t.lio }
  regs : State.WritesRegs prsReg s t

namespace State

theorem PrsUpkeep.refl (s : State) : PrsUpkeep s s := ⟨rfl, .refl s⟩

theorem PrsUpkeep.trans (h : PrsUpkeep s t) (k : PrsUpkeep t u) : PrsUpkeep s u where
  frame := k.frame.trans (by rw [h.frame])
  regs := h.regs.trans k.regs

theorem PrsUpkeep.rests (h : PrsUpkeep s t) : Rests s t := by
  rw [h.frame]
  exact ⟨⟨rfl, rfl, rfl, rfl, rfl⟩, rfl, rfl⟩

theorem setReg_prsUpkeep (s : State) {a : Nat} (v : Word) (ha : prsReg a) : PrsUpkeep s (s.setReg a v) :=
  ⟨rfl, fun b hb => s.reg_setReg_other a b v fun e => hb (e ▸ ha), s.regsWf_setReg a v⟩

theorem setFld_prsUpkeep (s : State) {f : Fld} (v : Nat) (hf : prsReg f.addr) : PrsUpkeep s (s.setFld f v) := s.setReg_prsUpkeep _ hf

theorem prsUpkeep_of_lio (s : State) (x : LineIo) : PrsUpkeep s { s with lio := x } := ⟨rfl, .of_regs_eq rfl⟩

theorem prsEnqueue_prsUpkeep (s : State) (e : PrsEdge) : PrsUpkeep s (s.prsEnqueue e) := by
  unfold State.prsEnqueue
  dsimp only
  split
  · exact s.prsUpkeep_of_lio _
  · split
    · split
      · exact (s.prsUpkeep_of_lio _).trans (setFld_prsUpkeep _ _ (by simp [prsReg, F.PRS_LATE_CNT]))
      · exact s.prsUpkeep_of_lio _
    · split
      · exact (s.prsUpkeep_of_lio _).trans (setFld_prsUpkeep _ _ (by simp [prsReg, F.PRS_MERGE_CNT]))
      · exact (s.prsUpkeep_of_lio _).trans (setFld_prsUpkeep _ _ (by simp [prsReg, F.PRS_MERGE_CNT]))

theorem prsEdge_prsUpkeep (s : State) (e : PrsEdge) : PrsUpkeep s (s.prsEdge e) := by
  have latched := (s.setReg_prsUpkeep (BitVec.ofNat 32 e.pos.toNat) (.inr (.inl rfl))).trans
    (setReg_prsUpkeep _ (BitVec.ofNat 32 (e.pos.toNat / 2 ^ 32 + 65536 * b2n e.toPresent + 131072 * b2n e.forced)) (.inr (.inr (.inl rfl))))
  exact (latched.trans (setFld_prsUpkeep _ (2 ^ F.PRS_STAT_EDGE_EV.w - 1) (.inl rfl))).trans (prsEnqueue_prsUpkeep _ e)

theorem prsSetState_prsUpkeep (s : State) (st : PrsState) (forced : Bool) (pos : Pos) : PrsUpkeep s (s.prsSetState st forced pos) := by
  have stated := (s.prsUpkeep_of_lio { s.lio with prs := { s.lio.prs with st := st } }).trans
    (setFld_prsUpkeep _ (f := F.PRS_STAT_STATE) st.code (.inl rfl))
  unfold State.prsSetState
  dsimp only
  split
  · exact stated.trans (prsEdge_prsUpkeep _ _)
  · exact stated

theorem prsStop_prsUpkeep (s : State) : PrsUpkeep s s.prsStop := by
  unfold State.prsStop
  dsimp only
  split
  · exact (((s.prsSetState_prsUpkeep .unknown true s.trigPos).trans (setFld_prsUpkeep _ (f := F.PRS_STAT_FORCED) 0 (.inl rfl))).trans
      (setFld_prsUpkeep _ (f := F.PRS_STAT_INVALID) 0 (.inl rfl))).trans (prsUpkeep_of_lio _ _)
  · exact .refl s

theorem prsSettle_prsUpkeep (s : State) : PrsUpkeep s s.prsSettle := by
  unfold State.prsSettle
  dsimp only
  split
  · split
    · exact .refl s
    · exact s.prsStop_prsUpkeep
  · split
    · exact (s.prsUpkeep_of_lio _).trans (setFld_prsUpkeep _ (f := F.PRS_STAT_STATE) 0 (.inl rfl))
    · exact .refl s

/-- A receiver that does not run and is not enabled stays. -/
theorem prsSettle_off (hen : s.bit F.PRS_CFG_EN = false) (hrun : s.lio.prs.running = false) : s.prsSettle = s := by
  unfold State.prsSettle
  simp [hen, hrun]

/-! ### The entry to BOOT -/

theorem encStop_rests (s : State) : Rests s s.encStop := ⟨⟨rfl, rfl, rfl, rfl, rfl⟩, rfl, rfl⟩

/-- What every entry to SUPERVISE, BOOT or FALLBACK clears keeps the stores and leaves the ladder at rest at S0. -/
theorem modeClear_persists (s : State) : Persists s s.modeClear := by
  have lineio (s : State) : Persists s (((s.marksClear.strobesOff s.now).prsStop).encStop) :=
    (((s.marksClear_rests.trans (strobesOff_rests _ _)).trans (prsStop_prsUpkeep _).rests).trans (encStop_rests _)).toPersists
  have outputs (s : State) (x : LineIo) : Persists s (State.captureOff { s with lio := x }) := by
    refine Persists.trans ?_ (captureOff_rests _).toPersists
    exact ⟨rfl, rfl, rfl, rfl, rfl⟩
  have array (s : State) : Persists s (((s.ingestClear.trsEmpty).tlyClear).egrClear.krfClear) :=
    ((((s.ingestClear_rests.trans (trsEmpty_rests _)).trans (tlyClear_rests _)).trans (egrClear_rests _)).trans (krfClear_rests _)).toPersists
  have links (s : State) : Persists s (((s.dynDown.niClear).uartsModeEntry).pegsClear) :=
    ((s.dynDown_rests.trans (niClear_rests _)).trans (uartsModeEntry_rests _)).toPersists.trans (pegsClear_persists _)
  have users (s : State) : Persists s (s.sessModeEnd.scribeCut.ladderSupersede) :=
    (s.sessModeEnd_persists.trans (scribeCut_persists _)).trans (ladderSupersede_persists _)
  have domains (s : State) : Persists s (((s.setReg Reg.PWR_DOM_OFF_A 0).setReg Reg.PWR_DOM_OFF_B 0).setReg Reg.PWR_DOM_OFF_C 0) :=
    (((s.setReg_rests _ _).trans (setReg_rests _ _ _)).trans (setReg_rests _ _ _)).toPersists
  have atRest (s : State) : Persists s { s with role := false, ladder := .s0, phase := .stable, lad := {} } := ⟨rfl, rfl, rfl, rfl, rfl⟩
  unfold State.modeClear
  dsimp only
  exact ((((((lineio s).trans (outputs _ _)).trans (array _)).trans (links _)).trans (users _)).trans (domains _)).trans (atRest _)

theorem modeClear_ladder (s : State) : s.modeClear.ladder = .s0 := rfl

theorem modeClear_phase (s : State) : s.modeClear.phase = .stable := rfl

theorem tasksBoot_rests (s : State) : Rests s s.tasksBoot := by
  unfold State.tasksBoot
  refine Rests.trans ?_ (Rests.foldl (fun s n => s.setFld_rests _ 0) _ _)
  exact ⟨⟨rfl, rfl, rfl, rfl, rfl⟩, rfl, rfl⟩

theorem uartPinCut_rests (s : State) (j : Nat) : Rests s (s.uartPinCut j) := by
  unfold State.uartPinCut
  dsimp only
  split
  · exact s.setUart_rests 1 _
  · split
    · split
      · exact (s.setUart_rests 1 _).trans (setFld_rests _ _ _)
      · exact s.setUart_rests 1 _
    · exact .refl s

theorem pinCut_rests (s : State) (j e : Nat) : Rests s (s.pinCut j e) := by
  unfold State.pinCut
  split
  · exact gateOff_rests (.inr rfl) s 6 e
  · split
    · exact gateOff_rests (.inr rfl) s 7 e
    · exact s.uartPinCut_rests j

theorem pinSet_rests (s : State) (j : Fin 40) (v e : Nat) : Rests s (s.pinSet j v e) := by
  have set := s.setReg_rests (Reg.JIG_PINj j) (BitVec.ofNat 32 (v % 128))
  have parked (x : Jig) : Rests s { s.setReg (Reg.JIG_PINj j) (BitVec.ofNat 32 (v % 128)) with jig := x } :=
    set.trans ⟨⟨rfl, rfl, rfl, rfl, rfl⟩, rfl, rfl⟩
  unfold State.pinSet
  dsimp only
  split
  · exact set
  · split
    · exact (parked _).trans (pinCut_rests _ _ _)
    · exact parked _

theorem pinsReset_rests (s : State) (e : Nat) : Rests s (s.pinsReset e) := Rests.foldl (fun s j => s.pinSet_rests j _ e) _ s

theorem setMode_writes (s : State) (m : Mode) (role : Bool) :
    ∃ c, s.setMode m role = { s with cp := c, mode := m, role := role && m == .lockstep } := by
  unfold State.setMode
  dsimp only
  split
  · exact ⟨_, rfl⟩
  · exact ⟨_, rfl⟩

/-- The head enters BOOT with an attempt in progress and the ladder at rest, and its stores as they were. -/
structure BootEntered (s t : State) : Prop extends Persists s t where
  mode : t.mode = .boot
  ladder : t.ladder = .s0
  phase : t.phase = .stable
  transit : t.transit = none
  attempt : t.sup.attempt = true

theorem bootEntry_entered (s : State) : BootEntered s s.bootEntry := by
  have counting (b : Bool) (s : State) : Rests s { (if b then s.encStart else s) with stamp := {} } := by
    cases b <;> exact ⟨⟨rfl, rfl, rfl, rfl, rfl⟩, rfl, rfl⟩
  have reset (s : State) : Rests s (s.tasksBoot.uart1Reset) :=
    s.tasksBoot_rests.trans ((setUart_rests _ 1 {}).trans (resetRegs_rests _ _ _))
  have pins (s : State) : Rests s ((((s.pinsReset s.now).setFld F.EGR_CFG_HEAD_ID s.headId).setFld F.MEMC_STAT_TRAINED 0).setFld
      F.PWR_BOOT_STAT_PHASE 1) :=
    (((s.pinsReset_rests s.now).trans (setFld_rests _ _ _)).trans (setFld_rests _ _ _)).trans (setFld_rests _ _ _)
  have whole (b : Bool) : Rests s.modeClear _ := ((reset s.modeClear).trans (counting b _)).trans (pins _)
  have start := whole (s.mode == .fallback)
  unfold State.bootEntry
  dsimp only
  generalize State.setFld _ F.PWR_BOOT_STAT_PHASE 1 = u at start ⊢
  obtain ⟨c, hmode⟩ := State.setMode_writes (State.treesStop { u with
    ing := { u.ing with cmp := none }, jig := { u.jig with st := .unconf, rt := none, rtWait := [], rm := [] }
    sup := { u.sup with attempt := true, retryDue := false }, transit := none }) .boot false
  rw [hmode]
  have persists := s.modeClear_persists.trans start.toPersists
  exact ⟨⟨persists.pending, persists.flash, persists.otp, persists.wear, persists.boots⟩, rfl, start.ladder.trans s.modeClear_ladder,
    start.phase.trans s.modeClear_phase, rfl, rfl⟩

end State
end Sys2Proof.Machine
end

section
/-! SUPPORT. The ladder's wakes and exits (R43, R44, R626, R628, R631, R633): the wake at rest, what an exit that is done brings back, a
wake that fails, and an image that fails its check. -/

namespace Sys2Proof.Machine
open Sys2Proof.Spec

variable {s : State} {g : Ladder} {who : Requester}

namespace State

/-! ### Wakes -/

theorem fld_lt (s : State) (f : Fld) : s.fld f < 2 ^ f.w := Nat.mod_lt _ (Nat.two_pow_pos _)

/-- The exit has started and its cause is noted; the rails of S5 are still down. -/
def wakeNoted (s : State) (src : Nat) (who : Requester) : State :=
  { s.setFld F.PWR_WAKE_SRC (s.fld F.PWR_WAKE_SRC ||| 2 ^ src) with phase := .exiting s.ladder who }

/-- A wake at rest notes its cause and starts the exit. -/
theorem wake_rest (hp : s.phase = .stable) (hl : s.ladder ≠ .s0) {src : Nat} (hen : bitOf (s.reg Reg.PWR_WAKE_EN).toNat src = true) :
    s.wake src who = (s.wakeNoted src who).s5Up := by
  have asleep : s.asleep = true := by
    unfold State.asleep
    rw [hp]
    simpa using hl
  unfold State.wake
  rw [asleep, hen]
  dsimp only
  rw [if_pos (by rfl), hp]
  rfl

theorem wake_idle {src : Nat} (h : s.asleep = false ∨ bitOf (s.reg Reg.PWR_WAKE_EN).toNat src = false) : s.wake src who = s := by
  unfold State.wake
  rcases h with h | h <;> simp [h]

theorem s5Up_empty (h : s.lad.s5Down = []) : s.s5Up = s := by
  unfold State.s5Up
  simp [h]

end State

theorem execWakeTimerExpiry_expires (hp : s.phase = .stable) (ht : s.fld F.PWR_WAKE_TIMER ≠ 0) :
    execWakeTimerExpiry s = .next (s.wake 1 .caused) := if_pos ⟨ht, hp⟩

theorem execWakeTimerExpiry_idle (h : s.phase ≠ .stable ∨ s.ladder = .s0 ∨
    ¬(s.fld F.PWR_WAKE_TIMER ≠ 0 ∧ bitOf (s.reg Reg.PWR_WAKE_EN).toNat 1 = true)) : execWakeTimerExpiry s = .next s := by
  unfold execWakeTimerExpiry
  split
  next fires =>
    obtain ⟨ht, hp⟩ := fires
    refine congrArg _ (State.wake_idle ?_)
    rcases h with h | h | h
    · exact absurd hp h
    · exact .inl (by simp [State.asleep, hp, h])
    · exact .inr (by simpa [ht] using h)
  next => rfl

/-! ### Exits -/

namespace State

/-- The PLL is locked and no rail is awaited (R631). -/
def exitReady (s : State) : Prop := s.clk.run = true ∧ (s.lad.s5Down = [] ∨ ((s.rails[0]).st = .good ∧ (s.rails[1]).st = .good))

theorem exitReady_iff : ((s.lad.s5Down.isEmpty || ((s.rails[0]).st == .good && (s.rails[1]).st == .good)) && s.clk.run) = true ↔
    s.exitReady := by
  simp [State.exitReady, and_comm]

end State

section
variable (hp : s.phase = .exiting g who) (ns : Nat) (image : Bool) (dr : List (Option Int))
include hp

theorem execLadderExitDone_waits (h : ¬s.exitReady) : execLadderExitDone ns image dr s = .next s := by
  have waits := mt State.exitReady_iff.mp h
  unfold execLadderExitDone
  rw [hp]
  exact if_neg waits

theorem execLadderExitDone_fails : execLadderExitDone ns image dr s true = .next (s.wakeFail g who) := by
  unfold execLadderExitDone
  rw [hp]
  rfl

theorem execLadderExitDone_back (h : s.exitReady) (hg : ¬(4 ≤ g.code ∧ image = false)) :
    execLadderExitDone ns image dr s = .next (s.ladderBack g who ns dr) := by
  unfold execLadderExitDone
  rw [hp]
  exact (if_pos (State.exitReady_iff.mpr h)).trans (if_neg (by simpa using hg))

theorem execLadderExitDone_image (h : s.exitReady) (hg : 4 ≤ g.code) :
    execLadderExitDone ns false dr s = .next (s.resumeFail who) := by
  unfold execLadderExitDone
  rw [hp]
  exact (if_pos (State.exitReady_iff.mpr h)).trans (if_pos ⟨hg, rfl⟩)

end

namespace State

section
variable (hwait : s.lad.modeWait = false)
include hwait

theorem modeResume_idle : s.modeResume = s := by
  unfold State.modeResume
  split
  · simp [hwait]
  · rfl

theorem modeUnwoken_idle : s.modeUnwoken = s := by
  unfold State.modeUnwoken
  split
  · simp [hwait]
  · rfl

end

/-- With nothing queued Truss stands still. -/
theorem trsAdvance_empty (h : s.trs.queue = []) (n : Nat) : s.trsAdvance n = s := by
  cases n with
  | zero => rfl
  | succ n =>
    unfold State.trsAdvance
    rw [h]
    dsimp only
    split <;> rfl

theorem egrStart_writes (s : State) : ∃ x, s.egrStart = { s with egr := x } := by
  unfold State.egrStart
  split
  · exact ⟨_, rfl⟩
  · exact ⟨_, rfl⟩

/-- The exit from S1 or S2 restores no plane. -/
theorem unspill_shallow (hg : g = .s1 ∨ g = .s2) (s : State) :
    s.unspill g = { s with tly := { s.tly with savedBench := [], savedYard := [] } } := by
  unfold State.unspill
  rcases hg with rfl | rfl <;> rfl

/-- A domain that the entry took out and that is not switched off (R626). -/
def comesBack (s : State) (d : Fin 76) : Bool := s.lad.left.contains d.val && !s.domSwitchedOff d

/-- The head back at S0 from S1 or S2, before EGRESS and the presence receiver start (R626). -/
def returned (s : State) (who : Requester) (ns : Nat) : State :=
  let up : State := { s with
    dom := Vector.ofFn fun d => if s.comesBack d then .on else s.dom[d], ladder := .s0, phase := .stable
    lad := { s.lad with left := [], s5Down := [] } }
  let shown := (up.setFld F.PWR_EXIT_NS (min ns 0xFFFFFFFF)).irq 0
  State.reportLadder { shown with tly := { shown.tly with savedBench := [], savedYard := [] } } who 2 0

/-- With no sample due, no request waiting and nothing queued, an exit ends here. -/
theorem exit_ends (hdue : s.wear.due = false) (hwait : s.lad.modeWait = false) (hq : s.trs.queue = []) (u : State) :
    (State.modeResume (if s.wear.due then u else s)).trsAdvance 65 = s := by
  rw [hdue, if_neg Bool.false_ne_true, modeResume_idle hwait, trsAdvance_empty hq]

/-- The head back at S0, with EGRESS started where it comes back. -/
def restarted (s : State) (who : Requester) (ns : Nat) : State :=
  if s.comesBack Dom.egress then (s.returned who ns).egrStart else s.returned who ns

theorem restarted_writes (s : State) (who : Requester) (ns : Nat) : ∃ x, s.restarted who ns = { s.returned who ns with egr := x } := by
  unfold State.restarted
  split
  · exact egrStart_writes _
  · exact ⟨(s.returned who ns).egr, rfl⟩

theorem ladderBack_shallow (hg : g = .s1 ∨ g = .s2) (hwait : s.lad.modeWait = false) (hdue : s.wear.due = false)
    (hq : s.trs.queue = []) (ns : Nat) (dr : List (Option Int)) :
    s.ladderBack g .host ns dr = (s.restarted .host ns).prsSettle := by
  obtain ⟨x, hx⟩ := s.restarted_writes .host ns
  have kept := (prsSettle_prsUpkeep (s.restarted .host ns)).frame
  have due : (s.restarted .host ns).prsSettle.wear.due = false := by rw [kept, hx]; exact hdue
  have wait : (s.restarted .host ns).prsSettle.lad.modeWait = false := by rw [kept, hx]; exact hwait
  have queue : (s.restarted .host ns).prsSettle.trs.queue = [] := by rw [kept, hx]; exact hq
  have four : ¬4 ≤ g.code := by rcases hg with rfl | rfl <;> decide
  have three : ¬3 ≤ g.code := by rcases hg with rfl | rfl <;> decide
  unfold State.ladderBack
  dsimp only
  simp only [unspill_shallow hg, four, three, and_false, if_false]
  exact exit_ends due wait queue _

/-! ### What an exit shows -/

/-- The head back at S0 from S1 or S2 (R626). -/
structure Returned (s t : State) (ns : Nat) : Prop where
  frame : t = { s with phase := .stable, ladder := .s0, dom := t.dom, cp := t.cp, regs := t.regs, tly := t.tly, lio := t.lio,
                       lad := t.lad, egr := t.egr }
  dom : ∀ d : Fin 76, t.dom[d] = if s.comesBack d then .on else s.dom[d]
  cp : t.cp = { s.cp with ladderResult := { result := 2 }, irqStatus := s.cp.irqStatus ||| 1 }
  exitNs : t.fld F.PWR_EXIT_NS = min ns 0xFFFFFFFF
  left : t.lad.left = []

theorem restarted_regs (s : State) (ns : Nat) : WritesRegs (· = F.PWR_EXIT_NS.addr) s (s.restarted .host ns) := by
  obtain ⟨x, hx⟩ := s.restarted_writes .host ns
  rw [hx]
  exact (WritesRegs.setFld (W := (· = F.PWR_EXIT_NS.addr)) s F.PWR_EXIT_NS _ rfl).trans (.of_regs_eq rfl)

theorem restarted_returned (hmem : s.memWf = true) (ns : Nat) : Returned s (s.restarted .host ns) ns := by
  obtain ⟨x, hx⟩ := s.restarted_writes .host ns
  have shown := s.fld_setFld F.PWR_EXIT_NS (min ns 0xFFFFFFFF) (regsWf_of_memWf hmem) (by decide)
  rw [hx]
  refine ⟨rfl, fun d => ?_, rfl, ?_, rfl⟩
  · simp [State.returned, State.reportLadder]
  · exact shown.trans (Nat.mod_eq_of_lt (show min ns 0xFFFFFFFF < 2 ^ 32 by omega))

theorem Returned.prsSettle {ns : Nat} (h : Returned s t ns) : Returned s t.prsSettle ns := by
  have settled := t.prsSettle_prsUpkeep
  have shown : t.prsSettle.fld F.PWR_EXIT_NS = t.fld F.PWR_EXIT_NS := settled.regs.fld (by unfold prsReg; decide)
  have frame := settled.frame
  rw [frame]
  refine ⟨?_, h.dom, h.cp, ?_, h.left⟩
  · rw [h.frame]
  · rw [← frame]
    exact shown.trans h.exitNs

/-! ### A failed wake and a failed resume -/

theorem modeRecord_rests (s : State) (dest : Mode) (who : Requester) (role now : Bool) : Rests s (s.modeRecord dest who role now) :=
  s.pushLog_rests 0x07 _

theorem coreLose_persists (s : State) : Persists s s.coreLose := ⟨rfl, rfl, rfl, rfl, rfl⟩

theorem wakeFail_shallow (hg : g = .s1 ∨ g = .s2) (hwait : s.lad.modeWait = false) : s.wakeFail g .host =
    { s with phase := .stable, ladder := g, cp := { s.cp with ladderResult := { result := 4, detail := 6 } } } := by
  unfold State.wakeFail
  rw [modeUnwoken_idle hwait]
  rcases hg with rfl | rfl <;> rfl

/-- An image that fails its check ends in BOOT: one start more, and the stores as they were (R44). -/
theorem resumeFail_boots (hwait : s.lad.modeWait = false) (htr : s.transit = none) (who : Requester) :
    ∃ u : State, s.resumeFail who = u.bootEntry ∧ u.log.boots = s.log.boots + 1 ∧ u.pending = s.pending ∧ u.flash = s.flash ∧
      u.otp = s.otp ∧ u.wear = s.wear := by
  have alone : s.supersede = s := by
    unfold State.supersede
    rw [htr]
  have lost := ((s.modeRecord_rests .boot .caused false false).toPersists.trans (reportLadder_persists _ who 6 0)).trans
    (coreLose_persists _)
  unfold State.resumeFail
  rw [modeUnwoken_idle hwait, alone]
  exact ⟨_, rfl, congrArg (· + 1) lost.boots, lost.pending, lost.flash, lost.otp, lost.wear⟩

end State

/-- Settles O20: a wake at rest starts the exit; a finished exit is the head back at S0, then EGRESS and the presence receiver start,
and nothing that was due remains; a wake that fails only answers; a resume that fails is an entry to BOOT. -/
theorem ladderWakesAndExits : Obligations.LadderWakesAndExits := by
  intro s g ns image dr hmem timed up
  have hwf := State.regsWf_of_memWf hmem
  refine ⟨fun hp hl hg ht => ?wakes, fun h => execWakeTimerExpiry_idle h, fun hp hg hup hwait hdue hq => ?back,
    fun hp hup => execLadderExitDone_waits hp ns image dr hup, fun hp hg hwait => ?fails, fun hp hg hup hwait htr => ?image⟩
  case wakes =>
    subst hl
    obtain ⟨htimer, hen⟩ := ht
    refine ⟨_, execWakeTimerExpiry_expires hp htimer, ?_⟩
    rw [State.wake_rest hp hg hen]
    have noted := s.fld_setFld F.PWR_WAKE_SRC (s.fld F.PWR_WAKE_SRC ||| 2 ^ 1) hwf (by decide)
    have fits : s.fld F.PWR_WAKE_SRC ||| 2 ^ 1 < 2 ^ 4 := Nat.or_lt_two_pow (s.fld_lt F.PWR_WAKE_SRC) (by decide)
    have regs := State.WritesRegs.setFld (W := (· = F.PWR_WAKE_SRC.addr)) s F.PWR_WAKE_SRC (s.fld F.PWR_WAKE_SRC ||| 2 ^ 1) rfl
    obtain ⟨v, u, hup⟩ := (s.wakeNoted 1 .caused).s5Up_writes
    refine ⟨?_, fun h => ?_, ?_, ?_⟩
    · rw [hup]
      rfl
    · rw [State.s5Up_empty (s := s.wakeNoted 1 .caused) h]
      exact ⟨rfl, rfl⟩
    · rw [hup]
      exact noted.trans (Nat.mod_eq_of_lt fits)
    · rw [hup]
      exact regs.but
  case back =>
    have four : ¬(4 ≤ g.code ∧ image = false) := by rcases hg with rfl | rfl <;> simp [Ladder.code]
    refine ⟨_, execLadderExitDone_back hp ns image dr hup four, ?_⟩
    rw [State.ladderBack_shallow hg hwait hdue hq]
    have back := (State.restarted_returned hmem ns).prsSettle
    have regs := s.restarted_regs ns
    obtain ⟨x, hx⟩ := s.restarted_writes .host ns
    refine ⟨back.frame, fun d => ?_, back.cp, back.exitNs, back.left, fun hen hrun => ?_⟩
    · rw [back.dom d]
      simp [State.comesBack]
    · have lio : (s.restarted .host ns).lio = s.lio := by rw [hx]; rfl
      have off : (s.restarted .host ns).bit F.PRS_CFG_EN = false := by
        unfold State.bit at hen ⊢
        rw [regs.fld (by decide)]
        exact hen
      rw [State.prsSettle_off off (by rw [lio]; exact hrun)]
      exact ⟨lio, regs.but⟩
  case fails =>
    rw [← State.wakeFail_shallow hg hwait]
    exact execLadderExitDone_fails hp ns image dr
  case image =>
    have four : 4 ≤ g.code := by rcases hg with rfl | rfl <;> decide
    obtain ⟨u, hboot, boots, pending, flash, otp, wear⟩ := State.resumeFail_boots hwait htr .host
    refine ⟨_, execLadderExitDone_image hp ns dr hup four, ?_⟩
    rw [hboot]
    have entered := u.bootEntry_entered
    exact ⟨entered.mode, entered.ladder, entered.phase, entered.transit, entered.attempt, entered.boots.trans boots,
      entered.flash.trans flash, entered.otp.trans otp, entered.wear.trans wear, entered.pending.trans pending⟩

end Sys2Proof.Machine
end

section
/-! SUPPORT. The host session (R72 to R74, R348): a holder reset breaks the pegs of its owner and posts PEG events, and around it
the end of a session changes the control port and the log. -/

namespace Sys2Proof.Machine
open Sys2Proof.Spec

variable {s t u : State}

/-- A peg after a holder reset (R348). -/
def Peg.broken (x : Peg) : Peg := { st := .broken, owner := none, epoch := x.epoch + 1 }

/-- Between two states the pegs of a list break; events are posted, which may wake the device, and records are logged. -/
structure State.PegsBreak (l : List (Fin 32)) (s t : State) : Prop where
  frame : t = { s with
    cp := { s.cp with ladderResult := t.cp.ladderResult }, regs := t.regs, pegs := t.pegs, taskSt := t.taskSt, phase := t.phase
    sup := t.sup, joistLadderResult := t.joistLadderResult, rails := t.rails, log := t.log }
  pegs : ∀ p : Fin 32, t.pegs[p] = if p ∈ l then s.pegs[p].broken else s.pegs[p]

namespace State

/-! ### Events and records -/

theorem PegsBreak.of_pegs_eq (hframe : t = { s with
    cp := { s.cp with ladderResult := t.cp.ladderResult }, regs := t.regs, pegs := t.pegs, taskSt := t.taskSt, phase := t.phase
    sup := t.sup, joistLadderResult := t.joistLadderResult, rails := t.rails, log := t.log }) (h : t.pegs = s.pegs) :
    PegsBreak [] s t := ⟨hframe, fun p => by rw [h, if_neg List.not_mem_nil]⟩

theorem PegsBreak.refl (s : State) : PegsBreak [] s s := .of_pegs_eq rfl rfl

/-- Pegs that break one after another, none of them twice. -/
theorem PegsBreak.trans {l m : List (Fin 32)} (h : PegsBreak l s t) (k : PegsBreak m t u) (apart : ∀ p ∈ m, p ∉ l) :
    PegsBreak (l ++ m) s u where
  frame := k.frame.trans (by rw [h.frame])
  pegs p := by
    rw [k.pegs, h.pegs]
    by_cases hm : p ∈ m
    · simp [hm, apart p hm]
    · simp [hm]

theorem PegsBreak.trans_quiet {l : List (Fin 32)} (h : PegsBreak l s t) (k : PegsBreak [] t u) : PegsBreak l s u := by
  simpa using h.trans k (by simp)

theorem PegsBreak.quiet_foldl {α : Type} {f : State → α → State} (h : ∀ s a, PegsBreak [] s (f s a)) (l : List α) (s : State) :
    PegsBreak [] s (l.foldl f s) := by
  induction l generalizing s with
  | nil => exact .refl s
  | cons a l ih => exact (h s a).trans_quiet (ih _)

theorem s5Up_pegsBreak (s : State) : PegsBreak [] s s.s5Up := by
  obtain ⟨v, u, h⟩ := s.s5Up_writes
  rw [h]
  exact .of_pegs_eq rfl rfl

/-- Of the control port, a wake answers only a ladder request. -/
theorem wake_pegsBreak (s : State) (src : Nat) (who : Requester) : PegsBreak [] s (s.wake src who) := by
  unfold State.wake
  split
  · dsimp only
    split
    case h_1 r _ =>
      refine PegsBreak.trans_quiet ?_ (s5Up_pegsBreak _)
      cases r <;> exact .of_pegs_eq rfl rfl
    case h_2 =>
      refine PegsBreak.trans_quiet ?_ (s5Up_pegsBreak _)
      exact .of_pegs_eq rfl rfl
  · exact .refl s

theorem setEvent_pegsBreak (s : State) (n : Fin 8) (bit : Nat) : PegsBreak [] s (s.setEvent n bit) := by
  unfold State.setEvent
  split
  · dsimp only
    split
    · split
      · refine PegsBreak.trans_quiet ?_ (wake_pegsBreak _ 3 .caused)
        exact .of_pegs_eq rfl rfl
      · exact .of_pegs_eq rfl rfl
    · exact .of_pegs_eq rfl rfl
  · exact .refl s

theorem pegEvent_pegsBreak (s : State) (p : Fin 32) : PegsBreak [] s (s.pegEvent p) := by
  refine PegsBreak.quiet_foldl (fun s n => ?_) _ s
  split
  · exact s.setEvent_pegsBreak n 6
  · exact .refl s

theorem pushLog_pegsBreak (s : State) (typ : Nat) (p : List Byte) : PegsBreak [] s (s.pushLog typ p) := by
  obtain ⟨l, h⟩ := s.pushLog_writes typ p
  rw [h]
  exact .of_pegs_eq rfl rfl

/-! ### A holder reset -/

theorem pegBreak_pegsBreak (s : State) (p : Fin 32) : PegsBreak [p] s (s.pegBreak p) := by
  have set : PegsBreak [p] s ((s.setPeg p s.pegs[p].broken).inc F.SEQ_PEG_BREAK_CNT) := by
    refine ⟨rfl, fun q => ?_⟩
    show (s.pegs.set p s.pegs[p].broken)[q] = _
    by_cases hq : q = p
    · subst hq
      simp
    · have apart : p.val ≠ q.val := fun e => hq (Fin.ext e.symm)
      simp [hq, apart]
  exact set.trans_quiet (pegEvent_pegsBreak _ p)

theorem pegBreak_foldl_pegsBreak {l : List (Fin 32)} (once : l.Nodup) (s : State) :
    PegsBreak l s (l.foldl (fun s p => s.pegBreak p) s) := by
  induction l generalizing s with
  | nil => exact .refl s
  | cons p l ih =>
    obtain ⟨hp, hl⟩ := List.nodup_cons.mp once
    exact (s.pegBreak_pegsBreak p).trans (ih hl _) fun q hq hqp => hp (List.mem_singleton.mp hqp ▸ hq)

theorem holderReset_pegsBreak (s : State) (o : PegOwner) (cause abortCause : Nat) :
    PegsBreak (s.pegsOf o) s (s.holderReset o cause abortCause) := by
  have once : (s.pegsOf o).Nodup := (List.nodup_finRange 32).filter _
  have broken := pegBreak_foldl_pegsBreak once s
  unfold State.holderReset
  dsimp only
  split
  next hnone => exact hnone ▸ .refl s
  next => exact broken.trans_quiet (pushLog_pegsBreak _ _ _)

theorem mem_pegsOf {o : PegOwner} {p : Fin 32} : p ∈ s.pegsOf o ↔ s.pegs[p].owner = some o := by
  simp [State.pegsOf]

/-! ### The end of a session -/

theorem audit_writes (s : State) (kind what : Nat) (level : Level) (res left : Nat) (key : Byte) (value epoch : Nat) :
    ∃ l, s.audit kind what level res left key value epoch = { s with log := l } := s.pushLog_writes 0x0B _

/-- The control port of a session that has ended (R74). -/
def sessionOver (s : State) (expired : Bool) : ControlPort :=
  { s.cp with sess := { s.cp.sess with active := false, level := .field, expired := expired }
              svcKey := 0xFF, svcChal := [], svcResp := [] }

/-- An active session ends with an AUDIT record where its level was raised, and HOST's pegs break. -/
theorem sessEnd_active (h : s.cp.sess.active = true) (expired : Bool) : ∃ l, s.sessEnd expired =
    (State.holderReset { s with cp := s.sessionOver expired, log := l } .host 2 0).irq 3 := by
  unfold State.sessEnd State.lowerTo
  rw [if_pos h]
  dsimp only
  split
  · obtain ⟨l, hl⟩ := s.audit_writes 4 (levelCode .field) s.cp.sess.level 0 0xFF s.cp.svcKey 0 s.cp.sess.epoch.toNat
    rw [hl]
    exact ⟨l, rfl⟩
  · exact ⟨s.log, rfl⟩

end State

/-- Settles O14: a session that ends is a holder reset of HOST between changes of the control port and the log. -/
theorem sessionsOpenAndEnd : Obligations.SessionsOpenAndEnd := by
  intro s hmode
  refine ⟨fun hs => ?opens, fun hs => ?goesOn, if_neg hmode, fun hs => ?ends⟩
  case opens =>
    refine (if_neg hmode).trans (congrArg _ ?_)
    exact if_neg (Bool.eq_false_iff.mp hs)
  case goesOn => exact (if_neg hmode).trans (congrArg _ (if_pos hs))
  case ends =>
    intro ended
    have ends (x : Bool) : ended x (s.sessEnd x) := by
      obtain ⟨l, hl⟩ := State.sessEnd_active hs x
      have reset := State.holderReset_pegsBreak { s with cp := s.sessionOver x, log := l } .host 2 0
      have pegs := reset.pegs
      rw [hl]
      refine ⟨?_, ?_, ?_, ?_, ?_, fun p => ?_⟩
      · rw [reset.frame]; rfl
      · rw [reset.frame]; rfl
      · rw [reset.frame]; rfl
      · rw [reset.frame]; rfl
      · rw [reset.frame]; rfl
      · exact (pegs p).trans (by simp only [State.mem_pegsOf, Peg.broken])
    exact ⟨⟨_, if_neg hmode, ends false⟩, ⟨_, rfl, ends true⟩⟩

end Sys2Proof.Machine
end

section
/-! SUPPORT. The doorbell (R77) and control-port transfers (R57 to R71, R86, R87): a transfer that writes one byte commits that byte
alone, and one whose CRC fails commits none. -/

namespace Sys2Proof.Machine

variable {s : State}

/-! ### The doorbell -/

theorem State.writeDoorbell_read (h : s.cp.doorbellRead = true) (v : Byte) : s.writeDoorbell v = { s with cp := { s.cp with
    doorbell := v, doorbellRead := false, irqStatus := s.cp.irqStatus ||| 0x80 } } := by
  unfold State.writeDoorbell
  rw [if_pos h]
  rfl

/-- A code that replaces one not read sets DB_OVER. -/
theorem State.writeDoorbell_unread (h : s.cp.doorbellRead = false) (hclear : s.cp.cpErr.getLsbD 3 = false) (v : Byte) :
    s.writeDoorbell v = { s with cp := { s.cp with
      doorbell := v, doorbellRead := false, cpErr := s.cp.cpErr ||| 8, irqStatus := s.cp.irqStatus ||| 0x180 } } := by
  have newly : s.cp.cpErr &&& 8 = 0 := by
    revert hclear
    generalize s.cp.cpErr = e
    revert e
    decide
  have error : s.cpError 3 = State.irq { s with cp := { s.cp with cpErr := s.cp.cpErr ||| 8 } } 8 := if_pos newly
  have both : s.cp.irqStatus ||| 0x100 ||| 0x80 = s.cp.irqStatus ||| 0x180 := BitVec.or_assoc _ _ _
  unfold State.writeDoorbell
  rw [if_neg (Bool.eq_false_iff.mp h), error, ← both]
  rfl

/-- DOORBELL_CODE is a byte of its own on page 0. -/
theorem State.cpReadByte_doorbell (s : State) : s.cpReadByte 0 0x13 true =
    (s.cp.doorbell, { s with cp := { s.cp with doorbell := 0, doorbellRead := true } }) := by
  have byte : byteOf s.cp.doorbell.toNat 0 = s.cp.doorbell := by simp [byteOf]
  have peek : s.cpPeek 0 0x13 = (s.cp.doorbell, s) := congrArg (Prod.mk · s) byte
  unfold State.cpReadByte
  rw [peek]
  rfl

/-! ### Transfers -/

/-- One staged byte is found at its own address. -/
theorem flatMap_range_single {α : Type} (a : Nat) (w : α) (n : Nat) :
    ((List.range n).flatMap fun x => if a == x then [w] else []) = if a < n then [w] else [] := by
  induction n with
  | zero => rfl
  | succ n ih =>
    rw [List.range_succ, List.flatMap_append, ih, List.flatMap_singleton]
    rcases Nat.lt_trichotomy a n with h | h | h
    · simp [h, Nat.ne_of_lt h, Nat.lt_succ_of_lt h]
    · simp [h]
    · simp [Nat.lt_asymm h, Nat.ne_of_gt h, Nat.not_lt.mpr h]

theorem State.cpCommit_single (s : State) (p : Nat) {a : Nat} (ha : a < 128) (v : Byte) :
    s.cpCommit p [(a, v)] = s.cpWriteByte p a v := by
  have found := flatMap_range_single a (a, v) 128
  rw [if_pos ha] at found
  unfold State.cpCommit
  simp only [List.filter_cons, List.filter_nil]
  rw [found]
  rfl

theorem cpAddrs_single (fixed : Bool) {a : Nat} (ha : a < 128) : cpAddrs fixed a 1 = [a] := by
  cases fixed
  · simp [cpAddrs, Nat.mod_eq_of_lt ha]
  · rfl

section
variable {cmd : Byte} (hmode : s.mode ≠ .unpowered) (hw : cmd.getLsbD 7 = true)
include hmode hw

/-- A transfer that writes one byte, with CRC_EN clear (R57, R61). -/
theorem execCpTransfer_writes {p a : Nat} {v : Byte} {t : State} (hcrc : s.cp.crcEn = false) (hp : s.cp.page.toNat = p)
    (ha : cmd.toNat % 128 = a) (hcommit : s.cpWriteByte p a v = t) :
    exec (.cpTransfer [cmd, v] false) s = .next (t.setSdo [BitVec.ofNat 8 s.viewStatus, 0]) := by
  have low : a < 128 := ha ▸ Nat.mod_lt _ (by decide)
  have committed := (s.cpCommit_single p low v).trans hcommit
  refine (if_neg hmode).trans (congrArg _ ?_)
  unfold State.cpTransfer State.cpPlain
  simp only [hcrc, hw, hp, ha, List.length_singleton, cpAddrs_single _ low, List.zip_cons_cons, List.zip_nil_right, committed]
  rfl

/-- A write of one byte whose CRC fails, with CRC_EN set (R58, R87). -/
theorem execCpTransfer_badCrc (hcrc : s.cp.crcEn = true) {v c : Byte} (hbad : crc8 [cmd, 0, v] ≠ c) :
    exec (.cpTransfer [cmd, 0, v, c] false) s = .next ((s.cpError 0).setSdo [BitVec.ofNat 8 s.viewStatus, 0, 0, 0]) := by
  refine (if_neg hmode).trans (congrArg _ ?_)
  unfold State.cpTransfer State.cpCrc
  simp only [hcrc, hw, if_true]
  exact if_pos hbad

end

/-! ### Bytes written -/

theorem State.cpWriteByte_page (s : State) (p : Nat) (v : Byte) :
    s.cpWriteByte p 0x7F v = { s with cp := { s.cp with page := v.truncate 2 } } := rfl

/-- SESS_TMO takes every value but 0 (R73). -/
theorem State.cpWriteByte_tmo (s : State) {v : Byte} (hv : v ≠ 0) :
    s.cpWriteByte 0 0x11 v = { s with cp := { s.cp with sess := { s.cp.sess with tmo := v } } } := if_neg hv

/-- A register of page 2 is not written without a session (R71). -/
theorem State.cpWriteByte_noSession {p a : Nat} (hp : p ≠ 0) (ha : a ≠ 0x7F) (hreg : pageHolds p a = true)
    (hs : s.cp.sess.active = false) (v : Byte) : s.cpWriteByte p a v = s.cpError 2 := by
  unfold State.cpWriteByte
  rw [if_neg ha, if_neg hp, hreg, hs]
  rfl

/-- Settles O15: each transfer is the write of one byte, or ends without one. -/
theorem transfersAndTheDoorbell : Obligations.TransfersAndTheDoorbell := by
  refine ⟨fun s v hmode => ⟨fun hread => ?placed, fun hunread hclear => ?replaced, ?read⟩,
    fun s v c hmode => ⟨if_neg hmode, if_neg hmode, fun hcrc => ?page, fun hcrc hpage hv => ?tmo, fun hcrc hpage hs => ?refused,
      fun hcrc hbad => execCpTransfer_badCrc hmode rfl hcrc hbad⟩⟩
  case placed => exact (if_neg hmode).trans (congrArg _ (State.writeDoorbell_read hread v))
  case replaced => exact (if_neg hmode).trans (congrArg _ (State.writeDoorbell_unread hunread hclear v))
  case read =>
    refine (if_neg hmode).trans (congrArg _ ?_)
    rw [State.cpReadByte_doorbell]
  case page => exact execCpTransfer_writes (cmd := 0xFF) hmode rfl hcrc rfl rfl (s.cpWriteByte_page _ v)
  case tmo => exact execCpTransfer_writes (cmd := 0x91) hmode rfl hcrc (congrArg _ hpage) rfl (s.cpWriteByte_tmo hv)
  case refused =>
    have ignored := State.cpWriteByte_noSession (p := 2) (a := 5) (by decide) (by decide) rfl hs v
    exact execCpTransfer_writes (cmd := 0x85) hmode rfl hcrc (congrArg _ hpage) rfl ignored

end Sys2Proof.Machine
end

section
/-! SUPPORT. The page 2 window (R66, R68, R75, R78 to R84): the staging copy of WIN_DATA, how an access starts or ends at once, and
what a response leaves. -/

namespace Sys2Proof.Machine
open Sys2Proof.Spec

variable {s : State}

/-! ### Staging copies -/

section
variable {α : Type} {j k : Nat}

theorem Assoc.lookup_set_same (l : List (Nat × α)) (k : Nat) (v : α) : (Assoc.set l k v).lookup k = some v := by
  induction l with
  | nil => simp [Assoc.set]
  | cons p l ih =>
    obtain ⟨j, w⟩ := p
    unfold Assoc.set
    split
    · exact List.lookup_cons_self
    · split
      · exact List.lookup_cons_self
      next h => rw [List.lookup_cons, beq_eq_false_iff_ne.mpr h]; exact ih

theorem Assoc.lookup_set_other (l : List (Nat × α)) (v : α) (h : j ≠ k) : (Assoc.set l k v).lookup j = l.lookup j := by
  have apart : (j == k) = false := beq_eq_false_iff_ne.mpr h
  induction l with
  | nil => simp [Assoc.set, List.lookup_cons, apart]
  | cons p l ih =>
    obtain ⟨i, w⟩ := p
    unfold Assoc.set
    split
    · simp [List.lookup_cons, apart]
    · split
      next hki => simp [List.lookup_cons, apart, ← hki]
      next => simp only [List.lookup_cons, ih]

theorem Assoc.lookup_setMany_below (vs : List α) (l : List (Nat × α)) (h : j < k) :
    (Assoc.setMany l k vs).lookup j = l.lookup j := by
  induction vs generalizing l k with
  | nil => rfl
  | cons v vs ih => exact (ih _ (Nat.lt_succ_of_lt h)).trans (Assoc.lookup_set_other l v (Nat.ne_of_lt h))

/-- A key among the consecutive ones that were set. -/
theorem Assoc.lookup_setMany (vs : List α) (l : List (Nat × α)) (k : Nat) {i : Nat} (h : i < vs.length) :
    (Assoc.setMany l k vs).lookup (k + i) = some vs[i] := by
  induction vs generalizing l k i with
  | nil => exact absurd h (Nat.not_lt_zero i)
  | cons v vs ih =>
    cases i with
    | zero => exact (Assoc.lookup_setMany_below vs _ (Nat.lt_succ_self k)).trans (Assoc.lookup_set_same l k v)
    | succ i =>
      have shifted : k + (i + 1) = k + 1 + i := by omega
      rw [shifted]
      exact ih (Assoc.set l k v) (k + 1) (Nat.lt_of_succ_lt_succ h)

end

/-- The bytes of a number give back the number, as far as they go. -/
theorem ofLeBytes_map_byteOf (v n : Nat) : ofLeBytes ((List.range n).map fun i => byteOf v i) = v % 256 ^ n := by
  induction n generalizing v with
  | zero => simp [ofLeBytes, Nat.mod_one]
  | succ n ih =>
    have higher (i : Nat) : byteOf v (i + 1) = byteOf (v / 256) i := by
      unfold byteOf
      rw [Nat.div_div_eq_div_mul, Nat.pow_succ, Nat.mul_comm]
    rw [List.range_succ_eq_map, List.map_cons, List.map_map]
    simp only [Function.comp_def, Nat.succ_eq_add_one, higher]
    rw [ofLeBytes, ih, Nat.pow_succ, Nat.mul_comm (256 ^ n), Nat.mod_mul]
    simp [byteOf]

/-- A staging copy holds the value of a commit (R68). -/
theorem State.stageCopy_restage (s : State) (p base len v : Nat) : (s.restage p base len v).stageCopy p base len = v % 256 ^ len := by
  rw [← ofLeBytes_map_byteOf]
  refine congrArg ofLeBytes (List.map_congr_left fun i hi => ?_)
  have found := Assoc.lookup_setMany ((List.range len).map fun i => byteOf v i) s.cp.staged (p * 128 + base) (i := i)
    (by simpa using hi)
  have staged : (s.restage p base len v).cp.staged.lookup (p * 128 + base + i) = some (byteOf v i) := found.trans (by simp)
  rw [staged]
  rfl

theorem State.winStaged_restage (s : State) (d : Word) : (s.restage 2 8 4 d.toNat).winStaged = d := by
  have fits : d.toNat < 256 ^ 4 := d.isLt
  unfold State.winStaged
  rw [State.stageCopy_restage, Nat.mod_eq_of_lt fits, BitVec.ofNat_toNat, BitVec.setWidth_eq]

theorem State.winEnd_writes (s : State) (code : RespCode) : s.winEnd code = { s with cp := { s.cp with
    win := { s.cp.win with busy := false, done := true, code := BitVec.ofNat 3 (respCode code) }
    irqStatus := s.cp.irqStatus ||| 4 } } := rfl

/-! ### Starts (R66, R75, R78 to R80, R83) -/

/-- The modes and the ladder states in which the rings run for the window (R66). -/
def State.ringsReach (s : State) : Prop := s.mode ≠ .supervise ∧ s.ladder ≠ .s5

/-- The window of an access that GO has started. -/
def Window.started (w : Window) : Window :=
  { w with done := false, busy := true, fDir := w.dir, fSize := w.size, fAuto := w.autoinc, addrHit := false }

/-- The window of an access that GO has ended at once. -/
def Window.endedAtGo (w : Window) (code : BitVec 3) (align : Bool) : Window := { w with done := true, code := code, align := align }

/-- Between two states one request of the window, with its data, has gone to CTRL's front-end bridge, and the window is as given. -/
structure State.WinSent (s : State) (w : Window) (dat : Word) (t : State) : Prop where
  frame : t = { s with cp := t.cp, ni := t.ni }
  win : t.cp.win = w
  length : t.ni[(0 : Fin 16)].bridge.length = s.ni[(0 : Fin 16)].bridge.length + 1
  last : ∃ q, q ∈ t.ni[(0 : Fin 16)].bridge.getLast? ∧ q.dst = Fin.ofNat 16 (w.addr.toNat / 2 ^ 32) ∧
    q.off = w.addr.toNat % 2 ^ 32 ∧ q.len = winBytes w.size ∧ q.level = s.cp.sess.level ∧ q.client = .window ∧
    q.kind = (if w.dir then .write else .read) ∧ q.data = (if w.dir then leBytes dat.toNat (winBytes w.size) else [])

namespace State

@[simp] theorem setWin_setWin (s : State) (w x : Window) : (s.setWin w).setWin x = s.setWin x := rfl

theorem winStart_busy (h : s.cp.win.busy = true) : s.winStart = s.setWin { s.cp.win with overrun := true } := if_pos h

section
variable (hidle : s.cp.win.busy = false)
include hidle

/-- The window and IRQ_STATUS of an access that ends at once. -/
theorem winEnd_atGo (align : Bool) (code : RespCode) :
    (s.setWin { s.cp.win with done := false, align := align }).winEnd code =
      (s.setWin (s.cp.win.endedAtGo (BitVec.ofNat 3 (respCode code)) align)).irq 2 := by
  have idle : { s.cp.win with busy := false } = s.cp.win := by rw [← hidle]
  exact congrArg (fun w : Window => (s.setWin (w.endedAtGo (BitVec.ofNat 3 (respCode code)) align)).irq 2) idle

theorem winStart_unreached (h : ¬s.ringsReach) : s.winStart = (s.setWin (s.cp.win.endedAtGo 2 s.cp.win.align)).irq 2 := by
  have off : s.mode = .supervise ∨ s.ladder = .s5 := by simpa [ringsReach, imp_iff_not_or] using h
  unfold State.winStart
  rw [if_neg (Bool.eq_false_iff.mp hidle), if_pos off]
  exact winEnd_atGo hidle s.cp.win.align .poweredDown

variable (hreach : s.ringsReach)
include hreach

theorem winStart_reserved (h : s.cp.win.size = 3) : s.winStart = (s.setWin (s.cp.win.endedAtGo 3 s.cp.win.align)).irq 2 := by
  unfold State.winStart
  rw [if_neg (Bool.eq_false_iff.mp hidle), if_neg (not_or.mpr hreach), if_pos h]
  exact winEnd_atGo hidle s.cp.win.align .decode

variable (hsize : s.cp.win.size ≠ 3)
include hsize

theorem winStart_misaligned (h : s.cp.win.addr.toNat % winBytes s.cp.win.size ≠ 0) :
    s.winStart = (s.setWin (s.cp.win.endedAtGo 3 true)).irq 2 := by
  unfold State.winStart
  rw [if_neg (Bool.eq_false_iff.mp hidle), if_neg (not_or.mpr hreach), if_neg hsize, if_pos h]
  exact winEnd_atGo hidle true .decode

theorem winStart_aligned (h : s.cp.win.addr.toNat % winBytes s.cp.win.size = 0) :
    s.winStart = (s.setWin s.cp.win.started).bridgePush 0 [s.winReq] := by
  unfold State.winStart
  rw [if_neg (Bool.eq_false_iff.mp hidle), if_neg (not_or.mpr hreach), if_neg hsize, if_neg (not_not_intro h)]
  rfl

/-- An access that starts is one request (R75, R78, R80). -/
theorem winStart_sent (h : s.cp.win.addr.toNat % winBytes s.cp.win.size = 0) :
    s.WinSent s.cp.win.started s.winStaged s.winStart := by
  have bridge : s.winStart.ni[(0 : Fin 16)].bridge = s.ni[(0 : Fin 16)].bridge ++ [s.winReq] := by
    rw [winStart_aligned hidle hreach hsize h]
    simp [State.bridgePush, State.setWin]
  refine ⟨?_, ?_, ?_, s.winReq, ?_, rfl, rfl, rfl, rfl, rfl, rfl, rfl⟩
  · rw [winStart_aligned hidle hreach hsize h]; rfl
  · rw [winStart_aligned hidle hreach hsize h]; rfl
  · rw [bridge, List.length_append, List.length_singleton]
  · rw [bridge, List.getLast?_concat]; rfl

end

/-- What the access reads and what it may write, through a change of the control port before it. -/
theorem WinSent.of_cp {c : ControlPort} {w : Window} {dat : Word} {t : State} (h : WinSent { s with cp := c } w dat t)
    (hlevel : c.sess.level = s.cp.sess.level) : WinSent s w dat t := by
  obtain ⟨q, hq, hdst, hoff, hlen, hl, rest⟩ := h.last
  exact ⟨h.frame, h.win, h.length, q, hq, hdst, hoff, hlen, hl.trans hlevel, rest⟩

/-- A read sends no data. -/
theorem WinSent.of_read {w : Window} {dat : Word} {t : State} (h : WinSent s w dat t) (hdir : w.dir = false) (dat' : Word) :
    WinSent s w dat' t := by
  obtain ⟨hframe, hwin, hlength, hlast⟩ := h
  refine ⟨hframe, hwin, hlength, ?_⟩
  simpa only [hdir, Bool.false_eq_true, if_false] using hlast

/-! ### Stream triggers (R82) -/

theorem writeWinData_streams (hstream : s.cp.win.stream = true) (hdir : s.cp.win.dir = true) (d : Word) :
    s.writeWinData d = (s.setWin { s.cp.win with data := d }).winStart := if_pos (Bool.and_eq_true_iff.mpr ⟨hstream, hdir⟩)

theorem writeWinData_plain (h : s.cp.win.stream = false ∨ s.cp.win.dir = false) (d : Word) :
    s.writeWinData d = s.setWin { s.cp.win with data := d } :=
  if_neg (Bool.eq_false_iff.mp (Bool.and_eq_false_iff.mpr h))

theorem winStreamRead_streams (hstream : s.cp.win.stream = true) (hdir : s.cp.win.dir = false) : s.winStreamRead = s.winStart := by
  unfold State.winStreamRead
  rw [hstream, hdir]
  rfl

theorem winStreamRead_plain (h : s.cp.win.stream = false ∨ s.cp.win.dir = true) : s.winStreamRead = s := by
  unfold State.winStreamRead
  rcases h with h | h <;> simp [h]

end State

/-! ### The commands -/

/-- The settings of a write of WIN_CTRL. -/
def Window.control (w : Window) (v : Byte) : Window :=
  { w with dir := v.getLsbD 1, size := v.extractLsb' 2 2, autoinc := v.getLsbD 4, wait := v.getLsbD 5, stream := v.getLsbD 6 }

theorem State.writeWinCtrl_go (s : State) (v : Byte) : s.writeWinCtrl (v ||| 1) = (s.setWin (s.cp.win.control v)).winStart := by
  have size : (v ||| 1).extractLsb' 2 2 = v.extractLsb' 2 2 := by
    have zero : (1 : Byte).extractLsb' 2 2 = 0 := by decide
    rw [BitVec.extractLsb'_or, zero]
    exact BitVec.or_zero
  unfold State.writeWinCtrl Window.control
  simp only [size, BitVec.getLsbD_or]
  simp

section
variable (hmode : s.mode ≠ .unpowered)
include hmode

theorem execWinGo_noSession (hs : s.cp.sess.active = false) (v : Byte) : exec (.winGo v) s = .next (s.cpError 2) :=
  (if_neg hmode).trans (if_pos (by rw [hs]; rfl))

theorem execWinStreamWrite_noSession (hs : s.cp.sess.active = false) (d : Word) :
    exec (.winStreamWrite d) s = .next (s.cpError 2) := (if_neg hmode).trans (if_pos (by rw [hs]; rfl))

theorem execWinGo_session (hs : s.cp.sess.active = true) (v : Byte) :
    exec (.winGo v) s = .next (s.setWin (s.cp.win.control v)).winStart := by
  refine ((if_neg hmode).trans (if_neg (by rw [hs]; decide))).trans ?_
  rw [State.writeWinCtrl_go]

theorem execWinStreamWrite_session (hs : s.cp.sess.active = true) (d : Word) :
    exec (.winStreamWrite d) s = .next ((s.restage 2 8 4 d.toNat).writeWinData d) :=
  (if_neg hmode).trans (if_neg (by rw [hs]; decide))

end

/-! ### The response (R81, R84) -/

section
variable {w : Window} {r : RingResp}

theorem Window.dataAfter_read (hdir : w.fDir = false) (hok : r.code = .ok) :
    w.dataAfter r = BitVec.ofNat 32 (ofLeBytes (r.data.take (winBytes w.fSize))) := by
  simp [Window.dataAfter, hdir, hok]

theorem Window.dataAfter_failed (hdir : w.fDir = false) (hok : r.code ≠ .ok) (htag : r.code ≠ .refusedNotag) :
    w.dataAfter r = 0 := by
  simp [Window.dataAfter, hdir, hok, htag]

theorem Window.dataAfter_kept (h : w.fDir = true ∨ r.code = .refusedNotag) : w.dataAfter r = w.data := by
  unfold Window.dataAfter
  exact if_pos (by simpa using h)

theorem Window.addrAfter_advances (hauto : w.fAuto = true) (hhit : w.addrHit = false) (hok : r.code = .ok) :
    w.addrAfter r = BitVec.ofNat 36 (w.addr.toNat / 2 ^ 32 * 2 ^ 32 + (w.addr.toNat + winBytes w.fSize) % 2 ^ 32) := by
  unfold Window.addrAfter
  exact if_pos (by simp [hauto, hhit, hok])

theorem Window.addrAfter_stays (h : w.fAuto = false ∨ w.addrHit = true ∨ r.code ≠ .ok) : w.addrAfter r = w.addr := by
  unfold Window.addrAfter
  refine if_neg ?_
  rcases h with h | h | h <;> simp [h]

end

/-- The window after an access in flight has its response. -/
def Window.answered (w : Window) (r : RingResp) : Window :=
  { w with data := w.dataAfter r, addr := w.addrAfter r, busy := false, done := true, code := BitVec.ofNat 3 (respCode r.code) }

theorem State.winAnswer_busy (h : s.cp.win.busy = true) (r : RingResp) : s.winAnswer r =
    { s with cp := { s.cp with win := s.cp.win.answered r, irqStatus := s.cp.irqStatus ||| 4 } } := by
  unfold State.winAnswer
  dsimp only
  rw [h, State.setWin_writes, State.winEnd_writes]
  rfl

/-- CTRL's NI after the window's oldest response has left it. -/
def Ni.responseTaken (x : Ni) : Ni := { x with inbox := x.inbox.eraseP fun p => p.1.client.isWindow }

/-- The window's oldest response ends the access in flight. -/
theorem execWinComplete_answers {q : RingReq} {r : RingResp}
    (hfind : s.ni[0].inbox.find? (fun p => p.1.client.isWindow) = some (q, r)) (hbusy : s.cp.win.busy = true) :
    exec .winComplete s = .next { s with ni := s.ni.set 0 s.ni[0].responseTaken
                                         cp := { s.cp with win := s.cp.win.answered r, irqStatus := s.cp.irqStatus ||| 4 } } := by
  show execWinComplete s = _
  unfold execWinComplete
  dsimp only
  rw [hfind]
  exact congrArg _ (State.winAnswer_busy (s := s.setNi 0 s.ni[0].responseTaken) hbusy r)

/-- Settles O16: a GO is the one of five starts that its hypotheses name, a stream trigger is a start too, and the response ends the
access. -/
theorem windowAccessesStartAndComplete : Obligations.WindowAccessesStartAndComplete := by
  refine ⟨fun s v d hmode => ?starts, fun s q r hfind hbusy => ?completes⟩
  case starts =>
    intro w size w1 a reach go sent ends
    have ended {code : BitVec 3} {al : Bool} (hs : s.cp.sess.active = true)
        (h : (s.setWin w1).winStart = ((s.setWin w1).setWin (w1.endedAtGo code al)).irq 2) :
        runs (.winGo v) s (ends w1 code al) := by
      rw [State.setWin_setWin] at h
      exact ⟨_, execWinGo_session hmode hs v, h ▸ ⟨rfl, rfl, rfl⟩⟩
    refine ⟨fun hs => ⟨execWinGo_noSession hmode hs v, execWinStreamWrite_noSession hmode hs d⟩,
      fun hs hreach hidle hsize hal => ?goes,
      fun hs hreach hidle hsize hal => ended hs (State.winStart_misaligned (s := s.setWin w1) hidle hreach hsize hal),
      fun hs hreach hidle hsize => ended hs (State.winStart_reserved (s := s.setWin w1) hidle hreach hsize),
      fun hs hreach hidle => ended hs (State.winStart_unreached (s := s.setWin w1) hidle hreach), fun hs hbusy => ?overruns,
      fun hs hstream hdir hreach hidle hsize hal => ?streamsOut, fun hs hplain => ?stores,
      fun hstream hdir hreach hidle hsize hal => ?streamsIn, fun hplain => ?reads⟩
    case goes =>
      obtain ⟨hframe, hwin, hlen, hlast⟩ := (State.winStart_sent (s := s.setWin w1) hidle hreach hsize hal).of_cp rfl
      exact ⟨_, execWinGo_session hmode hs v, hframe, hwin, hlen, hlast⟩
    case overruns =>
      exact (execWinGo_session hmode hs v).trans (congrArg _ (State.winStart_busy (s := s.setWin w1) hbusy))
    case streamsOut =>
      have started := State.winStart_sent (s := (s.restage 2 8 4 d.toNat).setWin { w with data := d }) hidle hreach hsize hal
      have staged : ((s.restage 2 8 4 d.toNat).setWin { w with data := d }).winStaged = d := s.winStaged_restage d
      rw [staged] at started
      obtain ⟨hframe, hwin, hlen, hlast⟩ := started.of_cp rfl
      refine ⟨_, execWinStreamWrite_session hmode hs d, ?_⟩
      rw [State.writeWinData_streams (s := s.restage 2 8 4 d.toNat) hstream hdir]
      exact ⟨hframe, hwin, hlen, hlast⟩
    case stores =>
      refine ⟨_, execWinStreamWrite_session hmode hs d, ?_⟩
      rw [State.writeWinData_plain (s := s.restage 2 8 4 d.toNat) hplain]
      exact ⟨rfl, rfl, s.winStaged_restage d⟩
    case streamsIn =>
      obtain ⟨hframe, hwin, hlen, hlast⟩ := (State.winStart_sent hidle hreach hsize hal).of_read hdir d
      refine ⟨_, if_neg hmode, ?_⟩
      rw [State.winStreamRead_streams hstream hdir]
      exact ⟨hframe, hwin, hlen, hlast⟩
    case reads => exact (if_neg hmode).trans (congrArg _ (State.winStreamRead_plain hplain))
  case completes =>
    refine ⟨_, execWinComplete_answers hfind hbusy, rfl, ?_, rfl, rfl, rfl, rfl, Window.dataAfter_read, Window.dataAfter_failed,
      Window.dataAfter_kept, Window.addrAfter_advances, Window.addrAfter_stays⟩
    simp [Ni.responseTaken]

end Sys2Proof.Machine
end

section
/-! SUPPORT. A field read after it has been set, and a write of ENC_TRIG_CFG (R756). -/

namespace Sys2Proof.Machine

variable {s : State}

/-! ### Fields -/

/-- A value that fits its field reads back. -/
theorem State.fld_setFld_fits (s : State) {f : Fld} {v : Nat} (h : SMap.wf Reg.resetWord s.regs = true) (hf : f.lo + f.w ≤ 32)
    (hv : v < 2 ^ f.w) : (s.setFld f v).fld f = v :=
  (s.fld_setFld f v h hf).trans (Nat.mod_eq_of_lt hv)

theorem State.bit_raise (s : State) {f : Fld} (h : SMap.wf Reg.resetWord s.regs = true) (hf : f.lo + f.w ≤ 32) (hw : f.w ≠ 0) :
    (s.raise f).bit f = true := by
  have big : 1 < 2 ^ f.w := Nat.one_lt_two_pow hw
  have full : (s.raise f).fld f = 2 ^ f.w - 1 := s.fld_setFld_fits h hf (by omega)
  simp [State.bit, full]
  omega

theorem State.bit_raiseIf (s : State) (b : Bool) {f : Fld} (h : SMap.wf Reg.resetWord s.regs = true) (hf : f.lo + f.w ≤ 32)
    (hw : f.w ≠ 0) : (s.raiseIf b f).bit f = (s.bit f || b) := by
  cases b
  · exact (Bool.or_false _).symm
  · exact (s.bit_raise h hf hw).trans (Bool.or_true _).symm

/-! ### ENC_TRIG_CFG (R756) -/

theorem State.fld_sel_setExpoPol (h : SMap.wf Reg.resetWord s.regs = true) (p : Nat) :
    (s.setFld F.ENC_TRIG_CFG_EXPO_POL p).fld F.ENC_TRIG_CFG_SEL = s.fld F.ENC_TRIG_CFG_SEL :=
  s.fld_setFld_disjoint _ _ p h rfl (by decide) (by decide)

/-- EXPO_POL is taken in any case; SEL, where it changes, is taken outside capture and refused in capture. -/
theorem State.writeTrigCfg_eq (h : SMap.wf Reg.resetWord s.regs = true) (v : Word) : s.writeTrigCfg v =
    if getBits v 0 2 = s.fld F.ENC_TRIG_CFG_SEL then s.setFld F.ENC_TRIG_CFG_EXPO_POL (getBits v 2 1)
    else if s.capture then (s.setFld F.ENC_TRIG_CFG_EXPO_POL (getBits v 2 1)).raise F.ENC_ERR_SEL
    else (s.setFld F.ENC_TRIG_CFG_EXPO_POL (getBits v 2 1)).holdMpos.setFld F.ENC_TRIG_CFG_SEL (getBits v 0 2) := by
  unfold State.writeTrigCfg
  dsimp only
  rw [State.fld_sel_setExpoPol h]
  rfl

/-- Settles O22: whether SEL changes and whether the head captures decide which of the three writes it is. -/
theorem triggerConfigWrites : Obligations.TriggerConfigWrites := by
  intro s v hmem hon sel
  have hwf := State.regsWf_of_memWf hmem
  have hpolWf := s.regsWf_setFld F.ENC_TRIG_CFG_EXPO_POL (getBits v 2 1) hwf
  have hpol : (s.setFld F.ENC_TRIG_CFG_EXPO_POL (getBits v 2 1)).fld F.ENC_TRIG_CFG_EXPO_POL = getBits v 2 1 :=
    s.fld_setFld_fits hwf (by decide) (Nat.mod_lt _ (by decide))
  have hregs := State.WritesRegs.setFld (W := (· = F.ENC_TRIG_CFG_SEL.addr)) s F.ENC_TRIG_CFG_EXPO_POL (getBits v 2 1) rfl
  refine ⟨fun hcap hsel => ⟨_, if_pos hon, ?refused⟩, fun h => ⟨_, if_pos hon, ?taken⟩⟩
  case refused =>
    rw [State.writeTrigCfg_eq hwf, if_neg hsel, if_pos hcap]
    refine ⟨rfl, (State.fld_setFld_other _ _ _ _ (by decide)).trans (State.fld_sel_setExpoPol hwf _),
      State.bit_raise _ hpolWf (by decide) (by decide), (State.fld_setFld_other _ _ _ _ (by decide)).trans hpol, rfl, rfl, ?_⟩
    exact ((hregs.mono fun _ => .inl).trans (.setFld _ F.ENC_ERR_SEL _ (.inr rfl))).but
  case taken =>
    rw [State.writeTrigCfg_eq hwf]
    by_cases hsel : sel = s.fld F.ENC_TRIG_CFG_SEL
    · rw [if_pos hsel]
      exact ⟨rfl, (State.fld_sel_setExpoPol hwf _).trans hsel.symm, hpol, hregs.but⟩
    · have hcap : s.capture = false := h.resolve_right hsel
      rw [if_neg hsel, if_neg (Bool.eq_false_iff.mp hcap)]
      have kept := State.fld_setFld_disjoint (s.setFld F.ENC_TRIG_CFG_EXPO_POL (getBits v 2 1)).holdMpos F.ENC_TRIG_CFG_SEL
        F.ENC_TRIG_CFG_EXPO_POL sel hpolWf rfl (by decide) (by decide)
      have moved := State.WritesRegs.setFld (W := (· = F.ENC_TRIG_CFG_SEL.addr))
        (s.setFld F.ENC_TRIG_CFG_EXPO_POL (getBits v 2 1)).holdMpos F.ENC_TRIG_CFG_SEL sel rfl
      exact ⟨rfl, State.fld_setFld_fits _ hpolWf (by decide) (Nat.mod_lt _ (by decide)), kept.trans hpol,
        (hregs.trans (moved.of_start rfl)).but⟩

end Sys2Proof.Machine
end

section
/-! SUPPORT. One encoder among the three, and the preset of its position (R97). -/

namespace Sys2Proof.Machine

variable {s : State} {n m : Fin 3}

/-! ### One encoder -/

theorem State.setEnc_enc (s : State) (n m : Fin 3) (e : Encoder) :
    (s.setEnc n e).lio.enc[m] = if m = n then e else s.lio.enc[m] := by
  simp [State.setEnc, Vector.getElem_set, Fin.ext_iff, eq_comm]

theorem State.setEnc_enc_same (s : State) (n : Fin 3) (e : Encoder) : (s.setEnc n e).lio.enc[n] = e :=
  (s.setEnc_enc n n e).trans (if_pos rfl)

theorem State.setEnc_enc_other (s : State) (e : Encoder) (h : m ≠ n) : (s.setEnc n e).lio.enc[m] = s.lio.enc[m] :=
  (s.setEnc_enc n m e).trans (if_neg h)

@[simp] theorem State.setEnc_setEnc (s : State) (n : Fin 3) (e f : Encoder) : (s.setEnc n e).setEnc n f = s.setEnc n f := by
  simp [State.setEnc]

/-! ### Presets (R97) -/

/-- The position that a write of ENCn_POS_HI loads. -/
def State.presetPos (s : State) (n : Fin 3) (v : Word) : Pos :=
  BitVec.ofNat 48 (s.fld (F.ENCn_POS_LO n) + 2 ^ 32 * getBits v 0 16)

/-- An encoder with a position loaded: a Z edge has no predecessor. -/
def Encoder.preset (e : Encoder) (p : Pos) : Encoder := { e with pos := p, prevPos := p, zSeen := false }

theorem State.writePosHi_refused (hsel : s.fld F.ENC_TRIG_CFG_SEL = n.val) (hcap : s.capture = true) (v : Word) :
    s.writePosHi n v = s.raise F.ENC_ERR_PRESET := if_pos (by simp [hsel, hcap])

theorem State.writePosHi_loads (h : ¬(s.fld F.ENC_TRIG_CFG_SEL = n.val ∧ s.capture = true)) (v : Word) : s.writePosHi n v =
    { s with lio := { s.lio with
        enc := s.lio.enc.set n (s.lio.enc[n].preset (s.presetPos n v))
        hwm := if s.fld F.ENC_TRIG_CFG_SEL = n.val then s.presetPos n v else s.lio.hwm } } := by
  refine (if_neg (by simpa using h)).trans ?_
  by_cases hsel : s.fld F.ENC_TRIG_CFG_SEL = n.val
  · rw [if_pos (beq_iff_eq.mpr hsel), if_pos hsel]; rfl
  · rw [if_neg (by simpa using hsel), if_neg hsel]; rfl

/-- Settles O23: the write is refused for the encoder that triggers select in capture, and loads the encoder otherwise. -/
theorem encoderPresets : Obligations.EncoderPresets := by
  intro s n v hmem hon pos sel
  have hwf := State.regsWf_of_memWf hmem
  refine ⟨fun hsel hcap => ⟨_, if_pos hon, ?refused⟩, fun h => ⟨_, if_pos hon, ?loaded⟩⟩
  case refused =>
    rw [State.writePosHi_refused hsel hcap]
    exact ⟨rfl, s.bit_raise hwf (by decide) (by decide), (State.WritesRegs.setFld (W := (· = _)) s F.ENC_ERR_PRESET _ rfl).but⟩
  case loaded =>
    rw [State.writePosHi_loads h]
    exact ⟨rfl, fun m => s.setEnc_enc n m _, rfl⟩

end Sys2Proof.Machine
end

section
/-! SUPPORT. What an encoder makes of its inputs and of a millisecond (R91 to R96), and the divider pair (R106): the glitch filter and
the Z latch, the counts, the measures, which leave the other encoders alone, and a write of ENC_DIV_M. -/

namespace Sys2Proof.Machine

variable {s t u : State} {n m : Fin 3}

/-- The encoders count, and this one has its balls. -/
def State.encActs (s : State) (n : Fin 3) : Prop := s.lio.counting = true ∧ s.encBalls n = true

theorem State.encActs_iff (hon : s.domOn Dom.lineio = true) : (s.encRuns && s.encBalls n) = true ↔ s.encActs n := by
  simp [State.encRuns, State.encActs, hon]

/-! ### The Z latch (R95) -/

theorem State.zLatch_disabled (h : s.bit (F.ENCn_CFG_Z_EN n) = false) : s.zLatch n = s := if_neg (by simp [h])

/-- An encoder whose position Z has latched. -/
def Encoder.latched (e : Encoder) : Encoder := { e with zSeen := true, zLatch := e.pos }

/-- The count since the previous Z edge is not ZCPR. -/
def Encoder.zWrong (e : Encoder) (zcpr : Nat) : Bool :=
  e.zSeen && zcpr != 0 && (posDiff e.pos e.zLatch).natAbs != zcpr

/-- The position has latched into ENCn_ZPOS. -/
def State.zTaken (s : State) (n : Fin 3) : State :=
  (s.setEnc n s.lio.enc[n].latched).setReg (Reg.ENCn_ZPOS n) (s.lio.enc[n].pos.truncate 32)

theorem State.zTaken_zerr (s : State) (n : Fin 3) : (s.zTaken n).bit (F.ENCn_STAT_ZERR n) = s.bit (F.ENCn_STAT_ZERR n) := by
  have kept : (s.zTaken n).reg (Reg.ENCn_STAT n) = s.reg (Reg.ENCn_STAT n) :=
    State.reg_setReg_other _ _ _ _ (by simp only [Reg.ENCn_STAT, Reg.ENCn_ZPOS]; omega)
  exact congrArg (fun w => getBits w 1 1 != 0) kept

theorem State.zLatch_enabled (h : s.bit (F.ENCn_CFG_Z_EN n) = true) : s.zLatch n =
    (s.zTaken n).raiseIf (s.lio.enc[n].zWrong (s.fld (F.ENCn_ZCPR n))) (F.ENCn_STAT_ZERR n) := if_pos h

/-- What a latch shows: ZPOS holds the position, and ZERR joins the judgement of the count. -/
theorem State.zLatch_shows (h : s.bit (F.ENCn_CFG_Z_EN n) = true) (hwf : SMap.wf Reg.resetWord s.regs = true) :
    s.zLatch n = { s.setEnc n s.lio.enc[n].latched with regs := (s.zLatch n).regs } ∧
    (s.zLatch n).reg (Reg.ENCn_ZPOS n) = s.lio.enc[n].pos.truncate 32 ∧
    (s.zLatch n).bit (F.ENCn_STAT_ZERR n) =
      (s.bit (F.ENCn_STAT_ZERR n) || s.lio.enc[n].zWrong (s.fld (F.ENCn_ZCPR n))) := by
  have hzwf : SMap.wf Reg.resetWord (s.zTaken n).regs = true := State.regsWf_setReg _ _ _ hwf
  rw [State.zLatch_enabled h]
  refine ⟨State.raiseIf_eq _ _ _, ((State.raiseIf_writesRegs _ _ _).but _ ?apart).trans (State.reg_setReg _ _ _ hwf), ?zerr⟩
  case apart =>
    simp only [F.ENCn_STAT_ZERR, Reg.ENCn_STAT, Reg.ENCn_ZPOS]
    omega
  case zerr =>
    rw [State.bit_raiseIf _ _ hzwf (by decide : 1 + 1 ≤ 32) Nat.one_ne_zero, State.zTaken_zerr]

/-! ### The glitch filter (R91) -/

section
variable {i : EncInput} {l : Bool} {h : Nat}

/-- The encoder does not see a level change: it does not count, its balls are not its own, the input holds that level, or no edge
fell within the change. -/
def State.levelIdle (s : State) (n : Fin 3) (i : EncInput) (l : Bool) (h : Nat) : Prop :=
  ¬s.encActs n ∨ s.tapActs = true ∨ s.lio.enc[n].acc i = l ∨ h = 0

theorem State.not_levelIdle (hacts : s.encActs n) (htap : s.tapActs = false) (hchange : s.lio.enc[n].acc i ≠ l) (hseen : 0 < h) :
    ¬s.levelIdle n i l h := by
  rintro (h | h | h | h)
  · exact h hacts
  · simp [htap] at h
  · exact hchange h
  · exact hseen.ne' h

variable (hon : s.domOn Dom.lineio = true)
include hon

theorem State.levelIdle_iff : (!(s.encRuns && s.encBalls n) || s.tapActs || s.lio.enc[n].acc i == l || h == 0) = true ↔
    s.levelIdle n i l h := by
  rw [State.levelIdle, ← State.encActs_iff hon]
  simp only [Bool.or_eq_true, Bool.not_eq_true', Bool.not_eq_true, beq_iff_eq, or_assoc]

theorem execEncLevelAccept_idle (hidle : s.levelIdle n i l h) : exec (.encLevelAccept n i l h) s = .next s :=
  if_pos ((State.levelIdle_iff hon).mpr hidle)

/-- A rise of Z that is accepted sets the level and may latch. -/
theorem execEncLevelAccept_zRises (hseen : ¬s.levelIdle n .z true h) (hlong : s.fld (F.ENCn_CFG_FILT n) ≤ h) :
    exec (.encLevelAccept n .z true h) s = .next ((s.setEnc n (s.lio.enc[n].setAcc .z true)).zLatch n) :=
  (if_neg (mt (State.levelIdle_iff hon).mp hseen)).trans (if_neg (Nat.not_lt.mpr hlong))

variable (hseen : ¬s.levelIdle n i l h)
include hseen

theorem execEncLevelAccept_glitches (hshort : h < s.fld (F.ENCn_CFG_FILT n)) : exec (.encLevelAccept n i l h) s =
    .next ((s.setEnc n { s.lio.enc[n] with glitchSince := true }).inc (F.ENCn_GLITCH n)) :=
  (if_neg (mt (State.levelIdle_iff hon).mp hseen)).trans (if_pos hshort)

theorem execEncLevelAccept_accepts (hlong : s.fld (F.ENCn_CFG_FILT n) ≤ h) (hplain : i ≠ .z ∨ l = false) :
    exec (.encLevelAccept n i l h) s = .next (s.setEnc n (s.lio.enc[n].setAcc i l)) := by
  refine ((if_neg (mt (State.levelIdle_iff hon).mp hseen)).trans (if_neg (Nat.not_lt.mpr hlong))).trans ?_
  cases i with
  | a | b => rfl
  | z =>
    obtain rfl : l = false := by simpa using hplain
    rfl

end

/-! ### Counts (R92 to R94, R99) -/

/-- An encoder whose accepted levels have reached the decoder. -/
def Encoder.synced (e : Encoder) : Encoder := { e with synA := e.accA, synB := e.accB }

/-- An encoder that has counted d at the edge e. -/
def Encoder.moved (x : Encoder) (d : Int) (e : Nat) : Encoder :=
  { x.synced with pos := x.pos + BitVec.ofInt 48 d, prevPos := x.pos, countT := e, msCount := x.msCount + d }

/-- The count of a transition, with the sign of INV_DIR. -/
def State.countDir (s : State) (n : Fin 3) : Int :=
  if s.bit (F.ENCn_CFG_INV_DIR n) then -s.lio.enc[n].dir else s.lio.enc[n].dir

/-- The divider stands still outside capture, for an encoder that does not drive it, and at or below the high-water mark. -/
theorem State.divide_idle (h : s.capture = false ∨ s.fld F.ENC_TRIG_CFG_SEL ≠ n.val ∨ posDiff s.lio.enc[n].pos s.lio.hwm ≤ 0)
    (e : Nat) : s.divide n e = s := by
  refine if_neg fun k => ?_
  simp only [Bool.and_eq_true, beq_iff_eq, decide_eq_true_eq] at k
  obtain ⟨⟨⟨hcap, -⟩, hsel⟩, hpast⟩ := k
  rcases h with h | h | h
  · simp [h] at hcap
  · exact h hsel
  · exact absurd hpast (not_lt.mpr h)

section
variable {e : Nat} (hon : s.domOn Dom.lineio = true)
include hon

theorem execEncCount_idle (h : ¬s.encActs n ∨ (s.lio.enc[n].accA = s.lio.enc[n].synA ∧ s.lio.enc[n].accB = s.lio.enc[n].synB)) :
    exec (.encCount n e) s = .next s := by
  rw [← State.encActs_iff hon] at h
  refine if_pos ?_
  rcases h with h | ⟨ha, hb⟩
  · rw [Bool.eq_false_iff.mpr h]; rfl
  · rw [ha, hb]; simp

variable (hacts : s.encActs n)
include hacts

theorem execEncCount_both (ha : s.lio.enc[n].accA ≠ s.lio.enc[n].synA) (hb : s.lio.enc[n].accB ≠ s.lio.enc[n].synB) :
    exec (.encCount n e) s = .next (((s.atT e).setEnc n s.lio.enc[n].synced).inc (F.ENCn_QERR n)) := by
  have acts := (State.encActs_iff hon).mpr hacts
  rw [← bne_iff_ne] at ha hb
  refine (if_neg ?_).trans (if_pos ?_)
  · rw [acts, ha]; simp
  · rw [ha, hb]; rfl

variable (hone : ((s.lio.enc[n].accA != s.lio.enc[n].synA) != (s.lio.enc[n].accB != s.lio.enc[n].synB)) = true)
include hone

theorem execEncCount_one : exec (.encCount n e) s =
    if !s.lio.enc[n].counted (s.fld (F.ENCn_CFG_DECODE n)) then .next ((s.atT e).setEnc n s.lio.enc[n].synced)
    else .next (((s.atT e).setEnc n (s.lio.enc[n].moved (s.countDir n) e)).divide n e) := by
  have acts := (State.encActs_iff hon).mpr hacts
  have apart : ∀ a b : Bool, (a != b) = true → ¬(!a && !b) = true ∧ ¬(a && b) = true := by decide
  obtain ⟨changed, notBoth⟩ := apart _ _ hone
  refine (if_neg ?_).trans (if_neg notBoth)
  rw [acts]
  exact changed

theorem execEncCount_uncounted (h : s.lio.enc[n].counted (s.fld (F.ENCn_CFG_DECODE n)) = false) :
    exec (.encCount n e) s = .next ((s.atT e).setEnc n s.lio.enc[n].synced) :=
  (execEncCount_one hon hacts hone).trans (if_pos (by rw [h]; rfl))

theorem execEncCount_moves (h : s.lio.enc[n].counted (s.fld (F.ENCn_CFG_DECODE n)) = true)
    (hdiv : s.capture = false ∨ s.fld F.ENC_TRIG_CFG_SEL ≠ n.val ∨
      posDiff (s.lio.enc[n].pos + BitVec.ofInt 48 (s.countDir n)) s.lio.hwm ≤ 0) :
    exec (.encCount n e) s = .next ((s.atT e).setEnc n (s.lio.enc[n].moved (s.countDir n) e)) := by
  refine ((execEncCount_one hon hacts hone).trans (if_neg (by rw [h]; simp))).trans (congrArg _ (State.divide_idle ?_ e))
  rw [State.setEnc_enc_same]
  exact hdiv

end

/-! ### Speed (R96) -/

/-- An encoder at an AON millisecond: its counts are the speed, and the next millisecond starts. -/
structure Encoder.Sampled (e x : Encoder) : Prop where
  msCount : x.msCount = 0
  pos : x.pos = e.pos
  prevSpeed : x.prevSpeed = some e.msCount

/-- The registers of the flags and of the count of implausible speeds. -/
def flagReg (n : Fin 3) (a : Nat) : Prop := a = Reg.ENCn_STAT n ∨ a = Reg.ENCn_IMPLAUS_CNT n

/-- The registers that the measure of one encoder writes. -/
def speedReg (n : Fin 3) (a : Nat) : Prop := a = Reg.ENCn_SPEED n ∨ flagReg n a

/-- Between two states only encoders and the register file change. -/
def State.EncsOnly (s t : State) : Prop := t = { s with regs := t.regs, lio := { s.lio with enc := t.lio.enc } }

theorem State.EncsOnly.trans (h : State.EncsOnly s t) (k : State.EncsOnly t u) : State.EncsOnly s u :=
  Eq.trans k (congrArg (fun x => { x with regs := u.regs, lio := { x.lio with enc := u.lio.enc } }) h)

/-- Between two states only encoders other than n change, and only their measures. -/
structure State.OffEnc (n : Fin 3) (s t : State) : Prop where
  frame : State.EncsOnly s t
  enc : t.lio.enc[n] = s.lio.enc[n]
  regs : State.WritesRegs (fun a => ∃ k : Fin 3, k ≠ n ∧ speedReg k a) s t

theorem State.OffEnc.trans (h : State.OffEnc n s t) (k : State.OffEnc n t u) : State.OffEnc n s u where
  frame := h.frame.trans k.frame
  enc := k.enc.trans h.enc
  regs := h.regs.trans k.regs

theorem State.OffEnc.speed (h : State.OffEnc n s t) : t.fld (F.ENCn_SPEED n) = s.fld (F.ENCn_SPEED n) := by
  refine h.regs.fld ?_
  simp only [speedReg, flagReg, F.ENCn_SPEED, Reg.ENCn_SPEED, Reg.ENCn_STAT, Reg.ENCn_IMPLAUS_CNT]
  omega

/-- Between two states encoder n is measured, and the others stay as they are. -/
structure State.Measured (n : Fin 3) (s t : State) : Prop where
  frame : State.EncsOnly s t
  sampled : s.lio.enc[n].Sampled t.lio.enc[n]
  others : ∀ k : Fin 3, k ≠ n → t.lio.enc[k] = s.lio.enc[k]
  regs : State.WritesRegs (speedReg n) s t
  speed : SMap.wf Reg.resetWord s.regs = true → t.fld (F.ENCn_SPEED n) = (BitVec.ofInt 24 s.lio.enc[n].msCount).toNat

/-- SPEED and STILL of an encoder whose measure is taken. -/
def State.speedShown (s : State) (n : Fin 3) (e : Encoder) (v : Int) (b : Bool) : State :=
  ((s.setEnc n e).setFld (F.ENCn_SPEED n) (BitVec.ofInt 24 v).toNat).setFld (F.ENCn_STAT_STILL n) (b2n b)

theorem State.speedSample_eq (s : State) (n : Fin 3) : ∃ x b bad,
    (s.speedSample n = if bad = true then
        ((s.speedShown n x s.lio.enc[n].msCount b).raise (F.ENCn_STAT_IMPLAUS n)).inc (F.ENCn_IMPLAUS_CNT n)
      else s.speedShown n x s.lio.enc[n].msCount b) ∧ s.lio.enc[n].Sampled x :=
  ⟨_, _, _, rfl, rfl, rfl, rfl⟩

theorem not_flagReg_speed (n : Fin 3) : ¬flagReg n (F.ENCn_SPEED n).addr := by
  simp only [flagReg, F.ENCn_SPEED, Reg.ENCn_SPEED, Reg.ENCn_STAT, Reg.ENCn_IMPLAUS_CNT]
  omega

/-- A measure stays one when the flags change after it. -/
theorem State.Measured.flagged (h : State.Measured n s t) (hregs : State.WritesRegs (flagReg n) t u)
    (hframe : u = { t with regs := u.regs }) : State.Measured n s u where
  frame := h.frame.trans (hframe ▸ rfl)
  sampled := hframe ▸ h.sampled
  others := hframe ▸ h.others
  regs := h.regs.trans (hregs.mono fun _ => .inr)
  speed := fun hwf => (hregs.fld (not_flagReg_speed n)).trans (h.speed hwf)

theorem State.speedShown_measured {x : Encoder} (hx : s.lio.enc[n].Sampled x) (b : Bool) :
    State.Measured n s (s.speedShown n x s.lio.enc[n].msCount b) := by
  have speed := State.WritesRegs.setFld (W := speedReg n) (s.setEnc n x) (F.ENCn_SPEED n)
    (BitVec.ofInt 24 s.lio.enc[n].msCount).toNat (.inl rfl)
  have measured : State.Measured n s ((s.setEnc n x).setFld (F.ENCn_SPEED n) (BitVec.ofInt 24 s.lio.enc[n].msCount).toNat) :=
    { frame := rfl
      sampled := (s.setEnc_enc_same n x).symm ▸ hx
      others := fun _ hk => s.setEnc_enc_other x hk
      regs := speed.of_start rfl
      speed := fun hwf => State.fld_setFld_fits _ hwf (by decide : 0 + 24 ≤ 32) (BitVec.isLt _) }
  exact measured.flagged (.setFld _ (F.ENCn_STAT_STILL n) _ (.inl rfl)) (State.setFld_eq _ _ _)

/-- IMPLAUS and its count are written over a measure that was taken. -/
theorem State.Measured.implausible (h : State.Measured n s t) :
    State.Measured n s ((t.raise (F.ENCn_STAT_IMPLAUS n)).inc (F.ENCn_IMPLAUS_CNT n)) :=
  h.flagged ((State.WritesRegs.setFld t (F.ENCn_STAT_IMPLAUS n) _ (.inl rfl)).trans (.inc _ _ (.inr rfl))) rfl

theorem State.speedSample_measured (s : State) (n : Fin 3) : State.Measured n s (s.speedSample n) := by
  obtain ⟨x, b, bad, h, hx⟩ := s.speedSample_eq n
  have shown := State.speedShown_measured hx b
  rw [h]
  split
  next => exact shown.implausible
  next => exact shown

theorem State.Measured.offEnc (h : State.Measured m s t) (hm : m ≠ n) : State.OffEnc n s t where
  frame := h.frame
  enc := h.others n hm.symm
  regs := h.regs.mono fun _ ha => ⟨m, hm, ha⟩

theorem State.speedSample_foldl_offEnc (l : List (Fin 3)) (s : State) (h : n ∉ l) :
    State.OffEnc n s (l.foldl (fun s k => s.speedSample k) s) := by
  induction l generalizing s with
  | nil => exact ⟨rfl, rfl, .refl s⟩
  | cons k l ih =>
    rw [List.mem_cons, not_or] at h
    obtain ⟨hk, hl⟩ := h
    exact ((s.speedSample_measured k).offEnc (Ne.symm hk)).trans (ih _ hl)

/-- The measures of all encoders. -/
def State.speedSamples (s : State) : State := (List.finRange 3).foldl (fun s k => s.speedSample k) s

/-- Encoder n is measured by itself, among measures of the others that do not touch it. -/
theorem State.speedSamples_split (s : State) (n : Fin 3) :
    ∃ t, State.OffEnc n s t ∧ State.OffEnc n (t.speedSample n) s.speedSamples := by
  obtain ⟨l, r, hlr⟩ := List.append_of_mem (List.mem_finRange n)
  have once := List.nodup_finRange 3
  rw [hlr, List.nodup_middle, List.nodup_cons, List.mem_append, not_or] at once
  obtain ⟨⟨hl, hr⟩, -⟩ := once
  rw [State.speedSamples, hlr, List.foldl_append, List.foldl_cons]
  exact ⟨_, State.speedSample_foldl_offEnc l s hl, State.speedSample_foldl_offEnc r _ hr⟩

/-- What the millisecond's measures show of encoder n. -/
theorem State.speedSamples_shows (n : Fin 3) (hwf : SMap.wf Reg.resetWord s.regs = true) : State.EncsOnly s s.speedSamples ∧
    s.speedSamples.fld (F.ENCn_SPEED n) = (BitVec.ofInt 24 s.lio.enc[n].msCount).toNat ∧
    s.lio.enc[n].Sampled s.speedSamples.lio.enc[n] := by
  obtain ⟨t, before, after⟩ := s.speedSamples_split n
  have measured := t.speedSample_measured n
  refine ⟨(before.frame.trans measured.frame).trans after.frame, ?_, ?_⟩
  · rw [after.speed, measured.speed (before.regs.wf hwf), before.enc]
  · rw [after.enc, ← before.enc]
    exact measured.sampled

/-! ### The divider pair (R106) -/

/-- The pair that a write of ENC_DIV_M commits is refused. -/
def State.badPair (s : State) (v : Word) : Prop :=
  s.fld F.ENC_DIV_N_N = 0 ∨ getBits v 0 24 = 0 ∨ s.fld F.ENC_DIV_N_N < getBits v 0 24

theorem State.writeDivM_bad {v : Word} (h : s.badPair v) : s.writeDivM v = s.raise F.ENC_ERR_DIV := if_pos h

theorem State.writeDivM_good {v : Word} (h : ¬s.badPair v) : s.writeDivM v =
    { s.setFld F.ENC_DIV_M_M (getBits v 0 24) with
      lio := if s.capture then { s.lio with divPend := some (s.fld F.ENC_DIV_N_N, getBits v 0 24) }
        else { s.lio with divN := s.fld F.ENC_DIV_N_N, divM := getBits v 0 24 } } := by
  refine (if_neg h).trans ?_
  cases hcap : s.capture
  · exact if_neg (by simp [hcap])
  · exact if_pos hcap

/-- Settles O24: each command's outcome is the lemma about it under the hypotheses of the clause. -/
theorem encodersCountAndMeasure : Obligations.EncodersCountAndMeasure := by
  intro s n i l h t v hmem hon e runs' d m bad syn one
  have hwf := State.regsWf_of_memWf hmem
  refine ⟨fun hacts htap hchange hseen hshort => ?glitch, fun hacts htap hchange hseen hlong hplain => ?accepted,
    fun hacts htap hlow hseen hlong hen => ?zRise, execEncLevelAccept_idle hon, fun hacts ha hb => ?both,
    fun hacts hone hcount => execEncCount_uncounted hon hacts hone hcount,
    fun hacts hone hcount => execEncCount_moves hon hacts hone hcount, execEncCount_idle hon,
    fun hcount => ?speed, fun hcount => if_neg (by simp [State.encRuns, hcount]), fun hbad => ⟨_, if_pos hon, ?badPair⟩,
    fun hgood => ⟨_, if_pos hon, ?goodPair⟩⟩
  case glitch =>
    exact ⟨_, execEncLevelAccept_glitches hon (State.not_levelIdle hacts htap hchange hseen) hshort, rfl,
      State.fld_inc (s.setEnc n _) (F.ENCn_GLITCH n) hwf (Nat.le_refl 32),
      ((State.WritesRegs.inc (W := (· = (F.ENCn_GLITCH n).addr)) _ (F.ENCn_GLITCH n) rfl).of_start rfl).but⟩
  case accepted =>
    have seen := State.not_levelIdle hacts htap hchange hseen
    by_cases hz : i = .z ∧ l = true
    · obtain ⟨rfl, rfl⟩ := hz
      have off : s.bit (F.ENCn_CFG_Z_EN n) = false := by simpa using hplain
      exact (execEncLevelAccept_zRises hon seen hlong).trans (congrArg _ (State.zLatch_disabled off))
    · exact execEncLevelAccept_accepts hon seen hlong (by simpa [imp_iff_not_or] using hz)
  case zRise =>
    have low : s.lio.enc[n].acc .z ≠ true := Bool.eq_false_iff.mp hlow
    obtain ⟨frame, zpos, zerr⟩ := State.zLatch_shows (s := s.setEnc n (e.setAcc .z true)) hen hwf
    rw [State.setEnc_setEnc] at frame
    rw [State.setEnc_enc_same] at frame zpos zerr
    exact ⟨_, execEncLevelAccept_zRises hon (State.not_levelIdle hacts htap low hseen) hlong, frame, zpos, zerr⟩
  case both =>
    exact ⟨_, execEncCount_both hon hacts ha hb, rfl, State.fld_inc ((s.atT t).setEnc n _) (F.ENCn_QERR n) hwf (Nat.le_refl 32),
      ((State.WritesRegs.inc (W := (· = (F.ENCn_QERR n).addr)) _ (F.ENCn_QERR n) rfl).of_start rfl).but⟩
  case speed =>
    obtain ⟨frame, speed, sampled⟩ := State.speedSamples_shows n hwf
    exact ⟨s.speedSamples, if_pos (by simp [State.encRuns, hon, hcount]), frame, speed, sampled.msCount, sampled.pos,
      sampled.prevSpeed⟩
  case badPair =>
    rw [State.writeDivM_bad hbad]
    exact ⟨rfl, s.bit_raise hwf (by decide) (by decide), (State.WritesRegs.setFld (W := (· = _)) s F.ENC_ERR_DIV _ rfl).but⟩
  case goodPair =>
    rw [State.writeDivM_good hgood]
    exact ⟨s.fld_setFld_fits hwf (by decide) (Nat.mod_lt _ (by decide)),
      (State.WritesRegs.setFld (W := (· = F.ENC_DIV_M_M.addr)) s F.ENC_DIV_M_M m rfl).but, rfl⟩

end Sys2Proof.Machine
end

section
/-! SUPPORT. The presence receiver: what a change of STATE leaves alone (R132), what a code does by its class (R124 to R126, R129,
R130, R139), the configuration taken at a code end, and the writes of PRS_CFG, PRS_LAG and PRS_THR (R137, R138). -/

namespace Sys2Proof.Machine
open Sys2Proof.Spec

variable {s t u : State}

/-! ### What the receiver changes -/

namespace State

/-- Between two states the receiver and the register file alone change. -/
def PrsOnly (s t : State) : Prop := t = { s with regs := t.regs, lio := { s.lio with prs := t.lio.prs } }

theorem PrsOnly.trans (h : PrsOnly s t) (k : PrsOnly t u) : PrsOnly s u :=
  Eq.trans k (congrArg (fun x => { x with regs := u.regs, lio := { x.lio with prs := u.lio.prs } }) h)

/-- Between two states the receiver, as running as before, writes the registers that a predicate names. -/
structure Receives (W : Nat → Prop) (s t : State) : Prop where
  frame : PrsOnly s t
  regs : WritesRegs W s t
  running : t.lio.prs.running = s.lio.prs.running
  next : t.lio.prs.next = s.lio.prs.next

namespace Receives
variable {W V : Nat → Prop}

theorem trans (h : Receives W s t) (k : Receives W t u) : Receives W s u :=
  ⟨h.frame.trans k.frame, h.regs.trans k.regs, k.running.trans h.running, k.next.trans h.next⟩

theorem mono (h : Receives W s t) (hWV : ∀ a, W a → V a) : Receives V s t := ⟨h.frame, h.regs.mono hWV, h.running, h.next⟩

theorem setFld (s : State) {f : Fld} (v : Nat) (hf : W f.addr) : Receives W s (s.setFld f v) := ⟨rfl, .setFld s f v hf, rfl, rfl⟩

end Receives

/-! ### A change of STATE (R126, R132) -/

/-- A field of PRS_STAT that lies between STATE and EDGE_EV. -/
abbrev statFlag (f : Fld) : Prop := f.addr = Reg.PRS_STAT ∧ 2 ≤ f.lo ∧ f.lo + f.w ≤ 13

/-- Between two states STATE is set, and an edge may have been placed. -/
structure StateSet (st : PrsState) (s t : State) : Prop where
  frame : t = { s with regs := t.regs, lio := { s.lio with prs := { s.lio.prs with
    st := st, queue := t.lio.prs.queue, dropPresent := t.lio.prs.dropPresent } } }
  regs : WritesRegs prsReg s t
  flag : SMap.wf Reg.resetWord s.regs = true → ∀ f, statFlag f → t.fld f = s.fld f

theorem StateSet.refl (s : State) : StateSet s.lio.prs.st s s := ⟨rfl, .refl s, fun _ _ _ => rfl⟩

/-- Of the receiver, STATE and the edge queue alone change. -/
theorem StateSet.prs {st : PrsState} (h : StateSet st s t) : t.lio.prs = { s.lio.prs with
    st := st, queue := t.lio.prs.queue, dropPresent := t.lio.prs.dropPresent } := congrArg (·.lio.prs) h.frame

theorem StateSet.receives {st : PrsState} (h : StateSet st s t) : Receives prsReg s t where
  frame := h.frame.trans (congrArg (fun p => { s with regs := t.regs, lio := { s.lio with prs := p } }) h.prs.symm)
  regs := h.regs
  running := (congrArg Presence.running h.prs :)
  next := (congrArg Presence.next h.prs :)

/-- A write of STATE or of EDGE_EV misses the flags between them. -/
theorem fld_setFld_flag (s : State) {f g : Fld} (v : Nat) (hwf : SMap.wf Reg.resetWord s.regs = true)
    (hf : f = F.PRS_STAT_STATE ∨ f = F.PRS_STAT_EDGE_EV) (hg : statFlag g) : (s.setFld f v).fld g = s.fld g := by
  obtain ⟨haddr, hlo, hhi⟩ := hg
  rcases hf with rfl | rfl
  · exact s.fld_setFld_disjoint _ g v hwf haddr (by omega) (.inl hlo)
  · exact s.fld_setFld_disjoint _ g v hwf haddr (by omega) (.inr hhi)

/-- The edge queue takes an edge, drops one or is marked to drop the next, and at most one count is added (R134, R140). -/
theorem prsEnqueue_cases (s : State) (e : PrsEdge) : ∃ u q d,
    u = { s with lio := { s.lio with prs := { s.lio.prs with queue := q, dropPresent := d } } } ∧
    (s.prsEnqueue e = u ∨ s.prsEnqueue e = u.inc F.PRS_LATE_CNT ∨ s.prsEnqueue e = u.inc F.PRS_MERGE_CNT) := by
  unfold State.prsEnqueue
  dsimp only
  split
  · exact ⟨_, _, _, rfl, .inl rfl⟩
  · split
    · split
      · exact ⟨_, _, _, rfl, .inr (.inl rfl)⟩
      · exact ⟨_, _, _, rfl, .inl rfl⟩
    · split
      · exact ⟨_, _, _, rfl, .inr (.inr rfl)⟩
      · exact ⟨_, _, _, rfl, .inr (.inr rfl)⟩

namespace StateSet
variable {st : PrsState}

theorem setReg (h : StateSet st s t) {a : Nat} (v : Word) (hreg : prsReg a) (ha : a ≠ Reg.PRS_STAT) : StateSet st s (t.setReg a v) where
  frame := congrArg (fun x => { x with regs := (t.setReg a v).regs }) h.frame
  regs := h.regs.trans (t.setReg_prsUpkeep v hreg).regs
  flag := fun hwf f hf => (congrArg (fun w => getBits w f.lo f.w) (t.reg_setReg_other a f.addr v fun e => ha (e ▸ hf.1))).trans
    (h.flag hwf f hf)

theorem edgeEv (h : StateSet st s t) : StateSet st s (t.raise F.PRS_STAT_EDGE_EV) where
  frame := congrArg (fun x => { x with regs := (t.raise F.PRS_STAT_EDGE_EV).regs }) h.frame
  regs := h.regs.trans (.setFld t F.PRS_STAT_EDGE_EV _ (.inl rfl))
  flag := fun hwf f hf => (t.fld_setFld_flag _ (h.regs.wf hwf) (.inr rfl) hf).trans (h.flag hwf f hf)

theorem enqueue (h : StateSet st s t) (e : PrsEdge) : StateSet st s (t.prsEnqueue e) := by
  obtain ⟨u, q, d, rfl, hu⟩ := t.prsEnqueue_cases e
  have queued : StateSet st s { t with lio := { t.lio with prs := { t.lio.prs with queue := q, dropPresent := d } } } :=
    ⟨congrArg (fun x => { x with lio := { x.lio with prs := { x.lio.prs with queue := q, dropPresent := d } } }) h.frame,
      h.regs.trans (.of_regs_eq rfl), h.flag⟩
  rcases hu with hu | hu | hu <;> rw [hu]
  · exact queued
  · exact queued.setReg _ (.inr (.inr (.inr (.inl rfl)))) (by decide)
  · exact queued.setReg _ (.inr (.inr (.inr (.inr rfl)))) (by decide)

theorem edge (h : StateSet st s t) (e : PrsEdge) : StateSet st s (t.prsEdge e) :=
  (((h.setReg (BitVec.ofNat 32 e.pos.toNat) (.inr (.inl rfl)) (by decide)).setReg
    (BitVec.ofNat 32 (e.pos.toNat / 2 ^ 32 + 65536 * b2n e.toPresent + 131072 * b2n e.forced)) (.inr (.inr (.inl rfl)))
    (by decide)).edgeEv).enqueue e

end StateSet

theorem prsSetState_stateSet (s : State) (st : PrsState) (forced : Bool) (pos : Pos) : StateSet st s (s.prsSetState st forced pos) := by
  have stated : StateSet st s
      ({ s with lio := { s.lio with prs := { s.lio.prs with st := st } } }.setFld F.PRS_STAT_STATE st.code) :=
    ⟨rfl, (WritesRegs.setFld _ F.PRS_STAT_STATE _ (.inl rfl)).of_start rfl, fun hwf f => fld_setFld_flag _ _ hwf (.inl rfl)⟩
  unfold State.prsSetState
  dsimp only
  split
  · exact stated.edge _
  · exact stated

/-! ### Stops and starts (R138) -/

theorem prsStop_stops (h : s.lio.prs.running = true) :
    PrsOnly s s.prsStop ∧ s.prsStop.lio.prs.running = false ∧ s.prsStop.lio.prs.st = .unknown := by
  have stopped := s.prsSetState_stateSet .unknown true s.trigPos
  unfold State.prsStop
  rw [if_pos h]
  exact ⟨stopped.receives.frame.trans rfl, rfl, congrArg Presence.st stopped.prs⟩

/-- The receiver runs where it may, once it runs or is enabled. -/
theorem prsSettle_settles (s : State) : PrsOnly s s.prsSettle ∧
    s.prsSettle.lio.prs.running = (s.lioRuns && (s.lio.prs.running || s.bit F.PRS_CFG_EN)) := by
  unfold State.prsSettle State.prsMay
  cases hrun : s.lio.prs.running <;> cases hmay : s.lioRuns
  case true.false =>
    obtain ⟨frame, running, -⟩ := prsStop_stops hrun
    exact ⟨frame, running⟩
  case true.true => exact ⟨rfl, hrun⟩
  case false.false => exact ⟨rfl, hrun⟩
  case false.true =>
    cases hen : s.bit F.PRS_CFG_EN
    · exact ⟨rfl, hrun⟩
    · exact ⟨rfl, rfl⟩

end State

/-! ### Valid codes (R125, R126, R129) -/

/-- The run of R126 after one more valid code. -/
def Presence.runAfter (p : Presence) (present : Bool) (pos : Pos) : PrsRun :=
  if p.run.len = 0 ∨ p.run.present ≠ present then { present := present, len := 1, pos := pos }
  else { p.run with len := p.run.len + 1 }

theorem Presence.runAfter_len (p : Presence) (present : Bool) (pos : Pos) :
    (p.runAfter present pos).len = if p.run.len = 0 ∨ p.run.present ≠ present then 1 else p.run.len + 1 := by
  unfold Presence.runAfter
  split <;> rfl

theorem Presence.runAfter_present (p : Presence) (present : Bool) (pos : Pos) : (p.runAfter present pos).present = present := by
  unfold Presence.runAfter
  split
  next => rfl
  next h => exact not_not.mp (not_or.mp h).2

/-- What a valid code of a raw state leaves of a receiver. -/
def ValidShown (p : Presence) (present : Bool) (x : State) : Prop :=
  let len := if p.run.len = 0 ∨ p.run.present ≠ present then 1 else p.run.len + 1
  let new : PrsState := if present then .present else .absent
  x.fld F.PRS_STAT_INVALID = 0 ∧ x.bit F.PRS_STAT_BLINDED = false ∧ x.lio.prs.invRun = 0 ∧ x.lio.prs.run.len = len ∧
    x.lio.prs.run.present = present ∧ x.lio.prs.st = if getBits p.cfg 9 4 ≤ len then new else p.st

namespace State

/-- The state in which BLINDED and INVALID have cleared. -/
def validCleared (s : State) : State := (s.setFld F.PRS_STAT_BLINDED 0).setFld F.PRS_STAT_INVALID 0

/-- The state in which a valid code has also joined its run. -/
def validCounted (s : State) (present : Bool) : State :=
  { s.validCleared with lio := { s.lio with prs := { s.lio.prs with
      invRun := 0, run := s.lio.prs.runAfter present s.validCleared.trigPos } } }

theorem prsValid_cases (s : State) (present : Bool) :
    (getBits s.lio.prs.cfg 9 4 ≤ (s.validCounted present).lio.prs.run.len ∧
      StateSet (if present then .present else .absent) ((s.validCounted present).setFld F.PRS_STAT_FORCED 0) (s.prsValid present)) ∨
    (¬getBits s.lio.prs.cfg 9 4 ≤ (s.validCounted present).lio.prs.run.len ∧ s.prsValid present = s.validCounted present) := by
  by_cases h : getBits s.lio.prs.cfg 9 4 ≤ (s.validCounted present).lio.prs.run.len
  · have debounced : s.prsValid present = ((s.validCounted present).setFld F.PRS_STAT_FORCED 0).prsSetState
        (if present then .present else .absent) false (s.validCounted present).lio.prs.run.pos := if_pos h
    rw [debounced]
    exact .inl ⟨h, prsSetState_stateSet _ _ _ _⟩
  · exact .inr ⟨h, if_neg h⟩

theorem validCounted_receives (s : State) (present : Bool) : Receives prsReg s (s.validCounted present) where
  frame := rfl
  regs := ((WritesRegs.setFld s F.PRS_STAT_BLINDED 0 (.inl rfl)).trans (.setFld _ F.PRS_STAT_INVALID 0 (.inl rfl))).trans (.of_regs_eq rfl)
  running := rfl
  next := rfl

theorem prsValid_receives (s : State) (present : Bool) : Receives prsReg s (s.prsValid present) := by
  have counted := s.validCounted_receives present
  rcases s.prsValid_cases present with ⟨-, stated⟩ | ⟨-, h⟩
  · exact (counted.trans (.setFld _ 0 (.inl rfl))).trans stated.receives
  · exact h ▸ counted

theorem validCounted_flags (hwf : SMap.wf Reg.resetWord s.regs = true) (present : Bool) :
    (s.validCounted present).fld F.PRS_STAT_INVALID = 0 ∧ (s.validCounted present).fld F.PRS_STAT_BLINDED = 0 := by
  have cleared := s.regsWf_setFld F.PRS_STAT_BLINDED 0 hwf
  exact ⟨fld_setFld_fits _ cleared (by decide) (by decide), (fld_setFld_disjoint _ F.PRS_STAT_INVALID F.PRS_STAT_BLINDED 0 cleared rfl
    (by decide) (by decide)).trans (s.fld_setFld_fits hwf (by decide) (by decide))⟩

theorem prsValid_shows (hwf : SMap.wf Reg.resetWord s.regs = true) (present : Bool) :
    ValidShown s.lio.prs present (s.prsValid present) := by
  have len := s.lio.prs.runAfter_len present s.validCleared.trigPos
  have raw := s.lio.prs.runAfter_present present s.validCleared.trigPos
  have countedWf := (s.validCounted_receives present).regs.wf hwf
  obtain ⟨invalid, blinded⟩ := validCounted_flags hwf present
  unfold ValidShown
  dsimp only
  rw [← len]
  rcases s.prsValid_cases present with ⟨hdeb, stated⟩ | ⟨hdeb, h⟩
  · have flag {f : Fld} (hf : statFlag f) (apart : f.lo + f.w ≤ 3 ∨ 4 ≤ f.lo) :
        (s.prsValid present).fld f = (s.validCounted present).fld f :=
      (stated.flag (regsWf_setFld _ _ _ countedWf) f hf).trans
        (fld_setFld_disjoint _ F.PRS_STAT_FORCED f 0 countedWf hf.1 (by have := hf.2.2; omega) apart.symm)
    have run := congrArg Presence.run stated.prs
    refine ⟨(flag (by decide) (by decide)).trans invalid, ?_, congrArg Presence.invRun stated.prs, congrArg PrsRun.len run,
      (congrArg PrsRun.present run).trans raw, (congrArg Presence.st stated.prs).trans (if_pos hdeb).symm⟩
    simp [State.bit, flag (f := F.PRS_STAT_BLINDED) (by decide) (by decide), blinded]
  · rw [h]
    exact ⟨invalid, by simp [State.bit, blinded], rfl, rfl, raw, (if_neg hdeb).symm⟩

end State

/-! ### Invalid codes (R130) -/

/-- The state that FAIL selects. -/
def Presence.failState (p : Presence) : PrsState :=
  if getBits p.cfg 3 2 = 0 then .present else if getBits p.cfg 3 2 = 1 then .absent else p.st

/-- What an invalid code leaves of a receiver, up to the code at which the fail state applies. -/
def InvalidShown (p : Presence) (x : State) : Prop :=
  x.lio.prs.invRun = p.invRun + 1 ∧
  (p.invRun < getBits p.cfg 5 4 → x.lio.prs.st = p.st ∧ x.lio.prs.run = p.run) ∧
  (p.invRun = getBits p.cfg 5 4 → x.bit F.PRS_STAT_FORCED = true ∧ x.lio.prs.st = p.failState)

namespace State

/-- The state in which INVALID has counted one more code. -/
def invalidCounted (s : State) : State :=
  { s with lio := { s.lio with prs := { s.lio.prs with invRun := s.lio.prs.invRun + 1 } } }.setFld F.PRS_STAT_INVALID
    (min (s.lio.prs.invRun + 1) 15)

/-- The state in which a fail state is about to apply: FORCED is set and the run is forgotten. -/
def failing (s : State) : State :=
  { s.invalidCounted with lio := { s.lio with prs := { s.lio.prs with invRun := s.lio.prs.invRun + 1, run := {} } } }.raise
    F.PRS_STAT_FORCED

theorem prsInvalid_cases (s : State) :
    (getBits s.lio.prs.cfg 5 4 ≤ s.lio.prs.invRun ∧ StateSet s.lio.prs.failState s.failing s.prsInvalid) ∨
    (s.lio.prs.invRun ≠ getBits s.lio.prs.cfg 5 4 ∧ s.prsInvalid = s.invalidCounted) := by
  unfold State.prsInvalid
  dsimp only
  split
  next h =>
    refine .inl ⟨by omega, ?_⟩
    unfold Presence.failState
    split
    · exact prsSetState_stateSet s.failing _ _ _
    · split
      · exact prsSetState_stateSet s.failing _ _ _
      · exact .refl s.failing
  next h => exact .inr ⟨by omega, rfl⟩

theorem invalidCounted_receives (s : State) : Receives prsReg s s.invalidCounted where
  frame := rfl
  regs := (WritesRegs.setFld _ F.PRS_STAT_INVALID _ (.inl rfl)).of_start rfl
  running := rfl
  next := rfl

theorem failing_receives (s : State) : Receives prsReg s s.failing where
  frame := rfl
  regs := s.invalidCounted_receives.regs.trans ((WritesRegs.setFld _ F.PRS_STAT_FORCED _ (.inl rfl)).of_start rfl)
  running := rfl
  next := rfl

theorem prsInvalid_receives (s : State) : Receives prsReg s s.prsInvalid := by
  rcases s.prsInvalid_cases with ⟨-, stated⟩ | ⟨-, h⟩
  · exact s.failing_receives.trans stated.receives
  · exact h ▸ s.invalidCounted_receives

theorem prsInvalid_shows (hwf : SMap.wf Reg.resetWord s.regs = true) : InvalidShown s.lio.prs s.prsInvalid := by
  rcases s.prsInvalid_cases with ⟨hlimit, stated⟩ | ⟨hlimit, h⟩
  · have forced : s.prsInvalid.fld F.PRS_STAT_FORCED = s.failing.fld F.PRS_STAT_FORCED :=
      stated.flag (s.failing_receives.regs.wf hwf) _ (by decide)
    have raised : s.failing.bit F.PRS_STAT_FORCED = true := bit_raise _ (s.invalidCounted_receives.regs.wf hwf) (by decide) (by decide)
    exact ⟨congrArg Presence.invRun stated.prs, fun hlt => absurd hlt (Nat.not_lt.mpr hlimit),
      fun _ => ⟨(congrArg (· != 0) forced).trans raised, congrArg Presence.st stated.prs⟩⟩
  · rw [h]
    exact ⟨rfl, fun _ => ⟨rfl, rfl⟩, fun heq => absurd heq hlimit⟩

/-- An invalid code does not touch BLINDED. -/
theorem prsInvalid_blinded (hwf : SMap.wf Reg.resetWord s.regs = true) :
    s.prsInvalid.fld F.PRS_STAT_BLINDED = s.fld F.PRS_STAT_BLINDED := by
  have counted : s.invalidCounted.fld F.PRS_STAT_BLINDED = s.fld F.PRS_STAT_BLINDED :=
    fld_setFld_disjoint _ F.PRS_STAT_INVALID _ _ hwf rfl (by decide) (by decide)
  have countedWf := s.invalidCounted_receives.regs.wf hwf
  rcases s.prsInvalid_cases with ⟨-, stated⟩ | ⟨-, h⟩
  · have failed : s.failing.fld F.PRS_STAT_BLINDED = s.invalidCounted.fld F.PRS_STAT_BLINDED :=
      fld_setFld_disjoint _ F.PRS_STAT_FORCED _ _ countedWf rfl (by decide) (by decide)
    exact ((stated.flag (s.failing_receives.regs.wf hwf) _ (by decide)).trans failed).trans counted
  · exact h ▸ counted

/-! ### The class of a code (R124, R129, R139) -/

/-- The registers that a code end writes. -/
def codeReg (a : Nat) : Prop := prsReg a ∨ a = Reg.PRS_CORR ∨ a = Reg.PRS_BLIND_CNT ∨ a = Reg.PRS_WEAK_CNT

/-- The state in which a code is classed: its samples are taken, its correlation and its flood causes are shown. -/
def correlated (s : State) (prx : BitVec 496) (amb : List (BitVec 10)) : State :=
  ((s.prsSamples amb).setFld F.PRS_CORR_C (BitVec.ofInt 6 (prsCorr prx (getBits s.lio.prs.cfg 13 5))).toNat).setFld
    F.PRS_CORR_CAUSE (s.prsCause prx amb)

/-- The state in which a blinded code is shown and counted. -/
def blinded (s : State) : State := ((s.raise F.PRS_STAT_BLINDED).raise F.PRS_STAT_BLIND_EV).inc F.PRS_BLIND_CNT

variable {prx : BitVec 496} {amb : List (BitVec 10)}

theorem correlated_receives (s : State) (prx : BitVec 496) (amb : List (BitVec 10)) :
    Receives (· = Reg.PRS_CORR) s (s.correlated prx amb) := by
  have sampled : Receives (· = Reg.PRS_CORR) s (s.prsSamples amb) := ⟨rfl, .of_regs_eq rfl, rfl, rfl⟩
  exact (sampled.trans (.setFld _ (f := F.PRS_CORR_C) _ rfl)).trans (.setFld _ (f := F.PRS_CORR_CAUSE) _ rfl)

theorem correlated_ballFixed (s : State) : (s.correlated prx amb).ballFixed 34 = s.ballFixed 34 := by
  have same : (s.correlated prx amb).fld (F.JIG_PINj_FUNC 34) = s.fld (F.JIG_PINj_FUNC 34) :=
    (s.correlated_receives prx amb).regs.fld (by decide)
  exact congrArg (fun n => s.mode == .fallback || n != 0) same

theorem floodBits_lt (a b c d : Bool) : b2n a + 2 * b2n b + 4 * b2n c + 8 * b2n d < 2 ^ 4 := by
  revert a b c d
  decide

theorem prsCause_lt (s : State) (prx : BitVec 496) (amb : List (BitVec 10)) : s.prsCause prx amb < 2 ^ 4 := floodBits_lt _ _ _ _

theorem prsCorr_not_prsReg : ¬prsReg Reg.PRS_CORR := by unfold prsReg; decide

/-- PRS_CORR shows the correlation and the causes. -/
def CorrShown (c : Int) (cause : Nat) (x : State) : Prop :=
  x.fld F.PRS_CORR_C = (BitVec.ofInt 6 c).toNat ∧ x.fld F.PRS_CORR_CAUSE = cause

theorem correlated_shows (hwf : SMap.wf Reg.resetWord s.regs = true) :
    CorrShown (prsCorr prx (getBits s.lio.prs.cfg 13 5)) (s.prsCause prx amb) (s.correlated prx amb) := by
  have wf : SMap.wf Reg.resetWord (s.prsSamples amb).regs = true := hwf
  have shownWf := regsWf_setFld _ F.PRS_CORR_C (BitVec.ofInt 6 (prsCorr prx (getBits s.lio.prs.cfg 13 5))).toNat wf
  exact ⟨(fld_setFld_disjoint _ F.PRS_CORR_CAUSE F.PRS_CORR_C _ shownWf rfl (by decide) (by decide)).trans
    (fld_setFld_fits _ wf (by decide) (BitVec.isLt _)), fld_setFld_fits _ shownWf (by decide) (s.prsCause_lt prx amb)⟩

theorem CorrShown.of_regs {W : Nat → Prop} {c : Int} {cause : Nat} (h : CorrShown c cause s) (hregs : WritesRegs W s t)
    (hW : ¬W Reg.PRS_CORR) : CorrShown c cause t :=
  ⟨(hregs.fld hW).trans h.1, (hregs.fld hW).trans h.2⟩

@[simp] theorem blinded_lio (s : State) : s.blinded.lio = s.lio := rfl

theorem blinded_regs (s : State) : WritesRegs (fun a => a = Reg.PRS_STAT ∨ a = Reg.PRS_BLIND_CNT) s s.blinded :=
  ((WritesRegs.setFld s F.PRS_STAT_BLINDED _ (.inl rfl)).trans (.setFld _ F.PRS_STAT_BLIND_EV _ (.inl rfl))).trans
    (.inc _ F.PRS_BLIND_CNT (.inr rfl))

theorem blinded_receives (s : State) : Receives codeReg s s.blinded :=
  ⟨rfl, s.blinded_regs.mono fun _ => Or.imp .inl fun h => .inr (.inl h), rfl, rfl⟩

theorem weak_receives (s : State) : Receives codeReg s (s.inc F.PRS_WEAK_CNT) :=
  .setFld s _ (.inr (.inr (.inr rfl)))

/-- Which class a code has decides what it does (R124, R139). -/
theorem prsClass_eq (s : State) (prx : BitVec 496) (amb : List (BitVec 10)) : s.prsClass prx amb =
    if !s.ballFixed 34 then ((s.correlated prx amb).inc F.PRS_WEAK_CNT).prsInvalid
    else if s.prsCause prx amb ≠ 0 then (s.correlated prx amb).blinded.prsInvalid
    else if (BitVec.ofNat 6 (getBits s.lio.prs.thr 0 6)).toInt ≤ prsCorr prx (getBits s.lio.prs.cfg 13 5) then
      (s.correlated prx amb).prsValid (bitOf s.lio.prs.cfg.toNat 1)
    else if prsCorr prx (getBits s.lio.prs.cfg 13 5) ≤ (BitVec.ofNat 6 (getBits s.lio.prs.thr 8 6)).toInt then
      (s.correlated prx amb).prsValid (!bitOf s.lio.prs.cfg.toNat 1)
    else ((s.correlated prx amb).inc F.PRS_WEAK_CNT).prsInvalid := by
  rw [← s.correlated_ballFixed (prx := prx) (amb := amb)]
  rfl

section
variable (hball : s.ballFixed 34 = true)
include hball

theorem prsClass_flooded (hcause : s.prsCause prx amb ≠ 0) : s.prsClass prx amb = (s.correlated prx amb).blinded.prsInvalid := by
  rw [prsClass_eq, hball, if_neg (by decide), if_pos hcause]

variable (hcause : s.prsCause prx amb = 0)
include hcause

theorem prsClass_seen (hseen : (BitVec.ofNat 6 (getBits s.lio.prs.thr 0 6)).toInt ≤ prsCorr prx (getBits s.lio.prs.cfg 13 5)) :
    s.prsClass prx amb = (s.correlated prx amb).prsValid (bitOf s.lio.prs.cfg.toNat 1) := by
  rw [prsClass_eq, hball, if_neg (by decide), if_neg (not_not_intro hcause), if_pos hseen]

variable (hseen : prsCorr prx (getBits s.lio.prs.cfg 13 5) < (BitVec.ofNat 6 (getBits s.lio.prs.thr 0 6)).toInt)
include hseen

theorem prsClass_notSeen (hgone : prsCorr prx (getBits s.lio.prs.cfg 13 5) ≤ (BitVec.ofNat 6 (getBits s.lio.prs.thr 8 6)).toInt) :
    s.prsClass prx amb = (s.correlated prx amb).prsValid (!bitOf s.lio.prs.cfg.toNat 1) := by
  rw [prsClass_eq, hball, if_neg (by decide), if_neg (not_not_intro hcause), if_neg (not_le.mpr hseen), if_pos hgone]

theorem prsClass_weak (hgone : (BitVec.ofNat 6 (getBits s.lio.prs.thr 8 6)).toInt < prsCorr prx (getBits s.lio.prs.cfg 13 5)) :
    s.prsClass prx amb = ((s.correlated prx amb).inc F.PRS_WEAK_CNT).prsInvalid := by
  rw [prsClass_eq, hball, if_neg (by decide), if_neg (not_not_intro hcause), if_neg (not_le.mpr hseen), if_neg (not_le.mpr hgone)]

end

theorem prsClass_receives (s : State) (prx : BitVec 496) (amb : List (BitVec 10)) : Receives codeReg s (s.prsClass prx amb) := by
  have shown : Receives codeReg s (s.correlated prx amb) := (s.correlated_receives prx amb).mono fun _ h => .inr (.inl h)
  have valid (b : Bool) := shown.trans (((s.correlated prx amb).prsValid_receives b).mono fun _ => .inl)
  have weak := (shown.trans (weak_receives _)).trans ((prsInvalid_receives _).mono fun _ => .inl)
  rw [prsClass_eq]
  split
  · exact weak
  · split
    · exact (shown.trans (blinded_receives _)).trans ((prsInvalid_receives _).mono fun _ => .inl)
    · split
      · exact valid _
      · split
        · exact valid _
        · exact weak

section
variable (hwf : SMap.wf Reg.resetWord s.regs = true)
include hwf

theorem prsClass_valid_shows {b : Bool} (h : s.prsClass prx amb = (s.correlated prx amb).prsValid b) :
    CorrShown (prsCorr prx (getBits s.lio.prs.cfg 13 5)) (s.prsCause prx amb) (s.prsClass prx amb) ∧
    ValidShown s.lio.prs b (s.prsClass prx amb) := by
  rw [h]
  exact ⟨(correlated_shows hwf).of_regs (prsValid_receives _ b).regs prsCorr_not_prsReg,
    prsValid_shows ((s.correlated_receives prx amb).regs.wf hwf) b⟩

theorem prsClass_weak_shows (h : s.prsClass prx amb = ((s.correlated prx amb).inc F.PRS_WEAK_CNT).prsInvalid) :
    CorrShown (prsCorr prx (getBits s.lio.prs.cfg 13 5)) (s.prsCause prx amb) (s.prsClass prx amb) ∧
    InvalidShown s.lio.prs (s.prsClass prx amb) ∧
    (s.prsClass prx amb).fld F.PRS_WEAK_CNT = (s.fld F.PRS_WEAK_CNT + 1) % 2 ^ F.PRS_WEAK_CNT.w := by
  have regs := (s.correlated_receives prx amb).regs
  have weakRegs := WritesRegs.inc (W := (· = Reg.PRS_WEAK_CNT)) (s.correlated prx amb) F.PRS_WEAK_CNT rfl
  have invalidRegs := ((s.correlated prx amb).inc F.PRS_WEAK_CNT).prsInvalid_receives.regs
  have counted : (s.correlated prx amb).fld F.PRS_WEAK_CNT = s.fld F.PRS_WEAK_CNT := regs.fld (by decide)
  rw [h, ← counted]
  exact ⟨((correlated_shows hwf).of_regs weakRegs (by decide)).of_regs invalidRegs prsCorr_not_prsReg,
    prsInvalid_shows (weakRegs.wf (regs.wf hwf)),
    (invalidRegs.fld (by unfold prsReg; decide)).trans (fld_inc _ _ (regs.wf hwf) (by decide))⟩

/-- What the counter and the flag of a blinded code read. -/
theorem blinded_shows : s.blinded.bit F.PRS_STAT_BLINDED = true ∧
    s.blinded.fld F.PRS_BLIND_CNT = (s.fld F.PRS_BLIND_CNT + 1) % 2 ^ F.PRS_BLIND_CNT.w := by
  have flagRegs := WritesRegs.setFld (W := (· = Reg.PRS_STAT)) s F.PRS_STAT_BLINDED (2 ^ F.PRS_STAT_BLINDED.w - 1) rfl
  have eventRegs := WritesRegs.setFld (W := (· = Reg.PRS_STAT)) (s.raise F.PRS_STAT_BLINDED) F.PRS_STAT_BLIND_EV
    (2 ^ F.PRS_STAT_BLIND_EV.w - 1) rfl
  have kept : s.blinded.fld F.PRS_STAT_BLINDED = (s.raise F.PRS_STAT_BLINDED).fld F.PRS_STAT_BLINDED :=
    (fld_setFld_other _ F.PRS_BLIND_CNT _ _ (by decide)).trans
      (fld_setFld_disjoint _ F.PRS_STAT_BLIND_EV _ _ (flagRegs.wf hwf) rfl (by decide) (by decide))
  have before : ((s.raise F.PRS_STAT_BLINDED).raise F.PRS_STAT_BLIND_EV).fld F.PRS_BLIND_CNT = s.fld F.PRS_BLIND_CNT :=
    (flagRegs.trans eventRegs).fld (by decide)
  rw [← before]
  exact ⟨(congrArg (· != 0) kept).trans (s.bit_raise hwf (by decide) (by decide)),
    fld_inc _ F.PRS_BLIND_CNT ((flagRegs.trans eventRegs).wf hwf) (by decide)⟩

theorem prsClass_blinded_shows (h : s.prsClass prx amb = (s.correlated prx amb).blinded.prsInvalid) :
    CorrShown (prsCorr prx (getBits s.lio.prs.cfg 13 5)) (s.prsCause prx amb) (s.prsClass prx amb) ∧
    InvalidShown s.lio.prs (s.prsClass prx amb) ∧ (s.prsClass prx amb).bit F.PRS_STAT_BLINDED = true ∧
    (s.prsClass prx amb).fld F.PRS_BLIND_CNT = (s.fld F.PRS_BLIND_CNT + 1) % 2 ^ F.PRS_BLIND_CNT.w := by
  have regs := (s.correlated_receives prx amb).regs
  have blindedRegs := (s.correlated prx amb).blinded_regs
  have invalidRegs := (s.correlated prx amb).blinded.prsInvalid_receives.regs
  have blindedWf := blindedRegs.wf (regs.wf hwf)
  have counted : (s.correlated prx amb).fld F.PRS_BLIND_CNT = s.fld F.PRS_BLIND_CNT := regs.fld (by decide)
  have shown := prsInvalid_shows blindedWf
  rw [blinded_lio] at shown
  obtain ⟨flag, count⟩ := blinded_shows (regs.wf hwf)
  rw [h, ← counted]
  exact ⟨((correlated_shows hwf).of_regs blindedRegs (by decide)).of_regs invalidRegs prsCorr_not_prsReg,
    shown, (congrArg (· != 0) (prsInvalid_blinded blindedWf)).trans flag,
    (invalidRegs.fld (by unfold prsReg; decide)).trans count⟩

end

/-! ### The code end (R123, R137) -/

/-- The state in which the code of the period that ended has been classed, or discarded. -/
def codeJudged (s : State) (prx : BitVec 496) (amb : List (BitVec 10)) (t : Nat) : State :=
  if s.lio.prs.discard then (s.atT t).prsSamples amb else (s.atT t).prsClass prx amb

/-- The configuration of the period that began 4 LCLK before the code end. -/
def prsNext (s : State) : Word × Word × Word := s.lio.prs.next.getD s.prsWritten

variable {e : Nat}

theorem codeJudged_receives (s : State) (prx : BitVec 496) (amb : List (BitVec 10)) (e : Nat) :
    Receives codeReg (s.atT e) (s.codeJudged prx amb e) := by
  unfold codeJudged
  split
  · exact ⟨rfl, .of_regs_eq rfl, rfl, rfl⟩
  · exact (s.atT e).prsClass_receives prx amb

theorem codeJudged_prsNext : (s.codeJudged prx amb e).prsNext = s.prsNext := by
  have judged := s.codeJudged_receives prx amb e
  have written : (s.codeJudged prx amb e).prsWritten = s.prsWritten :=
    congrArg₂ Prod.mk (judged.regs.but Reg.PRS_CFG (by unfold codeReg prsReg; decide))
      (congrArg₂ Prod.mk (judged.regs.but Reg.PRS_LAG (by unfold codeReg prsReg; decide))
        (judged.regs.but Reg.PRS_THR (by unfold codeReg prsReg; decide)))
  exact congrArg₂ Option.getD judged.next written

theorem execPrsCodeEnd_runs (hrun : s.lio.prs.running = true) : exec (.prsCodeEnd prx amb e) s =
    .next (if s.prsNext.1.getLsbD 0 then (s.codeJudged prx amb e).prsLatch s.prsNext (e - 4)
      else ((s.codeJudged prx amb e).prsLatch s.prsNext (e - 4)).prsStop) := by
  rw [← codeJudged_prsNext (prx := prx) (amb := amb) (e := e)]
  exact if_pos hrun

section
variable (hrun : s.lio.prs.running = true)
include hrun

theorem codeEnd_keeps (prx : BitVec 496) (amb : List (BitVec 10)) (e : Nat) :
    PrsOnly (s.atT e) ((s.codeJudged prx amb e).prsLatch s.prsNext (e - 4)) ∧
    ((s.codeJudged prx amb e).prsLatch s.prsNext (e - 4)).lio.prs.running = true := by
  have judged := s.codeJudged_receives prx amb e
  exact ⟨judged.frame.trans rfl, judged.running.trans hrun⟩

theorem execPrsCodeEnd_enabled (hen : s.prsNext.1.getLsbD 0 = true) : exec (.prsCodeEnd prx amb e) s =
    .next ((s.codeJudged prx amb e).prsLatch s.prsNext (e - 4)) :=
  (execPrsCodeEnd_runs hrun).trans (congrArg _ (if_pos hen))

theorem execPrsCodeEnd_disabled (hen : ¬s.prsNext.1.getLsbD 0 = true) : exec (.prsCodeEnd prx amb e) s =
    .next ((s.codeJudged prx amb e).prsLatch s.prsNext (e - 4)).prsStop :=
  (execPrsCodeEnd_runs hrun).trans (congrArg _ (if_neg hen))

end

theorem codeJudged_classed (h : s.lio.prs.discard = false) : s.codeJudged prx amb e = (s.atT e).prsClass prx amb :=
  if_neg (Bool.eq_false_iff.mp h)

theorem codeJudged_discarded (h : s.lio.prs.discard = true) : s.codeJudged prx amb e = (s.atT e).prsSamples amb := if_pos h

/-! ### Writes (R124, R137) -/

/-- Taking the configuration of a period that has begun changes nothing else. -/
theorem prsTake_writes (s : State) :
    s.prsTake = { s with lio := { s.lio with prs := { s.lio.prs with next := s.prsTake.lio.prs.next } } } := by
  unfold State.prsTake
  dsimp only
  split <;> rfl

theorem prsTake_only (s : State) : PrsOnly s s.prsTake := by
  unfold PrsOnly State.prsTake
  dsimp only
  split <;> rfl

/-- A register is written by a receiver that takes the period's configuration first. -/
theorem prsTake_setReg (s : State) (a : Nat) (v : Word) :
    s.prsTake.setReg a v = { s with
      regs := (s.prsTake.setReg a v).regs
      lio := { s.lio with prs := { s.lio.prs with next := (s.prsTake.setReg a v).lio.prs.next } } } ∧
    regsBut s (s.prsTake.setReg a v) fun b => b = a := by
  have taken := s.prsTake_writes
  have regs : s.prsTake.regs = s.regs := (congrArg State.regs taken :)
  refine ⟨congrArg (fun x => { x with regs := (s.prsTake.setReg a v).regs }) taken, fun b hb => ?_⟩
  exact (s.prsTake.reg_setReg_other a b v hb).trans (congrArg (fun m => SMap.get Reg.resetWord m b) regs)

theorem prsTake_regsWf (h : SMap.wf Reg.resetWord s.regs = true) : SMap.wf Reg.resetWord s.prsTake.regs = true :=
  (congrArg (SMap.wf Reg.resetWord) (congrArg State.regs s.prsTake_writes :)).trans h

theorem execPrsCfgWrite_on (hon : s.domOn Dom.lineio = true) (r : PrsReg) (v : Word) :
    exec (.prsCfgWrite r v) s = .next (s.writePrs r v) := if_pos hon

/-- The lowest bit of a word, as a field. -/
theorem getBits_zero_one (x : Word) : (getBits x 0 1 != 0) = x.getLsbD 0 := by
  unfold getBits BitVec.getLsbD
  rw [Nat.testBit_zero, Nat.pow_zero, Nat.div_one, Nat.pow_one]
  rcases Nat.mod_two_eq_zero_or_one x.toNat with h | h <;> rw [h] <;> rfl

/-- A PRS_CFG in range is written, and the receiver settles. -/
theorem writeCfg_settles (hwf : SMap.wf Reg.resetWord s.regs = true) (v : Word) :
    PrsOnly s (s.prsTake.setReg Reg.PRS_CFG v).prsSettle ∧ (s.prsTake.setReg Reg.PRS_CFG v).prsSettle.reg Reg.PRS_CFG = v ∧
    (s.prsTake.setReg Reg.PRS_CFG v).prsSettle.lio.prs.running = (s.lioRuns && (s.lio.prs.running || v.getLsbD 0)) := by
  obtain ⟨written, -⟩ := s.prsTake_setReg Reg.PRS_CFG v
  obtain ⟨frame, running⟩ := (s.prsTake.setReg Reg.PRS_CFG v).prsSettle_settles
  have reads : (s.prsTake.setReg Reg.PRS_CFG v).reg Reg.PRS_CFG = v := State.reg_setReg _ _ _ (prsTake_regsWf hwf)
  have enabled : (s.prsTake.setReg Reg.PRS_CFG v).bit F.PRS_CFG_EN = v.getLsbD 0 :=
    (congrArg (fun w => getBits w 0 1 != 0) reads).trans (getBits_zero_one v)
  have mayRun : (s.prsTake.setReg Reg.PRS_CFG v).lioRuns = s.lioRuns := (congrArg State.lioRuns written :)
  have ran : (s.prsTake.setReg Reg.PRS_CFG v).lio.prs.running = s.lio.prs.running := (congrArg (·.lio.prs.running) written :)
  rw [mayRun, ran, enabled] at running
  have only : PrsOnly s (s.prsTake.setReg Reg.PRS_CFG v) := s.prsTake_only.trans rfl
  exact ⟨only.trans frame, ((prsSettle_prsUpkeep _).regs.but Reg.PRS_CFG (by unfold prsReg; decide)).trans reads, running⟩

end State

/-- Settles O27: the class of the code decides what the code end shows, and the range of the value what a write does. -/
theorem presenceCodes : Obligations.PresenceCodes := by
  intro s prx amb t v hmem hon p c seen gone sense on ready keeps now valid invalid only thrOk cfgOk
  have hwf := State.regsWf_of_memWf hmem
  have keep (hrun : p.running = true) : keeps ((s.codeJudged prx amb t).prsLatch s.prsNext (t - 4)) :=
    State.codeEnd_keeps hrun prx amb t
  have judged (hdisc : p.discard = false) : s.codeJudged prx amb t = (s.atT t).prsClass prx amb := State.codeJudged_classed hdisc
  refine ⟨fun ⟨⟨hrun, hen⟩, hdisc, hball, hcause⟩ hseen => ⟨_, State.execPrsCodeEnd_enabled hrun hen, ?seen⟩,
    fun ⟨⟨hrun, hen⟩, hdisc, hball, hcause⟩ hseen hgone => ⟨_, State.execPrsCodeEnd_enabled hrun hen, ?gone⟩,
    fun ⟨⟨hrun, hen⟩, hdisc, hball, hcause⟩ hseen hgone => ⟨_, State.execPrsCodeEnd_enabled hrun hen, ?weak⟩,
    fun ⟨hrun, hen⟩ hdisc hball hcause => ⟨_, State.execPrsCodeEnd_enabled hrun hen, ?blinded⟩,
    fun ⟨hrun, hen⟩ hdisc => ⟨_, State.execPrsCodeEnd_enabled hrun hen, ?discarded⟩,
    fun hrun hoff => ⟨_, State.execPrsCodeEnd_disabled hrun fun hen => hoff ⟨hrun, hen⟩, ?stopped⟩,
    fun hrun => if_neg (Bool.eq_false_iff.mp hrun), fun hlag => ⟨_, State.execPrsCfgWrite_on hon _ _, ?lagRefused⟩,
    fun hlag => ⟨_, State.execPrsCfgWrite_on hon _ _, ?lagTaken⟩, fun hthr => ⟨_, State.execPrsCfgWrite_on hon _ _, ?thrTaken⟩,
    fun hthr => ⟨_, State.execPrsCfgWrite_on hon _ _, ?thrRefused⟩, fun hcfg => ⟨_, State.execPrsCfgWrite_on hon _ _, ?cfgIgnored⟩,
    fun hcfg => ⟨_, State.execPrsCfgWrite_on hon _ _, ?cfgTaken⟩⟩
  case seen =>
    obtain ⟨⟨corr, cause⟩, shown⟩ := State.prsClass_valid_shows (s := s.atT t) hwf (State.prsClass_seen hball hcause hseen)
    rw [← judged hdisc] at corr cause shown
    exact ⟨⟨keep hrun, corr, cause.trans hcause⟩, shown⟩
  case gone =>
    obtain ⟨⟨corr, cause⟩, shown⟩ :=
      State.prsClass_valid_shows (s := s.atT t) hwf (State.prsClass_notSeen hball hcause hseen hgone)
    rw [← judged hdisc] at corr cause shown
    exact ⟨⟨keep hrun, corr, cause.trans hcause⟩, shown⟩
  case weak =>
    obtain ⟨⟨corr, cause⟩, shown, count⟩ :=
      State.prsClass_weak_shows (s := s.atT t) hwf (State.prsClass_weak hball hcause hseen hgone)
    rw [← judged hdisc] at corr cause shown count
    exact ⟨⟨keep hrun, corr, cause.trans hcause⟩, shown, count⟩
  case blinded =>
    obtain ⟨⟨corr, cause⟩, shown, flag, count⟩ :=
      State.prsClass_blinded_shows (s := s.atT t) hwf (State.prsClass_flooded hball hcause)
    rw [← judged hdisc] at corr cause shown flag count
    exact ⟨⟨keep hrun, corr, cause⟩, shown, flag, count⟩
  case discarded =>
    refine ⟨keep hrun, ?_⟩
    rw [State.codeJudged_discarded hdisc]
    exact ⟨rfl, rfl, rfl, rfl⟩
  case stopped =>
    obtain ⟨frame, running⟩ := keep hrun
    obtain ⟨stopFrame, stopped, unknown⟩ := State.prsStop_stops running
    exact ⟨State.PrsOnly.trans (s := s.atT t) frame stopFrame, stopped, unknown⟩
  case lagRefused =>
    have written : s.writePrs .lag v = s.prsTake.raise F.PRS_ERR_LAG := if_pos hlag
    rw [written]
    exact ⟨s.prsTake_setReg _ _, State.bit_raise _ (State.prsTake_regsWf hwf) (by decide) (by decide)⟩
  case lagTaken =>
    have written : s.writePrs .lag v = s.prsTake.setReg Reg.PRS_LAG (v &&& 0xFFF) := if_neg (Nat.not_le.mpr hlag)
    rw [written]
    exact ⟨s.prsTake_setReg _ _, State.reg_setReg _ _ _ (State.prsTake_regsWf hwf)⟩
  case thrTaken =>
    have written : s.writePrs .thr v = s.prsTake.setReg Reg.PRS_THR (v &&& 0x3F3F) := if_neg (not_le.mpr hthr)
    rw [written]
    exact ⟨s.prsTake_setReg _ _, State.reg_setReg _ _ _ (State.prsTake_regsWf hwf)⟩
  case thrRefused =>
    have written : s.writePrs .thr v = s.prsTake.raise F.PRS_ERR_THR := if_pos (not_lt.mp hthr)
    rw [written]
    exact ⟨s.prsTake_setReg _ _, State.bit_raise _ (State.prsTake_regsWf hwf) (by decide) (by decide)⟩
  case cfgIgnored =>
    have ignored : s.writePrs .cfg v = s.prsTake := if_pos (by simpa [cfgOk, imp_iff_not_or] using hcfg)
    rw [ignored]
    exact s.prsTake_writes
  case cfgTaken =>
    have written : s.writePrs .cfg v = (s.prsTake.setReg Reg.PRS_CFG (v &&& 0x7FFFFF)).prsSettle :=
      if_neg (by simpa [cfgOk] using hcfg)
    obtain ⟨frame, reads, running⟩ := State.writeCfg_settles hwf (v &&& 0x7FFFFF)
    rw [written]
    exact ⟨frame, reads, running.trans (by simp [p])⟩

end Sys2Proof.Machine
end

section
/-! SUPPORT. What an operation of one strobe channel leaves alone: the other channels, and of its own STBn_STAT the fields that it
does not name (R148, R151, R153, R155). -/

namespace Sys2Proof.Machine
open Sys2Proof.Spec

variable {s t u : State} {n : Fin 8}

namespace State

/-! ### One channel -/

theorem StrobeFrame.trans (h : StrobeFrame s t) (k : StrobeFrame t u) : StrobeFrame s u :=
  Eq.trans k (congrArg (fun x => { x with
    regs := u.regs, log := u.log, ing := u.ing, sup := u.sup, lio := { x.lio with stb := u.lio.stb } }) h)

/-- Between two states channel n alone changes, with the registers that a predicate names. -/
structure OnStb (W : Nat → Prop) (n : Fin 8) (s t : State) : Prop where
  frame : StrobeFrame s t
  others : ∀ k : Fin 8, k ≠ n → t.lio.stb[k] = s.lio.stb[k]
  regs : WritesRegs W s t

namespace OnStb
variable {W V : Nat → Prop}

theorem refl (s : State) : OnStb W n s s := ⟨rfl, fun _ _ => rfl, .refl s⟩

theorem trans (h : OnStb W n s t) (k : OnStb W n t u) : OnStb W n s u :=
  ⟨h.frame.trans k.frame, fun i hi => (k.others i hi).trans (h.others i hi), h.regs.trans k.regs⟩

theorem mono (h : OnStb W n s t) (hWV : ∀ a, W a → V a) : OnStb V n s t := ⟨h.frame, h.others, h.regs.mono hWV⟩

theorem setStb (s : State) (n : Fin 8) (c : Strobe) : OnStb W n s (s.setStb n c) :=
  ⟨rfl, fun _ hk => s.setStb_stb_other c hk, .of_regs_eq rfl⟩

theorem setFld (s : State) {f : Fld} (v : Nat) (hf : W f.addr) : OnStb W n s (s.setFld f v) :=
  ⟨rfl, fun _ _ => rfl, .setFld s f v hf⟩

theorem warn (s : State) (source : Nat) (rest : List Byte) : OnStb W n s (s.warn source rest) := by
  obtain ⟨l, h⟩ := s.pushLog_writes 0x05 (BitVec.ofNat 8 source :: rest)
  unfold State.warn
  rw [h]
  exact ⟨rfl, fun _ _ => rfl, .of_regs_eq rfl⟩

end OnStb

/-- Between two states channel n stays, and the other channels change with the registers of theirs. -/
structure OffStb (W : Fin 8 → Nat → Prop) (n : Fin 8) (s t : State) : Prop where
  frame : StrobeFrame s t
  stb : t.lio.stb[n] = s.lio.stb[n]
  regs : WritesRegs (fun a => ∃ k, k ≠ n ∧ W k a) s t

section
variable {W : Fin 8 → Nat → Prop}

theorem OffStb.trans (h : OffStb W n s t) (k : OffStb W n t u) : OffStb W n s u :=
  ⟨h.frame.trans k.frame, k.stb.trans h.stb, h.regs.trans k.regs⟩

theorem OnStb.offStb {k : Fin 8} (h : OnStb (W k) k s t) (hk : k ≠ n) : OffStb W n s t :=
  ⟨h.frame, h.others n hk.symm, h.regs.mono fun _ ha => ⟨k, hk, ha⟩⟩

variable {f : State → Fin 8 → State} (hf : ∀ s k, OnStb (W k) k s (f s k))
include hf

theorem offStb_foldl (l : List (Fin 8)) (s : State) (h : n ∉ l) : OffStb W n s (l.foldl f s) := by
  induction l generalizing s with
  | nil => exact ⟨rfl, rfl, .refl s⟩
  | cons k l ih =>
    rw [List.mem_cons, not_or] at h
    exact ((hf s k).offStb (Ne.symm h.1)).trans (ih _ h.2)

/-- Where every channel is taken in turn, channel n is taken among changes that do not touch it. -/
theorem channels_split (s : State) (n : Fin 8) :
    ∃ t, OffStb W n s t ∧ OffStb W n (f t n) ((List.finRange 8).foldl f s) := by
  obtain ⟨l, r, hlr⟩ := List.append_of_mem (List.mem_finRange n)
  have once := List.nodup_finRange 8
  rw [hlr, List.nodup_middle, List.nodup_cons, List.mem_append, not_or] at once
  obtain ⟨⟨hl, hr⟩, -⟩ := once
  rw [hlr, List.foldl_append, List.foldl_cons]
  exact ⟨_, offStb_foldl hf l s hl, offStb_foldl hf r _ hr⟩

end

/-! ### Fields of one register -/

theorem bit_eq_of_fld_eq {f : Fld} (h : t.fld f = s.fld f) : t.bit f = s.bit f := congrArg (· != 0) h

/-- A counter that stops at its largest value, after it has counted. -/
theorem fld_addSat (s : State) (f : Fld) (k : Nat) (h : SMap.wf Reg.resetWord s.regs = true) (hf : f.lo + f.w ≤ 32) :
    (s.addSat f k).fld f = min (s.fld f + k) (2 ^ f.w - 1) := by
  have pos : 0 < 2 ^ f.w := Nat.two_pow_pos _
  exact s.fld_setFld_fits h hf (by omega)

/-- Fields that share no bit. -/
def fldsApart (f g : Fld) : Prop := f.lo + f.w ≤ g.lo ∨ g.lo + g.w ≤ f.lo

/-- Clear fields, one after the other. -/
def clearFlds (s : State) (fs : List Fld) : State := fs.foldl (fun s f => s.setFld f 0) s

theorem clearFlds_eq (s : State) (fs : List Fld) : s.clearFlds fs = { s with regs := (s.clearFlds fs).regs } := by
  induction fs generalizing s with
  | nil => rfl
  | cons f fs ih => exact (ih (s.setFld f 0)).trans rfl

section
variable {a : Nat} {fs : List Fld} (hfs : ∀ f ∈ fs, f.addr = a)
include hfs

theorem clearFlds_regs (s : State) : WritesRegs (· = a) s (s.clearFlds fs) := by
  induction fs generalizing s with
  | nil => exact .refl s
  | cons f fs ih =>
    obtain ⟨hf, htail⟩ := List.forall_mem_cons.mp hfs
    exact (WritesRegs.setFld s f 0 hf).trans (ih htail _)

/-- A field of the same register that shares no bit with the fields cleared. -/
theorem clearFlds_apart (h : SMap.wf Reg.resetWord s.regs = true) {g : Fld} (hg : g.addr = a) (hfit : g.lo + g.w ≤ 32)
    (hapart : ∀ f ∈ fs, fldsApart f g) : (s.clearFlds fs).fld g = s.fld g := by
  induction fs generalizing s with
  | nil => rfl
  | cons f fs ih =>
    obtain ⟨hf, htail⟩ := List.forall_mem_cons.mp hfs
    obtain ⟨hfg, hrest⟩ := List.forall_mem_cons.mp hapart
    exact (ih htail (s.regsWf_setFld f 0 h) hrest).trans
      (s.fld_setFld_disjoint f g 0 h (hg.trans hf.symm) hfit hfg)

/-- A field that has been cleared reads 0. -/
theorem clearFlds_reads (h : SMap.wf Reg.resetWord s.regs = true) (hfit : ∀ f ∈ fs, f.lo + f.w ≤ 32)
    (hapart : fs.Pairwise fldsApart) {g : Fld} (hg : g ∈ fs) : (s.clearFlds fs).fld g = 0 := by
  induction fs generalizing s with
  | nil => cases hg
  | cons f fs ih =>
    obtain ⟨hf, htail⟩ := List.forall_mem_cons.mp hfs
    obtain ⟨hfitf, hfitTail⟩ := List.forall_mem_cons.mp hfit
    obtain ⟨hfApart, htailApart⟩ := List.pairwise_cons.mp hapart
    have hwf := s.regsWf_setFld f 0 h
    rcases List.mem_cons.mp hg with rfl | hmem
    · exact (clearFlds_apart htail hwf hf hfitf fun k hk => (hfApart k hk).symm).trans
        ((s.fld_setFld g 0 h hfitf).trans (Nat.zero_mod _))
    · exact ih htail hwf hfitTail htailApart hmem

end

/-! ### Fault bits (R151) -/

/-- A field of STBn_STAT that shares no bit with DISABLED. -/
structure FaultField (n : Fin 8) (f : Fld) : Prop where
  addr : f.addr = Reg.STBn_STAT n
  fits : f.lo + f.w ≤ 32
  apart : fldsApart (F.STBn_STAT_DISABLED n) f

/-- Between two states the faults of channel n are acted on: DISABLED, and what a disabled channel forgets. -/
structure FaultsNoted (n : Fin 8) (s t : State) : Prop extends OnStb (· = Reg.STBn_STAT n) n s t where
  fld : SMap.wf Reg.resetWord s.regs = true → ∀ f, FaultField n f → t.fld f = s.fld f
  stb : t.lio.stb[n] = { s.lio.stb[n] with
    due := t.lio.stb[n].due, proofAt := t.lio.stb[n].proofAt, dac := t.lio.stb[n].dac, warned := t.lio.stb[n].warned }

namespace FaultsNoted

theorem refl (s : State) : FaultsNoted n s s := ⟨.refl s, fun _ _ _ => rfl, rfl⟩

theorem trans (h : FaultsNoted n s t) (k : FaultsNoted n t u) : FaultsNoted n s u where
  toOnStb := h.toOnStb.trans k.toOnStb
  fld hwf f hf := (k.fld (h.regs.wf hwf) f hf).trans (h.fld hwf f hf)
  stb := k.stb.trans (by rw [h.stb])

theorem disabled (s : State) (n : Fin 8) (v : Nat) : FaultsNoted n s (s.setFld (F.STBn_STAT_DISABLED n) v) :=
  ⟨.setFld s v rfl, fun hwf f hf => s.fld_setFld_disjoint _ f v hwf hf.addr hf.fits hf.apart, rfl⟩

theorem setStb (s : State) (n : Fin 8) (due : List (Word × Nat)) (at_ : Option Nat) (dac : BitVec 10) (warned : Bool) :
    FaultsNoted n s (s.setStb n { s.lio.stb[n] with due := due, proofAt := at_, dac := dac, warned := warned }) :=
  ⟨.setStb s n _, fun _ _ _ => rfl, by simp⟩

theorem warn (s : State) (source : Nat) (rest : List Byte) : FaultsNoted n s (s.warn source rest) where
  toOnStb := .warn s source rest
  fld _ f _ := (OnStb.warn (W := fun _ => False) (n := n) s source rest).regs.fld id
  stb := by rw [warn_lio]

end FaultsNoted

theorem stbDisable_noted (s : State) (n : Fin 8) : FaultsNoted n s (s.stbDisable n) := by
  unfold State.stbDisable
  split
  · exact (FaultsNoted.disabled s n _).trans (FaultsNoted.setStb _ n _ _ _ _)
  · exact .refl s

theorem stbWarn_noted (s : State) (n : Fin 8) : FaultsNoted n s (s.stbWarn n) := by
  unfold State.stbWarn
  dsimp only
  split
  · exact .refl s
  · exact (FaultsNoted.setStb s n _ _ _ true).trans (FaultsNoted.warn _ 5 _)

theorem stbFaultUpdate_noted (s : State) (n : Fin 8) : FaultsNoted n s (s.stbFaultUpdate n) := by
  rw [stbFaultUpdate_eq]
  split
  · exact (s.stbDisable_noted n).trans (stbWarn_noted _ n)
  · exact (FaultsNoted.disabled s n 0).trans (FaultsNoted.setStb _ n _ _ _ false)

theorem stbFaultUpdate_clean (h : s.stbFault n = false) :
    s.stbFaultUpdate n = (s.setFld (F.STBn_STAT_DISABLED n) 0).setStb n { s.lio.stb[n] with warned := false } := by
  rw [stbFaultUpdate_eq, if_neg (Bool.eq_false_iff.mp h)]

/-- Between two states a fault of channel n is raised on a condition, and acted on (R149, R150). -/
structure FaultRaised (n : Fin 8) (f : Fld) (b : Bool) (s t : State) : Prop extends OnStb (· = Reg.STBn_STAT n) n s t where
  stb : t.lio.stb[n] = { s.lio.stb[n] with
    due := t.lio.stb[n].due, proofAt := t.lio.stb[n].proofAt, dac := t.lio.stb[n].dac, warned := t.lio.stb[n].warned }
  bit : t.bit f = (s.bit f || b)

theorem raiseFault_raised (hwf : SMap.wf Reg.resetWord s.regs = true) {f : Fld} (hf : FaultField n f) (hw : f.w ≠ 0) (b : Bool) :
    FaultRaised n f b s ((s.raiseIf b f).stbFaultUpdate n) := by
  have noted := stbFaultUpdate_noted (s.raiseIf b f) n
  have raised : OnStb (· = Reg.STBn_STAT n) n s (s.raiseIf b f) ∧ (s.raiseIf b f).lio = s.lio := by
    cases b
    · exact ⟨.refl s, rfl⟩
    · exact ⟨.setFld s _ hf.addr, rfl⟩
  obtain ⟨onStb, lio⟩ := raised
  refine ⟨onStb.trans noted.toOnStb, lio ▸ noted.stb, ?_⟩
  exact (bit_eq_of_fld_eq (noted.fld (onStb.regs.wf hwf) f hf)).trans (s.bit_raiseIf b hwf hf.fits hw)

end State
end Sys2Proof.Machine
end

section
/-! SUPPORT. A strobe pulse from its start to the stuck-on check after it (R144 to R150, R157, R158, R160, R163), one equation for
each branch of its commands. -/

namespace Sys2Proof.Machine
open Sys2Proof.Spec

variable {s t : State} {n : Fin 8} {p : Pulse} {line : Word} {e : Nat} {due : List (Word × Nat)} {v : Word} {isns vsns : List Nat}

/-- The channel as its gate turns off (R150, R153, R158). -/
def Strobe.gateEnded (c : Strobe) (p : Pulse) (e : Nat) : Strobe :=
  { c.addOn (e - p.cnt) with gate := none, stuckDue := some e, dac := c.restDac }

namespace State

/-! ### Starts -/

/-- The channel's next due pulse is taken, at its edge. -/
def duePopped (s : State) (n : Fin 8) (due : List (Word × Nat)) (e : Nat) : State :=
  (s.setStb n { s.lio.stb[n] with due := due }).atT e

/-- A due pulse is skipped (R157, R160, R163). -/
def dueSkipped (s : State) (n : Fin 8) (line : Word) (due : List (Word × Nat)) (e : Nat) : State :=
  ((s.duePopped n due e).inc (F.STBn_SKIP n)).markStrobeSkip line

end State

/-- What the ball, the interlock, DISABLED and the gate make of a due pulse. -/
theorem execStrobePulseStart_due (hdue : s.lio.stb[n].due = (line, e) :: due) : execStrobePulseStart n s =
    if s.stbPinOff n || s.ilk then .next (s.dueSkipped n line due e)
    else if s.bit (F.STBn_STAT_DISABLED n) then .next (s.duePopped n due e)
    else if s.lio.stb[n].gate.isSome then .next ((s.dueSkipped n line due e).raise (F.STBn_STAT_OVERLAP n))
    else .next (((s.duePopped n due e).gateOn n .normal line e s.lio.stb[n].w).inc (F.STBn_PULSES n)) := by
  unfold execStrobePulseStart
  dsimp only
  rw [hdue]
  rfl

theorem execStrobePulseStart_idle (hdue : s.lio.stb[n].due = []) : execStrobePulseStart n s = .next s := by
  unfold execStrobePulseStart
  dsimp only
  rw [hdue]

namespace State

/-- A test pulse takes the staged settings first (R145, R146). -/
theorem writeStbTest_starts (hgo : getBits v 0 1 = 1) (hmode : s.mode = .setup) (hdis : s.bit (F.STBn_STAT_DISABLED n) = false)
    (hoff : ¬(s.stbPinOff n = true ∨ s.ilk = true)) (hgate : s.lio.stb[n].gate = none) (e : Nat) :
    s.writeStbTest n v e = ((s.stbCommit n).gateOn n .test 0 e (s.fld (F.STBn_W n))).inc (F.STBn_PULSES n) := by
  have off : ((s.stbCommit n).stbPinOff n || (s.stbCommit n).ilk) = false := by
    have pin : (s.stbCommit n).stbPinOff n = s.stbPinOff n := rfl
    have ilk : (s.stbCommit n).ilk = s.ilk := rfl
    simpa [pin, ilk] using hoff
  have committed : (s.stbCommit n).lio.stb[n].gate = none ∧ (s.stbCommit n).lio.stb[n].w = s.fld (F.STBn_W n) := by
    unfold State.stbCommit
    dsimp only [Fin.getElem_fin]
    rw [setStb_stb_same]
    exact ⟨hgate, rfl⟩
  obtain ⟨gate, width⟩ := committed
  unfold State.writeStbTest
  dsimp only
  rw [if_neg (by simp [hgo]), if_neg (by simp [hmode, hdis]), off, gate, width]
  rfl

theorem writeStbTest_refused (hgo : getBits v 0 1 = 1) (h : s.mode ≠ .setup ∨ s.bit (F.STBn_STAT_DISABLED n) = true) (e : Nat) :
    s.writeStbTest n v e = s.raise (F.STBn_STAT_TEST_REFUSED n) := by
  unfold State.writeStbTest
  rw [if_neg (by simp [hgo]), if_pos h]

/-! ### The judgement -/

/-- A pulse is judged at the end of its measurement window (R147). -/
def pulseJudged (s : State) (n : Fin 8) (p : Pulse) : State :=
  let judged := (s.setStb n { s.lio.stb[n] with gate := some { p with judged := true } }).atT (p.start + p.settle + 80)
  if p.kind = .proof then judged.inc (F.STBn_PROOF_DONE n) else judged

/-- Beside the judged pulse and the edge, only the count of proofs may change. -/
theorem pulseJudged_writes (s : State) (n : Fin 8) (p : Pulse) : ∃ r,
    s.pulseJudged n p = { (s.atT (p.start + p.settle + 80)).setStb n { s.lio.stb[n] with gate := some { p with judged := true } } with
      regs := r } ∧
    WritesRegs (· = Reg.STBn_PROOF_DONE n) s (s.pulseJudged n p) := by
  unfold State.pulseJudged
  dsimp only
  split
  · exact ⟨_, rfl, (WritesRegs.inc (W := (· = Reg.STBn_PROOF_DONE n)) _ (F.STBn_PROOF_DONE n) rfl).of_start rfl⟩
  · exact ⟨_, rfl, .of_regs_eq rfl⟩

theorem pulseJudged_onStb (s : State) (n : Fin 8) (p : Pulse) :
    OnStb (· = Reg.STBn_PROOF_DONE n) n (s.atT (p.start + p.settle + 80)) (s.pulseJudged n p) := by
  obtain ⟨r, h, regs⟩ := s.pulseJudged_writes n p
  rw [h] at regs ⊢
  exact ⟨rfl, fun k hk => (s.atT _).setStb_stb_other _ hk, regs.of_start rfl⟩

theorem pulseJudged_stb (s : State) (n : Fin 8) (p : Pulse) :
    (s.pulseJudged n p).lio.stb[n] = { s.lio.stb[n] with gate := some { p with judged := true } } := by
  obtain ⟨r, h, -⟩ := s.pulseJudged_writes n p
  rw [h]
  exact setStb_stb_same _ n _

/-- The settings and the status of the channel are in none of the registers that count proofs. -/
theorem pulseJudged_fld (s : State) (n : Fin 8) (p : Pulse) {f : Fld} (hf : f.addr ≠ Reg.STBn_PROOF_DONE n) :
    (s.pulseJudged n p).fld f = s.fld f := by
  obtain ⟨r, -, regs⟩ := s.pulseJudged_writes n p
  exact regs.fld hf

end State

theorem execStrobeJudge_judges (hgate : s.lio.stb[n].gate = some p) (hnew : p.judged = false) (hlen : p.settle + 80 ≤ p.len) :
    execStrobeJudge n isns vsns s = .next ((s.pulseJudged n p).stbResult n (isnsAbove s.lio.stb[n].ref isns)
      (vsnsBelow (s.fld (F.STBn_LIM_VSHORT n)) vsns)) := by
  have short : (s.pulseJudged n p).fld (F.STBn_LIM_VSHORT n) = s.fld (F.STBn_LIM_VSHORT n) :=
    s.pulseJudged_fld n p (by simp [F.STBn_LIM_VSHORT, Reg.STBn_LIM, Reg.STBn_PROOF_DONE])
  unfold execStrobeJudge
  dsimp only
  rw [hgate]
  dsimp only
  rw [if_neg (by simp [hnew, hlen]), ← short]
  rfl

theorem execStrobeJudge_idle (h : s.lio.stb[n].gate = none ∨
    (s.lio.stb[n].gate = some p ∧ (p.judged = true ∨ p.len < p.settle + 80))) : execStrobeJudge n isns vsns s = .next s := by
  unfold execStrobeJudge
  dsimp only
  rcases h with hgate | ⟨hgate, hdone⟩
  · rw [hgate]
  · rw [hgate]
    exact if_pos (by simpa using hdone)

namespace State

/-- The runs of pulses judged open and short (R149). -/
def stbRuns (s : State) (n : Fin 8) (opens shorts : Nat) : State :=
  s.setStb n { s.lio.stb[n] with openRun := opens, shortRun := shorts }

section
variable {above below : Nat}

theorem stbResult_open (h : above < 60) : s.stbResult n above below = ((s.stbRuns n (s.lio.stb[n].openRun + 1) 0).raiseIf
    (decide (s.fld (F.STBn_CFG_FLT_CNT n) ≤ s.lio.stb[n].openRun + 1)) (F.STBn_STAT_OPEN n)).stbFaultUpdate n := if_pos h

theorem stbResult_short (habove : 60 ≤ above) (h : 60 ≤ below) :
    s.stbResult n above below = ((s.stbRuns n 0 (s.lio.stb[n].shortRun + 1)).raiseIf
      (decide (s.fld (F.STBn_CFG_FLT_CNT n) ≤ s.lio.stb[n].shortRun + 1)) (F.STBn_STAT_SHORT n)).stbFaultUpdate n :=
  (if_neg (Nat.not_lt.mpr habove)).trans (if_pos h)

/-- What a verified pulse clears (R147, R149). -/
def proofFlds (n : Fin 8) : List Fld :=
  [F.STBn_STAT_UNV n, F.STBn_STAT_PROOF_PEND n, F.STBn_STAT_WAIT n, F.STBn_STAT_LAMP_UNVERIFIED n]

theorem stbResult_verified (habove : 60 ≤ above) (h : below < 60) :
    s.stbResult n above below = ((s.stbRuns n 0 0).clearFlds (proofFlds n)).stbFaultUpdate n :=
  (if_neg (Nat.not_lt.mpr habove)).trans (if_neg (Nat.not_le.mpr h))

end

theorem proofFlds_addr (n : Fin 8) : ∀ f ∈ proofFlds n, f.addr = Reg.STBn_STAT n := by
  simp [proofFlds, F.STBn_STAT_UNV, F.STBn_STAT_PROOF_PEND, F.STBn_STAT_WAIT, F.STBn_STAT_LAMP_UNVERIFIED]

/-- OPEN, SHORT and STUCK_ON lie below them. -/
theorem proofFlds_lo (n : Fin 8) : ∀ f ∈ proofFlds n, 5 ≤ f.lo := by
  simp [proofFlds, F.STBn_STAT_UNV, F.STBn_STAT_PROOF_PEND, F.STBn_STAT_WAIT, F.STBn_STAT_LAMP_UNVERIFIED]

theorem proofFlds_reads (hwf : SMap.wf Reg.resetWord s.regs = true) {f : Fld} (hf : f ∈ proofFlds n) :
    (s.clearFlds (proofFlds n)).fld f = 0 :=
  clearFlds_reads (proofFlds_addr n) hwf
    (by simp [proofFlds, F.STBn_STAT_UNV, F.STBn_STAT_PROOF_PEND, F.STBn_STAT_WAIT, F.STBn_STAT_LAMP_UNVERIFIED])
    (by simp [proofFlds, fldsApart, F.STBn_STAT_UNV, F.STBn_STAT_PROOF_PEND, F.STBn_STAT_WAIT, F.STBn_STAT_LAMP_UNVERIFIED]) hf

theorem proofFlds_faultField {f : Fld} (hf : f ∈ proofFlds n) : FaultField n f := by
  have each : ∀ g ∈ proofFlds n, g.lo + g.w ≤ 32 ∧ fldsApart (F.STBn_STAT_DISABLED n) g := by
    simp [proofFlds, fldsApart, F.STBn_STAT_DISABLED, F.STBn_STAT_UNV, F.STBn_STAT_PROOF_PEND, F.STBn_STAT_WAIT,
      F.STBn_STAT_LAMP_UNVERIFIED]
  obtain ⟨fits, apart⟩ := each f hf
  exact ⟨proofFlds_addr n f hf, fits, apart⟩

/-- A verified pulse on a clean channel leaves it clean. -/
theorem stbFault_cleared (hwf : SMap.wf Reg.resetWord s.regs = true) (h : s.stbFault n = false) :
    (s.clearFlds (proofFlds n)).stbFault n = false := by
  have keeps {f : Fld} (hf : f.addr = Reg.STBn_STAT n) (hlow : f.lo + f.w ≤ 5) :
      (s.clearFlds (proofFlds n)).bit f = s.bit f :=
    bit_eq_of_fld_eq (clearFlds_apart (proofFlds_addr n) hwf hf (by omega) fun g hg => .inr (hlow.trans (proofFlds_lo n g hg)))
  have lamp : (s.clearFlds (proofFlds n)).bit (F.STBn_STAT_LAMP_UNVERIFIED n) = false := by
    unfold State.bit
    rw [proofFlds_reads hwf (by simp [proofFlds])]
    rfl
  simp only [State.stbFault, Bool.or_eq_false_iff] at h
  obtain ⟨⟨⟨hopen, hshort⟩, hstuck⟩, -⟩ := h
  unfold State.stbFault
  rw [keeps rfl (by simp [F.STBn_STAT_OPEN]), keeps rfl (by simp [F.STBn_STAT_SHORT]), keeps rfl (by simp [F.STBn_STAT_STUCK_ON]),
    lamp, hopen, hshort, hstuck]
  rfl

/-! ### The end of a pulse -/

theorem lampCheck_unrated (h : s.fld (F.WR_LAMPn_RATED n) = 0) : s.lampCheck n = s := by
  unfold State.lampCheck
  dsimp only
  rw [if_neg (by simp [h])]

theorem gateOff_ended (hgate : s.lio.stb[n].gate = some p) (hrated : s.fld (F.WR_LAMPn_RATED n) = 0) (e : Nat) :
    s.gateOff n e .ended = if e - p.start < p.settle + 80 then (s.setStb n (s.lio.stb[n].gateEnded p e)).stbUnverified n
      else s.setStb n (s.lio.stb[n].gateEnded p e) := by
  unfold State.gateOff
  dsimp only
  rw [hgate]
  dsimp only
  rw [lampCheck_unrated (s := s.setStb n _) hrated]
  rfl

/-- A pulse too short to judge changes the register file alone (R148, R152). -/
theorem stbUnverified_writes (s : State) (n : Fin 8) : ∃ r, s.stbUnverified n = { s with regs := r } := by
  unfold State.stbUnverified
  dsimp only
  split <;> exact ⟨_, rfl⟩

theorem stbUnverified_counts (hwf : SMap.wf Reg.resetWord s.regs = true) : (s.stbUnverified n).fld (F.STBn_STAT_UNV n) =
    min (s.fld (F.STBn_STAT_UNV n) + 1) (2 ^ (F.STBn_STAT_UNV n).w - 1) := by
  have counted := s.fld_addSat (F.STBn_STAT_UNV n) 1 hwf (by simp [F.STBn_STAT_UNV])
  have hwf1 : SMap.wf Reg.resetWord (s.addSat (F.STBn_STAT_UNV n) 1).regs = true := s.regsWf_setFld _ _ hwf
  unfold State.stbUnverified
  dsimp only
  split
  · have asked : ((s.addSat (F.STBn_STAT_UNV n) 1).raise (F.STBn_STAT_PROOF_PEND n)).fld (F.STBn_STAT_UNV n) =
        (s.addSat (F.STBn_STAT_UNV n) 1).fld (F.STBn_STAT_UNV n) :=
      fld_setFld_disjoint _ (F.STBn_STAT_PROOF_PEND n) _ _ hwf1 rfl (by simp [F.STBn_STAT_UNV])
        (by simp [F.STBn_STAT_UNV, F.STBn_STAT_PROOF_PEND])
    rw [← counted, ← asked]
    exact fld_setFld_disjoint _ (F.STBn_STAT_WAIT n) _ 0 (regsWf_setFld _ (F.STBn_STAT_PROOF_PEND n) _ hwf1) rfl
      (by simp [F.STBn_STAT_UNV]) (by simp [F.STBn_STAT_UNV, F.STBn_STAT_WAIT])
  · exact counted

end State

theorem execStrobePulseEnd_idle (hgate : s.lio.stb[n].gate = none) : execStrobePulseEnd n s = .next s := by
  unfold execStrobePulseEnd
  rw [hgate]

section
variable (hgate : s.lio.stb[n].gate = some p) (hnone : s.dyn.gPending = none) (hrated : s.fld (F.WR_LAMPn_RATED n) = 0)
include hgate hnone hrated

theorem execStrobePulseEnd_ends (hlen : p.settle + 80 ≤ p.len) : execStrobePulseEnd n s =
    .next ((s.setStb n (s.lio.stb[n].gateEnded p (p.start + p.len))).atT (p.start + p.len)) := by
  unfold execStrobePulseEnd
  rw [hgate]
  dsimp only
  rw [State.gateOff_ended hgate hrated, if_neg (by omega)]
  exact congrArg _ (State.groupSettle_none hnone)

theorem execStrobePulseEnd_unverified (hlen : p.len < p.settle + 80) : execStrobePulseEnd n s =
    .next (((s.setStb n (s.lio.stb[n].gateEnded p (p.start + p.len))).stbUnverified n).atT (p.start + p.len)) := by
  obtain ⟨r, hr⟩ := (s.setStb n (s.lio.stb[n].gateEnded p (p.start + p.len))).stbUnverified_writes n
  unfold execStrobePulseEnd
  rw [hgate]
  dsimp only
  rw [State.gateOff_ended hgate hrated, if_pos (by omega), hr]
  exact congrArg _ (State.groupSettle_none hnone)

end

/-! ### The stuck-on check -/

theorem execStuckOnCheck_idle (hstuck : s.lio.stb[n].stuckDue = none) : execStuckOnCheck n isns s = .next s := by
  unfold execStuckOnCheck
  dsimp only
  rw [hstuck]

/-- The stuck-on window after a gate-off has been sampled (R150). -/
def State.stuckTaken (s : State) (n : Fin 8) (e : Nat) : State :=
  (s.setStb n { s.lio.stb[n] with stuckDue := none }).atT (e + s.fld (F.STBn_SETTLE n) + 80)

theorem execStuckOnCheck_checks (hstuck : s.lio.stb[n].stuckDue = some e) (hon : s.domOn Dom.lineio = true)
    (hmode : s.mode ≠ .fallback) (hpin : s.stbPinOff n = false) : execStuckOnCheck n isns s = .next
      (((s.stuckTaken n e).raiseIf (decide (60 ≤ isnsAbove s.lio.stb[n].ref isns)) (F.STBn_STAT_STUCK_ON n)).stbFaultUpdate n) := by
  unfold execStuckOnCheck
  dsimp only
  rw [hstuck]
  exact if_pos (by simp [hon, hmode, hpin])


namespace State

theorem StrobeFrame.timed (h : StrobeFrame (s.atT e) t) : t = { s with
    now := t.now, regs := t.regs, lio := { s.lio with stb := t.lio.stb }, sup := t.sup, log := t.log, ing := t.ing } ∧
    t.now = max s.now e := by
  have now : t.now = max s.now e := (congrArg State.now h).trans rfl
  refine ⟨?_, now⟩
  rw [now]
  exact h

theorem cfg_ne_proofDone (n : Fin 8) : Reg.STBn_CFG n ≠ Reg.STBn_PROOF_DONE n := by
  unfold Reg.STBn_CFG Reg.STBn_PROOF_DONE
  omega

theorem fld_inc_of_regs (hwf : SMap.wf Reg.resetWord s.regs = true) (h : t.regs = s.regs) {f : Fld} (hf : f.lo + f.w ≤ 32) :
    (t.inc f).fld f = (s.fld f + 1) % 2 ^ f.w := by
  have same : t.fld f = s.fld f := (WritesRegs.of_regs_eq (W := fun _ => False) h).fld id
  rw [← same]
  exact State.fld_inc t f (h ▸ hwf) hf

theorem openField (n : Fin 8) : FaultField n (F.STBn_STAT_OPEN n) :=
  ⟨rfl, by simp [F.STBn_STAT_OPEN], by simp [fldsApart, F.STBn_STAT_OPEN, F.STBn_STAT_DISABLED]⟩

theorem shortField (n : Fin 8) : FaultField n (F.STBn_STAT_SHORT n) :=
  ⟨rfl, by simp [F.STBn_STAT_SHORT], by simp [fldsApart, F.STBn_STAT_SHORT, F.STBn_STAT_DISABLED]⟩

theorem stuckOnField (n : Fin 8) : FaultField n (F.STBn_STAT_STUCK_ON n) :=
  ⟨rfl, by simp [F.STBn_STAT_STUCK_ON], by simp [fldsApart, F.STBn_STAT_STUCK_ON, F.STBn_STAT_DISABLED]⟩

theorem stat_ne_proofDone (n : Fin 8) : Reg.STBn_STAT n ≠ Reg.STBn_PROOF_DONE n := by
  unfold Reg.STBn_STAT Reg.STBn_PROOF_DONE
  omega

/-- A pulse judged open or short: its runs, and the fault bit at FLT_CNT (R149). -/
theorem pulseJudged_fault (hwf : SMap.wf Reg.resetWord s.regs = true) {f : Fld} (hf : FaultField n f) (hw : f.w ≠ 0)
    (opens shorts : Nat) (b : Bool)
    (ht : t = (((s.pulseJudged n p).stbRuns n opens shorts).raiseIf b f).stbFaultUpdate n) :
    StrobeFrame (s.atT (p.start + p.settle + 80)) t ∧ (∀ k : Fin 8, k ≠ n → t.lio.stb[k] = s.lio.stb[k]) ∧
    t.lio.stb[n].openRun = opens ∧ t.lio.stb[n].shortRun = shorts ∧ t.bit f = (s.bit f || b) := by
  have judged := s.pulseJudged_onStb n p
  have counted : OnStb (fun _ => False) n (s.pulseJudged n p) ((s.pulseJudged n p).stbRuns n opens shorts) := .setStb _ n _
  have runs : ((s.pulseJudged n p).stbRuns n opens shorts).lio.stb[n] =
      { (s.pulseJudged n p).lio.stb[n] with openRun := opens, shortRun := shorts } := setStb_stb_same _ n _
  have before : (s.pulseJudged n p).bit f = s.bit f :=
    bit_eq_of_fld_eq (s.pulseJudged_fld n p (hf.addr ▸ stat_ne_proofDone n))
  have raised := raiseFault_raised (counted.regs.wf (judged.regs.wf hwf)) hf hw b
  rw [← ht] at raised
  have stb := raised.stb
  rw [runs] at stb
  refine ⟨(judged.frame.trans counted.frame).trans raised.frame, fun k hk => ?_, ?_, ?_,
    raised.bit.trans (congrArg (· || b) before)⟩
  · exact (raised.others k hk).trans ((counted.others k hk).trans (judged.others k hk))
  · exact (congrArg Strobe.openRun stb :)
  · exact (congrArg Strobe.shortRun stb :)

/-- A verified pulse on a clean channel (R147, R149). -/
theorem pulseJudged_verified (hwf : SMap.wf Reg.resetWord s.regs = true) (hclean : s.stbFault n = false)
    (ht : t = (((s.pulseJudged n p).stbRuns n 0 0).clearFlds (proofFlds n)).stbFaultUpdate n) :
    (∃ r, t = { (s.atT (p.start + p.settle + 80)).setStb n { s.lio.stb[n] with
      gate := some { p with judged := true }, openRun := 0, shortRun := 0, warned := false } with regs := r }) ∧
    ∀ f ∈ proofFlds n, t.fld f = 0 := by
  obtain ⟨r, hjudged, regs⟩ := s.pulseJudged_writes n p
  have hwf' : SMap.wf Reg.resetWord ((s.pulseJudged n p).stbRuns n 0 0).regs = true := regs.wf hwf
  have keeps {f : Fld} (hf : f.addr ≠ Reg.STBn_PROOF_DONE n) : ((s.pulseJudged n p).stbRuns n 0 0).bit f = s.bit f :=
    bit_eq_of_fld_eq (s.pulseJudged_fld n p hf)
  have clean : ((s.pulseJudged n p).stbRuns n 0 0).stbFault n = false := by
    rw [← hclean]
    unfold State.stbFault
    rw [keeps (stat_ne_proofDone n), keeps (stat_ne_proofDone n), keeps (stat_ne_proofDone n), keeps (stat_ne_proofDone n), keeps]
    simp [F.STBn_CFG_UNV_FAULT, Reg.STBn_CFG, Reg.STBn_PROOF_DONE]
  have noted := stbFaultUpdate_noted (((s.pulseJudged n p).stbRuns n 0 0).clearFlds (proofFlds n)) n
  rw [← ht] at noted
  refine ⟨⟨t.regs, ?_⟩, fun f hf => ?_⟩
  · rw [ht, stbFaultUpdate_clean (stbFault_cleared hwf' clean), clearFlds_eq, hjudged]
    simp [State.stbRuns, State.setStb, State.setFld, State.setReg, State.atT]
  · exact (noted.fld ((clearFlds_regs (proofFlds_addr n) _).wf hwf') f (proofFlds_faultField hf)).trans (proofFlds_reads hwf' hf)

end State

/-- Settles O28: each clause is one branch of its command, with what the judgement, the on-time and the fault bits make of it. -/
theorem strobePulses : Obligations.StrobePulses := by
  intro s n line e due p v isns vsns hmem c off settle others plus counted alone warns judged flt
  have hwf := State.regsWf_of_memWf hmem
  have free (h : ¬off) : ¬(s.stbPinOff n || s.ilk) = true := by simpa [off] using h
  have once {t : State} (ht : t.regs = s.regs) : counted (t.inc (F.STBn_PULSES n)) :=
    ⟨State.fld_inc_of_regs hwf ht (Nat.le_refl 32),
      ((State.WritesRegs.inc (W := (· = Reg.STBn_PULSES n)) t (F.STBn_PULSES n) rfl).of_start ht).but⟩
  have popped (k : Fin 8) (hk : k ≠ n) : (s.duePopped n due e).lio.stb[k] = s.lio.stb[k] := s.setStb_stb_other _ hk
  have skipped : plus (s.dueSkipped n line due e) (F.STBn_SKIP n) :=
    State.fld_inc (s.duePopped n due e) _ hwf (Nat.le_refl 32)
  have left : (s.duePopped n due e).lio.stb[n] = { c with due := due } := s.setStb_stb_same n _
  refine ⟨fun hdue hoff hdis hgate => ?starts, fun hdue hoff => ?cut, fun hdue hoff hdis => ?dropped,
    fun hdue hoff hdis hgate => ?overlaps, fun hdue => execStrobePulseStart_idle hdue,
    fun hon hgo hmode hdis hoff hgate => ?tests, fun hon hgo href => ?refused, fun hj hover hunder hclean => ?verified,
    fun hj hunder => ?opens, fun hj hover hlow => ?shorts, fun hidle => execStrobeJudge_idle hidle,
    fun hgate hlen hnone hrated => ?ends, fun hgate hlen hnone hrated => ?unverified,
    fun hgate => execStrobePulseEnd_idle hgate, fun hstuck hon hmode hpin => ?stuckOn,
    fun hstuck => execStuckOnCheck_idle hstuck⟩
  case starts =>
    have run := execStrobePulseStart_due hdue
    rw [if_neg (free hoff), if_neg (Bool.eq_false_iff.mp hdis), if_neg (by simpa [c] using hgate)] at run
    refine ⟨_, run, ⟨rfl, fun k hk => ?_⟩, rfl, once rfl, ?_⟩
    · exact (State.setStb_stb_other _ _ hk).trans (popped k hk)
    · refine (State.setStb_stb_same _ n _).trans ?_
      rw [left]
      rfl
  case cut =>
    have run := execStrobePulseStart_due hdue
    rw [if_pos (by simpa [off] using hoff)] at run
    exact ⟨_, run, rfl, popped, skipped, left⟩
  case dropped =>
    have run := execStrobePulseStart_due hdue
    rw [if_neg (free hoff), if_pos hdis] at run
    exact run
  case overlaps =>
    have run := execStrobePulseStart_due hdue
    rw [if_neg (free hoff), if_neg (Bool.eq_false_iff.mp hdis), if_pos (Option.isSome_iff_exists.mpr ⟨p, hgate⟩)] at run
    refine ⟨_, run, rfl, popped, ?_, ?_, left⟩
    · exact (State.fld_setFld_other _ _ _ _ (by simp [F.STBn_SKIP, F.STBn_STAT_OVERLAP, Reg.STBn_SKIP, Reg.STBn_STAT])).trans skipped
    · exact State.bit_raise _ (State.regsWf_setFld (s.duePopped n due e) _ _ hwf) (by simp [F.STBn_STAT_OVERLAP]) Nat.one_ne_zero
  case tests =>
    have run : exec (.stbTest n v e) s = .next ((s.atT e).writeStbTest n v e) := if_pos hon
    rw [State.writeStbTest_starts (s := s.atT e) hgo hmode hdis hoff hgate] at run
    refine ⟨_, run, ⟨rfl, fun k hk => ?_⟩, rfl, once rfl, ?_⟩
    · exact (State.setStb_stb_other _ _ hk).trans (State.setStb_stb_other (s.atT e) _ hk)
    · exact congrArg Strobe.gate (State.setStb_stb_same _ n _)
  case refused =>
    have run : exec (.stbTest n v e) s = .next ((s.atT e).writeStbTest n v e) := if_pos hon
    rw [State.writeStbTest_refused (s := s.atT e) hgo href] at run
    refine ⟨_, run, rfl, State.bit_raise (s.atT e) hwf (by simp [F.STBn_STAT_TEST_REFUSED]) Nat.one_ne_zero, ?_⟩
    exact (State.WritesRegs.setFld (W := (· = Reg.STBn_STAT n)) (s.atT e) (F.STBn_STAT_TEST_REFUSED n) _ rfl).but
  case verified =>
    obtain ⟨hgate, hnew, hlen⟩ := hj
    obtain ⟨⟨r, frame⟩, reads⟩ := State.pulseJudged_verified (p := p) hwf hclean (State.stbResult_verified hover hunder)
    have bits {f : Fld} (hf : f ∈ State.proofFlds n) := congrArg (· != 0) (reads f hf)
    refine ⟨_, execStrobeJudge_judges hgate hnew hlen, ?_⟩
    generalize State.stbResult _ n _ _ = x at frame reads bits ⊢
    subst frame
    have stb := (s.atT (p.start + p.settle + 80)).setStb_stb_same n
      { c with gate := some { p with judged := true }, openRun := 0, shortRun := 0, warned := false }
    refine ⟨⟨rfl, fun k hk => State.setStb_stb_other (s.atT _) _ hk⟩, rfl, congrArg Strobe.gate stb, congrArg Strobe.openRun stb,
      congrArg Strobe.shortRun stb, reads _ ?_, reads _ ?_, bits ?_, bits ?_⟩
    all_goals simp [State.proofFlds]
  case opens =>
    obtain ⟨hgate, hnew, hlen⟩ := hj
    have result := State.stbResult_open (s := s.pulseJudged n p) (n := n) (below := vsnsBelow (s.fld (F.STBn_LIM_VSHORT n)) vsns) hunder
    rw [State.pulseJudged_stb, State.pulseJudged_fld s n p (f := F.STBn_CFG_FLT_CNT n) (State.cfg_ne_proofDone n)] at result
    obtain ⟨frame, rest⟩ := State.pulseJudged_fault hwf (State.openField n) Nat.one_ne_zero _ _ _ result
    exact ⟨_, execStrobeJudge_judges hgate hnew hlen, ⟨frame.timed.1, rest.1⟩, rest.2⟩
  case shorts =>
    obtain ⟨hgate, hnew, hlen⟩ := hj
    have result := State.stbResult_short (s := s.pulseJudged n p) (n := n) hover hlow
    rw [State.pulseJudged_stb, State.pulseJudged_fld s n p (f := F.STBn_CFG_FLT_CNT n) (State.cfg_ne_proofDone n)] at result
    obtain ⟨frame, rest⟩ := State.pulseJudged_fault hwf (State.shortField n) Nat.one_ne_zero _ _ _ result
    exact ⟨_, execStrobeJudge_judges hgate hnew hlen, ⟨frame.timed.1, rest.1⟩, rest.2⟩
  case ends =>
    exact ⟨_, execStrobePulseEnd_ends hgate hnone hrated hlen, ⟨rfl, fun k hk => s.setStb_stb_other _ hk⟩, rfl, rfl,
      s.setStb_stb_same n _⟩
  case unverified =>
    have hcount := State.stbUnverified_counts (s := s.setStb n (c.gateEnded p (p.start + p.len))) (n := n) hwf
    obtain ⟨r, hr⟩ := (s.setStb n (c.gateEnded p (p.start + p.len))).stbUnverified_writes n
    refine ⟨_, execStrobePulseEnd_unverified hgate hnone hrated hlen, ?_, ?_, hcount⟩
    · rw [hr]
      exact ⟨rfl, fun k hk => s.setStb_stb_other _ hk⟩
    · rw [hr]
      exact congrArg Strobe.gate (s.setStb_stb_same n _)
  case stuckOn =>
    have taken : State.OnStb (fun _ => False) n (s.atT (e + settle + 80)) (s.stuckTaken n e) := .setStb (s.atT _) n _
    have raised := State.raiseFault_raised (s := s.stuckTaken n e) hwf (State.stuckOnField n) Nat.one_ne_zero
      (decide (60 ≤ isnsAbove c.ref isns))
    have stb := raised.stb
    rw [show (s.stuckTaken n e).lio.stb[n] = { c with stuckDue := none } from s.setStb_stb_same n _] at stb
    have timed := (taken.frame.trans raised.frame).timed
    exact ⟨_, execStuckOnCheck_checks hstuck hon hmode hpin,
      ⟨timed.1, fun k hk => (raised.others k hk).trans (taken.others k hk)⟩, timed.2, (congrArg Strobe.stuckDue stb :),
      (congrArg Strobe.gate stb :), raised.bit⟩

end Sys2Proof.Machine
end

section
/-! SUPPORT. Guarded windows and the proof pulses after them (R152, R153, R155), gates that the interlock cuts (R157), and a preset of
the on-time (R158). -/

namespace Sys2Proof.Machine
open Sys2Proof.Spec

variable {s t : State} {n : Fin 8} {e : Nat} {w : Nat × Nat} {ws : List (Nat × Nat)} {v : Word}

namespace State

/-! ### The test of the gap -/

/-- The registers that a channel's test of the gap may write. -/
def gapReg (n : Fin 8) (a : Nat) : Prop := a = Reg.STBn_STAT n ∨ a = Reg.STBn_UNV_EV n

/-- A lamp that has waited too long is unverified (R153, R155). -/
def lampUnverified (s : State) (n : Fin 8) : State :=
  ((s.raise (F.STBn_STAT_LAMP_UNVERIFIED n)).inc (F.STBn_UNV_EV n)).stbFaultUpdate n

/-- WAIT adds one; whether the lamp is unverified then is the only other question. -/
theorem stbWait_cases (s : State) (n : Fin 8) : s.stbWait n = s.addSat (F.STBn_STAT_WAIT n) 1 ∨
    s.stbWait n = (s.addSat (F.STBn_STAT_WAIT n) 1).lampUnverified n := by
  unfold State.stbWait
  dsimp only
  split
  · exact .inr rfl
  · exact .inl rfl

theorem lampUnverified_onStb (s : State) (n : Fin 8) : OnStb (gapReg n) n s (s.lampUnverified n) :=
  ((OnStb.setFld s _ (.inl rfl)).trans (.setFld _ _ (.inr rfl))).trans
    ((stbFaultUpdate_noted _ n).toOnStb.mono fun _ => .inl)

theorem stbWait_onStb (s : State) (n : Fin 8) : OnStb (gapReg n) n s (s.stbWait n) := by
  have counted : OnStb (gapReg n) n s (s.addSat (F.STBn_STAT_WAIT n) 1) := .setFld s _ (.inl rfl)
  rcases s.stbWait_cases n with h | h <;> rw [h]
  · exact counted
  · exact counted.trans (lampUnverified_onStb _ n)

theorem waitField (n : Fin 8) : FaultField n (F.STBn_STAT_WAIT n) :=
  ⟨rfl, by simp [F.STBn_STAT_WAIT], by simp [fldsApart, F.STBn_STAT_WAIT, F.STBn_STAT_DISABLED]⟩

theorem lampUnverified_wait (hwf : SMap.wf Reg.resetWord s.regs = true) :
    (s.lampUnverified n).fld (F.STBn_STAT_WAIT n) = s.fld (F.STBn_STAT_WAIT n) := by
  have raisedWf : SMap.wf Reg.resetWord (s.raise (F.STBn_STAT_LAMP_UNVERIFIED n)).regs = true := s.regsWf_setFld _ _ hwf
  have raised : (s.raise (F.STBn_STAT_LAMP_UNVERIFIED n)).fld (F.STBn_STAT_WAIT n) = s.fld (F.STBn_STAT_WAIT n) :=
    s.fld_setFld_disjoint _ _ _ hwf rfl (waitField n).fits (by simp [F.STBn_STAT_WAIT, F.STBn_STAT_LAMP_UNVERIFIED])
  have counted := State.fld_setFld_other (s.raise (F.STBn_STAT_LAMP_UNVERIFIED n)) (F.STBn_UNV_EV n) (F.STBn_STAT_WAIT n)
    ((s.raise (F.STBn_STAT_LAMP_UNVERIFIED n)).fld (F.STBn_UNV_EV n) + 1)
    (by simp [F.STBn_STAT_WAIT, F.STBn_UNV_EV, Reg.STBn_STAT, Reg.STBn_UNV_EV])
  exact ((stbFaultUpdate_noted _ n).fld (State.regsWf_setFld _ _ _ raisedWf) _ (waitField n)).trans (counted.trans raised)

theorem stbWait_counts (hwf : SMap.wf Reg.resetWord s.regs = true) : (s.stbWait n).fld (F.STBn_STAT_WAIT n) =
    min (s.fld (F.STBn_STAT_WAIT n) + 1) (2 ^ (F.STBn_STAT_WAIT n).w - 1) := by
  have counted := s.fld_addSat (F.STBn_STAT_WAIT n) 1 hwf (waitField n).fits
  rcases s.stbWait_cases n with h | h <;> rw [h]
  · exact counted
  · exact (lampUnverified_wait (s.regsWf_setFld _ _ hwf)).trans counted

/-- The channel waits for a proof that its ball and the interlock allow. -/
structure GapAsked (s : State) (n : Fin 8) : Prop where
  pend : s.bit (F.STBn_STAT_PROOF_PEND n) = true
  proofAt : s.lio.stb[n].proofAt = none
  pin : s.stbPinOff n = false
  ilk : s.ilk = false

theorem gapTest_asked (h : s.GapAsked n) : s.gapTest n =
    if s.predictedGap.any (fun g => decide (s.fld (F.STBn_SETTLE n) + 480 ≤ g)) && decide (200 ≤ s.lio.notice) &&
        !s.bit (F.STBn_STAT_DISABLED n) then
      s.setStb n { s.lio.stb[n] with dac := if s.lio.stb[n].gate.isSome then s.lio.stb[n].dac else s.lio.stb[n].proofDac
                                     proofAt := some (s.lio.winEnd + 200) }
    else s.stbWait n := by
  obtain ⟨pend, proofAt, pin, ilk⟩ := h
  unfold State.gapTest
  dsimp only
  rw [if_neg (by simp only [pend, proofAt, pin, ilk]; decide)]
  cases s.predictedGap <;> rfl

theorem gapTest_unasked (h : s.bit (F.STBn_STAT_PROOF_PEND n) = false) : s.gapTest n = s := if_pos (by simp [h])

/-- A gap that suffices takes a proof (R153). -/
theorem gapTest_fits (h : s.GapAsked n) (hdis : s.bit (F.STBn_STAT_DISABLED n) = false) {g : Nat} (hgap : s.predictedGap = some g)
    (hfit : s.fld (F.STBn_SETTLE n) + 480 ≤ g) (hnotice : 200 ≤ s.lio.notice) : s.gapTest n =
    s.setStb n { s.lio.stb[n] with dac := if s.lio.stb[n].gate.isSome then s.lio.stb[n].dac else s.lio.stb[n].proofDac
                                   proofAt := some (s.lio.winEnd + 200) } := by
  rw [gapTest_asked h, hgap]
  exact if_pos (by simp [hfit, hnotice, hdis])

/-- Another gap adds to WAIT (R153, R155). -/
theorem gapTest_waits (h : s.GapAsked n)
    (hno : s.bit (F.STBn_STAT_DISABLED n) = true ∨ s.predictedGap = none ∨ s.lio.notice < 200) : s.gapTest n = s.stbWait n := by
  rw [gapTest_asked h]
  refine if_neg ?_
  rcases hno with hdis | hgap | hnotice
  · simp [hdis]
  · simp [hgap]
  · simp [Nat.not_le.mpr hnotice]

theorem gapTest_onStb (s : State) (n : Fin 8) : OnStb (gapReg n) n s (s.gapTest n) := by
  unfold State.gapTest
  exact iteInduction (motive := OnStb (gapReg n) n s) (fun _ => .refl s) fun _ =>
    iteInduction (fun _ => .setStb s n _) fun _ => s.stbWait_onStb n

/-! ### What the tests of the other channels leave alone -/

section
variable (h : OffStb gapReg n s t)
include h

theorem OffStb.gap_fld {f : Fld} (hf : ∀ k : Fin 8, k ≠ n → ¬gapReg k f.addr) : t.fld f = s.fld f :=
  h.regs.fld fun ⟨k, hk, ha⟩ => hf k hk ha

/-- The channel's own status. -/
theorem OffStb.gap_stat {f : Fld} (hf : f.addr = Reg.STBn_STAT n) : t.fld f = s.fld f := by
  refine h.gap_fld fun k hk => ?_
  have apart : k.val ≠ n.val := fun e => hk (Fin.ext e)
  rw [hf]
  simp only [gapReg, Reg.STBn_STAT, Reg.STBn_UNV_EV]
  omega

theorem OffStb.gap_settle : t.fld (F.STBn_SETTLE n) = s.fld (F.STBn_SETTLE n) := by
  refine h.gap_fld fun k hk => ?_
  simp only [gapReg, F.STBn_SETTLE, Reg.STBn_SETTLE, Reg.STBn_STAT, Reg.STBn_UNV_EV]
  omega

theorem OffStb.gap_pin : t.stbPinOff n = s.stbPinOff n := by
  have mode : t.mode = s.mode := (congrArg State.mode h.frame).trans rfl
  have ball (j : Nat) (hj : j ≤ 33) : t.ballFixed j = s.ballFixed j := by
    have func : t.fld (F.JIG_PINj_FUNC j) = s.fld (F.JIG_PINj_FUNC j) := by
      refine h.gap_fld fun k hk => ?_
      simp only [gapReg, F.JIG_PINj_FUNC, Reg.JIG_PINj, Reg.STBn_STAT, Reg.STBn_UNV_EV]
      omega
    unfold State.ballFixed
    rw [mode, bit_eq_of_fld_eq func]
  unfold State.stbPinOff
  rw [ball 32 (by decide), ball 33 (by decide)]

theorem OffStb.gapAsked (hs : s.GapAsked n) : t.GapAsked n where
  pend := (bit_eq_of_fld_eq (h.gap_stat rfl)).trans hs.pend
  proofAt := (congrArg Strobe.proofAt h.stb).trans hs.proofAt
  pin := h.gap_pin.trans hs.pin
  ilk := ((congrArg State.ilk h.frame).trans rfl).trans hs.ilk

theorem OffStb.gap_predicted : t.predictedGap = s.predictedGap := (congrArg State.predictedGap h.frame).trans rfl

end

/-! ### The end of a window -/

/-- The first window has ended, and those that meet it with it (R152, log 57). -/
def windowEnded (s : State) (w : Nat × Nat) (ws : List (Nat × Nat)) : State :=
  let r := winJoin w.1 w.2 ws
  { s with lio := { s.lio with wins := r.2, winStart := r.1.1, winEnd := r.1.2 } }

/-- Every channel tests the gap. -/
def gapsTested (s : State) : State := (List.finRange 8).foldl (fun s n => s.gapTest n) s

/-- Channel n tests the gap among tests that do not touch it. -/
theorem gapsTested_split (s : State) (n : Fin 8) : ∃ t, OffStb gapReg n s t ∧ OffStb gapReg n (t.gapTest n) s.gapsTested :=
  channels_split gapTest_onStb s n

theorem gapsTested_frame (s : State) : StrobeFrame s s.gapsTested := by
  obtain ⟨t, before, after⟩ := s.gapsTested_split 0
  exact before.frame.trans ((t.gapTest_onStb 0).frame.trans after.frame)

theorem gapsTested_unasked (h : s.bit (F.STBn_STAT_PROOF_PEND n) = false) : s.gapsTested.lio.stb[n] = s.lio.stb[n] := by
  obtain ⟨t, before, after⟩ := s.gapsTested_split n
  rw [gapTest_unasked ((bit_eq_of_fld_eq (before.gap_stat rfl)).trans h)] at after
  exact after.stb.trans before.stb

theorem gapsTested_fits (h : s.GapAsked n) (hdis : s.bit (F.STBn_STAT_DISABLED n) = false) {g : Nat}
    (hgap : s.predictedGap = some g) (hfit : s.fld (F.STBn_SETTLE n) + 480 ≤ g) (hnotice : 200 ≤ s.lio.notice) :
    s.gapsTested.lio.stb[n] =
      { s.lio.stb[n] with dac := if s.lio.stb[n].gate.isSome then s.lio.stb[n].dac else s.lio.stb[n].proofDac
                          proofAt := some (s.lio.winEnd + 200) } := by
  obtain ⟨t, before, after⟩ := s.gapsTested_split n
  have lio := before.frame.lio
  have notice : t.lio.notice = s.lio.notice := (congrArg LineIo.notice lio :)
  have winEnd : t.lio.winEnd = s.lio.winEnd := (congrArg LineIo.winEnd lio :)
  rw [gapTest_fits (before.gapAsked h) ((bit_eq_of_fld_eq (before.gap_stat rfl)).trans hdis) (before.gap_predicted.trans hgap)
    (before.gap_settle ▸ hfit) (notice ▸ hnotice), before.stb, winEnd] at after
  exact after.stb.trans (t.setStb_stb_same n _)

theorem gapsTested_waits (hwf : SMap.wf Reg.resetWord s.regs = true) (h : s.GapAsked n)
    (hno : s.bit (F.STBn_STAT_DISABLED n) = true ∨ s.predictedGap = none ∨ s.lio.notice < 200) :
    s.gapsTested.fld (F.STBn_STAT_WAIT n) = min (s.fld (F.STBn_STAT_WAIT n) + 1) (2 ^ (F.STBn_STAT_WAIT n).w - 1) := by
  obtain ⟨t, before, after⟩ := s.gapsTested_split n
  have notice : t.lio.notice = s.lio.notice := (congrArg LineIo.notice before.frame.lio :)
  rw [gapTest_waits (before.gapAsked h) (by rwa [bit_eq_of_fld_eq (before.gap_stat rfl), before.gap_predicted, notice])] at after
  rw [after.gap_stat rfl, stbWait_counts (before.regs.wf hwf), before.gap_stat rfl]

end State

theorem execGuardedWindowEnd_ends (hwins : s.lio.wins = w :: ws) (hon : s.domOn Dom.lineio = true)
    (hopen : ∀ x ∈ s.lio.expos, (winJoin w.1 w.2 ws).1.2 < x.start) : execGuardedWindowEnd s =
    .next (if s.mode.isCapture then ((s.windowEnded w ws).atT (winJoin w.1 w.2 ws).1.2).gapsTested
      else (s.windowEnded w ws).atT (winJoin w.1 w.2 ws).1.2) := by
  unfold execGuardedWindowEnd
  rw [hwins]
  exact if_pos (by simpa [hon] using hopen)

theorem execGuardedWindowEnd_waits (h : s.lio.wins = [] ∨
    (s.lio.wins = w :: ws ∧ ∃ x ∈ s.lio.expos, x.start ≤ (winJoin w.1 w.2 ws).1.2)) : execGuardedWindowEnd s = .next s := by
  unfold execGuardedWindowEnd
  rcases h with hwins | ⟨hwins, hlate⟩
  · rw [hwins]
  · rw [hwins]
    exact if_neg (by simpa using fun _ => hlate)

/-! ### Proof pulses -/

theorem execProofPulseStart_idle (hproof : s.lio.stb[n].proofAt = none) : execProofPulseStart n s = .next s := by
  unfold execProofPulseStart
  dsimp only
  rw [hproof]

/-- The ball or the interlock takes the proof pulse away (R157, R163). -/
theorem execProofPulseStart_cut (hproof : s.lio.stb[n].proofAt = some e) (hoff : s.stbPinOff n = true ∨ s.ilk = true) :
    execProofPulseStart n s = .next (((s.atT e).setStb n { s.lio.stb[n] with
      proofAt := none, dac := if s.lio.stb[n].gate.isSome then s.lio.stb[n].dac else s.lio.stb[n].iset }).inc (F.STBn_SKIP n)) := by
  unfold execProofPulseStart
  dsimp only
  rw [hproof]
  exact if_pos ((Bool.or_eq_true _ _).mpr hoff)

/-- The proof gate turns on (R153). -/
theorem execProofPulseStart_gives (hproof : s.lio.stb[n].proofAt = some e) (hpin : s.stbPinOff n = false) (hilk : s.ilk = false)
    (hdis : s.bit (F.STBn_STAT_DISABLED n) = false) (hcap : s.mode.isCapture = true) (hgate : s.lio.stb[n].gate = none) :
    execProofPulseStart n s = .next (((s.atT e).setStb n { s.lio.stb[n] with proofAt := none }).gateOn n .proof 0 e
      (s.fld (F.STBn_SETTLE n) + 80)) := by
  have off : ((s.atT e).stbPinOff n || (s.atT e).ilk) = false := Bool.or_eq_false_iff.mpr ⟨hpin, hilk⟩
  have stays : ((s.atT e).bit (F.STBn_STAT_DISABLED n) || !(s.atT e).mode.isCapture) = false :=
    Bool.or_eq_false_iff.mpr ⟨hdis, congrArg Bool.not hcap⟩
  unfold execProofPulseStart
  dsimp only
  rw [hproof]
  dsimp only
  rw [off, stays, hgate]
  rfl

/-! ### The time of the pulse in progress -/

theorem Strobe.fold_off {c : Strobe} (h : c.gate = none) (e : Nat) : c.fold e = c := by
  unfold Strobe.fold
  rw [h]

theorem Strobe.fold_on {c : Strobe} {p : Pulse} (h : c.gate = some p) (e : Nat) :
    c.fold e = { c.addOn (e - p.cnt) with gate := some { p with cnt := max p.cnt e } } := by
  unfold Strobe.fold
  rw [h]

namespace State

/-! ### The interlock -/

/-- The interlock turns every gate off (R157). -/
def gatesCut (s : State) (e : Nat) : State := (List.finRange 8).foldl (fun s n => s.gateOff n e .interlock) s

/-- A gate that the interlock cuts is off, and no other channel changes. -/
theorem gateOff_interlock_stb (s : State) (n : Fin 8) (e : Nat) :
    ∃ c : Strobe, c.gate = none ∧ (s.gateOff n e .interlock).lio.stb = s.lio.stb.set n c := by
  unfold State.gateOff
  dsimp only
  split
  next h => exact ⟨s.lio.stb[n], h, by simp⟩
  next p _ =>
    have off : ((s.setStb n (s.lio.stb[n].gateEnded p e)).lampCheck n).lio = (s.setStb n (s.lio.stb[n].gateEnded p e)).lio :=
      lampCheck_lio _ n
    refine ⟨s.lio.stb[n].gateEnded p e, rfl, ?_⟩
    split
    · exact congrArg LineIo.stb off
    · exact congrArg LineIo.stb off

theorem gateOff_interlock_onStb (e : Nat) (s : State) (n : Fin 8) : OnStb strobeReg n s (s.gateOff n e .interlock) := by
  obtain ⟨c, -, hstb⟩ := s.gateOff_interlock_stb n e
  have upkeep := gateOff_strobeUpkeep (.inr rfl) s n e
  refine ⟨upkeep.frame, fun k hk => ?_, upkeep.regs⟩
  rw [hstb]
  exact s.setStb_stb_other c hk

theorem gatesCut_strobeUpkeep (s : State) (e : Nat) : StrobeUpkeep s (s.gatesCut e) :=
  StrobeUpkeep.foldl (fun s n => gateOff_strobeUpkeep (.inr rfl) s n e) _ s

theorem gatesCut_gate (s : State) (e : Nat) (n : Fin 8) : (s.gatesCut e).lio.stb[n].gate = none := by
  obtain ⟨t, -, after⟩ : ∃ t : State, _ ∧ OffStb (fun _ => strobeReg) n (t.gateOff n e .interlock) (s.gatesCut e) :=
    channels_split (gateOff_interlock_onStb e) s n
  obtain ⟨c, hoff, hstb⟩ := t.gateOff_interlock_stb n e
  rw [after.stb, hstb]
  simpa using hoff

theorem StrobeFrame.ilkWatched (h : StrobeFrame s t) : t.ilkWatched = s.ilkWatched := (congrArg State.ilkWatched h).trans rfl

/-- An assertion of the interlock is noted and counted (R157). -/
def ilkNoted (s : State) : State := (s.raise F.STB_GSTAT_ILK_EV).inc F.STB_ILK_CNT

theorem StrobeFrame.ilkNoted (h : StrobeFrame s t) : StrobeFrame s t.ilkNoted := (h.withRegs _).withRegs _

theorem ilkNoted_lio (s : State) : s.ilkNoted.lio = s.lio := rfl

theorem ilkNoted_counts (hwf : SMap.wf Reg.resetWord s.regs = true) : s.ilkNoted.bit F.STB_GSTAT_ILK_EV = true ∧
    s.ilkNoted.fld F.STB_ILK_CNT = (s.fld F.STB_ILK_CNT + 1) % 2 ^ F.STB_ILK_CNT.w := by
  have kept : (s.raise F.STB_GSTAT_ILK_EV).fld F.STB_ILK_CNT = s.fld F.STB_ILK_CNT := s.fld_setFld_other _ _ _ (by decide)
  have raisedWf : SMap.wf Reg.resetWord (s.raise F.STB_GSTAT_ILK_EV).regs = true := s.regsWf_setFld _ _ hwf
  refine ⟨?_, kept ▸ State.fld_inc _ F.STB_ILK_CNT raisedWf (by decide)⟩
  exact (bit_eq_of_fld_eq (State.fld_setFld_other _ _ _ _ (by decide))).trans (s.bit_raise hwf (by decide) (by decide))

/-- An assertion is counted while the input is watched. -/
theorem ilkCut_eq (s : State) (e : Nat) : s.ilkCut e = if s.ilkWatched then (s.gatesCut e).ilkNoted else s.gatesCut e := by
  rw [← (show StrobeFrame s (s.gatesCut e) from (s.gatesCut_strobeUpkeep e).frame).ilkWatched]
  rfl

theorem ilkCut_frame (s : State) (e : Nat) : StrobeFrame s (s.ilkCut e) := by
  have cut : StrobeFrame s (s.gatesCut e) := (s.gatesCut_strobeUpkeep e).frame
  rw [ilkCut_eq]
  split
  · exact cut.ilkNoted
  · exact cut

theorem ilkCut_gate (s : State) (e : Nat) (n : Fin 8) : (s.ilkCut e).lio.stb[n].gate = none := by
  have cut : (s.ilkCut e).lio = (s.gatesCut e).lio := by
    rw [ilkCut_eq, apply_ite State.lio, ilkNoted_lio, ite_self]
  rw [cut]
  exact s.gatesCut_gate e n

theorem ilkCut_counts (hwf : SMap.wf Reg.resetWord s.regs = true) (h : s.ilkWatched = true) (e : Nat) :
    (s.ilkCut e).bit F.STB_GSTAT_ILK_EV = true ∧
    (s.ilkCut e).fld F.STB_ILK_CNT = (s.fld F.STB_ILK_CNT + 1) % 2 ^ F.STB_ILK_CNT.w := by
  have cut := (s.gatesCut_strobeUpkeep e).regs
  have apart : ¬strobeReg F.STB_ILK_CNT.addr := by
    simp only [strobeReg, F.STB_ILK_CNT, Reg.STB_ILK_CNT, Reg.WR_LAMP_EOL, Reg.STBn_STAT, Reg.STBn_PROOF_ABORT, Reg.STBn_UNV_EV]
    omega
  rw [ilkCut_eq, if_pos h, ← cut.fld apart]
  exact ilkNoted_counts (cut.wf hwf)

/-! ### A preset of the on-time -/

/-- The count that a write of STBn_ONTIME_HI loads: the staged one, and an advance on the edge of the write (R158). -/
def ontimeLoaded (s : State) (n : Fin 8) (v : Word) : Nat :=
  s.fld (F.STBn_ONTIME_LO n) + 2 ^ 32 * getBits v 0 16 +
    b2n (s.lio.stb[n].gate.any (fun p => decide (p.cnt < s.now)) && (s.lio.stb[n].fold s.now).rem == 0)

theorem writeOntimeHi_unrated (h : s.fld (F.WR_LAMPn_RATED n) = 0) : s.writeOntimeHi n v =
    s.setStb n { s.lio.stb[n].fold s.now with ontime := BitVec.ofNat 48 (s.ontimeLoaded n v) } := by
  have rated (c : Strobe) : (s.setStb n c).fld (F.WR_LAMPn_RATED n) = 0 := h
  unfold State.writeOntimeHi
  dsimp only
  rw [rated, if_neg (by simp), lampCheck_unrated (rated _)]
  rfl

end State

/-- Settles O29: a window that ends is tested by each channel apart from the others, the interlock cuts every gate, and the other
clauses are one branch of their command each. -/
theorem proofPulsesAndInterlock : Obligations.ProofPulsesAndInterlock := by
  intro s n e g w ws v hmem hon c settle r ended cnt
  have hwf := State.regsWf_of_memWf hmem
  refine ⟨fun hwins hopen => ?window, fun hwait => execGuardedWindowEnd_waits hwait, fun hproof hpin hilk hdis hcap hgate => ?gives,
    fun hproof hoff => ?cut, fun hproof => execProofPulseStart_idle hproof, fun hlow htap => ?asserts, fun hlow htap => ?hidden,
    fun hlow => if_pos hlow, rfl, fun hrated => ?preset⟩
  case window =>
    have run := execGuardedWindowEnd_ends hwins hon hopen
    rcases hcap : s.mode.isCapture with _ | _
    · rw [if_neg (Bool.eq_false_iff.mp hcap)] at run
      exact ⟨_, run, rfl, rfl, rfl, rfl, fun _ => rfl, fun h => absurd h Bool.false_ne_true, rfl⟩
    · rw [if_pos hcap] at run
      refine ⟨_, run, ?_⟩
      have frame := ((s.windowEnded w ws).atT r.1.2).gapsTested_frame
      have unasked := State.gapsTested_unasked (s := (s.windowEnded w ws).atT r.1.2) (n := n)
      have fits := State.gapsTested_fits (s := (s.windowEnded w ws).atT r.1.2) (n := n)
      have waits := State.gapsTested_waits (s := (s.windowEnded w ws).atT r.1.2) (n := n) hwf
      generalize State.gapsTested _ = x at frame unasked fits waits ⊢
      have lio := frame.lio
      have now : x.now = max s.now r.1.2 := (congrArg State.now frame).trans rfl
      refine ⟨(congrArg LineIo.wins lio :), (congrArg LineIo.winStart lio :), (congrArg LineIo.winEnd lio :), now,
        fun h => unasked (h.resolve_left (by simp)), fun _ hpend hproof hpin hilk =>
        ⟨fun hdis hgap hfit hnotice => fits ⟨hpend, hproof, hpin, hilk⟩ hdis hgap hfit hnotice,
          fun hno => waits ⟨hpend, hproof, hpin, hilk⟩ hno⟩, ?_⟩
      rw [now]
      exact frame.blocks
  case gives =>
    refine (execProofPulseStart_gives hproof hpin hilk hdis hcap hgate).trans (congrArg Host.Outcome.next ?_)
    unfold State.gateOn
    dsimp only [Fin.getElem_fin]
    rw [State.setStb_stb_same, State.setStb_setStb]
    rfl
  case cut =>
    have stb := (s.atT e).setStb_stb_same n
      { c with proofAt := none, dac := if c.gate.isSome then c.dac else c.iset }
    exact ⟨_, execProofPulseStart_cut hproof hoff, rfl, (congrArg Strobe.gate stb :), (congrArg Strobe.proofAt stb :),
      State.fld_inc ((s.atT e).setStb n _) _ hwf (Nat.le_refl 32)⟩
  case asserts =>
    have run : exec (.ilkAssert e) s = .next (State.ilkCut ({ s with lio := { s.lio with ilkLow := true } }.atT e) e) :=
      (if_neg (Bool.eq_false_iff.mp hlow)).trans (congrArg _ (if_neg (Bool.eq_false_iff.mp htap)))
    refine ⟨_, run, ?_⟩
    have frame := State.ilkCut_frame ({ s with lio := { s.lio with ilkLow := true } }.atT e) e
    have gates := State.ilkCut_gate ({ s with lio := { s.lio with ilkLow := true } }.atT e) e
    have counts := State.ilkCut_counts (s := { s with lio := { s.lio with ilkLow := true } }.atT e) hwf (e := e)
    generalize State.ilkCut _ e = x at frame gates counts ⊢
    exact ⟨(congrArg LineIo.ilkLow frame.lio :), gates, counts, frame.blocks⟩
  case hidden => exact (if_neg (Bool.eq_false_iff.mp hlow)).trans (congrArg _ (if_pos htap))
  case preset =>
    have run : exec (.ontimeHiWrite n v) s = .next (s.writeOntimeHi n v) := if_pos hon
    rw [State.writeOntimeHi_unrated hrated] at run
    have stb := s.setStb_stb_same n { c.fold s.now with ontime := BitVec.ofNat 48 (s.ontimeLoaded n v) }
    refine ⟨_, run, rfl, fun k hk => s.setStb_stb_other _ hk, fun hgate => stb.trans ?_, fun p hp => ?_⟩
    · have loaded : s.ontimeLoaded n v = cnt := by
        unfold State.ontimeLoaded
        rw [show s.lio.stb[n].gate = none from hgate]
        rfl
      rw [Strobe.fold_off hgate, loaded]
    · have on := Strobe.fold_on (Option.mem_def.mp hp) s.now
      have loaded : s.ontimeLoaded n v =
          cnt + b2n (decide (p.cnt < s.now) && (c.rem + (s.now - p.cnt)) % 400 == 0) := by
        unfold State.ontimeLoaded
        rw [on, show s.lio.stb[n].gate = some p from hp]
        rfl
      exact ⟨(congrArg Strobe.gate stb).trans (congrArg Strobe.gate on), (congrArg Strobe.rem stb).trans (congrArg Strobe.rem on),
        (congrArg Strobe.ontime stb).trans (congrArg (BitVec.ofNat 48) loaded)⟩

end Sys2Proof.Machine
end

section
/-! SUPPORT. Companding (R178, R179): the segment that holds a value, its code and the distance of its reconstruction. -/

namespace Sys2Proof.Machine

/-- The codes that a segment takes. -/
def cmpCodes (p : (Nat × Nat) × Nat) : Nat := (p.2 - p.1.1) / 2 ^ p.1.2

/-- The walk over the segments stops in the first that holds the value, after the codes of those before it. -/
theorem cmpCode_segment {x : Nat} (l : List ((Nat × Nat) × Nat)) (o : Nat) (h : ∃ p ∈ l, p.1.1 ≤ x ∧ x < p.2) :
    ∃ p ∈ l, p.1.1 ≤ x ∧ x < p.2 ∧ ∃ o', o ≤ o' ∧ o' + cmpCodes p ≤ o + (l.map cmpCodes).sum ∧
      cmpCode x o l = o' + (x - p.1.1) / 2 ^ p.1.2 := by
  induction l generalizing o with
  | nil => simp at h
  | cons q l ih =>
    obtain ⟨⟨b, sh⟩, up⟩ := q
    by_cases here : b ≤ x ∧ x < up
    · exact ⟨((b, sh), up), List.mem_cons_self, here.1, here.2, o, le_rfl, by simp, by simp [cmpCode, here]⟩
    · have later : ∃ p ∈ l, p.1.1 ≤ x ∧ x < p.2 := by
        obtain ⟨p, hp, hx⟩ := h
        rcases List.mem_cons.mp hp with rfl | hp
        · exact absurd hx here
        · exact ⟨p, hp, hx⟩
      obtain ⟨p, hp, hb, hup, o', ho, hsum, hcode⟩ := ih (o + cmpCodes ((b, sh), up)) later
      refine ⟨p, List.mem_cons_of_mem _ hp, hb, hup, o', by omega, ?_, ?_⟩
      · simpa [Nat.add_assoc] using hsum
      · rw [cmpCode, if_neg here]
        exact hcode

/-- Segments that start at or below a value and end above it hold it: each ends where the next begins. -/
theorem exists_segment {x top : Nat} (segs : List (Nat × Nat)) (b sh : Nat) (hb : b ≤ x) (hx : x < top) :
    ∃ p ∈ ((b, sh) :: segs).zip (segs.map (·.1) ++ [top]), p.1.1 ≤ x ∧ x < p.2 := by
  induction segs generalizing b sh with
  | nil => exact ⟨((b, sh), top), by simp, hb, hx⟩
  | cons q segs ih =>
    by_cases here : x < q.1
    · exact ⟨((b, sh), q.1), by simp, hb, here⟩
    · obtain ⟨p, hp, hseg⟩ := ih q.1 q.2 (Nat.not_lt.mp here)
      exact ⟨p, List.mem_cons_of_mem _ hp, hseg⟩

/-- What the checks of R178 say of a table. -/
theorem cmpValid_iff (segs : List (Nat × Nat)) : cmpValid segs = true ↔
    segs.head?.map (·.1) = some 0 ∧ (∀ p ∈ segs.zip (cmpUppers segs), p.1.1 ≤ p.2 ∧ p.1.1 ≤ 4096 ∧ p.1.2 ≤ 7 ∧
      (p.2 - p.1.1) % 2 ^ p.1.2 = 0) ∧ ((segs.zip (cmpUppers segs)).map cmpCodes).sum ≤ 256 := by
  simp only [cmpValid, Bool.and_eq_true, beq_iff_eq, List.all_eq_true, decide_eq_true_eq, and_assoc]
  rfl

/-- A valid table has a segment for every 12-bit value. -/
theorem cmpValid_covers {segs : List (Nat × Nat)} {x : Nat} (h : segs.head?.map (·.1) = some 0) (hx : x < 4096) :
    ∃ p ∈ segs.zip (cmpUppers segs), p.1.1 ≤ x ∧ x < p.2 := by
  cases segs with
  | nil => cases h
  | cons q segs =>
    obtain ⟨b, sh⟩ := q
    obtain rfl : b = 0 := Option.some.inj h
    exact exists_segment segs 0 sh (Nat.zero_le x) hx

/-- A non-empty segment's h is at most the largest error. -/
theorem cmpHalf_le_maxErr {segs : List (Nat × Nat)} {p : (Nat × Nat) × Nat} (hp : p ∈ segs.zip (cmpUppers segs))
    (hne : p.1.1 < p.2) : cmpHalf p.1.2 ≤ cmpMaxErr segs := by
  have mem : cmpHalf p.1.2 ∈ (segs.zip (cmpUppers segs)).map fun p => if p.1.1 < p.2 then cmpHalf p.1.2 else 0 :=
    List.mem_map.mpr ⟨p, hp, if_pos hne⟩
  exact (List.max?_eq_some_iff.mp List.max?_cons').2 _ (List.mem_cons_of_mem 0 mem)

/-- A step of the segment is at most twice its h, but for a step of 1. -/
theorem offset_le_twice_half (d sh : Nat) : d % 2 ^ sh ≤ 2 * cmpHalf sh := by
  cases sh with
  | zero => simp [Nat.mod_one]
  | succ k =>
    have : d % 2 ^ (k + 1) < 2 ^ (k + 1) := Nat.mod_lt _ (Nat.two_pow_pos _)
    simp only [cmpHalf, Nat.succ_ne_zero, if_false, Nat.add_sub_cancel]
    omega

/-- The reconstruction of a value's code in its segment lies within h of it (R179). -/
theorem cmpReconstruct_near {b x : Nat} (sh o : Nat) (hb : b ≤ x) :
    cmpReconstruct b sh o (o + (x - b) / 2 ^ sh) ≤ x + cmpHalf sh ∧
      x ≤ cmpReconstruct b sh o (o + (x - b) / 2 ^ sh) + cmpHalf sh := by
  have split := Nat.div_add_mod' (x - b) (2 ^ sh)
  have rest := offset_le_twice_half (x - b) sh
  simp only [cmpReconstruct, Nat.add_sub_cancel_left]
  omega

/-- Settles O33: the walk stops in the segment that holds the value, whose codes begin at or below 256 less its own. -/
theorem compandingErrorIsBounded : Obligations.CompandingErrorIsBounded := by
  intro segs x hvalid hx
  obtain ⟨hhead, hsegs, hsum⟩ := (cmpValid_iff segs).mp hvalid
  obtain ⟨⟨⟨b, sh⟩, up⟩, hp, hb, hup, o, -, hcodes, hcode⟩ := cmpCode_segment _ 0 (cmpValid_covers hhead hx)
  obtain ⟨-, -, -, hwhole⟩ := hsegs _ hp
  dsimp only at hb hup hwhole
  have inside : (x - b) / 2 ^ sh < (up - b) / 2 ^ sh := by
    refine Nat.div_lt_of_lt_mul ?_
    rw [Nat.mul_div_cancel' (Nat.dvd_of_mod_eq_zero hwhole)]
    omega
  have codes : o + (up - b) / 2 ^ sh ≤ 256 := by simpa [cmpCodes] using hcodes.trans (by simpa using hsum)
  dsimp only at hcode ⊢
  rw [hcode]
  exact ⟨by omega, b, sh, up, o, hp, hb, hup, Nat.le_add_right _ _, by omega, cmpReconstruct_near sh o hb,
    cmpHalf_le_maxErr hp (hb.trans_lt hup)⟩

end Sys2Proof.Machine
end

section
/-! SUPPORT. Chains of field writes: a field keeps its value under a write that shares no bit with it. -/

namespace Sys2Proof.Machine

/-- A field that lies in its register and shares no bit with another. -/
def Fld.keptBy (g f : Fld) : Bool :=
  decide (g.lo + g.w ≤ 32 ∧ (g.addr ≠ f.addr ∨ f.lo + f.w ≤ g.lo ∨ g.lo + g.w ≤ f.lo))

namespace State
variable {s : State}

theorem fld_setFld_kept {f g : Fld} (hkept : g.keptBy f = true) (hwf : SMap.wf Reg.resetWord s.regs = true) (v : Nat) :
    (s.setFld f v).fld g = s.fld g := by
  simp only [Fld.keptBy, decide_eq_true_eq] at hkept
  obtain ⟨hfit, hapart⟩ := hkept
  by_cases haddr : g.addr = f.addr
  · exact s.fld_setFld_disjoint f g v hwf haddr hfit (hapart.resolve_left fun h => h haddr)
  · exact s.fld_setFld_other f g v haddr

theorem bit_setFld_kept {f g : Fld} (hkept : g.keptBy f = true) (hwf : SMap.wf Reg.resetWord s.regs = true) (v : Nat) :
    (s.setFld f v).bit g = s.bit g := congrArg (· != 0) (fld_setFld_kept hkept hwf v)

theorem writesRegs_setFld (s : State) (f : Fld) (v : Nat) : WritesRegs (· = f.addr) s (s.setFld f v) := .setFld s f v rfl

/-- Between two states only the fields of a list are written, one after the other. -/
structure Stores (fs : List Fld) (s t : State) : Prop where
  frame : t = { s with regs := t.regs }
  regs : WritesRegs (fun a => ∃ f ∈ fs, a = f.addr) s t
  kept : SMap.wf Reg.resetWord s.regs = true → ∀ g : Fld, (∀ f ∈ fs, g.keptBy f = true) → t.fld g = s.fld g

namespace Stores
variable {fs gs : List Fld} {t u : State}

theorem refl (s : State) : Stores fs s s := ⟨rfl, .refl s, fun _ _ _ => rfl⟩

theorem trans (h : Stores fs s t) (k : Stores gs t u) : Stores (fs ++ gs) s u where
  frame := k.frame.trans (by rw [h.frame])
  regs := (h.regs.mono fun _ ⟨f, hf, ha⟩ => ⟨f, List.mem_append_left gs hf, ha⟩).trans
    (k.regs.mono fun _ ⟨f, hf, ha⟩ => ⟨f, List.mem_append_right fs hf, ha⟩)
  kept hwf g hg := (k.kept (h.regs.wf hwf) g fun f hf => hg f (List.mem_append_right fs hf)).trans
    (h.kept hwf g fun f hf => hg f (List.mem_append_left gs hf))

theorem setFld (s : State) (f : Fld) (v : Nat) : Stores [f] s (s.setFld f v) where
  frame := rfl
  regs := .setFld s f v ⟨f, List.mem_singleton_self f, rfl⟩
  kept hwf _ hg := fld_setFld_kept (hg f (List.mem_singleton_self f)) hwf v

theorem raiseIf (s : State) (b : Bool) (f : Fld) : Stores [f] s (s.raiseIf b f) := by
  cases b
  · exact .refl s
  · exact .setFld s f _

theorem wf (h : Stores fs s t) (hwf : SMap.wf Reg.resetWord s.regs = true) : SMap.wf Reg.resetWord t.regs = true := h.regs.wf hwf

theorem keptBit (h : Stores fs s t) (hwf : SMap.wf Reg.resetWord s.regs = true) {g : Fld} (hg : ∀ f ∈ fs, g.keptBy f = true) :
    t.bit g = s.bit g := congrArg (· != 0) (h.kept hwf g hg)

end Stores

/-- A one-bit field as a number. -/
theorem fld_eq_bit {f : Fld} (hw : f.w = 1) : s.fld f = b2n (s.bit f) := by
  have := s.fld_lt f
  rw [hw] at this
  unfold State.bit
  interval_cases s.fld f <;> rfl

end State

end Sys2Proof.Machine
end

section
/-! SUPPORT. ING_CFG and the companding table (R178, R191, R234, R757): whether a write's DEPTH16 and CMP_EN are taken, what it stores
in any case, and what a commit does. -/

namespace Sys2Proof.Machine
open Sys2Proof.Spec

variable {s : State} {v : Word}

/-- One bit of a word as a number. -/
theorem getBits_one (v : Word) (k : Nat) : getBits v k 1 = b2n (bitOf v.toNat k) := by
  unfold getBits bitOf b2n
  rcases Nat.mod_two_eq_zero_or_one (v.toNat / 2 ^ k) with h | h <;> simp [h]

theorem getBits_lt (v : Word) (lo w : Nat) : getBits v lo w < 2 ^ w := Nat.mod_lt _ (Nat.two_pow_pos w)

theorem b2n_inj {a b : Bool} : b2n a = b2n b ↔ a = b := by
  cases a <;> cases b <;> decide

namespace State

/-- A write of ING_CFG asks for no companding, or a table is in force (R178). -/
def cfgTable (s : State) (v : Word) : Prop := bitOf v.toNat 2 = false ∨ s.ing.cmp ≠ none

/-- A write of ING_CFG asks for the width and the companding that stand. -/
def cfgSame (s : State) (v : Word) : Prop :=
  getBits v 1 1 = s.fld F.ING_CFG_DEPTH16 ∧ getBits v 2 1 = s.fld F.ING_CFG_CMP_EN

/-- The width and the companding may change: SETUP with every slot FREE (R191). -/
def cfgEmpty (s : State) : Prop := s.mode = .setup ∧ s.slotCount .free = 128

/-- A write of ING_CFG changes the width, or the companding to the one given. -/
def cfgChanges (s : State) (v : Word) (cmp : Bool) : Bool :=
  bitOf v.toNat 1 != s.bit F.ING_CFG_DEPTH16 || cmp != s.bit F.ING_CFG_CMP_EN

/-- The judgement of DEPTH16 and CMP_EN: what is refused sets ING_ERR, a change that may be made is made. -/
def cfgTake (s : State) (noTable change ok depth cmp : Bool) : State :=
  let s := (s.raiseIf noTable F.ING_ERR_CMP).raiseIf (change && !ok) F.ING_ERR_CFG
  if change && ok then ((s.setFld F.ING_CFG_DEPTH16 (b2n depth)).setFld F.ING_CFG_CMP_EN (b2n cmp)).headRejudge else s

/-- The width and the companding of a write. -/
def cfgTaken (s : State) (v : Word) : State :=
  (s.setFld F.ING_CFG_DEPTH16 (getBits v 1 1)).setFld F.ING_CFG_CMP_EN (getBits v 2 1)

/-- FILL and EN are stored, and without EN the line being received ends. -/
def cfgStored (s : State) (v : Word) : State :=
  State.setFld (if bitOf v.toNat 0 then s.setFld F.ING_CFG_FILL (getBits v 16 16)
    else (s.setFld F.ING_CFG_FILL (getBits v 16 16)).endLine true) F.ING_CFG_EN (getBits v 0 1)

theorem cfgSame_iff : s.cfgSame v ↔ s.cfgChanges v (bitOf v.toNat 2) = false := by
  rw [cfgSame, getBits_one, getBits_one, fld_eq_bit rfl, fld_eq_bit rfl, b2n_inj, b2n_inj]
  simp [cfgChanges]

theorem cfgEmpty_iff : s.cfgEmpty ↔ (s.mode == .setup && s.slotCount .free == 128) = true := by
  simp [cfgEmpty]

theorem cfgTable_iff : s.cfgTable v ↔ (bitOf v.toNat 2 && s.ing.cmp.isNone) = false := by
  unfold cfgTable
  cases bitOf v.toNat 2 <;> cases s.ing.cmp <;> simp

/-! ### The judgement -/

/-- With a table, or without companding, the write's own bits are judged. -/
theorem writeIngCfg_table (htable : s.cfgTable v) : s.writeIngCfg v =
    (s.cfgTake false (s.cfgChanges v (bitOf v.toNat 2)) (s.mode == .setup && s.slotCount .free == 128) (bitOf v.toNat 1)
      (bitOf v.toNat 2)).cfgStored v := by
  have asked : (bitOf v.toNat 2 && !(bitOf v.toNat 2 && s.ing.cmp.isNone)) = bitOf v.toNat 2 := by
    rw [cfgTable_iff.mp htable, Bool.not_false, Bool.and_true]
  have judged : s.writeIngCfg v = (s.cfgTake (bitOf v.toNat 2 && s.ing.cmp.isNone)
    (s.cfgChanges v (bitOf v.toNat 2 && !(bitOf v.toNat 2 && s.ing.cmp.isNone)))
    (s.mode == .setup && s.slotCount .free == 128) (bitOf v.toNat 1)
    (bitOf v.toNat 2 && !(bitOf v.toNat 2 && s.ing.cmp.isNone))).cfgStored v := rfl
  rw [judged, asked, cfgTable_iff.mp htable]

theorem writeIngCfg_same (htable : s.cfgTable v) (hsame : s.cfgSame v) : s.writeIngCfg v = s.cfgStored v := by
  rw [writeIngCfg_table htable, cfgSame_iff.mp hsame]
  rfl

theorem writeIngCfg_taken (htable : s.cfgTable v) (hsame : ¬s.cfgSame v) (hempty : s.cfgEmpty) : s.writeIngCfg v =
    ((s.cfgTaken v).headRejudge).cfgStored v := by
  rw [cfgSame_iff, Bool.not_eq_false] at hsame
  rw [writeIngCfg_table htable, hsame, cfgEmpty_iff.mp hempty, cfgTaken, getBits_one, getBits_one]
  rfl

theorem writeIngCfg_refused (htable : s.cfgTable v) (hsame : ¬s.cfgSame v) (hempty : ¬s.cfgEmpty) :
    s.writeIngCfg v = (s.raise F.ING_ERR_CFG).cfgStored v := by
  rw [cfgSame_iff, Bool.not_eq_false] at hsame
  rw [cfgEmpty_iff, Bool.not_eq_true] at hempty
  rw [writeIngCfg_table htable, hsame, hempty]
  rfl

/-- Companding asked for without a table is judged as none asked for (R178). -/
theorem writeIngCfg_noTable (htable : ¬s.cfgTable v) : s.writeIngCfg v =
    (s.cfgTake true (s.cfgChanges v false) (s.mode == .setup && s.slotCount .free == 128) (bitOf v.toNat 1) false).cfgStored v := by
  rw [cfgTable_iff, Bool.not_eq_false] at htable
  have asked : (bitOf v.toNat 2 && !(bitOf v.toNat 2 && s.ing.cmp.isNone)) = false := by
    rw [htable, Bool.not_true, Bool.and_false]
  have judged : s.writeIngCfg v = (s.cfgTake (bitOf v.toNat 2 && s.ing.cmp.isNone)
    (s.cfgChanges v (bitOf v.toNat 2 && !(bitOf v.toNat 2 && s.ing.cmp.isNone)))
    (s.mode == .setup && s.slotCount .free == 128) (bitOf v.toNat 1)
    (bitOf v.toNat 2 && !(bitOf v.toNat 2 && s.ing.cmp.isNone))).cfgStored v := rfl
  rw [judged, asked, htable]

/-- A LOADL at the head is fresh again, and nothing else changes. -/
theorem headRejudge_eq (s : State) : s.headRejudge =
    { s with trs := { s.trs with head := if s.trs.loadl.isSome then .fresh else s.trs.head } } := by
  unfold State.headRejudge
  split <;> rfl

/-- The judgement of companding without a table: CMP is set, and CMP_EN stays or becomes 0. -/
theorem cfgTake_noTable (hwf : SMap.wf Reg.resetWord s.regs = true) (change ok depth : Bool) :
    (s.cfgTake true change ok depth false).ing = s.ing ∧ SMap.wf Reg.resetWord (s.cfgTake true change ok depth false).regs = true ∧
      (s.cfgTake true change ok depth false).bit F.ING_ERR_CMP = true ∧
      (change = true → ok = true → (s.cfgTake true change ok depth false).fld F.ING_CFG_CMP_EN = 0) ∧
      (change = false → (s.cfgTake true change ok depth false).fld F.ING_CFG_CMP_EN = s.fld F.ING_CFG_CMP_EN) := by
  have raised : SMap.wf Reg.resetWord (s.raise F.ING_ERR_CMP).regs = true := s.regsWf_setFld _ _ hwf
  have shown : (s.raise F.ING_ERR_CMP).bit F.ING_ERR_CMP = true := s.bit_raise hwf (by decide) (by decide)
  cases change with
  | false => exact ⟨rfl, raised, shown, nofun, fun _ => fld_setFld_kept (by decide) hwf _⟩
  | true =>
    cases ok with
    | false => exact ⟨rfl, regsWf_setFld _ _ _ raised, (bit_setFld_kept (by decide) raised _).trans shown, nofun, nofun⟩
    | true =>
      have depthWf := regsWf_setFld _ F.ING_CFG_DEPTH16 (b2n depth) raised
      have taken : s.cfgTake true true true depth false =
        (((s.raise F.ING_ERR_CMP).setFld F.ING_CFG_DEPTH16 (b2n depth)).setFld F.ING_CFG_CMP_EN 0).headRejudge := rfl
      rw [taken, headRejudge_eq]
      exact ⟨rfl, regsWf_setFld _ _ _ depthWf, ((bit_setFld_kept (by decide) depthWf _).trans (bit_setFld_kept (by decide) raised _)).trans shown,
        fun _ _ => fld_setFld _ _ _ depthWf (by decide), nofun⟩

theorem cfgTaken_depth (hwf : SMap.wf Reg.resetWord s.regs = true) (v : Word) : (s.cfgTaken v).fld F.ING_CFG_DEPTH16 = getBits v 1 1 :=
  (fld_setFld_kept (by decide) (s.regsWf_setFld _ _ hwf) _).trans (fld_setFld_fits _ hwf (by decide) (getBits_lt v 1 1))

theorem cfgTaken_cmp (hwf : SMap.wf Reg.resetWord s.regs = true) (v : Word) : (s.cfgTaken v).fld F.ING_CFG_CMP_EN = getBits v 2 1 :=
  fld_setFld_fits _ (s.regsWf_setFld _ _ hwf) (by decide) (getBits_lt v 2 1)

theorem cfgTaken_regs (s : State) (v : Word) : WritesRegs (· = Reg.ING_CFG) s (s.cfgTaken v) :=
  (s.writesRegs_setFld F.ING_CFG_DEPTH16 _).trans (writesRegs_setFld _ F.ING_CFG_CMP_EN _)

/-! ### What is stored in any case -/

/-- Between two states FILL and EN are stored from a write. -/
structure CfgStored (s t : State) (v : Word) : Prop where
  regs : WritesRegs (· = Reg.ING_CFG) s t
  kept : ∀ f : Fld, f.keptBy F.ING_CFG_FILL = true → f.keptBy F.ING_CFG_EN = true → t.fld f = s.fld f
  en : t.fld F.ING_CFG_EN = getBits v 0 1
  fill : t.fld F.ING_CFG_FILL = getBits v 16 16
  cmp : t.ing.cmp = s.ing.cmp

theorem cfgStored_stored (hwf : SMap.wf Reg.resetWord s.regs = true) (v : Word) : CfgStored s (s.cfgStored v) v := by
  have fillWf := s.regsWf_setFld F.ING_CFG_FILL (getBits v 16 16) hwf
  have regs : (s.cfgStored v).regs = ((s.setFld F.ING_CFG_FILL (getBits v 16 16)).setFld F.ING_CFG_EN (getBits v 0 1)).regs := by
    unfold cfgStored
    split <;> rfl
  have flds (f : Fld) : (s.cfgStored v).fld f = ((s.setFld F.ING_CFG_FILL (getBits v 16 16)).setFld F.ING_CFG_EN (getBits v 0 1)).fld f := by
    unfold State.fld State.reg
    rw [regs]
  refine ⟨?regs, fun f hfill hen => ?_, ?_, ?_, ?cmp⟩
  case regs => exact ((s.writesRegs_setFld F.ING_CFG_FILL _).trans (writesRegs_setFld _ F.ING_CFG_EN _)).trans (.of_regs_eq regs)
  case cmp =>
    unfold cfgStored
    split <;> rfl
  · rw [flds, fld_setFld_kept hen fillWf, fld_setFld_kept hfill hwf]
  · rw [flds, fld_setFld_fits _ fillWf (by decide) (getBits_lt v 0 1)]
  · rw [flds, fld_setFld_kept (by decide) fillWf, fld_setFld_fits _ hwf (by decide) (getBits_lt v 16 16)]

theorem endLine_idle (h : s.receiving = false) (cut : Bool) : s.endLine cut = s :=
  mapFilling_id fun f hf => if_pos (receiving_eq_false.mp h f hf)

/-- With no line being received the registers alone change. -/
theorem cfgStored_idle (h : s.receiving = false) (v : Word) : s.cfgStored v = { s with regs := (s.cfgStored v).regs } := by
  have idle := endLine_idle (s := s.setFld F.ING_CFG_FILL (getBits v 16 16)) h true
  unfold cfgStored
  rw [idle, ite_self]
  rfl

end State

/-! ### The companding table (R178) -/

theorem execCmpCommit_on (hon : s.domOn Dom.ingest = true) (v : Word) : execCmpCommit v s = .next (s.writeCmpCtrl v) := if_pos hon

section
variable (hgo : getBits v 0 1 = 1)
include hgo

theorem State.writeCmpCtrl_capture (hcap : s.capture = true) : s.writeCmpCtrl v = s.raise F.ING_ERR_CFG := by
  simp [State.writeCmpCtrl, hgo, hcap]

theorem State.writeCmpCtrl_invalid (hcap : s.capture = false) (h : cmpValid s.cmpStaged = false) :
    s.writeCmpCtrl v = s.raise F.ING_ERR_CMP := by
  simp [State.writeCmpCtrl, hgo, hcap, h]

theorem State.writeCmpCtrl_valid (hcap : s.capture = false) (h : cmpValid s.cmpStaged = true) : s.writeCmpCtrl v =
    State.setFld { s with ing := { s.ing with cmp := some s.cmpStaged } } F.ING_CMP_MAXERR (cmpMaxErr s.cmpStaged) := by
  simp [State.writeCmpCtrl, hgo, hcap, h]

end

/-- Settles O32: the judgement of a write has four outcomes, after each of which FILL and EN are stored; a commit has three. -/
theorem ingestSettings : Obligations.IngestSettings := by
  intro s v hmem hon only en same table empty
  have hwf := State.regsWf_of_memWf hmem
  have wrote : execIngCfgWrite v s = .next (s.writeIngCfg v) := if_pos hon
  have idle (h : s.ing.filling = []) : s.receiving = false := by simp [State.receiving, h]
  refine ⟨fun hline hempty htable => ?empty, fun hline hsame htable => ?same, fun hline hempty hsame htable => ?refused,
    fun htable => ?noTable, fun hgo hcap => ?capture, fun hgo hcap hbad => ?invalid, fun hgo hcap hok => ?valid, fun hno => ?idle⟩
  case same =>
    have st := State.cfgStored_stored hwf v
    refine ⟨_, wrote, ?_⟩
    rw [State.writeIngCfg_same htable hsame]
    exact ⟨⟨State.cfgStored_idle (idle hline) v, st.regs.but⟩, ⟨st.en, st.fill⟩, st.kept _ (by decide) (by decide),
      st.kept _ (by decide) (by decide)⟩
  case empty =>
    refine ⟨_, wrote, ?_⟩
    by_cases hsame : same
    · have st := State.cfgStored_stored hwf v
      rw [State.writeIngCfg_same htable hsame]
      refine ⟨?_, st.regs.but, ⟨st.en, st.fill⟩, (st.kept _ (by decide) (by decide)).trans hsame.1.symm,
        (st.kept _ (by decide) (by decide)).trans hsame.2.symm⟩
      rw [if_neg fun h => h.2 hsame]
      exact State.cfgStored_idle (idle hline) v
    · have taken := s.cfgTaken_regs v
      have st := State.cfgStored_stored (s := (s.cfgTaken v).headRejudge) (by rw [State.headRejudge_eq]; exact taken.wf hwf) v
      have kept := State.cfgStored_idle (s := (s.cfgTaken v).headRejudge) (by rw [State.headRejudge_eq]; exact idle hline) v
      rw [State.writeIngCfg_taken htable hsame hempty]
      refine ⟨?_, (taken.trans (st.regs.of_start (by rw [State.headRejudge_eq]))).but, ⟨st.en, st.fill⟩, ?_, ?_⟩
      · rw [kept, State.headRejudge_eq]
        simp only [hsame, not_false_eq_true, and_true]
        rfl
      · rw [st.kept _ (by decide) (by decide), State.headRejudge_eq]
        exact State.cfgTaken_depth hwf v
      · rw [st.kept _ (by decide) (by decide), State.headRejudge_eq]
        exact State.cfgTaken_cmp hwf v
  case refused =>
    have st := State.cfgStored_stored (s.regsWf_setFld F.ING_ERR_CFG 1 hwf) v
    have raised := (s.writesRegs_setFld F.ING_ERR_CFG 1).mono (V := fun a => a = F.ING_CFG_EN.addr ∨ a = F.ING_ERR_CFG.addr) fun _ => .inr
    refine ⟨_, wrote, ?_⟩
    rw [State.writeIngCfg_refused htable hsame hempty]
    refine ⟨State.cfgStored_idle (s := s.raise F.ING_ERR_CFG) (idle hline) v, (raised.trans (st.regs.mono fun _ => .inl)).but,
      ⟨st.en, st.fill⟩, ?_, ?_, ?_⟩
    · exact (State.bit_eq_of_fld_eq (st.kept F.ING_ERR_CFG (by decide) (by decide))).trans (s.bit_raise hwf (by decide) (by decide))
    · exact (st.kept _ (by decide) (by decide)).trans (State.fld_setFld_kept (by decide) hwf _)
    · exact (st.kept _ (by decide) (by decide)).trans (State.fld_setFld_kept (by decide) hwf _)
  case noTable =>
    obtain ⟨hing, htake, hcmp, hchange, hstay⟩ := State.cfgTake_noTable hwf (s.cfgChanges v false)
      (s.mode == .setup && s.slotCount .free == 128) (bitOf v.toNat 1)
    have st := State.cfgStored_stored htake v
    refine ⟨_, wrote, ?_⟩
    rw [State.writeIngCfg_noTable htable]
    refine ⟨(State.bit_eq_of_fld_eq (st.kept F.ING_ERR_CMP (by decide) (by decide))).trans hcmp, ⟨st.en, st.fill⟩,
      st.cmp.trans (congrArg Ingest.cmp hing), fun hempty => (st.kept _ (by decide) (by decide)).trans ?_⟩
    rcases Bool.eq_false_or_eq_true (s.cfgChanges v false) with hch | hch
    · exact hchange hch (State.cfgEmpty_iff.mp hempty)
    · have clear : s.bit F.ING_CFG_CMP_EN = false := by
        simp only [State.cfgChanges, Bool.or_eq_false_iff, bne_eq_false_iff_eq] at hch
        exact hch.2.symm
      have zero : s.fld F.ING_CFG_CMP_EN = 0 := by rw [State.fld_eq_bit rfl, clear]; rfl
      exact (hstay hch).trans zero
  case capture =>
    refine ⟨_, execCmpCommit_on hon v, ?_⟩
    rw [State.writeCmpCtrl_capture hgo hcap]
    exact ⟨⟨rfl, (s.writesRegs_setFld F.ING_ERR_CFG 1).but⟩, s.bit_raise hwf (by decide) (by decide)⟩
  case invalid =>
    refine ⟨_, execCmpCommit_on hon v, ?_⟩
    rw [State.writeCmpCtrl_invalid hgo hcap hbad]
    exact ⟨⟨rfl, (s.writesRegs_setFld F.ING_ERR_CMP 1).but⟩, s.bit_raise hwf (by decide) (by decide)⟩
  case valid =>
    refine ⟨_, execCmpCommit_on hon v, ?_⟩
    rw [State.writeCmpCtrl_valid hgo hcap hok]
    exact ⟨rfl, State.fld_setFld { s with ing := { s.ing with cmp := some s.cmpStaged } } F.ING_CMP_MAXERR _ hwf (by decide),
      (s.writesRegs_setFld F.ING_CMP_MAXERR (cmpMaxErr s.cmpStaged)).but⟩
  case idle =>
    refine (execCmpCommit_on hon v).trans ?_
    rw [State.writeCmpCtrl, if_pos hno]

end Sys2Proof.Machine
end

section
/-! SUPPORT. A LOADL that starts while a pinned plane of an earlier footprint is still to return (R277, R278): its first line waits for
that plane, so nothing of the line is written at the start. -/

namespace Sys2Proof.Machine
open Sys2Proof.Spec

/-- A LOADL of one line into planes 110 to 119, at the head. -/
def loadlWord : MacroWord := { w0 := 0x28, w1 := 110, w2 := 0x10000 }

/-- A complete burst of one fill line. -/
def fillBurst : Loadl := { complete := true }

/-- Every domain is ON, the LOADL's ten planes are on the bench and its burst is complete; the pinned plane 5, which gave way to an
earlier footprint, is on its way to the far store. -/
def loadlHeldUp : State := { State.reset with
  dom := Vector.replicate 76 .on
  trs := { queue := [loadlWord], head := .ready, loadl := some fillBurst }
  tly := { map := (5, { level := .yard, moving := true, pinB := true }) ::
             (List.range 10).map fun i => (110 + i, { level := .bench, slot := i })
           moves := [{ plane := 5, toFar := true }], overridden := [5] } }

/-- The lines that the macro-op executing after a command has written. -/
def linesAfter (c : Instr) (s : State) : Option Nat :=
  match exec c s with
  | .next t => t.trs.exec.map (·.lines)
  | _ => none

theorem linesAfter_of_runs {c : Instr} {s : State} {p : State → Prop} (h : runs c s p) :
    ∃ t, p t ∧ linesAfter c s = t.trs.exec.map (·.lines) := by
  obtain ⟨t, he, hp⟩ := h
  exact ⟨t, hp, by simp [linesAfter, he]⟩

/-- The burst starts, and its line waits. -/
theorem loadlHeldUp_waits : linesAfter .arrLoadl loadlHeldUp = some 0 := by decide +kernel

theorem loadlHeldUp_ready : ready (atStart loadlHeldUp) loadlWord [] :=
  ⟨by decide +kernel, by decide +kernel⟩

/-- Refutes O37: a plane that gave way to an earlier footprint and is in a far move holds the page-in of the first line up. -/
theorem not_linesInAndOutOfTheArray : ¬Obligations.LinesInAndOutOfTheArray := by
  intro h
  obtain ⟨-, -, hload⟩ := h loadlHeldUp loadlWord [] 0 fillBurst 0 {} (by decide +kernel) loadlHeldUp_ready
  obtain ⟨-, hfill⟩ := hload (by decide) (by decide) (by decide) (by decide +kernel) (by decide +kernel) rfl rfl
    (by decide +kernel) (by decide +kernel)
  obtain ⟨t, ⟨-, -, hexec, -⟩, hlines⟩ := linesAfter_of_runs (hfill rfl)
  rw [loadlHeldUp_waits] at hlines
  cases hx : t.trs.exec with
  | none => simp [hx] at hlines
  | some x =>
    simp only [hx, Option.map_some, Option.some.injEq, Prod.mk.injEq] at hexec hlines
    omega

end Sys2Proof.Machine
end

section
/-! SUPPORT. What posted events may change (R331, R628), and the registers that they miss. -/

namespace Sys2Proof.Machine

variable {s t u : State}

namespace State

/-- Between two states events are posted: units that hear them change, and registers of events and wakes. -/
structure Heard (s t : State) : Prop where
  frame : t = { s with
    joistLadderResult := t.joistLadderResult, phase := t.phase, sup := t.sup, taskSt := t.taskSt, regs := t.regs, cp := t.cp
    rails := t.rails }
  regs : WritesRegs upkeepReg s t

theorem Heard.refl (s : State) : Heard s s := ⟨rfl, .refl s⟩

theorem Heard.trans (h : Heard s t) (k : Heard t u) : Heard s u := ⟨k.frame.trans (by rw [h.frame]), h.regs.trans k.regs⟩

theorem setEvent_heard (s : State) (n : Fin 8) (bit : Nat) : Heard s (s.setEvent n bit) := by
  have regs := s.setEvent_writesRegs n bit
  obtain ⟨r, t, p, c, j, v, u, h⟩ := s.setEvent_writes n bit
  rw [h] at regs ⊢
  exact ⟨rfl, regs⟩

theorem eventAll_heard (s : State) (bit : Nat) : Heard s (s.eventAll bit) := by
  unfold State.eventAll State.setEventsIn
  generalize List.finRange 8 = l
  induction l generalizing s with
  | nil => exact .refl s
  | cons n l ih => exact (s.setEvent_heard n bit).trans (ih _)

/-! ### Registers that events miss -/

theorem not_upkeepReg_truss {a : Nat} (hlo : 0x110010000 ≤ a) (hhi : a < 0x110020000) : ¬upkeepReg a := by
  rintro (h | ⟨n, h⟩ | h | h | ⟨n, h⟩ | h | h)
  all_goals
    simp only [Reg.PWR_WAKE_SRC, Reg.SEQ_Tn_EV, Reg.TLY_STALL_FRAME, Reg.TLY_STALL_LAST, Reg.ING_FREC, Reg.ING_STAT,
      Reg.EGR_DROP_CNT] at h
    omega

/-- The masks that switch domains off. -/
theorem not_upkeepReg_domains {a : Nat} (hlo : 0x10030 ≤ a) (hhi : a ≤ 0x10040) : ¬upkeepReg a := by
  rintro (h | ⟨n, h⟩ | h | h | ⟨n, h⟩ | h | h)
  all_goals
    simp only [Reg.PWR_WAKE_SRC, Reg.SEQ_Tn_EV, Reg.TLY_STALL_FRAME, Reg.TLY_STALL_LAST, Reg.ING_FREC, Reg.ING_STAT,
      Reg.EGR_DROP_CNT] at h
    omega

end State
end Sys2Proof.Machine
end

section
/-! SUPPORT. A line becomes FILLED (R170 to R176) and a waiting LOADL claims it (R172, R181): what the ends of frames keep of slots and
headers, the one line that a burst finds, and the burst after it. -/

namespace Sys2Proof.Machine
open Sys2Proof.Spec

variable {s t u : State} {f : Filling} {l : Loadl}

namespace State

/-! ### Slots and headers over the end of a frame -/

/-- Between two states neither the Truss nor a slot changes, and of the line headers LAST alone. -/
structure LinesHeld (s t : State) : Prop where
  trs : t.trs = s.trs
  slots : t.ing.slots = s.ing.slots
  hdr : ∀ k : Fin 128, ∃ b, t.ing.hdr[k] = { s.ing.hdr[k] with last := b }

theorem LinesHeld.of_eq (htrs : t.trs = s.trs) (hslots : t.ing.slots = s.ing.slots) (hhdr : t.ing.hdr = s.ing.hdr) : LinesHeld s t :=
  ⟨htrs, hslots, fun k => ⟨s.ing.hdr[k].last, by rw [hhdr]⟩⟩

theorem LinesHeld.refl (s : State) : LinesHeld s s := .of_eq rfl rfl rfl

theorem LinesHeld.trans (h : LinesHeld s t) (k : LinesHeld t u) : LinesHeld s u where
  trs := k.trs.trans h.trs
  slots := k.slots.trans h.slots
  hdr j := by
    obtain ⟨b, hb⟩ := h.hdr j
    obtain ⟨c, hc⟩ := k.hdr j
    exact ⟨c, by rw [hc, hb]⟩

theorem markLast_linesHeld (s : State) (f : Frame) : LinesHeld s (s.markLast f) := by
  unfold State.markLast
  split
  next k _ =>
    split
    next hk =>
      split
      · refine ⟨rfl, rfl, fun j => ?_⟩
        by_cases hj : k = j.val
        · exact ⟨true, by simp [hj]⟩
        · exact ⟨s.ing.hdr[j].last, by simp [hj]⟩
      · exact .refl s
    · exact .refl s
  · exact .refl s

theorem Heard.linesHeld (h : Heard s t) : LinesHeld s t := by
  rw [h.frame]
  exact .of_eq rfl rfl rfl

theorem egrFrameRecord_linesHeld (s : State) (f : EgrFrame) : LinesHeld s (s.egrFrameRecord f) := by
  unfold State.egrFrameRecord
  split
  next s' h =>
    unfold State.egrQueue? at h
    split at h
    · obtain rfl := Option.some.inj h
      exact .of_eq rfl rfl rfl
    · cases h
  next =>
    unfold State.egrDrop
    dsimp only
    split <;> exact .of_eq rfl rfl rfl

theorem writeFrec_linesHeld (s : State) (bs : List Byte) (n : Nat) : LinesHeld s (s.writeFrec bs n) := by
  induction n with
  | zero => exact .refl s
  | succ n ih => exact ih.trans (.of_eq rfl rfl rfl)

/-- A frame that ends, but for what a waiting LOADL then does. -/
def frameNoted (s : State) (f : Frame) : State :=
  let s := ((s.markLast f).setFld F.TLY_STALL_LAST ((s.markLast f).fld F.TLY_STALL_FRAME)).setFld F.TLY_STALL_FRAME 0
  let s := (s.writeFrec f.record 8).raise F.ING_STAT_FREC_EV
  (s.eventAll 2).egrFrameRecord (EgrFrame.make 3 .stat (BitVec.ofNat 16 f.num.toNat) f.first
    (BitVec.ofNat 16 (f.lastLine - f.first).toNat) (f.firstPos.getD 0) f.record)

theorem frameEnd_eq (s : State) (f : Frame) : s.frameEnd f = (s.frameNoted f).loadlPoll 17 := rfl

theorem setFld_linesHeld (s : State) (f : Fld) (v : Nat) : LinesHeld s (s.setFld f v) := .of_eq rfl rfl rfl

theorem frameNoted_linesHeld (s : State) (f : Frame) : LinesHeld s (s.frameNoted f) := by
  have stall (s : State) : LinesHeld s ((s.setFld F.TLY_STALL_LAST (s.fld F.TLY_STALL_FRAME)).setFld F.TLY_STALL_FRAME 0) :=
    (s.setFld_linesHeld _ _).trans (setFld_linesHeld _ _ _)
  have recorded (s : State) : LinesHeld s ((s.writeFrec f.record 8).raise F.ING_STAT_FREC_EV) :=
    (s.writeFrec_linesHeld _ 8).trans (setFld_linesHeld _ _ _)
  exact ((((s.markLast_linesHeld f).trans (stall _)).trans (recorded _)).trans (eventAll_heard _ 2).linesHeld).trans (egrFrameRecord_linesHeld _ _)

theorem onFrame_linesHeld (s : State) (num : Word) (g : Frame → Frame) : LinesHeld s (s.onFrame num g) := .of_eq rfl rfl rfl

/-- What polls of a waiting LOADL keep, and changes that hold the lines keep, stands after the frames that are over have ended. -/
theorem framesSettle_keeps {P : State → Prop} (held : ∀ s t, LinesHeld s t → P s → P t) (poll : ∀ s, P s → P (s.loadlPoll 17))
    (n : Nat) (h : P s) : P (s.framesSettle n) := by
  induction n generalizing s with
  | zero => exact h
  | succ n ih =>
    unfold State.framesSettle
    split
    · exact h
    next f fs _ =>
      split
      · have taken : P { s with ing := { s.ing with frames := fs } } := held s _ (.of_eq rfl rfl rfl) h
        exact ih (poll _ (held _ _ (frameNoted_linesHeld _ f) taken))
      · exact h

theorem resolveLine_keeps {P : State → Prop} (held : ∀ s t, LinesHeld s t → P s → P t) (poll : ∀ s, P s → P (s.loadlPoll 17))
    (num : Word) (h : P s) : P (s.resolveLine num) :=
  framesSettle_keeps held poll 64 (held s _ (onFrame_linesHeld s num _) h)

theorem loadlPoll_none (h : s.trs.loadl = none) (n : Nat) : s.loadlPoll n = s := by
  cases n with
  | zero => rfl
  | succ n =>
    unfold State.loadlPoll
    simp only [h]

theorem resolveLine_linesHeld (h : s.trs.loadl = none) (num : Word) : LinesHeld s (s.resolveLine num) := by
  refine resolveLine_keeps (P := LinesHeld s) (fun _ _ hst h => h.trans hst) (fun t ht => ?_) num (.refl s)
  rw [loadlPoll_none (by rw [ht.trs, h])]
  exact ht

/-! ### The line stored -/

/-- The slot, or one of the pair, of a line. -/
def lineHolds (f : Filling) (k : Nat) : Prop := k = f.slot ∨ (f.wide = true ∧ k = f.slot + 1)

/-- A slot, or a pair, of the line store takes its new state, and every other slot keeps its own. -/
theorem setSlot_holds (s : State) (x : SlotSt) (h : f.slot + b2n f.wide < 128) : ∃ v : Vector SlotSt 128,
    s.setSlot f.slot f.wide x = { s with ing := { s.ing with slots := v } } ∧
      ∀ k : Fin 128, (lineHolds f k → v[k] = x) ∧ (¬lineHolds f k → v[k] = s.ing.slots[k]) := by
  unfold lineHolds
  cases hw : f.wide with
  | false =>
    have hk : f.slot < 128 := by simpa [hw, b2n] using h
    refine ⟨s.ing.slots.set f.slot x, by simp [State.setSlot, hk], fun k => ?_⟩
    grind
  | true =>
    have hk : f.slot + 1 < 128 := by simpa [hw, b2n] using h
    refine ⟨(s.ing.slots.set f.slot x).set (f.slot + 1) x, by simp [State.setSlot, hk, Nat.lt_of_succ_lt hk], fun k => ?_⟩
    grind

/-- The pixels of a line, filled up to 64 (R170, R171). -/
def linePixels (s : State) (f : Filling) : List Nat :=
  (f.pixels (s.ing.cmp.getD [])).take 16384 ++ List.replicate (64 - (f.pixels (s.ing.cmp.getD [])).length) (s.fillPixel f.wide)

/-- The bytes of a line in the line store. -/
def lineBytes (s : State) (f : Filling) : List Byte :=
  if f.wide then (s.linePixels f).flatMap fun x => leBytes x 2 else (s.linePixels f).map (BitVec.ofNat 8)

/-- The header of a line (Table 7-2). -/
def lineHeader (s : State) (f : Filling) : LineHeader :=
  { num := f.trig.num, pos := f.trig.pos, time := f.trig.time, frame := f.trig.frame
    npix := BitVec.ofNat 15 (s.linePixels f).length, depth16 := f.wide, qual := f.qual (f.pixels (s.ing.cmp.getD [])).length
    laneErr := f.laneErr
    cmpErr := if f.companded then BitVec.ofNat 7 (cmpMaxErr (s.ing.cmp.getD [])) else 0
    first := s.ing.frames.any fun g => g.has f.trig.num && g.delivered == 0
    rxLen := BitVec.ofNat 32 (f.pixels (s.ing.cmp.getD [])).length }

/-- The line is in its slot, with its header, and its errors are counted. -/
def lineStored (s : State) (f : Filling) : State :=
  let s := State.setSlot { s with ing := { s.ing with
    store := SMap.setBytes zeroByte s.ing.store (f.slot * 16384) (s.lineBytes f)
    hdr := s.ing.hdr.setIfInBounds f.slot (s.lineHeader f) } } f.slot f.wide .filled
  let s := if f.crcErr then s.inc F.ING_CRC_CNT else s
  if f.syncLost then s.inc F.ING_SYNC_CNT else s

/-- Then its frame counts it, and its number is resolved. -/
theorem fillSlot_eq (s : State) (f : Filling) :
    ∃ g, s.fillSlot f = ((s.lineStored f).onFrame f.trig.num g).resolveLine f.trig.num := ⟨_, rfl⟩

/-- What the store of a line changes. -/
theorem lineStored_eq (s : State) (h : f.slot + b2n f.wide < 128) : ∃ (r : List (Nat × Word)) (v : Vector SlotSt 128),
    s.lineStored f = { s with regs := r, ing := { s.ing with
      slots := v, store := SMap.setBytes zeroByte s.ing.store (f.slot * 16384) (s.lineBytes f)
      hdr := s.ing.hdr.setIfInBounds f.slot (s.lineHeader f) } } ∧
      ∀ k : Fin 128, (lineHolds f k → v[k] = .filled) ∧ (¬lineHolds f k → v[k] = s.ing.slots[k]) := by
  obtain ⟨v, hset, hv⟩ := setSlot_holds { s with ing := { s.ing with
    store := SMap.setBytes zeroByte s.ing.store (f.slot * 16384) (s.lineBytes f)
    hdr := s.ing.hdr.setIfInBounds f.slot (s.lineHeader f) } } .filled h
  unfold lineStored
  rw [hset]
  dsimp only
  split <;> split <;> exact ⟨_, v, rfl, hv⟩

/-! ### The claim -/

/-- A line that has become FILLED is the only one: what a LOADL waiting with burst l sees of it. -/
structure LineFilled (s t : State) (f : Filling) : Prop where
  trs : t.trs = s.trs
  slots : ∀ k : Fin 128, (lineHolds f k → t.ing.slots[k] = .filled) ∧ (¬lineHolds f k → t.ing.slots[k] = s.ing.slots[k])
  hdr : ∃ h, t.ing.hdr[f.slot]? = some h ∧ h.frame = f.trig.frame ∧ h.depth16 = f.wide

/-- The waiting LOADL has claimed the line. -/
structure LineClaimed (s t : State) (f : Filling) (l : Loadl) : Prop where
  burst : ∃ x : Loadl, t.trs = { s.trs with loadl := some x } ∧ x.frame = some f.trig.frame ∧
    x.claimed = l.claimed ++ [(f.slot, f.wide)] ∧ (l.b ≤ l.claimed.length + 1 → x.complete = true)
  slots : ∀ k : Fin 128, (lineHolds f k → t.ing.slots[k] = .loading) ∧ (¬lineHolds f k → t.ing.slots[k] = s.ing.slots[k])

theorem LineFilled.linesHeld (h : LineFilled s t f) (k : LinesHeld t u) : LineFilled s u f where
  trs := k.trs.trans h.trs
  slots j := by rw [k.slots]; exact h.slots j
  hdr := by
    obtain ⟨x, hx, hframe, hdepth⟩ := h.hdr
    obtain ⟨hslot, hget⟩ := Vector.getElem?_eq_some_iff.mp hx
    obtain ⟨b, hb⟩ := k.hdr ⟨f.slot, hslot⟩
    refine ⟨u.ing.hdr[f.slot], Vector.getElem?_eq_getElem hslot, ?_, ?_⟩
    · exact (congrArg LineHeader.frame hb).trans ((congrArg LineHeader.frame hget).trans hframe)
    · exact (congrArg LineHeader.depth16 hb).trans ((congrArg LineHeader.depth16 hget).trans hdepth)

theorem LineClaimed.linesHeld (h : LineClaimed s t f l) (k : LinesHeld t u) : LineClaimed s u f l where
  burst := by rw [k.trs]; exact h.burst
  slots j := by rw [k.slots]; exact h.slots j

/-- A poll that finds no FILLED line may complete the burst, and does nothing else. -/
theorem loadlPoll_noneFilled (hl : s.trs.loadl = some l) (hnone : s.firstFilled = none) (n : Nat) :
    s.loadlPoll n = s ∨ s.loadlPoll n = s.loadlDone l := by
  cases n with
  | zero => exact .inl rfl
  | succ n =>
    have claim : s.loadlClaim l = (s, false) := by
      unfold State.loadlClaim
      simp only [hnone]
    unfold State.loadlPoll
    simp only [hl, claim]
    split
    · exact .inl rfl
    · split
      · split
        · exact .inl rfl
        · exact .inr rfl
      · exact .inl rfl

theorem firstFilled_none (h : ∀ k : Fin 128, s.ing.slots[k] ≠ .filled) : s.firstFilled = none := by
  unfold State.firstFilled
  rw [List.find?_eq_none]
  intro k hk
  obtain ⟨i, -, rfl⟩ := List.mem_map.mp hk
  have hlt : (s.ing.lastSlot + 1 + i) % 128 < 128 := Nat.mod_lt _ (by decide)
  have unfilled : s.ing.slots[(s.ing.lastSlot + 1 + i) % 128] ≠ .filled := h ⟨_, hlt⟩
  simp [Vector.getElem?_eq_getElem hlt, unfilled]

theorem LineClaimed.loadlPoll (h : LineClaimed s t f l) (hnone : ∀ k : Fin 128, s.ing.slots[k] ≠ .filled) (n : Nat) :
    LineClaimed s (t.loadlPoll n) f l := by
  obtain ⟨⟨x, htrs, hframe, hclaimed, hcomplete⟩, hslots⟩ := h
  have none : t.firstFilled = none := firstFilled_none fun k hk => by
    obtain ⟨hmine, hothers⟩ := hslots k
    by_cases hk' : lineHolds f k
    · cases (hmine hk').symm.trans hk
    · exact hnone k ((hothers hk').symm.trans hk)
  rcases loadlPoll_noneFilled (by rw [htrs]) none n with e | e
  · rw [e]
    exact ⟨⟨x, htrs, hframe, hclaimed, hcomplete⟩, hslots⟩
  · rw [e]
    exact ⟨⟨{ x with complete := true }, by simp [State.loadlDone, htrs], hframe, hclaimed, fun _ => rfl⟩, hslots⟩

/-- Every slot is met by the search from the last one allocated. -/
theorem mem_searchOrder (last : Nat) {k : Nat} (hk : k < 128) : k ∈ (List.range 128).map fun i => (last + 1 + i) % 128 :=
  List.mem_map.mpr ⟨(k + 128 - (last + 1) % 128) % 128, List.mem_range.mpr (Nat.mod_lt _ (by decide)), by omega⟩

section
variable (hnone : ∀ k : Fin 128, s.ing.slots[k] ≠ .filled) (hslot : f.slot + b2n f.wide < 128)
include hnone hslot

/-- The slots of the line are the FILLED ones. -/
theorem LineFilled.filled_iff (h : LineFilled s t f) (k : Nat) : t.ing.slots[k]? = some .filled ↔ lineHolds f k := by
  by_cases hk : k < 128
  · obtain ⟨hmine, hothers⟩ := h.slots ⟨k, hk⟩
    rw [Vector.getElem?_eq_getElem hk, Option.some.injEq]
    exact ⟨fun hfilled => by_contra fun hno => hnone ⟨k, hk⟩ ((hothers hno).symm.trans hfilled), hmine⟩
  · rw [Vector.getElem?_eq_none (Nat.not_lt.mp hk)]
    refine iff_of_false nofun fun hholds => hk ?_
    rcases hholds with rfl | ⟨hwide, rfl⟩
    · omega
    · simpa [hwide, b2n] using hslot

/-- The line is the one that a LOADL finds: the second slot of a pair is passed over. -/
theorem LineFilled.firstFilled (h : LineFilled s t f) (heven : f.wide = true → f.slot % 2 = 0) : t.firstFilled = some f.slot := by
  obtain ⟨x, hx, -, hdepth⟩ := h.hdr
  have second (hodd : f.slot % 2 = 1) : t.ing.slots[f.slot - 1]? ≠ some .filled := by
    rw [ne_eq, h.filled_iff hnone hslot]
    rintro (heq | ⟨hwide, -⟩)
    · omega
    · exact absurd (heven hwide) (by omega)
  have first : t.ing.slots[f.slot]? = some .filled := (h.filled_iff hnone hslot _).mpr (.inl rfl)
  have found : (t.firstFilled).isSome := by
    refine List.find?_isSome.mpr ⟨f.slot, mem_searchOrder t.ing.lastSlot (by omega), ?_⟩
    simp only [first, beq_self_eq_true, Bool.true_and, Bool.not_eq_true', Bool.and_eq_false_iff, beq_eq_false_iff_ne]
    exact (Nat.mod_two_eq_zero_or_one f.slot).elim (fun h => .inl (.inl (by omega))) fun hodd => .inr (second hodd)
  obtain ⟨k, hk⟩ := Option.isSome_iff_exists.mp found
  have seen := List.find?_some hk
  simp only [Bool.and_eq_true, beq_iff_eq, Bool.not_eq_true', Bool.and_eq_false_iff, beq_eq_false_iff_ne, ne_eq] at seen
  obtain ⟨hfilled, hpair⟩ := seen
  rcases (h.filled_iff hnone hslot k).mp hfilled with rfl | ⟨hwide, rfl⟩
  · exact hk
  · have hpos := heven hwide
    rw [Nat.add_sub_cancel, hx] at hpair
    rcases hpair with (hodd | hnarrow) | hfree
    · omega
    · cases hwide.symm.trans (hdepth.symm.trans hnarrow)
    · exact absurd first hfree

end

theorem LineFilled.loadlPoll (h : LineFilled s t f) (hl : s.trs.loadl = some l) (hnew : l.complete = false)
    (hframe : l.frame = none ∨ l.frame = some f.trig.frame) (hnone : ∀ k : Fin 128, s.ing.slots[k] ≠ .filled)
    (hslot : f.slot + b2n f.wide < 128) (heven : f.wide = true → f.slot % 2 = 0) (n : Nat) :
    LineClaimed s (t.loadlPoll (n + 1)) f l := by
  obtain ⟨x, hx, hfr, hdepth⟩ := h.hdr
  have hlt : t.trs.loadl = some l := by rw [h.trs, hl]
  have found := h.firstFilled hnone hslot heven
  have fits : l.frame = none ∨ l.frame = some (t.slotFrame f.slot) := by
    rw [State.slotFrame, hx]
    simpa [hfr] using hframe
  obtain ⟨v, hset, hv⟩ := setSlot_holds t .loading hslot
  have claim : t.loadlClaim l = ({ t with
      ing := { t.ing with slots := v }
      trs := { t.trs with loadl := some { l with
        frame := some f.trig.frame, claimed := l.claimed ++ [(f.slot, f.wide)]
        complete := decide (l.b ≤ l.claimed.length + 1) || x.last } } }, true) := by
    unfold State.loadlClaim
    simp only [found, if_pos fits, hx, Option.getD_some, hdepth, hset, hfr]
    simp
  unfold State.loadlPoll
  simp only [hlt, hnew, claim]
  refine LineClaimed.loadlPoll ⟨⟨_, by rw [h.trs], rfl, rfl, fun hb => by simp [hb]⟩, fun k => ⟨(hv k).1, fun hk => ?_⟩⟩ hnone n
  exact ((hv k).2 hk).trans ((h.slots k).2 hk)

/-! ### The oldest ended line -/

theorem linePixels_length (s : State) (f : Filling) :
    (s.linePixels f).length = max 64 (min 16384 (f.pixels (s.ing.cmp.getD [])).length) := by
  simp only [linePixels, List.length_append, List.length_take, List.length_replicate]
  omega

theorem lineBytes_narrow (hw : f.wide = false) : s.lineBytes f = ((f.pixels (s.ing.cmp.getD [])).take 16384).map (BitVec.ofNat 8) ++
    List.replicate (64 - (f.pixels (s.ing.cmp.getD [])).length) (BitVec.ofNat 8 (s.fld F.ING_CFG_FILL % 256)) := by
  simp [lineBytes, linePixels, State.fillPixel, hw]

theorem lineBytes_wide (hw : f.wide = true) : s.lineBytes f = ((f.pixels (s.ing.cmp.getD [])).take 16384 ++
    List.replicate (64 - (f.pixels (s.ing.cmp.getD [])).length) (s.fld F.ING_CFG_FILL)).flatMap fun x => leBytes x 2 := by
  simp [lineBytes, linePixels, State.fillPixel, hw]

/-- The line has left the lines being received and is stored. -/
def lineTaken (s : State) (f : Filling) (fs : List Filling) : State :=
  State.lineStored { s with ing := { s.ing with filling := fs } } f

section
variable {fs : List Filling} (hfill : s.ing.filling = f :: fs) (hend : f.ended = true)
include hfill hend

/-- SLOT_FILLED: the line is stored, its number resolved, and a waiting LOADL looks. -/
theorem slotFilled_eq : ∃ g,
    s.slotFilled = (((s.lineTaken f fs).onFrame f.trig.num g).resolveLine f.trig.num).loadlPoll 17 := by
  obtain ⟨g, hg⟩ := fillSlot_eq { s with ing := { s.ing with filling := fs } } f
  refine ⟨g, ?_⟩
  unfold State.slotFilled
  simp only [hfill, hend, if_true]
  exact congrArg (fun t => t.loadlPoll 17) hg

theorem slotFilled_upkeep : Upkeep (s.lineTaken f fs) s.slotFilled := by
  obtain ⟨g, hg⟩ := slotFilled_eq hfill hend
  rw [hg]
  exact ((onFrame_upkeep _ _ g).trans (resolveLine_upkeep _ _)).trans (loadlPoll_upkeep 17 _)

theorem slotFilled_linesHeld (hl : s.trs.loadl = none) (htrs : (s.lineTaken f fs).trs = s.trs) :
    LinesHeld (s.lineTaken f fs) s.slotFilled := by
  obtain ⟨g, hg⟩ := slotFilled_eq hfill hend
  have held := resolveLine_linesHeld (s := (s.lineTaken f fs).onFrame f.trig.num g)
    ((congrArg Truss.loadl htrs).trans hl) f.trig.num
  rw [hg, loadlPoll_none ((congrArg Truss.loadl (held.trs.trans htrs)).trans hl)]
  exact (onFrame_linesHeld _ _ g).trans held

end

/-- What the store of the oldest line changes. -/
theorem lineTaken_eq (s : State) (fs : List Filling) (h : f.slot + b2n f.wide < 128) : ∃ (r : List (Nat × Word)) (v : Vector SlotSt 128),
    s.lineTaken f fs = { s with regs := r, ing := { s.ing with
      filling := fs, slots := v, store := SMap.setBytes zeroByte s.ing.store (f.slot * 16384) (s.lineBytes f)
      hdr := s.ing.hdr.setIfInBounds f.slot (s.lineHeader f) } } ∧
      ∀ k : Fin 128, (lineHolds f k → v[k] = .filled) ∧ (¬lineHolds f k → v[k] = s.ing.slots[k]) :=
  lineStored_eq { s with ing := { s.ing with filling := fs } } h

theorem lineTaken_filled (s : State) (fs : List Filling) (h : f.slot + b2n f.wide < 128) : LineFilled s (s.lineTaken f fs) f := by
  obtain ⟨r, v, htaken, hv⟩ := s.lineTaken_eq fs h
  rw [htaken]
  exact ⟨rfl, hv, s.lineHeader f, by simp [show f.slot < 128 by omega], rfl, rfl⟩

/-- A LOADL that waits for lines of this frame has claimed the line at the end of SLOT_FILLED. -/
theorem slotFilled_claimed {fs : List Filling} (hfill : s.ing.filling = f :: fs) (hend : f.ended = true)
    (hslot : f.slot + b2n f.wide < 128) (heven : f.wide = true → f.slot % 2 = 0) (hl : s.trs.loadl = some l)
    (hnew : l.complete = false) (hframe : l.frame = none ∨ l.frame = some f.trig.frame)
    (hnone : ∀ k : Fin 128, s.ing.slots[k] ≠ .filled) : LineClaimed s s.slotFilled f l := by
  have claims (t : State) (h : LineFilled s t f ∨ LineClaimed s t f l) : LineClaimed s (t.loadlPoll 17) f l :=
    h.elim (fun h => h.loadlPoll hl hnew hframe hnone hslot heven 16) fun h => h.loadlPoll hnone 17
  obtain ⟨g, hg⟩ := slotFilled_eq hfill hend
  rw [hg]
  refine claims _ (resolveLine_keeps (P := fun t => LineFilled s t f ∨ LineClaimed s t f l) (fun t u hheld h => ?_)
    (fun t h => .inr (claims t h)) _ (.inl ?_))
  · exact h.imp (fun h => h.linesHeld hheld) fun h => h.linesHeld hheld
  · exact (s.lineTaken_filled fs hslot).linesHeld (onFrame_linesHeld _ _ g)

/-! ### LDWAIT (R181) -/

theorem loadlStarve_settled (h : s.trs.loadl = none ∨ (s.trs.loadl = some l ∧ l.complete = true)) : s.loadlStarve = s := by
  unfold State.loadlStarve
  rcases h with h | ⟨h, hc⟩
  · simp only [h]
  · simp only [h, hc, if_true]

/-- The burst is complete with fill lines, and STARVED and its count show it. -/
theorem loadlStarve_waiting (hwf : SMap.wf Reg.resetWord s.regs = true) (hl : s.trs.loadl = some l) (hnew : l.complete = false) :
    s.loadlStarve = { s with
      regs := s.loadlStarve.regs, ing := { s.ing with frames := s.loadlStarve.ing.frames }
      trs := { s.trs with loadl := some { l with complete := true } } } ∧
    s.loadlStarve.bit F.ING_STAT_STARVED = true ∧
    s.loadlStarve.fld F.ING_STARVE_CNT = (s.fld F.ING_STARVE_CNT + 1) % 2 ^ F.ING_STARVE_CNT.w := by
  have regs : s.loadlStarve.regs = ((s.raise F.ING_STAT_STARVED).inc F.ING_STARVE_CNT).regs := by
    unfold State.loadlStarve
    simp only [hl, hnew]
    rfl
  have flds (f : Fld) : s.loadlStarve.fld f = ((s.raise F.ING_STAT_STARVED).inc F.ING_STARVE_CNT).fld f := by
    unfold State.fld State.reg
    rw [regs]
  have raised := s.regsWf_setFld F.ING_STAT_STARVED 1 hwf
  refine ⟨?_, ?_, ?_⟩
  · unfold State.loadlStarve
    simp only [hl, hnew]
    rfl
  · refine (bit_eq_of_fld_eq (flds F.ING_STAT_STARVED)).trans ?_
    exact (bit_eq_of_fld_eq (fld_setFld_other _ F.ING_STARVE_CNT F.ING_STAT_STARVED _ (by decide))).trans
      (s.bit_raise hwf (by decide) (by decide))
  · exact (flds F.ING_STARVE_CNT).trans ((fld_inc (s.raise F.ING_STAT_STARVED) F.ING_STARVE_CNT raised (by decide)).trans
      (by rw [State.raise, fld_setFld_other _ _ _ _ (by decide)]))

end State

theorem State.storeWf_of_memWf (h : s.memWf = true) : SMap.wf zeroByte s.ing.store = true := by
  simp only [State.memWf, Bool.and_eq_true] at h
  tauto

/-- Settles O31: the line is stored, then its frame may end, and whatever polls the waiting LOADL on the way claims the line once. -/
theorem linesBecomeFilled : Obligations.LinesBecomeFilled := by
  intro s f fs l hmem px fill narrow wide stored due mine
  have hwf := State.regsWf_of_memWf hmem
  refine ⟨fun hdue hl => ?stores, fun hw hc => ?plain, fun hdue hl hnew hframe hnone => ?claims, fun hl hnew => ?starves, fun h => ?idle,
    fun hdue hl hnew hframe hnone hb => ?both⟩
  case plain => simp [px, Filling.pixels, hw, hc]
  case claims =>
    obtain ⟨hon, hfill, hend, hslot, heven⟩ := hdue
    obtain ⟨⟨x, htrs, hfr, hcl, hcomplete⟩, hslots⟩ := State.slotFilled_claimed hfill hend hslot heven hl hnew hframe hnone
    have kept := (State.slotFilled_upkeep hfill hend).frame
    obtain ⟨r, v, htaken, -⟩ := s.lineTaken_eq fs hslot
    refine ⟨_, if_pos hon, by simp [htrs, hfr, hcl], fun hb => by simp [htrs, hcomplete hb], ?_, hslots⟩
    rw [htaken, htrs] at kept
    rw [kept]
  case idle => exact congrArg Host.Outcome.next (State.loadlStarve_settled h)
  case both =>
    obtain ⟨hon, hfill, hend, hslot, heven⟩ := hdue
    obtain ⟨⟨x, htrs, -, -, hcomplete⟩, -⟩ := State.slotFilled_claimed hfill hend hslot heven hl hnew hframe hnone
    have filled : execLdwaitExpiry s true = .next s.slotFilled.loadlStarve := by simp [execLdwaitExpiry, hon]
    refine filled.trans ((congrArg Host.Outcome.next (State.loadlStarve_settled (.inr ⟨?_, hcomplete hb⟩))).trans (if_pos hon).symm)
    rw [htrs]
  case starves => exact ⟨_, rfl, State.loadlStarve_waiting hwf hl hnew⟩
  case stores =>
    obtain ⟨hon, hfill, hend, hslot, -⟩ := hdue
    obtain ⟨r, v, htaken, hv⟩ := s.lineTaken_eq fs hslot
    have kept := State.slotFilled_upkeep hfill hend
    have held := State.slotFilled_linesHeld hfill hend hl (by rw [htaken])
    have hlt : f.slot < 128 := by omega
    obtain ⟨b, hb⟩ := held.hdr ⟨f.slot, hlt⟩
    have header : s.slotFilled.ing.hdr[f.slot]? = some { s.lineHeader f with last := b } := by
      rw [Vector.getElem?_eq_getElem hlt]
      refine congrArg some (hb.trans ?_)
      simp [htaken]
    have bytes : s.lineBytes f = stored := by
      by_cases hw : f.wide = true
      · exact (State.lineBytes_wide hw).trans (if_pos hw).symm
      · exact (State.lineBytes_narrow (Bool.eq_false_iff.mpr hw)).trans (if_neg hw).symm
    have frame := kept.frame
    rw [held.trs, htaken] at frame
    refine ⟨_, if_pos hon, frame, ?_, ?_, fun k => ?_, ?_, ?_, ?_⟩
    · rw [kept.filling, htaken]
    · rw [kept.pend, htaken]
    · rw [held.slots, htaken]
      exact hv k
    · rw [kept.store, htaken, ← bytes]
      exact SMap.getBytes_setBytes _ _ _ _ (State.storeWf_of_memWf hmem)
    · simp [header, State.lineHeader]
    · simp [header, State.lineHeader, State.linePixels_length, px]

end Sys2Proof.Machine
end

section
/-! SUPPORT. The completion of a macro-op (R208, R211, R222, R232, R247): its records, its delivery with the event that it posts, the
global OR with what hears it, the slots of a burst, and the tiles between macro-ops. -/

namespace Sys2Proof.Machine
open Sys2Proof.Spec

variable {s t u : State} {x : Exec} {l : Loadl}

namespace State

/-! ### Records of a completion -/

/-- The sticky summary of a completion. -/
def execSticky (s : State) (x : Exec) : State :=
  (((s.raiseIf x.ovf F.TRS_STICKY_OVF).raiseIf x.divz F.TRS_STICKY_DIVZ).raiseIf x.inv F.TRS_STICKY_INV).raiseIf x.qnan F.TRS_STICKY_QNAN

/-- The scan of a multiplication or division. -/
def execScan (s : State) (x : Exec) : State :=
  match x.scan with
  | some (kind, v) => ((s.setFld F.TRS_SCAN_VALUE v).setFld F.TRS_SCAN_KIND (b2n kind)).setFld F.TRS_SCAN_OP x.word.op
  | none => s

/-- Duration and OP. -/
def execLast (s : State) (x : Exec) (cyc : Nat) : State :=
  (s.setFld F.TRS_LAST_CYC_CYC cyc).setFld F.TRS_LAST_CYC_OP x.word.op

/-- The busy time, the count of completions, and the time throttled for a busy time. -/
def execCounts (s : State) (busy : Nat) : State :=
  let s := (s.addSat F.TRS_BUSY_CYC busy).inc F.TRS_DONE_CNT
  let step := s.fld F.WR_STAT_STEP
  s.addSat F.WR_THROTTLE_CYC (if step = 2 then busy else if step = 3 then 3 * busy else 0)

theorem execRecord_eq (s : State) (x : Exec) (cyc busy : Nat) :
    s.execRecord x cyc busy = (((s.execSticky x).execScan x).execLast x cyc).execCounts busy := rfl

def stickyFlds : List Fld := [F.TRS_STICKY_OVF, F.TRS_STICKY_DIVZ, F.TRS_STICKY_INV, F.TRS_STICKY_QNAN]

def scanFlds : List Fld := [F.TRS_SCAN_VALUE, F.TRS_SCAN_KIND, F.TRS_SCAN_OP]

theorem execSticky_stores (s : State) (x : Exec) : Stores stickyFlds s (s.execSticky x) :=
  (((Stores.raiseIf s _ _).trans (.raiseIf _ _ _)).trans (.raiseIf _ _ _)).trans (.raiseIf _ _ _)

theorem execScan_stores (s : State) (x : Exec) : Stores scanFlds s (s.execScan x) := by
  unfold execScan
  split
  · exact ((Stores.setFld s _ _).trans (.setFld _ _ _)).trans (.setFld _ _ _)
  · exact .refl s

theorem execLast_stores (s : State) (x : Exec) (cyc : Nat) :
    Stores [F.TRS_LAST_CYC_CYC, F.TRS_LAST_CYC_OP] s (s.execLast x cyc) := (Stores.setFld s _ _).trans (.setFld _ _ _)

theorem execCounts_stores (s : State) (busy : Nat) :
    Stores [F.TRS_BUSY_CYC, F.TRS_DONE_CNT, F.WR_THROTTLE_CYC] s (s.execCounts busy) :=
  ((Stores.setFld s F.TRS_BUSY_CYC _).trans (.setFld _ F.TRS_DONE_CNT _)).trans (.setFld _ F.WR_THROTTLE_CYC _)

theorem execCounts_done (hwf : SMap.wf Reg.resetWord s.regs = true) (busy : Nat) :
    (s.execCounts busy).fld F.TRS_DONE_CNT = (s.fld F.TRS_DONE_CNT + 1) % 2 ^ F.TRS_DONE_CNT.w := by
  have counted := s.regsWf_setFld F.TRS_BUSY_CYC (min (s.fld F.TRS_BUSY_CYC + busy) (2 ^ F.TRS_BUSY_CYC.w - 1)) hwf
  have before : (s.addSat F.TRS_BUSY_CYC busy).fld F.TRS_DONE_CNT = s.fld F.TRS_DONE_CNT := fld_setFld_other _ _ _ _ (by decide)
  exact (fld_setFld_other _ F.WR_THROTTLE_CYC F.TRS_DONE_CNT _ (by decide)).trans
    ((fld_inc (s.addSat F.TRS_BUSY_CYC busy) _ counted (by decide)).trans (by rw [before]))

theorem execLast_reads (hwf : SMap.wf Reg.resetWord s.regs = true) (x : Exec) (cyc : Nat) :
    (s.execLast x cyc).fld F.TRS_LAST_CYC_CYC = cyc % 2 ^ F.TRS_LAST_CYC_CYC.w ∧
      (s.execLast x cyc).fld F.TRS_LAST_CYC_OP = x.word.op := by
  have cycWf := s.regsWf_setFld F.TRS_LAST_CYC_CYC cyc hwf
  have op : x.word.op < 2 ^ 8 := getBits_lt x.word.w0 0 8
  exact ⟨(fld_setFld_kept (by decide) cycWf _).trans (s.fld_setFld _ _ hwf (by decide)), fld_setFld_fits _ cycWf (by decide) op⟩

/-- Every field that a completion writes. -/
def recordFlds : List Fld :=
  stickyFlds ++ (scanFlds ++ ([F.TRS_LAST_CYC_CYC, F.TRS_LAST_CYC_OP] ++ [F.TRS_BUSY_CYC, F.TRS_DONE_CNT, F.WR_THROTTLE_CYC]))

/-- What every completion shows. -/
structure Recorded (s t : State) (x : Exec) (cyc : Nat) : Prop where
  stores : Stores recordFlds s t
  done : t.fld F.TRS_DONE_CNT = (s.fld F.TRS_DONE_CNT + 1) % 2 ^ F.TRS_DONE_CNT.w
  cyc : t.fld F.TRS_LAST_CYC_CYC = cyc % 2 ^ F.TRS_LAST_CYC_CYC.w
  op : t.fld F.TRS_LAST_CYC_OP = x.word.op
  ovf : t.bit F.TRS_STICKY_OVF = (s.bit F.TRS_STICKY_OVF || x.ovf)
  divz : t.bit F.TRS_STICKY_DIVZ = (s.bit F.TRS_STICKY_DIVZ || x.divz)
  inv : t.bit F.TRS_STICKY_INV = (s.bit F.TRS_STICKY_INV || x.inv)
  qnan : t.bit F.TRS_STICKY_QNAN = (s.bit F.TRS_STICKY_QNAN || x.qnan)

/-- The four summary bits join what they held. -/
theorem execSticky_bits (hwf : SMap.wf Reg.resetWord s.regs = true) (x : Exec) :
    (s.execSticky x).bit F.TRS_STICKY_OVF = (s.bit F.TRS_STICKY_OVF || x.ovf) ∧
    (s.execSticky x).bit F.TRS_STICKY_DIVZ = (s.bit F.TRS_STICKY_DIVZ || x.divz) ∧
    (s.execSticky x).bit F.TRS_STICKY_INV = (s.bit F.TRS_STICKY_INV || x.inv) ∧
    (s.execSticky x).bit F.TRS_STICKY_QNAN = (s.bit F.TRS_STICKY_QNAN || x.qnan) := by
  have ovf := Stores.raiseIf s x.ovf F.TRS_STICKY_OVF
  have divz := Stores.raiseIf (s.raiseIf x.ovf F.TRS_STICKY_OVF) x.divz F.TRS_STICKY_DIVZ
  have inv := Stores.raiseIf ((s.raiseIf x.ovf F.TRS_STICKY_OVF).raiseIf x.divz F.TRS_STICKY_DIVZ) x.inv F.TRS_STICKY_INV
  have qnan := Stores.raiseIf (((s.raiseIf x.ovf F.TRS_STICKY_OVF).raiseIf x.divz F.TRS_STICKY_DIVZ).raiseIf x.inv F.TRS_STICKY_INV)
    x.qnan F.TRS_STICKY_QNAN
  have hovf := ovf.wf hwf
  have hdivz := divz.wf hovf
  have hinv := inv.wf hdivz
  refine ⟨?_, ?_, ?_, ?_⟩
  · exact (((divz.trans inv).trans qnan).keptBit hovf (by decide)).trans (bit_raiseIf s _ hwf (by decide) (by decide))
  · rw [← ovf.keptBit hwf (g := F.TRS_STICKY_DIVZ) (by decide)]
    exact ((inv.trans qnan).keptBit hdivz (by decide)).trans (bit_raiseIf _ _ hovf (by decide) (by decide))
  · rw [← (ovf.trans divz).keptBit hwf (g := F.TRS_STICKY_INV) (by decide)]
    exact (qnan.keptBit hinv (by decide)).trans (bit_raiseIf _ _ hdivz (by decide) (by decide))
  · rw [← ((ovf.trans divz).trans inv).keptBit hwf (g := F.TRS_STICKY_QNAN) (by decide)]
    exact bit_raiseIf _ _ hinv (by decide) (by decide)

theorem execRecord_recorded (hwf : SMap.wf Reg.resetWord s.regs = true) (x : Exec) (cyc busy : Nat) :
    Recorded s (s.execRecord x cyc busy) x cyc := by
  rw [execRecord_eq]
  have sticky := s.execSticky_stores x
  have scan := (s.execSticky x).execScan_stores x
  have last := ((s.execSticky x).execScan x).execLast_stores x cyc
  have counts := (((s.execSticky x).execScan x).execLast x cyc).execCounts_stores busy
  have hsticky := sticky.wf hwf
  have hscan := scan.wf hsticky
  have hlast := last.wf hscan
  have after := scan.trans (last.trans counts)
  obtain ⟨hovf, hdivz, hinv, hqnan⟩ := execSticky_bits hwf x
  obtain ⟨hcyc, hop⟩ := execLast_reads hscan x cyc
  have done := (sticky.trans (scan.trans last)).kept hwf F.TRS_DONE_CNT (by decide)
  refine ⟨sticky.trans after, (execCounts_done hlast busy).trans (by rw [done]), (counts.kept hlast _ (by decide)).trans hcyc,
    (counts.kept hlast _ (by decide)).trans hop, (after.keptBit hsticky (by decide)).trans hovf,
    (after.keptBit hsticky (by decide)).trans hdivz, (after.keptBit hsticky (by decide)).trans hinv,
    (after.keptBit hsticky (by decide)).trans hqnan⟩

/-! ### Deliveries (R232) -/

/-- The task that a value reaches: its register, and in the run that asked for it the register is no longer pending (R232). -/
def taskGiven (t : Task) (gen reg : Nat) (v : Word) : Task :=
  { t with g := t.g.setIfInBounds reg v, pend := if gen = t.gen then t.pend.erase reg else t.pend }

/-- A value reaches its task, and the event may be heard. -/
theorem taskDeliver_heard (n : Fin 8) {gen reg : Nat} (v : Word) (hreg : reg ≠ 0) (hlive : s.tasks[n].live ≤ gen) :
    Heard { s with tasks := s.tasks.set n (taskGiven s.tasks[n] gen reg v) } (s.taskDeliver n gen reg v) := by
  have live : ¬(reg = 0 ∨ gen < s.tasks[n].live) := by omega
  unfold State.taskDeliver
  simp only [live, if_false]
  split
  · exact setEvent_heard _ n 8
  · exact .refl _

/-- A value for g0, or for a run that has been aborted, is discarded. -/
theorem taskDeliver_discarded (n : Fin 8) {gen reg : Nat} (v : Word) (h : reg = 0 ∨ gen < s.tasks[n].live) :
    s.taskDeliver n gen reg v = s := if_pos h

/-! ### The global OR (R206 to R208) -/

/-- The registers that the units write which hear a global OR. -/
def gorReg (a : Nat) : Prop := upkeepReg a ∨ (∃ k : Fin 4, a = Reg.MARKm_LATE k ∨ a = Reg.MARKm_FIRED k) ∨ a = Reg.DYN_FWD_DROP

/-- Between two states a global OR is heard: the Truss, Tally, the store buffers and the scribe chain stay. -/
structure GorHeard (s t : State) : Prop where
  trs : t.trs = s.trs
  tly : t.tly = s.tly
  storeBufs : t.storeBufs = s.storeBufs
  held : t.held = s.held
  regs : WritesRegs gorReg s t

theorem GorHeard.refl (s : State) : GorHeard s s := ⟨rfl, rfl, rfl, rfl, .refl s⟩

theorem GorHeard.trans (h : GorHeard s t) (k : GorHeard t u) : GorHeard s u :=
  ⟨k.trs.trans h.trs, k.tly.trans h.tly, k.storeBufs.trans h.storeBufs, k.held.trans h.held, h.regs.trans k.regs⟩

theorem Heard.gorHeard (h : Heard s t) : GorHeard s t := by
  have regs := h.regs.mono (V := gorReg) fun _ => .inl
  rw [h.frame] at regs ⊢
  exact ⟨rfl, rfl, rfl, rfl, regs⟩

theorem OnMark.gorHeard {m : Fin 4} (h : OnMark m s t) : GorHeard s t := by
  have regs := h.regs.mono (V := gorReg) fun _ ha => .inr (.inl ⟨m, ha⟩)
  have frame := h.frame
  unfold MarksOnly at frame
  rw [frame] at regs ⊢
  exact ⟨rfl, rfl, rfl, rfl, regs⟩

theorem gorMark_foldl_gorHeard (src n : Nat) (l : List (Fin 4)) (s : State) : GorHeard s (l.foldl (gorMark src n) s) := by
  induction l generalizing s with
  | nil => exact .refl s
  | cons m l ih => exact (gorMark_onMark src n s m).gorHeard.trans (ih _)

theorem gorMarks_gorHeard (s : State) (src n : Nat) : GorHeard s (s.gorMarks src n) := by
  by_cases h : s.lioRuns = true
  · rw [gorMarks_eq h]
    exact gorMark_foldl_gorHeard src n _ s
  · rw [State.gorMarks, if_neg h]
    exact .refl s

theorem setDynPort_gorHeard (s : State) (p : DynPort) (x : DynPortSt) : GorHeard s (s.setDynPort p x) := by
  cases p <;> exact ⟨rfl, rfl, rfl, rfl, .of_regs_eq rfl⟩

theorem dynSend_gorHeard (s : State) (p : DynPort) (m : DynMsg) : GorHeard s (s.dynSend p m) := by
  unfold State.dynSend
  dsimp only
  split
  · exact s.setDynPort_gorHeard p _
  · split
    · exact s.setDynPort_gorHeard p _
    · exact ⟨rfl, rfl, rfl, rfl, .inc s F.DYN_FWD_DROP (.inr (.inr rfl))⟩

theorem dynTrained_gorHeard (s : State) (m : DynMsg) : GorHeard s (s.dynTrained m) := by
  have each (s : State) (b : Bool) (p : DynPort) : GorHeard s (if b then s.dynSend p m else s) := by
    split
    · exact s.dynSend_gorHeard p m
    · exact .refl s
  exact (each s _ .up).trans (each _ _ .dn)

theorem gorRise_gorHeard (s : State) (n : Nat) : GorHeard s (s.gorRise n) := by
  have marked := (s.eventAll_heard 3).gorHeard.trans (gorMarks_gorHeard _ 0 n)
  unfold State.gorRise
  dsimp only
  split
  · exact marked.trans (dynTrained_gorHeard _ _)
  · exact marked

theorem not_gorReg_truss {a : Nat} (hlo : 0x110010000 ≤ a) (hhi : a < 0x110020000) : ¬gorReg a := by
  rintro (h | ⟨k, h | h⟩ | h)
  · exact not_upkeepReg_truss hlo hhi h
  all_goals
    simp only [Reg.MARKm_LATE, Reg.MARKm_FIRED, Reg.DYN_FWD_DROP] at h
    omega

/-- What a global OR shows at its end. -/
structure GorShown (s t : State) (r : Bool) (tiles : BitVec 64) : Prop where
  trs : t.trs = { s.trs with gorOut := r, tileGor := tiles }
  tly : t.tly = s.tly
  storeBufs : t.storeBufs = s.storeBufs
  held : t.held = s.held
  regs : WritesRegs (fun a => a = Reg.TRS_GOR ∨ a = Reg.TRS_GOR_TILES_LO ∨ a = Reg.TRS_GOR_TILES_HI ∨ gorReg a) s t
  value : t.fld F.TRS_GOR_VALUE = b2n r
  hit : t.bit F.TRS_GOR_HIT = (s.bit F.TRS_GOR_HIT || r)
  out : t.fld F.TRS_GOR_OUT = b2n r
  seq : t.fld F.TRS_GOR_SEQ = (s.fld F.TRS_GOR_SEQ + 1) % 2 ^ F.TRS_GOR_SEQ.w
  tiles : t.fld F.TRS_GOR_TILES_LO + 2 ^ 32 * t.fld F.TRS_GOR_TILES_HI = tiles.toNat

/-- SEQ, VALUE and HIT of a global OR. -/
def gorCounted (s : State) (r : Bool) : State := ((s.inc F.TRS_GOR_SEQ).setFld F.TRS_GOR_VALUE (b2n r)).raiseIf r F.TRS_GOR_HIT

/-- The tile bits and GOR_OUT of a global OR. -/
def gorSpread (s : State) (r : Bool) (tiles : BitVec 64) : State :=
  ((s.setFld F.TRS_GOR_TILES_LO (tiles.toNat % 2 ^ 32)).setFld F.TRS_GOR_TILES_HI (tiles.toNat / 2 ^ 32)).setFld F.TRS_GOR_OUT (b2n r)

theorem gorCounted_stores (s : State) (r : Bool) : Stores [F.TRS_GOR_SEQ, F.TRS_GOR_VALUE, F.TRS_GOR_HIT] s (s.gorCounted r) :=
  ((Stores.setFld s F.TRS_GOR_SEQ _).trans (.setFld _ F.TRS_GOR_VALUE _)).trans (.raiseIf _ _ _)

theorem gorSpread_stores (s : State) (r : Bool) (tiles : BitVec 64) :
    Stores [F.TRS_GOR_TILES_LO, F.TRS_GOR_TILES_HI, F.TRS_GOR_OUT] s (s.gorSpread r tiles) :=
  ((Stores.setFld s F.TRS_GOR_TILES_LO _).trans (.setFld _ F.TRS_GOR_TILES_HI _)).trans (.setFld _ F.TRS_GOR_OUT _)

theorem b2n_lt_two (b : Bool) : b2n b < 2 ^ 1 := by cases b <;> decide

theorem gorCounted_reads (hwf : SMap.wf Reg.resetWord s.regs = true) (r : Bool) :
    (s.gorCounted r).fld F.TRS_GOR_SEQ = (s.fld F.TRS_GOR_SEQ + 1) % 2 ^ F.TRS_GOR_SEQ.w ∧
      (s.gorCounted r).fld F.TRS_GOR_VALUE = b2n r ∧ (s.gorCounted r).bit F.TRS_GOR_HIT = (s.bit F.TRS_GOR_HIT || r) := by
  have seq := Stores.setFld s F.TRS_GOR_SEQ (s.fld F.TRS_GOR_SEQ + 1)
  have value := Stores.setFld (s.inc F.TRS_GOR_SEQ) F.TRS_GOR_VALUE (b2n r)
  have hit := Stores.raiseIf ((s.inc F.TRS_GOR_SEQ).setFld F.TRS_GOR_VALUE (b2n r)) r F.TRS_GOR_HIT
  have hseq := seq.wf hwf
  have hvalue := value.wf hseq
  refine ⟨?_, ?_, ?_⟩
  · exact ((value.trans hit).kept hseq _ (by decide)).trans (fld_inc s _ hwf (by decide))
  · exact (hit.kept hvalue _ (by decide)).trans (fld_setFld_fits _ hseq (by decide) (b2n_lt_two r))
  · rw [← (seq.trans value).keptBit hwf (g := F.TRS_GOR_HIT) (by decide)]
    exact bit_raiseIf _ _ hvalue (by decide) (by decide)

theorem gorSpread_reads (hwf : SMap.wf Reg.resetWord s.regs = true) (r : Bool) (tiles : BitVec 64) :
    (s.gorSpread r tiles).fld F.TRS_GOR_OUT = b2n r ∧
      (s.gorSpread r tiles).fld F.TRS_GOR_TILES_LO + 2 ^ 32 * (s.gorSpread r tiles).fld F.TRS_GOR_TILES_HI = tiles.toNat := by
  have lo := Stores.setFld s F.TRS_GOR_TILES_LO (tiles.toNat % 2 ^ 32)
  have hi := Stores.setFld (s.setFld F.TRS_GOR_TILES_LO (tiles.toNat % 2 ^ 32)) F.TRS_GOR_TILES_HI (tiles.toNat / 2 ^ 32)
  have out := Stores.setFld ((s.setFld F.TRS_GOR_TILES_LO (tiles.toNat % 2 ^ 32)).setFld F.TRS_GOR_TILES_HI (tiles.toNat / 2 ^ 32))
    F.TRS_GOR_OUT (b2n r)
  have hlo := lo.wf hwf
  have hhi := hi.wf hlo
  have low : tiles.toNat % 2 ^ 32 < 2 ^ F.TRS_GOR_TILES_LO.w := Nat.mod_lt _ (by decide)
  have high : tiles.toNat / 2 ^ 32 < 2 ^ F.TRS_GOR_TILES_HI.w := Nat.div_lt_of_lt_mul tiles.isLt
  have readLo := ((hi.trans out).kept hlo F.TRS_GOR_TILES_LO (by decide)).trans (fld_setFld_fits _ hwf (by decide) low)
  have readHi := (out.kept hhi F.TRS_GOR_TILES_HI (by decide)).trans (fld_setFld_fits _ hlo (by decide) high)
  refine ⟨fld_setFld_fits _ hhi (by decide) (b2n_lt_two r), ?_⟩
  rw [gorSpread, readLo, readHi]
  exact Nat.mod_add_div _ _

/-- A global OR that ends is stored, shows at the output, and its rise is heard. -/
theorem gorEnd_eq (s : State) (r : Bool) (tiles : BitVec 64) (n : Nat) : s.gorEnd r tiles n =
    let u := { (s.gorCounted r).gorSpread r tiles with trs := { s.trs with gorOut := r, tileGor := tiles } }
    if r && !s.trs.gorOut then (u.atT n).gorRise n else u := by
  cases r <;> rfl

theorem gorStored_shown (hwf : SMap.wf Reg.resetWord s.regs = true) (r : Bool) (tiles : BitVec 64) :
    GorShown s { (s.gorCounted r).gorSpread r tiles with trs := { s.trs with gorOut := r, tileGor := tiles } } r tiles := by
  have counted := s.gorCounted_stores r
  have spread := (s.gorCounted r).gorSpread_stores r tiles
  have hcounted := counted.wf hwf
  obtain ⟨hseq, hvalue, hhit⟩ := gorCounted_reads hwf r
  obtain ⟨hout, htiles⟩ := gorSpread_reads hcounted r tiles
  have both := counted.trans spread
  refine ⟨rfl, ?_, ?_, ?_, (both.regs.mono ?regs).trans (.of_regs_eq rfl), (spread.kept hcounted _ (by decide)).trans hvalue,
    (spread.keptBit hcounted (by decide)).trans hhit, hout, (spread.kept hcounted _ (by decide)).trans hseq, htiles⟩
  case regs =>
    rintro a ⟨f, hf, rfl⟩
    simp only [List.cons_append, List.nil_append, List.mem_cons, List.not_mem_nil, or_false] at hf
    rcases hf with rfl | rfl | rfl | rfl | rfl | rfl <;> simp [F.TRS_GOR_SEQ, F.TRS_GOR_VALUE, F.TRS_GOR_HIT, F.TRS_GOR_TILES_LO,
      F.TRS_GOR_TILES_HI, F.TRS_GOR_OUT]
  all_goals rw [both.frame]

theorem gorEnd_shown (hwf : SMap.wf Reg.resetWord s.regs = true) (r : Bool) (tiles : BitVec 64) (n : Nat) :
    GorShown s (s.gorEnd r tiles n) r tiles := by
  have shown := gorStored_shown hwf r tiles
  rw [gorEnd_eq]
  dsimp only
  generalize { (s.gorCounted r).gorSpread r tiles with trs := { s.trs with gorOut := r, tileGor := tiles } } = u at shown
  split
  · have timed : GorHeard u (u.atT n) := ⟨rfl, rfl, rfl, rfl, .of_regs_eq rfl⟩
    have heard := timed.trans (gorRise_gorHeard (u.atT n) n)
    have kept {f : Fld} (hlo : 0x110010000 ≤ f.addr) (hhi : f.addr < 0x110020000) : ((u.atT n).gorRise n).fld f = u.fld f :=
      heard.regs.fld (not_gorReg_truss hlo hhi)
    refine ⟨heard.trs.trans shown.trs, heard.tly.trans shown.tly, heard.storeBufs.trans shown.storeBufs, heard.held.trans shown.held,
      shown.regs.trans (heard.regs.mono fun _ h => .inr (.inr (.inr h))), ?_, ?_, ?_, ?_, ?_⟩
    · exact (kept (by decide) (by decide)).trans shown.value
    · exact (bit_eq_of_fld_eq (kept (by decide) (by decide))).trans shown.hit
    · exact (kept (by decide) (by decide)).trans shown.out
    · exact (kept (by decide) (by decide)).trans shown.seq
    · rw [kept (by decide) (by decide), kept (by decide) (by decide)]
      exact shown.tiles
  · exact shown

/-! ### The slots of a burst (R172, R184) -/

/-- A slot, or a pair, becomes FREE, and FREE slots stay so. -/
theorem setSlot_free (s : State) (k : Nat) (wide : Bool) : ∃ v : Vector SlotSt 128,
    s.setSlot k wide .free = { s with ing := { s.ing with slots := v } } ∧ (k < 128 → v[k]? = some SlotSt.free) ∧
      ∀ j : Nat, s.ing.slots[j]? = some SlotSt.free → v[j]? = some SlotSt.free := by
  have set (v : Vector SlotSt 128) (i : Nat) (hi : i < 128) (j : Nat) (h : v[j]? = some SlotSt.free) :
      (v.set i SlotSt.free)[j]? = some SlotSt.free := by grind
  by_cases hk : k < 128
  · by_cases hpair : wide = true ∧ k + 1 < 128
    · obtain ⟨rfl, hk'⟩ := hpair
      exact ⟨(s.ing.slots.set k .free).set (k + 1) .free, by simp [State.setSlot, hk, hk'], fun _ => set _ _ hk' _ (by simp),
        fun j h => set _ _ hk' _ (set _ _ hk _ h)⟩
    · exact ⟨s.ing.slots.set k .free, by simpa [State.setSlot, hk] using fun hw hk' => absurd ⟨hw, hk'⟩ hpair, fun _ => by simp,
        fun j h => set _ _ hk _ h⟩
  · exact ⟨s.ing.slots, by simpa [State.setSlot, hk] using fun _ h => absurd (Nat.lt_of_succ_lt h) hk,
      fun h => absurd h hk, fun _ h => h⟩

/-- Every slot of a burst becomes FREE, and nothing but slots changes. -/
theorem loadlFree_frees (claimed : List (Nat × Bool)) (s : State) : ∃ v : Vector SlotSt 128,
    s.loadlFree claimed = { s with ing := { s.ing with slots := v } } ∧ (∀ p ∈ claimed, p.1 < 128 → v[p.1]? = some SlotSt.free) ∧
      ∀ j : Nat, s.ing.slots[j]? = some SlotSt.free → v[j]? = some SlotSt.free := by
  induction claimed generalizing s with
  | nil => exact ⟨s.ing.slots, rfl, nofun, fun _ h => h⟩
  | cons p claimed ih =>
    obtain ⟨k, wide⟩ := p
    obtain ⟨v, hset, hmine, hfree⟩ := s.setSlot_free k wide
    obtain ⟨w, hrest, hothers, hkeep⟩ := ih { s with ing := { s.ing with slots := v } }
    refine ⟨w, by rw [State.loadlFree, hset, hrest], ?_, fun j h => hkeep j (hfree j h)⟩
    intro p hp hlt
    rcases List.mem_cons.mp hp with rfl | hp
    · exact hkeep k (hmine hlt)
    · exact hothers p hp hlt

/-! ### Tiles between macro-ops (R617, R618) -/

/-- Between two states tiles lose their contents: the queue, the stores and the line store stay. -/
structure TilesLost (s t : State) : Prop where
  frame : t = { s with
    regs := t.regs, dom := t.dom, tly := t.tly
    trs := { s.trs with a := t.trs.a, ovf := t.trs.ovf, divz := t.trs.divz, inv := t.trs.inv, tileGor := t.trs.tileGor } }

theorem TilesLost.trans (h : TilesLost s t) (k : TilesLost t u) : TilesLost s u := ⟨k.frame.trans (by rw [h.frame])⟩

theorem tileLose_lost (s : State) (c : Nat) : TilesLost s (s.tileLose c) := by
  unfold State.tileLose
  dsimp only
  constructor
  split <;> split <;> rfl

/-- One tile between macro-ops: it goes OFF where it is to be without power. -/
def tileSettle (s : State) (c : Fin 64) : State :=
  if s.tileDown c ∧ s.tileOn c then
    { s.tileLose c with dom := (s.tileLose c).dom.set (c.castLE (by decide : 64 ≤ 76)) .off }
  else s

theorem tilesSettle_eq (h : s.trs.exec = none) : s.tilesSettle = (List.finRange 64).foldl tileSettle s := by
  unfold State.tilesSettle
  rw [h]
  rfl

theorem tileSettle_foldl_lost (l : List (Fin 64)) (s : State) : TilesLost s (l.foldl tileSettle s) := by
  induction l generalizing s with
  | nil => exact ⟨rfl⟩
  | cons c l ih =>
    refine TilesLost.trans ?_ (ih _)
    unfold tileSettle
    split
    · exact (s.tileLose_lost c).trans ⟨rfl⟩
    · exact ⟨rfl⟩

theorem tilesSettle_lost (h : s.trs.exec = none) : TilesLost s s.tilesSettle := by
  rw [tilesSettle_eq h]
  exact tileSettle_foldl_lost _ s

/-- No tile is to be without power. -/
def TilesStay (s : State) : Prop := ∀ c : Fin 64, s.tileDown c = false

theorem tilesSettle_idle (hexec : s.trs.exec = none) (h : TilesStay s) : s.tilesSettle = s := by
  rw [tilesSettle_eq hexec]
  induction List.finRange 64 with
  | nil => rfl
  | cons c l ih =>
    have stays : s.tileSettle c = s := if_neg (by simp [h c])
    rw [List.foldl_cons, stays, ih]

/-- Which tiles are to be without power is read from the masks of PWR_DOM_OFF and the scribe chain. -/
theorem TilesStay.of_regs (h : TilesStay s) (hheld : t.held = s.held) (hregs : ∀ a, 0x10030 ≤ a → a ≤ 0x10040 → t.reg a = s.reg a) :
    TilesStay t := fun c => by
  have mask : t.domSwitchedOff c = s.domSwitchedOff c := by
    unfold State.domSwitchedOff State.domMask
    rw [hregs]
    · simp [Reg.PWR_DOM_OFF_A]
    · have := c.isLt
      simp only [Reg.PWR_DOM_OFF_A]
      omega
  have down : t.tileDown c = s.tileDown c := by
    unfold State.tileDown
    rw [mask, hheld]
  exact down.trans (h c)

/-! ### The end of a macro-op -/

/-- The registers of a completion, with the wait of a LOADL or of a draining TOKEN. -/
def execCounted (s : State) (x : Exec) (wait : Nat) : State :=
  let extra := if x.word.op == Op.loadl || x.drain then wait else 0
  s.execRecord x (x.cyc + extra) (if x.word.op == Op.loadl then x.cyc else x.cyc + extra)

/-- The global OR of a completion. -/
def execShown (s : State) (x : Exec) (t : Nat) : State :=
  match x.gor with
  | some (r, tiles) => s.gorEnd r tiles t
  | none => s

/-- The value of a completion. -/
def execDelivered (s : State) (x : Exec) : State :=
  match x.deliver with
  | some (r, v) => s.deliver x.word r v
  | none => s

/-- The burst of a completion. -/
def execUnloaded (s : State) (x : Exec) : State :=
  match x.burst with
  | some l => s.loadlEnd l
  | none => s

/-- Nothing executes any more: buffers are filled, tiles switch, and the head is looked at. -/
def execRetired (s : State) (loadl : Bool) (was : Stamp) : State :=
  let s : State := { s with trs := { s.trs with exec := none } }
  let s := s.storeReady.tilesSettle.fpClear.benchSettle
  let s : State := { s with trs := { s.trs with edgeStamp := if loadl && s.storeDue then some was else none } }
  s.trsAdvance 65

theorem macroComplete_eq (s : State) (x : Exec) (t wait : Nat) : s.macroComplete x t wait =
    (((((s.execCounted x wait).execShown x t).execDelivered x).execUnloaded x).execRetired (x.word.op == Op.loadl)
      (((s.execCounted x wait).execShown x t).execDelivered x).stamp) := rfl

/-- With an empty queue and no tile to switch, the end of a macro-op is plain. -/
theorem execRetired_plain (hq : s.trs.queue = []) (hstay : TilesStay s) (was : Stamp) : s.execRetired false was =
    { s with
      trs := { s.trs with exec := none, edgeStamp := none }
      tly := { s.tly with fp := [], headWaits := 0, mv := none }
      storeBufs := s.storeBufs.map fun b => b.map fun b => { b with ready := true } } := by
  have settled : (State.storeReady { s with trs := { s.trs with exec := none } }).tilesSettle =
      State.storeReady { s with trs := { s.trs with exec := none } } :=
    tilesSettle_idle rfl (hstay.of_regs (t := State.storeReady { s with trs := { s.trs with exec := none } }) rfl fun _ _ _ => rfl)
  unfold execRetired
  dsimp only
  rw [settled, Bool.false_and, if_neg Bool.false_ne_true, trsAdvance_empty]
  · rfl
  · exact hq

/-- With an empty queue the end of a macro-op leaves the queue empty, and the line store and the stamp as they are. -/
theorem execRetired_empty (hq : s.trs.queue = []) (loadl : Bool) (was : Stamp) :
    (s.execRetired loadl was).trs.exec = none ∧ (s.execRetired loadl was).trs.queue = [] ∧ (s.execRetired loadl was).ing = s.ing ∧
      (s.execRetired loadl was).stamp = s.stamp := by
  have lost := (tilesSettle_lost (s := State.storeReady { s with trs := { s.trs with exec := none } }) rfl).frame
  unfold execRetired
  dsimp only
  rw [lost]
  rw [trsAdvance_empty]
  · exact ⟨rfl, hq, rfl, rfl⟩
  · exact hq

end State

theorem execMacroopComplete_done {n wait : Nat} (hx : s.trs.exec = some x) (hon : s.trsOn = true) (hdone : s.execDone x = true) :
    execMacroopComplete n wait s = .next (s.macroComplete x n wait) := by
  simp [execMacroopComplete, hx, hon, hdone]

theorem execMacroopComplete_idle {n wait : Nat} (h : s.trs.exec = none ∨ s.trsOn = false) : execMacroopComplete n wait s = .next s := by
  unfold execMacroopComplete
  rcases h with h | h
  · rw [h]
  · split
    · rw [h]
      rfl
    · rfl

end Sys2Proof.Machine
end

section
/-! SUPPORT. The head of the queue while a macro-op executes (R181, R222, R273): the claims of a LOADL and the far reads issued ahead. -/

namespace Sys2Proof.Machine
open Sys2Proof.Spec

variable {s t u : State} {l : Loadl} {w : MacroWord}

namespace State

/-- Between two states the head of the queue is looked at: a LOADL makes its claims, and far reads are issued; no plane changes. -/
structure Looked (s t : State) : Prop where
  frame : t = { s with trs := { s.trs with loadl := t.trs.loadl }, tly := t.tly, ni := t.ni, ing := t.ing, regs := t.regs }
  data : t.tly.data = s.tly.data

theorem Looked.refl (s : State) : Looked s s := ⟨rfl, rfl⟩

theorem Looked.trans (h : Looked s t) (k : Looked t u) : Looked s u := ⟨k.frame.trans (by rw [h.frame]), k.data.trans h.data⟩

theorem Looked.foldl {α : Type} {f : State → α → State} (h : ∀ s a, Looked s (f s a)) (l : List α) (s : State) :
    Looked s (l.foldl f s) := by
  induction l generalizing s with
  | nil => exact .refl s
  | cons a l ih => exact (h s a).trans (ih _)

/-! ### Claims -/

theorem setSlot_looked (s : State) (k : Nat) (wide : Bool) (x : SlotSt) : Looked s (s.setSlot k wide x) := by
  obtain ⟨v, h⟩ := s.setSlot_writes k wide x
  rw [h]
  exact ⟨rfl, rfl⟩

theorem loadlClaim_looked (s : State) (l : Loadl) : Looked s (s.loadlClaim l).1 := by
  unfold State.loadlClaim
  split
  · dsimp only
    split
    · exact (s.setSlot_looked _ _ _).trans ⟨rfl, rfl⟩
    · exact .refl s
  · exact .refl s

theorem loadlPoll_looked (n : Nat) (s : State) : Looked s (s.loadlPoll n) := by
  induction n generalizing s with
  | zero => exact .refl s
  | succ n ih =>
    unfold State.loadlPoll
    split
    next => exact .refl s
    next l _ =>
      have claim := s.loadlClaim_looked l
      split
      · exact .refl s
      · split
        next s' h =>
          rw [h] at claim
          exact claim.trans (ih s')
        next s' h =>
          rw [h] at claim
          split
          · split
            · exact claim
            · exact claim.trans ⟨rfl, rfl⟩
          · exact claim

theorem loadlStarve_looked (s : State) : Looked s s.loadlStarve := by
  unfold State.loadlStarve
  split
  · split
    · exact .refl s
    · exact ⟨rfl, rfl⟩
  · exact .refl s

theorem loadlReach_looked (s : State) (b : Nat) (index : Bool) : Looked s (s.loadlReach b index) := by
  have waits (l : Loadl) : Looked s { s with trs := { s.trs with loadl := some l } } := ⟨rfl, rfl⟩
  have ends (s : State) : Looked s (if s.fld F.ING_LDWAIT = 0 then s.loadlStarve else s) := by
    split
    · exact s.loadlStarve_looked
    · exact .refl s
  exact ((waits _).trans (loadlPoll_looked 17 _)).trans (ends _)

theorem headClaim_looked (s : State) (w : MacroWord) : Looked s (s.headClaim w) := by
  unfold State.headClaim
  split
  · exact s.loadlReach_looked _ _
  · exact .refl s

/-- A head that is no LOADL makes no claim. -/
theorem headClaim_other (h : w.op ≠ Op.loadl) : s.headClaim w = s := if_neg fun hc => h hc.1

/-! ### Far reads issued ahead -/

theorem farIssue_looked (s : State) (v slot : Nat) (toFar : Bool) : Looked s (s.farIssue v slot toFar) := ⟨rfl, rfl⟩

theorem lookaheadPlane_looked (s : State) (v : Nat) : Looked s (s.lookaheadPlane v) := by
  unfold State.lookaheadPlane
  dsimp only
  split
  · split
    · exact s.farIssue_looked v _ false
    · exact .refl s
  · exact .refl s

theorem lookaheads_looked (s : State) : Looked s s.lookaheads := by
  refine Looked.foldl (fun s w => ?_) _ s
  split
  · exact Looked.foldl lookaheadPlane_looked _ s
  · exact .refl s

theorem lookaheads_none (h : s.fld F.TLY_CFG_LOOKAHEAD = 0) : s.lookaheads = s := by
  unfold State.lookaheads
  rw [h]
  rfl

/-! ### The head while a macro-op executes -/

theorem trsAdvance_off (h : s.trsOn = false) (n : Nat) : s.trsAdvance n = s := by
  cases n with
  | zero => rfl
  | succ n =>
    unfold State.trsAdvance
    rw [h]
    rfl

theorem trsAdvance_executing (hon : s.trsOn = true) (hx : s.trs.exec ≠ none) {q : List MacroWord} (hq : s.trs.queue = w :: q) (n : Nat) :
    s.trsAdvance (n + 1) = (s.headClaim w).lookaheads := by
  have busy : s.trs.exec.isSome = true := Option.isSome_iff_ne_none.mpr hx
  unfold State.trsAdvance
  simp only [hon, hq, busy]
  rfl

theorem trsAdvance_looked (hx : s.trs.exec ≠ none) (n : Nat) : Looked s (s.trsAdvance n) := by
  cases n with
  | zero => exact .refl s
  | succ n =>
    by_cases hon : s.trsOn = true
    · cases hq : s.trs.queue with
      | nil => rw [trsAdvance_empty hq]; exact .refl s
      | cons w q =>
        rw [trsAdvance_executing hon hx hq]
        exact (s.headClaim_looked w).trans (lookaheads_looked _)
    · rw [trsAdvance_off (Bool.eq_false_iff.mpr hon)]
      exact .refl s

/-- Without far reads ahead, a head that is no LOADL stays as it is. -/
theorem trsAdvance_plain (hx : s.trs.exec ≠ none) (hnone : s.fld F.TLY_CFG_LOOKAHEAD = 0)
    (hhead : ∀ w, s.trs.queue.head? = some w → w.op ≠ Op.loadl) (n : Nat) : s.trsAdvance n = s := by
  cases n with
  | zero => rfl
  | succ n =>
    by_cases hon : s.trsOn = true
    · cases hq : s.trs.queue with
      | nil => exact trsAdvance_empty hq _
      | cons w q =>
        rw [trsAdvance_executing hon hx hq, headClaim_other (hhead w (by rw [hq]; rfl)), lookaheads_none hnone]
    · exact trsAdvance_off (Bool.eq_false_iff.mpr hon) _

end State
end Sys2Proof.Machine
end

section
/-! SUPPORT. A push that issues (R223 to R225, R232, R313): one execution of an instruction without repetition, and the fields of the
word that it carries. -/

namespace Sys2Proof.Machine
open Sys2Proof.Spec

variable {s : State} {n : Fin 8}

namespace State

/-! ### One execution of an instruction -/

/-- The state in which an instruction without repetition acts: its PC already stands past it. -/
def begun (s : State) (n : Fin 8) : State := (s.jBegin n).jMove n (s.jFetch n).next none

/-- What an execution leaves, before the instruction ends: a wait stands at its address. -/
def jAfter (n : Fin 8) (pc : Nat) : JOut → State
  | .go t => t
  | .jump d t => t.jMove n d none
  | .hold w t => t.jHold n w pc none

theorem begun_eq (s : State) (n : Fin 8) : s.begun n =
    { s with cur := n, tasks := s.tasks.set n { s.tasks[n] with
        wait := .none, snap := some (s.tasks[n].pc, s.tasks[n].g), pc := BitVec.ofNat 18 (s.jFetch n).next, rep := none } } := by
  simp [begun, State.jBegin, State.jMove, State.setTask]

theorem jIterate_once (body : JBody) (x : JInstr) (pc : Nat) (t : State) (hrep : x.rep = false)
    (htouch : ∀ r ∈ x.touches false, (t.tasks[n]).pend.contains r = false) :
    jIterate body n x pc false 1 t = jAfter n pc (body (t.jMove n x.next none) n x) := by
  have free : ((x.touches false).any fun r => (t.tasks[n]).pend.contains r) = false := List.any_eq_false.mpr fun r hr =>
    Bool.not_eq_true _ ▸ htouch r hr
  have one (w : JWait) (t : State) : (t.jHold n w pc none).jDemote n false = t.jHold n w pc none := rfl
  unfold jIterate
  simp only [free, hrep, if_true, Bool.false_and, Bool.false_eq_true, if_false, one]
  cases body (t.jMove n x.next none) n x <;> rfl

/-- The task issues its next instruction, once. -/
theorem jIssue_once (h : issuesAny s n) {key : Option Nat} (hkey : (s.jFetch n).taken key = true) (body : JBody) :
    s.jIssue key body = (jAfter n s.tasks[n].pc.toNat (body (s.begun n) n (s.jFetch n))).jEnd n := by
  obtain ⟨hsettle, hready, _, hrep, hcause, htouch⟩ := h
  have task : (s.jBegin n).tasks[n] = { s.tasks[n] with wait := .none, snap := some (s.tasks[n].pc, s.tasks[n].g) } := by
    simp [State.jBegin, State.setTask]
  have run : (s.jBegin n).jRun n (s.jFetch n) body = jAfter n s.tasks[n].pc.toNat (body (s.begun n) n (s.jFetch n)) := by
    have once : (s.jBegin n).jRun n (s.jFetch n) body =
        jIterate body n (s.jFetch n) (s.jBegin n).tasks[n].pc.toNat false 1 (s.jBegin n) := if_pos (by rw [hrep]; rfl)
    rw [once, jIterate_once body _ _ _ hrep (by rw [task]; exact htouch), task]
    rfl
  unfold State.jIssue
  simp only [hsettle, hready, hkey, hcause, Bool.not_true, Bool.false_eq_true, if_false, ne_eq, not_true_eq_false, run]

/-- An instruction ends with no ABORT due. -/
theorem jEnd_plain (h : (s.tasks[n]).abortDue = false) :
    s.jEnd n = { s with tasks := s.tasks.set n { s.tasks[n] with snap := none, abortDue := false } } := by
  unfold State.jEnd
  simp only [h, Bool.false_eq_true, if_false]
  rfl

end State

/-! ### The opcode of a fetched instruction is a byte -/

/-- Prefixes name no opcode, and what follows them are bytes of the instruction. -/
structure Spelled (bs : List Nat) (p : JPre) : Prop where
  op : p.x.op = none
  rest : ∀ l, p.rest = some l → ∀ b ∈ l, b ∈ bs

theorem Spelled.of_tail {bs : List Nat} {p : JPre} {cs : List Nat} (h : Spelled cs p) (hcs : ∀ b ∈ cs, b ∈ bs) : Spelled bs p :=
  ⟨h.op, fun l hl b hb => hcs b (h.rest l hl b hb)⟩

theorem Spelled.of_none (bs : List Nat) {p : JPre} (hop : p.x.op = none) (hrest : p.rest = none) : Spelled bs p :=
  ⟨hop, fun l hl => by rw [hrest] at hl; cases hl⟩

theorem jPrefixes_spelled (p : JPre) (bs : List Nat) (hop : p.x.op = none) (hrest : p.rest = none) : Spelled bs (jPrefixes p bs) := by
  fun_induction jPrefixes p bs with
  | case1 | case5 | case6 => exact .of_none _ hop hrest
  | case2 => exact ⟨hop, fun l hl b hb => by cases hl; exact List.mem_cons_of_mem _ hb⟩
  | case3 p bs ih | case4 p bs ih => exact (ih hop hrest).of_tail fun b hb => List.mem_cons_of_mem _ hb
  | case7 p nn bs q ih | case8 p nn bs q ih =>
    exact (ih hop hrest).of_tail fun b hb => List.mem_cons_of_mem _ (List.mem_cons_of_mem _ hb)
  | case9 p b bs _ _ _ _ _ _ _ _ ih => exact (ih hop hrest).of_tail fun b hb => List.mem_cons_of_mem _ hb
  | case10 => exact ⟨hop, fun l hl b hb => by cases hl; exact hb⟩

/-- The opcode is the first byte after the prefixes. -/
theorem Spelled.finish_op {bs : List Nat} {p : JPre} (h : Spelled bs p) {pc k : Nat} (hk : (p.finish pc).op = some k) : k ∈ bs := by
  have none {k : Nat} (hk : p.x.op = some k) : k ∈ bs := by rw [h.op] at hk; cases hk
  unfold JPre.finish at hk
  split at hk
  next => exact none hk
  next => exact none hk
  next op l hl =>
    have first := h.rest _ hl op (List.mem_cons_self ..)
    split at hk <;> cases hk <;> exact first

theorem jFetch_op_lt {k : Nat} (h : (s.jFetch n).op = some k) : k < 256 := by
  have spelled := jPrefixes_spelled {} (s.codeBytes s.tasks[n].pc.toNat 24) rfl rfl
  obtain ⟨y, _, rfl⟩ := List.mem_map.mp (spelled.finish_op h)
  exact y.isLt

/-! ### The word of a push (R223, R228) -/

theorem imm_third (x : JInstr) : x.imm 0 3 / 2 ^ 16 = x.imm 2 1 ∧ x.imm 2 1 < 2 ^ 8 := by
  unfold JInstr.imm
  rcases x.ob with _ | ⟨a, _ | ⟨b, _ | ⟨c, _⟩⟩⟩ <;> simp [ofLeBytes] <;> omega

/-- OP and OPT of the word that a task pushes. -/
theorem word_op_opt (s : State) (n : Fin 8) : (((s.jFetch n).word s n).op = (s.jFetch n).op.getD 0) ∧
    ((s.jFetch n).word s n).opt = (s.jFetch n).imm 2 1 := by
  obtain ⟨hthird, hlow⟩ := imm_third (s.jFetch n)
  have hop : (s.jFetch n).op.getD 0 < 2 ^ 8 := by
    cases h : (s.jFetch n).op with
    | none => decide
    | some k => exact jFetch_op_lt h
  simp only [MacroWord.op, MacroWord.opt, JInstr.word, getBits, BitVec.toNat_ofNat]
  omega

/-- The word that the RUN task pushes is the same once the instruction has begun. -/
theorem word_begun (s : State) (n : Fin 8) (x : JInstr) : x.word (s.begun n) n = x.word s n := by
  have read (i : Nat) : x.read (s.begun n) n i = x.read s n i := by
    rw [State.begun_eq]
    simp [JInstr.read, State.jReg]
  unfold JInstr.word
  rw [read, read, State.begun_eq]
  simp

end Sys2Proof.Machine
end

section
/-! SUPPORT. Words that will not execute (R238, R239, R241): what they deliver, what a refusal records, and the FLUSH. -/

namespace Sys2Proof.Machine
open Sys2Proof.Spec

variable {s t : State} {w : MacroWord} {code : Nat}

/-! ### Deliveries of words that will not execute -/

/-- The word delivers to a register of a run that still takes deliveries. -/
def MacroWord.owes (w : MacroWord) (ts : Vector Task 8) : Bool :=
  w.delivers && w.opt % 32 != 0 && decide (ts[w.task].live ≤ w.gen)

/-- The tasks after a word that will not execute. -/
def tasksFailed (ts : Vector Task 8) (w : MacroWord) : Vector Task 8 :=
  if w.owes ts then ts.set w.task (State.taskGiven ts[w.task] w.gen (w.opt % 32) 0xFFFFFFFF) else ts

/-- One task after a word that will not execute: its PC, the runs whose deliveries count, its ABORT, and its registers. -/
theorem tasksFailed_task (ts : Vector Task 8) (w : MacroWord) (m : Fin 8) :
    (tasksFailed ts w)[m].pc = ts[m].pc ∧ (tasksFailed ts w)[m].live = ts[m].live ∧
      (tasksFailed ts w)[m].abortDue = ts[m].abortDue ∧
      (tasksFailed ts w)[m].g = if w.task = m ∧ w.owes ts = true then ts[m].g.setIfInBounds (w.opt % 32) 0xFFFFFFFF else ts[m].g := by
  unfold tasksFailed
  by_cases howes : w.owes ts = true
  · by_cases hm : w.task = m
    · subst hm
      simp [howes, State.taskGiven]
    · have apart : w.task.val ≠ m.val := fun h => hm (Fin.ext h)
      simp [howes, hm, apart]
  · simp [howes]

namespace State

theorem deliverFail_heard (s : State) (w : MacroWord) : Heard { s with tasks := tasksFailed s.tasks w } (s.deliverFail w) := by
  unfold State.deliverFail tasksFailed
  by_cases howes : w.owes s.tasks = true
  · rw [if_pos howes]
    simp only [MacroWord.owes, Bool.and_eq_true, bne_iff_ne, ne_eq, decide_eq_true_eq] at howes
    obtain ⟨⟨hdel, hreg⟩, hlive⟩ := howes
    rw [if_pos hdel]
    exact taskDeliver_heard w.task 0xFFFFFFFF hreg hlive
  · rw [if_neg howes]
    split
    next hdel =>
      simp only [MacroWord.owes, hdel, Bool.true_and, Bool.and_eq_true, bne_iff_ne, ne_eq, decide_eq_true_eq, not_and, not_le] at howes
      rw [State.deliver, taskDeliver_discarded w.task 0xFFFFFFFF (by tauto)]
      exact .refl s
    next => exact .refl s

/-- Events that are heard leave the tasks alone. -/
theorem Heard.tasks (h : Heard s t) : t.tasks = s.tasks := by rw [h.frame]

theorem Heard.trs (h : Heard s t) : t.trs = s.trs := by rw [h.frame]

theorem Heard.tly (h : Heard s t) : t.tly = s.tly := by rw [h.frame]

theorem Heard.storeBufs (h : Heard s t) : t.storeBufs = s.storeBufs := by rw [h.frame]

theorem Heard.ing (h : Heard s t) : t.ing = s.ing := by rw [h.frame]

theorem Heard.setTasks (h : Heard s t) (ts : Vector Task 8) : Heard { s with tasks := ts } { t with tasks := ts } :=
  ⟨by rw [h.frame], ⟨h.regs.but, h.regs.wf⟩⟩

theorem deliverFail_foldl_heard (ws : List MacroWord) (s : State) :
    Heard { s with tasks := ws.foldl tasksFailed s.tasks } (ws.foldl State.deliverFail s) := by
  induction ws generalizing s with
  | nil => exact .refl s
  | cons w ws ih =>
    have first := s.deliverFail_heard w
    have rest := ih (s.deliverFail w)
    rw [first.tasks] at rest
    exact (first.setTasks _).trans rest

end State

/-- A word writes 0xFFFF_FFFF to a register of a task. -/
def MacroWord.fails (w : MacroWord) (m : Fin 8) (live : Nat) (k : Nat) : Bool :=
  w.task == m && decide (live ≤ w.gen) && w.delivers && w.opt % 32 == k

theorem tasksFailed_reg (ts : Vector Task 8) (w : MacroWord) (m : Fin 8) (k : Fin 32) : (tasksFailed ts w)[m].g[k] =
    if k.val ≠ 0 ∧ w.fails m ts[m].live k.val = true then 0xFFFFFFFF else ts[m].g[k] := by
  obtain ⟨_, _, _, hg⟩ := tasksFailed_task ts w m
  rw [hg]
  by_cases hm : w.task = m
  · subst hm
    by_cases hk : w.opt % 32 = k.val
    · have same : w.task = w.task ∧ w.owes ts = true ↔ k.val ≠ 0 ∧ w.fails w.task ts[w.task].live k.val = true := by
        simp only [MacroWord.owes, MacroWord.fails, hk, beq_self_eq_true, true_and, Bool.true_and, Bool.and_true, Bool.and_eq_true,
          bne_iff_ne]
        tauto
      by_cases h : k.val ≠ 0 ∧ w.fails w.task ts[w.task].live k.val = true
      · rw [if_pos h, if_pos (same.mpr h), hk]
        exact Vector.getElem_setIfInBounds_self (hi := k.isLt) ..
      · rw [if_neg h, if_neg fun hw => h (same.mp hw)]
    · have none : ¬(k.val ≠ 0 ∧ w.fails w.task ts[w.task].live k.val = true) := by simp [MacroWord.fails, hk]
      rw [if_neg none]
      split
      · exact Vector.getElem_setIfInBounds_ne k.isLt hk
      · rfl
  · simp [hm, MacroWord.fails]

/-- The tasks after words that will not execute: their PCs and registers. -/
theorem tasksFailed_foldl (ws : List MacroWord) (ts : Vector Task 8) (m : Fin 8) :
    (ws.foldl tasksFailed ts)[m].pc = ts[m].pc ∧ ∀ k : Fin 32, (ws.foldl tasksFailed ts)[m].g[k] =
      if k.val ≠ 0 ∧ ws.any (fun w => w.fails m ts[m].live k.val) = true then 0xFFFFFFFF else ts[m].g[k] := by
  induction ws generalizing ts with
  | nil => simp
  | cons w ws ih =>
    obtain ⟨hpc, hlive, _, _⟩ := tasksFailed_task ts w m
    obtain ⟨ihpc, ihg⟩ := ih (tasksFailed ts w)
    refine ⟨ihpc.trans hpc, fun k => ?_⟩
    rw [List.foldl_cons, ihg k, hlive, tasksFailed_reg]
    simp only [List.any_cons, Bool.or_eq_true]
    split_ifs <;> tauto

end Sys2Proof.Machine
end

section
/-! SUPPORT. What a refused word records (R238, R239), and what FLUSH does to the queue (R241). -/

namespace Sys2Proof.Machine
open Sys2Proof.Spec

variable {s t : State} {w : MacroWord} {code : Nat}

namespace State

/-- Fields are read from the register file alone. -/
theorem fld_of_regs (h : t.regs = s.regs) (f : Fld) : t.fld f = s.fld f :=
  congrArg (fun m => getBits (SMap.get Reg.resetWord m f.addr) f.lo f.w) h

/-! ### The record of a refusal -/

/-- The counts of a refusal. -/
def refusalCounted (s : State) : State := (s.inc F.TRS_REFUSE_CNT).inc F.TRS_DONE_CNT

/-- The cause of a refusal in TRS_ERR. -/
def refusalCause (s : State) (w : MacroWord) (code : Nat) : State :=
  ((s.setFld F.TRS_ERR_CODE code).setFld F.TRS_ERR_TASK w.task).raise F.TRS_ERR_VALID

/-- The refused word in TRS_BADOP. -/
def refusalWord (s : State) (w : MacroWord) : State :=
  ((s.setReg Reg.TRS_BADOP0 w.w0).setReg Reg.TRS_BADOP1 w.w1).setReg Reg.TRS_BADOP2 w.w2

/-- Every register that a refusal writes but for its delivery. -/
def refusalRecorded (s : State) (w : MacroWord) (code : Nat) : State := s.refusalCounted.refuseRecord w code

/-- A refusal by one of the first five checks of Table 9-8 is its record and its delivery. -/
theorem refuse_early (h : code ≤ 5) (s : State) (w : MacroWord) : s.refuse w code = (s.refusalRecorded w code).deliverFail w := by
  have poison : (code == 7) = false := by simp; omega
  have missDet : (code == 6) = false := by simp; omega
  unfold State.refuse
  rw [missDet, poison]
  rfl

theorem refuseRecord_first (h : s.bit F.TRS_ERR_VALID = false) : s.refuseRecord w code = (s.refusalCause w code).refusalWord w :=
  if_neg (by rw [h]; decide)

theorem refuseRecord_more (h : s.bit F.TRS_ERR_VALID = true) : s.refuseRecord w code = s.raise F.TRS_ERR_MORE := if_pos h

theorem refusalCounted_stores (s : State) : Stores [F.TRS_REFUSE_CNT, F.TRS_DONE_CNT] s s.refusalCounted :=
  (Stores.setFld s F.TRS_REFUSE_CNT _).trans (.setFld _ F.TRS_DONE_CNT _)

theorem refusalCause_stores (s : State) (w : MacroWord) (code : Nat) :
    Stores [F.TRS_ERR_CODE, F.TRS_ERR_TASK, F.TRS_ERR_VALID] s (s.refusalCause w code) :=
  ((Stores.setFld s F.TRS_ERR_CODE _).trans (.setFld _ F.TRS_ERR_TASK _)).trans (.setFld _ F.TRS_ERR_VALID _)

theorem refusalCounted_reads (hwf : SMap.wf Reg.resetWord s.regs = true) :
    s.refusalCounted.fld F.TRS_REFUSE_CNT = (s.fld F.TRS_REFUSE_CNT + 1) % 2 ^ F.TRS_REFUSE_CNT.w ∧
      s.refusalCounted.fld F.TRS_DONE_CNT = (s.fld F.TRS_DONE_CNT + 1) % 2 ^ F.TRS_DONE_CNT.w := by
  have first := Stores.setFld s F.TRS_REFUSE_CNT (s.fld F.TRS_REFUSE_CNT + 1)
  have second := Stores.setFld (s.inc F.TRS_REFUSE_CNT) F.TRS_DONE_CNT ((s.inc F.TRS_REFUSE_CNT).fld F.TRS_DONE_CNT + 1)
  have hfirst := first.wf hwf
  refine ⟨(second.kept hfirst _ (by decide)).trans (fld_inc s _ hwf (by decide)), ?_⟩
  rw [← first.kept hwf F.TRS_DONE_CNT (by decide)]
  exact fld_inc _ _ hfirst (by decide)

theorem refusalCause_reads (hwf : SMap.wf Reg.resetWord s.regs = true) (hcode : code ≤ 5) (w : MacroWord) :
    (s.refusalCause w code).bit F.TRS_ERR_VALID = true ∧ (s.refusalCause w code).fld F.TRS_ERR_CODE = code ∧
      (s.refusalCause w code).fld F.TRS_ERR_TASK = w.task := by
  have first := Stores.setFld s F.TRS_ERR_CODE code
  have second := Stores.setFld (s.setFld F.TRS_ERR_CODE code) F.TRS_ERR_TASK w.task
  have third := Stores.setFld ((s.setFld F.TRS_ERR_CODE code).setFld F.TRS_ERR_TASK w.task) F.TRS_ERR_VALID (2 ^ F.TRS_ERR_VALID.w - 1)
  have hfirst := first.wf hwf
  have hsecond := second.wf hfirst
  exact ⟨bit_raise _ hsecond (by decide) (by decide),
    ((second.trans third).kept hfirst _ (by decide)).trans (fld_setFld_fits _ hwf (by decide) (show code < 2 ^ 3 by omega)),
    (third.kept hsecond _ (by decide)).trans (fld_setFld_fits _ hfirst (by decide) w.task.isLt)⟩

/-- The three words stand in TRS_BADOP, and no other register has changed. -/
theorem refusalWord_reads (hwf : SMap.wf Reg.resetWord s.regs = true) (w : MacroWord) :
    (s.refusalWord w).reg Reg.TRS_BADOP0 = w.w0 ∧ (s.refusalWord w).reg Reg.TRS_BADOP1 = w.w1 ∧
      (s.refusalWord w).reg Reg.TRS_BADOP2 = w.w2 ∧
      ∀ a, a ≠ Reg.TRS_BADOP0 → a ≠ Reg.TRS_BADOP1 → a ≠ Reg.TRS_BADOP2 → (s.refusalWord w).reg a = s.reg a := by
  have wf (s : State) (a : Nat) (v : Word) (h : SMap.wf Reg.resetWord s.regs = true) : SMap.wf Reg.resetWord (s.setReg a v).regs = true :=
    SMap.wf_set _ _ _ _ h
  have h0 := wf s Reg.TRS_BADOP0 w.w0 hwf
  have h1 := wf _ Reg.TRS_BADOP1 w.w1 h0
  refine ⟨?_, ?_, reg_setReg _ _ _ h1, fun a ha ha' ha'' => ?_⟩
  · exact (reg_setReg_other _ _ _ _ (by decide)).trans ((reg_setReg_other _ _ _ _ (by decide)).trans (reg_setReg _ _ _ hwf))
  · exact (reg_setReg_other _ _ _ _ (by decide)).trans (reg_setReg _ _ _ h0)
  · exact (reg_setReg_other _ _ _ _ ha'').trans ((reg_setReg_other _ _ _ _ ha').trans (reg_setReg_other _ _ _ _ ha))

/-- What a refusal by one of the first five checks of Table 9-8 records. -/
structure RefusalShown (s t : State) (w : MacroWord) (code : Nat) : Prop where
  refused : t.fld F.TRS_REFUSE_CNT = (s.fld F.TRS_REFUSE_CNT + 1) % 2 ^ F.TRS_REFUSE_CNT.w
  done : t.fld F.TRS_DONE_CNT = (s.fld F.TRS_DONE_CNT + 1) % 2 ^ F.TRS_DONE_CNT.w
  more : s.bit F.TRS_ERR_VALID = true → t.bit F.TRS_ERR_MORE = true
  first : s.bit F.TRS_ERR_VALID = false → t.bit F.TRS_ERR_VALID = true ∧ t.fld F.TRS_ERR_CODE = code ∧
    t.fld F.TRS_ERR_TASK = w.task ∧ t.reg Reg.TRS_BADOP0 = w.w0 ∧ t.reg Reg.TRS_BADOP1 = w.w1 ∧ t.reg Reg.TRS_BADOP2 = w.w2

theorem RefusalShown.of_regs {s' t' : State} (h : RefusalShown s t w code) (hs : s'.regs = s.regs) (ht : t'.regs = t.regs) :
    RefusalShown s' t' w code := by
  have before (f : Fld) : s'.bit f = s.bit f := bit_eq_of_fld_eq (fld_of_regs hs f)
  have reg (a : Nat) : t'.reg a = t.reg a := congrArg (fun m => SMap.get Reg.resetWord m a) ht
  have bit (f : Fld) : t'.bit f = t.bit f := bit_eq_of_fld_eq (fld_of_regs ht f)
  constructor <;> simp only [before, bit, fld_of_regs ht, fld_of_regs hs, reg]
  exacts [h.refused, h.done, h.more, h.first]

theorem refusalWord_frame (s : State) (w : MacroWord) : s.refusalWord w = { s with regs := (s.refusalWord w).regs } := rfl

theorem refusalRecorded_frame (s : State) (w : MacroWord) (code : Nat) :
    s.refusalRecorded w code = { s with regs := (s.refusalRecorded w code).regs } := by
  unfold refusalRecorded
  cases h : s.refusalCounted.bit F.TRS_ERR_VALID
  · have cause := (s.refusalCounted_stores.trans (refusalCause_stores _ w code)).frame
    rw [refuseRecord_first h, refusalWord_frame, cause]
  · rw [refuseRecord_more h]
    exact (s.refusalCounted_stores.trans (.raiseIf _ true F.TRS_ERR_MORE)).frame

theorem refusalRecorded_shown (hwf : SMap.wf Reg.resetWord s.regs = true) (hcode : code ≤ 5) (w : MacroWord) :
    RefusalShown s (s.refusalRecorded w code) w code := by
  have counted := s.refusalCounted_stores
  have hcounted := counted.wf hwf
  obtain ⟨hrefused, hdone⟩ := refusalCounted_reads hwf
  have valid : s.refusalCounted.bit F.TRS_ERR_VALID = s.bit F.TRS_ERR_VALID := counted.keptBit hwf (by decide)
  unfold refusalRecorded
  cases h : s.bit F.TRS_ERR_VALID
  · rw [refuseRecord_first (valid.trans h)]
    have cause := s.refusalCounted.refusalCause_stores w code
    obtain ⟨hvalid, hc, htask⟩ := refusalCause_reads hcounted hcode w
    obtain ⟨h0, h1, h2, hother⟩ := refusalWord_reads (cause.wf hcounted) w
    have kept {f : Fld} (hne : f.addr ≠ Reg.TRS_BADOP0 ∧ f.addr ≠ Reg.TRS_BADOP1 ∧ f.addr ≠ Reg.TRS_BADOP2) :
        ((s.refusalCounted.refusalCause w code).refusalWord w).fld f = (s.refusalCounted.refusalCause w code).fld f := by
      obtain ⟨h0, h1, h2⟩ := hne
      exact congrArg (getBits · f.lo f.w) (hother _ h0 h1 h2)
    exact ⟨(kept (by decide)).trans ((cause.kept hcounted _ (by decide)).trans hrefused),
      (kept (by decide)).trans ((cause.kept hcounted _ (by decide)).trans hdone), fun h' => absurd (h.symm.trans h') (by decide),
      fun _ => ⟨(bit_eq_of_fld_eq (kept (by decide))).trans hvalid, (kept (by decide)).trans hc, (kept (by decide)).trans htask,
        h0, h1, h2⟩⟩
  · rw [refuseRecord_more (valid.trans h)]
    have more := Stores.setFld s.refusalCounted F.TRS_ERR_MORE (2 ^ F.TRS_ERR_MORE.w - 1)
    exact ⟨(more.kept hcounted _ (by decide)).trans hrefused, (more.kept hcounted _ (by decide)).trans hdone,
      fun _ => bit_raise _ hcounted (by decide) (by decide), fun h' => absurd (h.symm.trans h') (by decide)⟩

/-- A delivery leaves the record of a refusal. -/
theorem RefusalShown.heard {u : State} (h : RefusalShown s t w code) (k : WritesRegs upkeepReg t u) : RefusalShown s u w code := by
  have reg {a : Nat} (hlo : 0x110010000 ≤ a) (hhi : a < 0x110020000) : u.reg a = t.reg a := k.but a (not_upkeepReg_truss hlo hhi)
  have fld {f : Fld} (hlo : 0x110010000 ≤ f.addr) (hhi : f.addr < 0x110020000) : u.fld f = t.fld f :=
    congrArg (getBits · f.lo f.w) (reg hlo hhi)
  refine ⟨(fld (by decide) (by decide)).trans h.refused, (fld (by decide) (by decide)).trans h.done,
    fun hv => (bit_eq_of_fld_eq (fld (by decide) (by decide))).trans (h.more hv), fun hv => ?_⟩
  obtain ⟨hvalid, hc, htask, h0, h1, h2⟩ := h.first hv
  exact ⟨(bit_eq_of_fld_eq (fld (by decide) (by decide))).trans hvalid, (fld (by decide) (by decide)).trans hc,
    (fld (by decide) (by decide)).trans htask, (reg (by decide) (by decide)).trans h0, (reg (by decide) (by decide)).trans h1,
    (reg (by decide) (by decide)).trans h2⟩

theorem macroCheck_le (h : s.macroCheck w = some code) : code ≤ 5 := by
  unfold State.macroCheck at h
  grind

/-! ### FLUSH -/

/-- The head that leaves the queue without executing frees the slots that it claimed. -/
theorem headLeft (s : State) : ∃ v f h, (s.loadlDrop).headFp =
      { s with trs := { s.trs with loadl := none }, ing := { s.ing with slots := v }, tly := { s.tly with fp := f, headWaits := h } } ∧
    ∀ l, s.trs.loadl = some l → ∀ p ∈ l.claimed, p.1 < 128 → v[p.1]? = some SlotSt.free := by
  have left (t : State) : ∃ f h, t.headFp = { t with tly := { t.tly with fp := f, headWaits := h } } := by
    unfold State.headFp
    split
    · exact ⟨_, _, rfl⟩
    · exact ⟨_, _, rfl⟩
  unfold State.loadlDrop
  cases hl : s.trs.loadl with
  | none =>
    obtain ⟨f, h, hleft⟩ := left s
    exact ⟨s.ing.slots, f, h, by rw [hleft, ← hl], nofun⟩
  | some l =>
    obtain ⟨v, hfree, hmine, _⟩ := loadlFree_frees l.claimed { s with trs := { s.trs with loadl := none } }
    obtain ⟨f, h, hleft⟩ := left { s with trs := { s.trs with loadl := none }, ing := { s.ing with slots := v } }
    exact ⟨v, f, h, by rw [← hleft]; exact congrArg State.headFp hfree, fun l' hl' => by cases hl'; exact hmine⟩

/-- The queue is empty, and its entries are counted; a LOADL at its head has given up its slots. -/
structure Emptied (s t : State) : Prop where
  queue : t.trs.queue = []
  exec : t.trs.exec = s.trs.exec
  data : t.tly.data = s.tly.data
  storeBufs : t.storeBufs = s.storeBufs
  tasks : t.tasks = s.tasks
  discarded : t.fld F.TRS_DISCARD_CNT = (s.fld F.TRS_DISCARD_CNT + s.trs.queue.length) % 2 ^ F.TRS_DISCARD_CNT.w
  loadl : ∀ l, s.trs.loadl = some l → s.trs.queue ≠ [] →
    t.trs.loadl = none ∧ ∀ p ∈ l.claimed, p.1 < 128 → t.ing.slots[p.1]? = some SlotSt.free

/-- The entries leave, and the count is taken. -/
def queueCleared (s : State) (n : Nat) : State := State.add { s with trs := { s.trs with queue := [] } } F.TRS_DISCARD_CNT n

theorem queueCleared_count (hwf : SMap.wf Reg.resetWord s.regs = true) (hregs : t.regs = s.regs) (n : Nat) :
    (t.queueCleared n).fld F.TRS_DISCARD_CNT = (s.fld F.TRS_DISCARD_CNT + n) % 2 ^ F.TRS_DISCARD_CNT.w := by
  rw [← fld_of_regs hregs]
  exact State.fld_setFld _ _ _ (hregs ▸ hwf) (by decide)

theorem trsDiscard_empty (h : s.trs.queue = []) : (s.trsDiscard fun _ => true) = s.queueCleared 0 := by
  simp [State.trsDiscard, queueCleared, h]

theorem trsDiscard_cons {q : List MacroWord} (h : s.trs.queue = w :: q) : (s.trsDiscard fun _ => true) =
    (State.headFp (State.loadlDrop { s with trs := { s.trs with head := .fresh, edgeStamp := none } })).queueCleared
      s.trs.queue.length := by
  simp [State.trsDiscard, queueCleared, h]

theorem trsDiscard_all (hwf : SMap.wf Reg.resetWord s.regs = true) : Emptied s (s.trsDiscard fun _ => true) := by
  cases hq : s.trs.queue with
  | nil =>
    rw [trsDiscard_empty hq]
    exact ⟨rfl, rfl, rfl, rfl, rfl, by rw [queueCleared_count hwf rfl, hq]; rfl, fun _ _ h => absurd hq h⟩
  | cons w q =>
    obtain ⟨v, f, h, hleft, hfree⟩ := headLeft { s with trs := { s.trs with head := .fresh, edgeStamp := none } }
    rw [trsDiscard_cons hq, hleft]
    exact ⟨rfl, rfl, rfl, rfl, rfl, queueCleared_count hwf rfl _, fun l hl _ => ⟨rfl, hfree l hl⟩⟩

end State
end Sys2Proof.Machine
end

section
/-! SUPPORT. The outcomes of a push (R224, R225, R232, R238): it enters the queue, waits, or is refused at an empty head. -/

namespace Sys2Proof.Machine
open Sys2Proof.Spec

variable {s t : State} {n : Fin 8} {code : Nat}

namespace State

/-! ### The state after a push -/

/-- The word that task n pushes next. -/
def nextWord (s : State) (n : Fin 8) : MacroWord := (s.jFetch n).word s n

/-- The registers that wait for a delivery once the word is pushed. -/
def nextPend (s : State) (n : Fin 8) : List Nat :=
  let x := s.jFetch n
  let r := x.imm 2 1 % 32
  if (x.op == some 0x21 || x.op == some 0x3F) && r != 0 then s.tasks[n].pend ++ [r] else s.tasks[n].pend

/-- The word has entered the queue, and the instruction has not ended. -/
def entered (s : State) (n : Fin 8) : State :=
  { s with
    cur := n
    trs := { s.trs with queue := s.trs.queue ++ [s.nextWord n] }
    tasks := s.tasks.set n { s.tasks[n] with
      wait := .none, snap := some (s.tasks[n].pc, s.tasks[n].g), pc := BitVec.ofNat 18 (s.jFetch n).next, rep := none
      pend := s.nextPend n } }

/-- The tasks once the push has ended. -/
def tasksPast (s : State) (n : Fin 8) : Vector Task 8 :=
  s.tasks.set n { past s.tasks[n] (s.jFetch n).next with pend := s.nextPend n }

/-- A POPC or TOKEN that names a register other than g0. -/
theorem nextWord_due (s : State) (n : Fin 8) : ((s.nextWord n).delivers && (s.nextWord n).opt % 32 != 0) =
    (((s.jFetch n).op == some 0x21 || (s.jFetch n).op == some 0x3F) && (s.jFetch n).imm 2 1 % 32 != 0) := by
  obtain ⟨hop, hopt⟩ := word_op_opt s n
  have delivers : (s.nextWord n).delivers = ((s.jFetch n).op == some 0x21 || (s.jFetch n).op == some 0x3F) := by
    unfold nextWord MacroWord.delivers
    rw [hop]
    cases (s.jFetch n).op <;> rfl
  rw [delivers, nextWord, hopt]

theorem taken_arr {x : JInstr} (h : x.arr = true) : x.taken none = true := by simp [JInstr.taken, h]

/-- The register that the word names waits for its delivery. -/
def askedFor (s : State) (w : MacroWord) (n : Fin 8) : State :=
  if w.delivers && w.opt % 32 != 0 then s.setTask n { s.tasks[n] with pend := s.tasks[n].pend ++ [w.opt % 32] } else s

theorem askedFor_trs (s : State) (w : MacroWord) (n : Fin 8) : (s.askedFor w n).trs = s.trs := by
  unfold askedFor
  split <;> rfl

theorem jPush_free {x : JInstr} (hon : s.domOn Dom.truss = true) (hlen : s.trs.queue.length < 64) : jPush s n x =
    .go (State.trsAdvance { s.askedFor (x.word s n) n with trs := { s.trs with queue := s.trs.queue ++ [x.word s n] } } 65) := by
  have push : (s.askedFor (x.word s n) n).trsPush? (x.word s n) = some (State.trsAdvance { s.askedFor (x.word s n) n with
      trs := { s.trs with queue := s.trs.queue ++ [x.word s n] } } 65) := by
    unfold State.trsPush?
    rw [askedFor_trs, if_pos hlen]
  unfold askedFor at push ⊢
  unfold jPush
  dsimp only at push ⊢
  rw [if_pos hon, push]

theorem jPush_full {x : JInstr} (hfull : s.domOn Dom.truss = false ∨ 64 ≤ s.trs.queue.length) : jPush s n x = .hold .truss s := by
  unfold jPush
  dsimp only
  rcases hfull with hoff | hlong
  · rw [if_neg (by rw [hoff]; decide)]
  · have push : (s.askedFor (x.word s n) n).trsPush? (x.word s n) = none := by
      unfold State.trsPush?
      rw [askedFor_trs, if_neg (Nat.not_lt.mpr hlong)]
    unfold askedFor at push
    rw [push, ite_self]

theorem askedFor_begun (s : State) (n : Fin 8) :
    { (s.begun n).askedFor (s.nextWord n) n with trs := { s.trs with queue := s.trs.queue ++ [s.nextWord n] } } = s.entered n := by
  obtain ⟨_, hopt⟩ := word_op_opt s n
  have reg : (s.nextWord n).opt % 32 = (s.jFetch n).imm 2 1 % 32 := congrArg (· % 32) hopt
  unfold askedFor entered nextPend
  rw [nextWord_due, reg, begun_eq]
  split <;> simp [*, State.setTask]

/-- The push acts: the word enters, and the register that it names waits for its delivery. -/
theorem jPush_enters (hon : s.domOn Dom.truss = true) (hlen : s.trs.queue.length < 64) :
    jPush (s.begun n) n (s.jFetch n) = .go ((s.entered n).trsAdvance 65) := by
  have trs : (s.begun n).trs = s.trs := by rw [begun_eq]
  have dom : (s.begun n).domOn Dom.truss = true := by rw [begun_eq]; exact hon
  rw [jPush_free dom (by rw [trs]; exact hlen), word_begun, trs]
  exact congrArg (fun t => JOut.go (State.trsAdvance t 65)) (askedFor_begun s n)

theorem execArrPush_enters (h : issuesAny s n) (harr : (s.jFetch n).arr = true) (hon : s.domOn Dom.truss = true)
    (hlen : s.trs.queue.length < 64) : execArrPush s = .next (((s.entered n).trsAdvance 65).jEnd n) := by
  rw [execArrPush, jIssue_once h (taken_arr harr), jPush_enters hon hlen]
  rfl

theorem execArrPush_waits (h : issuesAny s n) (harr : (s.jFetch n).arr = true)
    (hfull : s.domOn Dom.truss = false ∨ 64 ≤ s.trs.queue.length) : execArrPush s =
      .next { s with cur := n, tasks := s.tasks.set n { past s.tasks[n] s.tasks[n].pc.toNat with wait := .truss } } := by
  obtain ⟨_, _, habort, _⟩ := id h
  have held : jPush (s.begun n) n (s.jFetch n) = .hold .truss (s.begun n) := jPush_full (by rw [begun_eq]; exact hfull)
  rw [execArrPush, jIssue_once h (taken_arr harr), held, jAfter, jEnd_plain, begun_eq]
  · simp [State.jHold, State.jMove, State.setTask, past]
  · simpa [begun_eq, State.jHold, State.jMove, State.setTask] using habort

/-- Where the tasks are those of a push that has entered, the instruction ends. -/
theorem jEnd_entered (h : issuesAny s n) (ht : t.tasks = (s.entered n).tasks) : t.jEnd n = { t with tasks := s.tasksPast n } := by
  obtain ⟨_, _, habort, _⟩ := h
  rw [jEnd_plain (by rw [ht]; simpa [entered] using habort), ht]
  simp [entered, tasksPast, past]

end State
end Sys2Proof.Machine
end

section
/-! SUPPORT. A push that is judged at an empty head and refused (R238, R239). -/

namespace Sys2Proof.Machine
open Sys2Proof.Spec

variable {s t : State} {n : Fin 8} {w : MacroWord} {code : Nat}

namespace State

/-- The queue's only word has left, and no burst was claimed for it. -/
def headOut (s : State) : State :=
  { s with trs := { s.trs with queue := [], head := .fresh, edgeStamp := none }, tly := { s.tly with fp := [], headWaits := 0 } }

theorem dropHead_only (hq : s.trs.queue = [w]) (hl : s.trs.loadl = none) : s.dropHead = s.headOut := by
  simp [State.dropHead, State.loadlDrop, State.fpClear, headOut, hq, hl]

/-- What a refusal at an empty head leaves. -/
structure Refused (s t : State) (w : MacroWord) (code : Nat) : Prop where
  queue : t.trs.queue = []
  data : t.tly.data = s.tly.data
  tasks : t.tasks = tasksFailed s.tasks w
  shown : RefusalShown s t w code

theorem refuse_refused (hwf : SMap.wf Reg.resetWord s.regs = true) (hcode : code ≤ 5) (w : MacroWord) :
    Refused s (s.headOut.refuse w code) w code := by
  rw [refuse_early hcode]
  have recorded := (refusalRecorded_shown (s := s.headOut) hwf hcode w).of_regs (s' := s) rfl rfl
  have frame := s.headOut.refusalRecorded_frame w code
  generalize s.headOut.refusalRecorded w code = r at recorded frame
  have heard := r.deliverFail_heard w
  have trs : r.trs = s.headOut.trs := by rw [frame]
  have tly : r.tly = s.headOut.tly := by rw [frame]
  have tasks : r.tasks = s.tasks := by rw [frame]; rfl
  exact ⟨by rw [heard.trs, trs]; rfl, by rw [heard.tly, tly]; rfl, by rw [heard.tasks, tasks],
    recorded.heard (heard.regs.of_start rfl)⟩

/-- A word that fails its checks at an empty head is refused, and then the head has nothing to look at. -/
theorem trsAdvance_refused (hwf : SMap.wf Reg.resetWord s.regs = true) (hon : s.trsOn = true) (hq : s.trs.queue = [w])
    (hx : s.trs.exec = none) (hl : s.trs.loadl = none) (hhead : s.trs.head = .fresh) (hcheck : s.macroCheck w = some code) (k : Nat) :
    Refused s (s.trsAdvance (k + 1)) w code := by
  have refused := refuse_refused hwf (macroCheck_le hcheck) w
  have fresh : s.headFresh w = s.headOut.refuse w code := by
    unfold State.headFresh
    rw [hcheck, ← dropHead_only hq hl]
  have shorter : (s.headOut.refuse w code).trs.queue.length < s.trs.queue.length := by simp [refused.queue, hq]
  have step : s.trsAdvance (k + 1) = (s.headOut.refuse w code).trsAdvance k := by
    rw [State.trsAdvance]
    simp only [hon, hq, hx, hhead, fresh]
    rw [← hq]
    exact if_pos shorter
  rw [step]
  have rest : (s.headOut.refuse w code).trsAdvance k = s.headOut.refuse w code := by
    cases k with
    | zero => rfl
    | succ k => exact trsAdvance_empty refused.queue _
  rw [rest]
  exact refused

theorem entered_task (s : State) (n : Fin 8) : (s.entered n).tasks[n] = { s.tasks[n] with
    wait := .none, snap := some (s.tasks[n].pc, s.tasks[n].g), pc := BitVec.ofNat 18 (s.jFetch n).next, rep := none
    pend := s.nextPend n } := by
  simp [entered]

/-- The word owes its delivery where it is due. -/
theorem nextWord_owes (h : s.tasks[n].live ≤ s.tasks[n].gen) : (s.nextWord n).owes (s.entered n).tasks =
    (((s.jFetch n).op == some 0x21 || (s.jFetch n).op == some 0x3F) && (s.jFetch n).imm 2 1 % 32 != 0) := by
  have live : (s.entered n).tasks[(s.nextWord n).task].live ≤ (s.nextWord n).gen := by
    change (s.entered n).tasks[n].live ≤ _
    rw [entered_task]
    exact h
  unfold MacroWord.owes
  rw [decide_eq_true live, Bool.and_true, nextWord_due]

/-- A push that is refused at an empty head has ended, and its register holds 0xFFFF_FFFF where a value was due. -/
theorem jEnd_refused (hissue : issuesAny s n) (hlive : s.tasks[n].live ≤ s.tasks[n].gen)
    (h : Refused (s.entered n) t (s.nextWord n) code) : t.jEnd n = { t with tasks := (t.jEnd n).tasks } ∧
      (t.jEnd n).tasks[n].g = if ((s.jFetch n).op == some 0x21 || (s.jFetch n).op == some 0x3F) && (s.jFetch n).imm 2 1 % 32 != 0 then
        s.tasks[n].g.setIfInBounds ((s.jFetch n).imm 2 1 % 32) 0xFFFFFFFF else s.tasks[n].g := by
  obtain ⟨_, _, habort, _⟩ := hissue
  obtain ⟨_, _, abort, g⟩ := tasksFailed_task (s.entered n).tasks (s.nextWord n) n
  obtain ⟨_, hopt⟩ := word_op_opt s n
  have reg : (s.nextWord n).opt % 32 = (s.jFetch n).imm 2 1 % 32 := congrArg (· % 32) hopt
  rw [← h.tasks, entered_task] at abort g
  rw [jEnd_plain (abort.trans habort)]
  refine ⟨rfl, ?_⟩
  rw [nextWord_owes hlive, reg] at g
  have same : (s.nextWord n).task = n := rfl
  simpa [same] using g

end State
end Sys2Proof.Machine
end

section
/-! SUPPORT. The outcomes of a completion (R184, R208, R211, R232, R237), and the obligation about pushes, completions and flushes. -/

namespace Sys2Proof.Machine
open Sys2Proof.Spec

variable {s t u : State} {x : Exec} {n : Fin 8} {cyc wait at' : Nat}

namespace State

/-- The record of a completion leaves the masks that switch tiles off. -/
theorem Recorded.stays (h : Recorded s t x cyc) (hstay : TilesStay s) : TilesStay t :=
  hstay.of_regs (by rw [h.stores.frame]) fun a _ hhi => h.stores.regs.but a fun ⟨f, hf, ha⟩ =>
    absurd hhi (Nat.not_le.mpr (ha ▸ (by decide : ∀ f ∈ recordFlds, 0x10040 < f.addr) f hf))

theorem Heard.stays (h : Heard s t) (hstay : TilesStay s) : TilesStay t :=
  hstay.of_regs (by rw [h.frame]) fun a hlo hhi => h.regs.but a (not_upkeepReg_domains hlo hhi)

theorem not_gorReg_domains {a : Nat} (hlo : 0x10030 ≤ a) (hhi : a ≤ 0x10040) : ¬gorReg a := by
  rintro (h | ⟨k, h | h⟩ | h)
  · exact not_upkeepReg_domains hlo hhi h
  all_goals
    simp only [Reg.MARKm_LATE, Reg.MARKm_FIRED, Reg.DYN_FWD_DROP] at h
    omega

theorem GorShown.stays {r : Bool} {tiles : BitVec 64} (h : GorShown s t r tiles) (hstay : TilesStay s) : TilesStay t :=
  hstay.of_regs h.held fun a hlo hhi => h.regs.but a (by
    rintro (ha | ha | ha | ha)
    · simp only [Reg.TRS_GOR] at ha; omega
    · simp only [Reg.TRS_GOR_TILES_LO] at ha; omega
    · simp only [Reg.TRS_GOR_TILES_HI] at ha; omega
    · exact not_gorReg_domains hlo hhi ha)

theorem execCounted_recorded (hwf : SMap.wf Reg.resetWord s.regs = true) (hop : x.word.op ≠ Op.loadl) (wait : Nat) :
    Recorded s (s.execCounted x wait) x (x.cyc + if x.drain then wait else 0) := by
  have other : (x.word.op == Op.loadl) = false := by simpa using hop
  have recorded := execRecord_recorded hwf x (x.cyc + if x.drain then wait else 0) (x.cyc + if x.drain then wait else 0)
  unfold execCounted
  simpa [other] using recorded

theorem execCounted_frame (hwf : SMap.wf Reg.resetWord s.regs = true) (x : Exec) (wait : Nat) :
    s.execCounted x wait = { s with regs := (s.execCounted x wait).regs } := (execRecord_recorded hwf x _ _).stores.frame

theorem execDone_drained (hburst : ∀ l, x.burst = some l → l.b ≤ x.lines)
    (hdrain : x.drain = false ∨ (s.storeBufs[0] = none ∧ s.storeBufs[1] = none)) : s.execDone x = true := by
  have lines : (match x.burst with | some l => decide (l.b ≤ x.lines) | none => true) = true := by
    cases hb : x.burst with
    | none => rfl
    | some l => exact decide_eq_true (hburst l hb)
  have drained : (!x.drain || (s.storeBufs[0].isNone && s.storeBufs[1].isNone)) = true := by
    rcases hdrain with h | ⟨h0, h1⟩
    · simp [h]
    · simp [h0, h1]
  unfold State.execDone
  rw [drained]
  exact (Bool.and_true _).trans lines

/-- The tail of a completion that leaves an empty queue. -/
def idled (u : State) : State :=
  { u with
    trs := { u.trs with exec := none, edgeStamp := none }
    tly := { u.tly with fp := [], headWaits := 0, mv := none }
    storeBufs := u.storeBufs.map fun b => b.map fun b => { b with ready := true } }

theorem idled_reg (u : State) (a : Nat) : u.idled.reg a = u.reg a := rfl

theorem idled_fld (u : State) (f : Fld) : u.idled.fld f = u.fld f := rfl

theorem idled_bit (u : State) (f : Fld) : u.idled.bit f = u.bit f := rfl

theorem idled_trs (h : u.trs = s.trs) : u.idled.trs = { s.trs with exec := none, edgeStamp := none } := by
  rw [← h]
  rfl

theorem idled_data (h : u.tly = s.tly) : u.idled.tly.data = s.tly.data := by
  rw [← h]
  rfl

theorem idled_storeBufs (h : u.storeBufs = s.storeBufs) :
    u.idled.storeBufs = s.storeBufs.map fun b => b.map fun b => { b with ready := true } := by
  rw [← h]
  rfl

theorem idled_tasks (u : State) : u.idled.tasks = u.tasks := rfl

/-- The tasks once a value has reached one of them. -/
theorem taskGiven_tasks (ts : Vector Task 8) (n : Fin 8) (gen : Nat) (k : Fin 32) (v : Word) :
    (ts.set n (taskGiven ts[n] gen k v))[n].g = ts[n].g.set k v ∧
      (ts.set n (taskGiven ts[n] gen k v))[n].pend = (if gen = ts[n].gen then ts[n].pend.erase k else ts[n].pend) ∧
      ∀ m : Fin 8, m ≠ n → (ts.set n (taskGiven ts[n] gen k v))[m] = ts[m] := by
  refine ⟨?_, ?_, fun m hm => ?_⟩
  · simp [taskGiven, Vector.setIfInBounds, Vector.set, Array.setIfInBounds]
  · simp [taskGiven]
  · exact Vector.getElem_set_ne _ _ fun h => hm (Fin.ext h.symm)

/-- A value reaches its task after the record of its macro-op. -/
theorem taskDeliver_recorded {t : State} (h : Recorded s t x cyc) (hstay : TilesStay s) {gen reg : Nat} (v : Word) (hreg : reg ≠ 0)
    (hlive : s.tasks[n].live ≤ gen) : (t.taskDeliver n gen reg v).trs = s.trs ∧
      (t.taskDeliver n gen reg v).tasks = s.tasks.set n (taskGiven s.tasks[n] gen reg v) ∧ TilesStay (t.taskDeliver n gen reg v) := by
  have held : t.tasks = s.tasks := by rw [h.stores.frame]
  have heard := taskDeliver_heard (s := t) (gen := gen) n v hreg (by rw [held]; exact hlive)
  refine ⟨heard.trs.trans (by rw [h.stores.frame]), heard.tasks.trans (by simp only [held]), heard.stays ?_⟩
  exact (h.stays hstay).of_regs rfl fun _ _ _ => rfl

/-- A macro-op that is no LOADL completes with nothing behind it. -/
theorem execMacroopComplete_quiet (hx : s.trs.exec = some x) (hon : s.trsOn = true) (hop : x.word.op ≠ Op.loadl)
    (hburst : x.burst = none) (hdrain : x.drain = false ∨ (s.storeBufs[0] = none ∧ s.storeBufs[1] = none))
    (hu : ((s.execCounted x wait).execShown x at').execDelivered x = u) (hq : u.trs.queue = []) (hstay : TilesStay u) :
    execMacroopComplete at' wait s = .next u.idled := by
  have other : (x.word.op == Op.loadl) = false := by simpa using hop
  have unloaded : u.execUnloaded x = u := by simp [execUnloaded, hburst]
  have done : s.execDone x = true := execDone_drained (by simp [hburst]) hdrain
  rw [execMacroopComplete_done hx hon done, macroComplete_eq, hu, unloaded, other, execRetired_plain hq hstay]
  rfl

theorem loadlEnd_empty {l : Loadl} (h : l.claimed = []) (s : State) : s.loadlEnd l = s := by
  unfold State.loadlEnd
  rw [h]
  rfl

/-- The stamp of a burst: its first line, and the number of its last. -/
def burstStamp (s : State) (a b : Nat) : Stamp :=
  let h (k : Nat) : LineHeader := s.ing.hdr[k]?.getD {}
  { stamped := true, frameNum := (h a).frame, first := (h a).num, pos := (h a).pos, last := (h b).num, cmpErr := (h a).cmpErr }

/-- The end of a burst frees its slots and sets the stamp. -/
theorem loadlEnd_frees (s : State) (l : Loadl) : (s.loadlEnd l).trs = s.trs ∧
    (∀ p ∈ l.claimed, p.1 < 128 → (s.loadlEnd l).ing.slots[p.1]? = some SlotSt.free) ∧
    ∀ a b : Nat × Bool, l.claimed.head? = some a → l.claimed.getLast? = some b → (s.loadlEnd l).stamp = s.burstStamp a.1 b.1 := by
  obtain ⟨v, hfree, hmine, _⟩ := loadlFree_frees l.claimed s
  unfold State.loadlEnd
  rw [hfree]
  cases hhead : l.claimed.head? with
  | none => exact ⟨rfl, hmine, nofun⟩
  | some a =>
    cases hlast : l.claimed.getLast? with
    | none => exact ⟨rfl, hmine, nofun⟩
    | some b => exact ⟨rfl, hmine, fun a' b' ha hb => by cases ha; cases hb; rfl⟩

end State

/-- Settles O38: a push goes through the entry of its word, a completion through its record and the idle tail, a flush through the
discarded queue and the deliveries that fail. -/
theorem macroOpsArePushedAndCompleted : Obligations.MacroOpsArePushedAndCompleted := by
  intro s n x l t wait code k v hit tiles hmem i task r word due queued pushed pushes drained quiet bufs idle paged hdr lines
  have hwf := State.regsWf_of_memWf hmem
  refine ⟨fun hp hx => ?busy, fun hp hoff => ?off, fun hp hon hx hq hl hlive hcheck hhead => ?refused, State.execArrPush_waits,
    fun hquiet hgor hdel => ?plain, fun hquiet hgor hdel hk hlive => ?delivers, fun hquiet hgor hdel hdead => ?late,
    fun hquiet hdel hgor => ?shows, fun hon hq hx hb hlast hdrain hgor hdel => ?burst, execMacroopComplete_idle,
    fun hon => ?flush, fun hoff => if_neg (by rw [hoff]; decide)⟩
  case busy =>
    obtain ⟨hissue, harr, hon, hlen⟩ := hp
    have looked := State.trsAdvance_looked (s := s.entered n) hx 65
    have tasks : ((s.entered n).trsAdvance 65).tasks = (s.entered n).tasks := by rw [looked.frame]
    refine ⟨_, (State.execArrPush_enters hissue harr hon hlen).trans (congrArg _ (State.jEnd_entered hissue tasks)), ?_, looked.data,
      fun hnone hhead => ?_⟩
    · exact congrArg (fun u : State => { u with tasks := s.tasksPast n }) looked.frame
    · rw [State.trsAdvance_plain (s := s.entered n) hx hnone hhead]
      rfl
  case off =>
    obtain ⟨hissue, harr, hon, hlen⟩ := hp
    have still : (s.entered n).trsAdvance 65 = s.entered n := State.trsAdvance_off (s := s.entered n) hoff 65
    exact (State.execArrPush_enters hissue harr hon hlen).trans (congrArg _ (by rw [still, State.jEnd_entered hissue rfl]; rfl))
  case refused =>
    obtain ⟨hissue, harr, hdom, hlen⟩ := hp
    have only : (s.entered n).trs.queue = [s.nextWord n] := by simp [State.entered, hq]
    have gone := State.trsAdvance_refused (s := s.entered n) hwf hon only hx hl hhead hcheck 64
    obtain ⟨hend, hg⟩ := State.jEnd_refused hissue hlive gone
    obtain ⟨hrefused, hdone, hmore, hfirst⟩ :=
      gone.shown.of_regs (s' := s) (t' := ((s.entered n).trsAdvance 65).jEnd n) rfl (by rw [hend])
    exact ⟨_, State.execArrPush_enters hissue harr hdom hlen, by rw [hend]; exact gone.queue, by rw [hend]; exact gone.data,
      hrefused, hdone, hmore, hfirst, hg⟩
  case plain =>
    obtain ⟨hon, hq, hx, hop, hburst, hdrain, hstay⟩ := hquiet
    have recorded := State.execCounted_recorded hwf hop wait
    have counted : ((s.execCounted x wait).execShown x t).execDelivered x = s.execCounted x wait := by
      simp [State.execShown, State.execDelivered, hgor, hdel]
    have frame := recorded.stores.frame
    refine ⟨_, State.execMacroopComplete_quiet hx hon hop hburst hdrain counted (by rw [frame]; exact hq) (recorded.stays hstay), ?_,
      (State.idled_fld _ _).trans recorded.done, (State.idled_fld _ _).trans recorded.cyc, (State.idled_fld _ _).trans recorded.op,
      (State.idled_bit _ _).trans recorded.ovf, (State.idled_bit _ _).trans recorded.divz, (State.idled_bit _ _).trans recorded.inv,
      (State.idled_bit _ _).trans recorded.qnan, fun a ha => (State.idled_reg _ _).trans (recorded.stores.regs.but a fun hf => ha ?_)⟩
    · exact congrArg State.idled frame
    · obtain ⟨f, hf, rfl⟩ := hf
      exact (by decide : ∀ f ∈ State.recordFlds, f.addr ∈ [F.TRS_STICKY_OVF.addr, F.TRS_SCAN_VALUE.addr,
          F.TRS_LAST_CYC_CYC.addr, F.TRS_BUSY_CYC.addr, F.TRS_DONE_CNT.addr, F.WR_THROTTLE_CYC.addr]) f hf
  case delivers =>
    obtain ⟨hon, hq, hx, hop, hburst, hdrain, hstay⟩ := hquiet
    have counted : ((s.execCounted x wait).execShown x t).execDelivered x =
        (s.execCounted x wait).taskDeliver x.word.task x.word.gen k v := by
      simp [State.execShown, State.execDelivered, State.deliver, hgor, hdel]
    obtain ⟨trs, tasks, stays⟩ := State.taskDeliver_recorded (State.execCounted_recorded hwf hop wait) hstay v hk hlive
    refine ⟨_, State.execMacroopComplete_quiet hx hon hop hburst hdrain counted (by rw [trs]; exact hq) stays, State.idled_trs trs, ?_⟩
    rw [State.idled_tasks, tasks]
    exact State.taskGiven_tasks s.tasks x.word.task x.word.gen k v
  case late =>
    obtain ⟨hon, hq, hx, hop, hburst, hdrain, hstay⟩ := hquiet
    have recorded := State.execCounted_recorded hwf hop wait
    have frame := recorded.stores.frame
    have tasks : (s.execCounted x wait).tasks = s.tasks := by rw [frame]
    have counted : ((s.execCounted x wait).execShown x t).execDelivered x = s.execCounted x wait := by
      simp only [State.execShown, State.execDelivered, State.deliver, hgor, hdel]
      exact State.taskDeliver_discarded x.word.task v (.inr (by rw [tasks]; exact hdead))
    exact ⟨_, State.execMacroopComplete_quiet hx hon hop hburst hdrain counted (by rw [frame]; exact hq) (recorded.stays hstay),
      State.idled_trs (by rw [frame]), (State.idled_tasks _).trans tasks⟩
  case shows =>
    obtain ⟨hon, hq, hx, hop, hburst, hdrain, hstay⟩ := hquiet
    have recorded := State.execCounted_recorded hwf hop wait
    have frame := recorded.stores.frame
    have counted : ((s.execCounted x wait).execShown x t).execDelivered x = (s.execCounted x wait).gorEnd hit tiles t := by
      simp [State.execShown, State.execDelivered, hgor, hdel]
    have shown := State.gorEnd_shown (recorded.stores.wf hwf) hit tiles t
    have trs : ((s.execCounted x wait).gorEnd hit tiles t).trs = { s.trs with gorOut := hit, tileGor := tiles } := by
      rw [shown.trs, frame]
    have seq := recorded.stores.kept hwf F.TRS_GOR_SEQ (by decide)
    have was := recorded.stores.keptBit hwf (g := F.TRS_GOR_HIT) (by decide)
    refine ⟨_, State.execMacroopComplete_quiet hx hon hop hburst hdrain counted (by rw [trs]; exact hq)
      (shown.stays (recorded.stays hstay)), ?_⟩
    beta_reduce
    rw [State.idled_fld, State.idled_fld, State.idled_fld, State.idled_fld, State.idled_fld, State.idled_bit, ← seq, ← was]
    exact ⟨State.idled_trs (s := { s with trs := { s.trs with gorOut := hit, tileGor := tiles } }) trs,
      State.idled_data (shown.tly.trans (by rw [frame])), State.idled_storeBufs (shown.storeBufs.trans (by rw [frame])),
      shown.value, shown.hit, shown.out, shown.seq, shown.tiles⟩
  case burst =>
    have frame := State.execCounted_frame hwf x wait
    have counted : ((s.execCounted x wait).execShown x t).execDelivered x = s.execCounted x wait := by
      simp [State.execShown, State.execDelivered, hgor, hdel]
    have unloaded : (s.execCounted x wait).execUnloaded x = (s.execCounted x wait).loadlEnd l := by simp [State.execUnloaded, hb]
    have done : s.execDone x = true := State.execDone_drained (by simpa [hb] using hlast) (.inl hdrain)
    have complete := execMacroopComplete_done (n := t) (wait := wait) hx hon done
    rw [State.macroComplete_eq, counted, unloaded] at complete
    generalize s.execCounted x wait = c at frame complete
    obtain ⟨trs, slots, stamp⟩ := c.loadlEnd_frees l
    have queue : (c.loadlEnd l).trs.queue = [] := by rw [trs, frame]; exact hq
    obtain ⟨hexec, hqueue, hing, hstamp⟩ := State.execRetired_empty queue (x.word.op == Op.loadl) c.stamp
    refine ⟨_, complete, hexec, hqueue, fun p hp hlt => ?_, fun a b ha hb => ?_, fun hnone => ?_⟩
    · rw [hing]
      exact slots p hp hlt
    · rw [hstamp, stamp a b ha hb, frame]
      rfl
    · rw [hstamp, hing, State.loadlEnd_empty hnone, frame]
      exact ⟨rfl, rfl⟩
  case flush =>
    have emptied := State.trsDiscard_all hwf
    have heard := State.deliverFail_foldl_heard s.trs.queue (s.trsDiscard fun _ => true)
    have flushed : s.trsFlush = s.trs.queue.foldl State.deliverFail (s.trsDiscard fun _ => true) := rfl
    rw [emptied.tasks, ← flushed] at heard
    generalize (s.trsDiscard fun _ => true) = d at emptied heard
    refine ⟨_, if_pos hon, ?_⟩
    beta_reduce
    rw [heard.trs, heard.tly, heard.storeBufs, heard.ing, heard.tasks]
    refine ⟨emptied.queue, emptied.exec, emptied.data, emptied.storeBufs, ?_, emptied.loadl l, fun m => ?_⟩
    · exact (heard.regs.fld (State.not_upkeepReg_truss (by decide) (by decide))).trans emptied.discarded
    · exact tasksFailed_foldl s.trs.queue s.tasks m

end Sys2Proof.Machine
end

section
/-! SUPPORT. Looking at the head of the queue changes no plane (R222, R238, R271): page-in moves planes between levels, and a word that
is refused writes registers. -/

namespace Sys2Proof.Machine
open Sys2Proof.Spec

variable {s t u : State} {w : MacroWord}

namespace State

/-- Between two states no plane changes, and the register file stays canonical. -/
structure PlanesKept (s t : State) : Prop where
  data : t.tly.data = s.tly.data
  wf : SMap.wf Reg.resetWord s.regs = true → SMap.wf Reg.resetWord t.regs = true

namespace PlanesKept

theorem refl (s : State) : PlanesKept s s := ⟨rfl, id⟩

theorem trans (h : PlanesKept s t) (k : PlanesKept t u) : PlanesKept s u := ⟨k.data.trans h.data, fun hwf => k.wf (h.wf hwf)⟩

theorem of_eq (hdata : t.tly.data = s.tly.data) (hregs : t.regs = s.regs) : PlanesKept s t := ⟨hdata, fun hwf => hregs ▸ hwf⟩

theorem foldl {α : Type} {f : State → α → State} (h : ∀ s a, PlanesKept s (f s a)) (l : List α) (s : State) :
    PlanesKept s (l.foldl f s) := by
  induction l generalizing s with
  | nil => exact .refl s
  | cons a l ih => exact (h s a).trans (ih _)

theorem setReg (s : State) (a : Nat) (v : Word) : PlanesKept s (s.setReg a v) := ⟨rfl, s.regsWf_setReg a v⟩

theorem setFld (s : State) (f : Fld) (v : Nat) : PlanesKept s (s.setFld f v) := .setReg s _ _

theorem raiseIf (s : State) (b : Bool) (f : Fld) : PlanesKept s (s.raiseIf b f) := by
  cases b
  · exact .refl s
  · exact .setFld s f _

end PlanesKept

/-! ### Rooms and moves (R272, R273, R275) -/

theorem addStall_planesKept (s : State) (n : Nat) : PlanesKept s (s.addStall n) := by
  unfold State.addStall
  split
  · exact (PlanesKept.setFld s F.TLY_STALL_FRAME _).trans (.setFld _ F.TLY_STALL_TOTAL _)
  · exact .refl s

theorem farIssue_planesKept (s : State) (v slot : Nat) (toFar : Bool) : PlanesKept s (s.farIssue v slot toFar) := .of_eq rfl rfl

theorem yardWait_planesKept (s : State) (cmd : Bool) : PlanesKept s (s.yardWait cmd).2 := by
  cases cmd <;> exact .of_eq rfl rfl

theorem yardRoom_planesKept (s : State) (keep : List Nat) (cmd : Bool) : PlanesKept s (s.yardRoom keep cmd).2 := by
  unfold State.yardRoom
  split
  · exact .refl s
  split
  · split
    · exact s.yardWait_planesKept cmd
    dsimp only
    split
    · exact (s.farIssue_planesKept _ _ true).trans (yardWait_planesKept _ cmd)
    split
    · exact .refl s
    · exact s.yardWait_planesKept cmd
  · exact .refl s

theorem farRead_planesKept (s : State) (v : Nat) (keep : List Nat) (cmd : Bool) : PlanesKept s (s.farRead v keep cmd).2 := by
  have room := s.yardRoom_planesKept keep cmd
  unfold State.farRead
  split
  next k s' h =>
    rw [h] at room
    split
    · exact room.trans (s'.farIssue_planesKept v k false)
    · exact room
  · exact room

theorem benchMove_planesKept (s : State) (v : Nat) (e : PlaneEnt) (l : PlaneLevel) (k : Nat) : PlanesKept s (s.benchMove v e l k) := by
  have placed : PlanesKept s (s.setEnt v { e with level := l, slot := k }) := .of_eq rfl rfl
  exact (placed.trans (addStall_planesKept _ _)).trans (.of_eq rfl rfl)

theorem benchEvict_planesKept (s : State) (keep forced : List Nat) (cmd : Bool) : PlanesKept s (s.benchEvict keep forced cmd).2 := by
  have room := s.yardRoom_planesKept keep cmd
  unfold State.benchEvict
  dsimp only
  split
  · exact .refl s
  split
  next v e _ _ k s' h =>
    rw [h] at room
    exact room.trans (s'.benchMove_planesKept v e .yard k)
  · exact room

/-! ### The page-in of a footprint (R271 to R277) -/

theorem pageRead_planesKept (s : State) (keep : List Nat) (v : Nat) : PlanesKept s (s.pageRead keep v).2 := by
  have read := s.farRead_planesKept v keep false
  unfold State.pageRead
  dsimp only
  split
  · split
    · split
      next s' h => rwa [h] at read
      next s' _ h => rwa [h] at read
    · exact .refl s
  · exact .refl s

theorem pageReads_planesKept (s : State) (keep fp : List Nat) : PlanesKept s (s.pageReads keep fp).2 := by
  unfold State.pageReads
  induction fp generalizing s with
  | nil => exact .refl s
  | cons v vs ih =>
    have read := s.pageRead_planesKept keep v
    unfold State.pageReadList
    split
    next w s' h => rwa [h] at read
    next s' h =>
      rw [h] at read
      exact read.trans (ih s')

theorem pageEvict_planesKept (keep forced : List Nat) (n fuel : Nat) (s : State) :
    PlanesKept s (s.pageEvict keep forced n fuel).2 := by
  induction fuel generalizing s with
  | zero => exact .refl s
  | succ fuel ih =>
    have evict := s.benchEvict_planesKept keep forced false
    unfold State.pageEvict
    split
    · exact .refl s
    split
    next s' h =>
      rw [h] at evict
      exact evict.trans (ih s')
    · exact evict

theorem pageFill_planesKept (fp : List Nat) (s : State) : PlanesKept s (s.pageFill fp).2 := by
  induction fp generalizing s with
  | nil => exact .refl s
  | cons v vs ih =>
    unfold State.pageFill
    dsimp only
    split
    · exact ih s
    split
    · exact .refl s
    split
    next k _ => exact (s.benchMove_planesKept v _ .bench k).trans (ih _)
    · exact .refl s

theorem pageFailed_planesKept (s : State) : PlanesKept s s.pageFailed := .of_eq rfl rfl

theorem pageDone_planesKept (s : State) (out : List Nat) (again : Bool) : PlanesKept s (s.pageDone out again) := by
  cases again
  · exact (s.addStall_planesKept _).trans (.of_eq rfl rfl)
  · exact .of_eq rfl rfl

theorem pageIn_planesKept (s : State) (fp : List Nat) (again : Bool) : PlanesKept s (s.pageIn fp again).2 := by
  unfold State.pageIn
  dsimp only
  generalize List.foldl _ fp _ = target
  generalize List.take _ (s.pinsOutside fp) = out
  have noted : PlanesKept s { s with tly := { s.tly with fp := fp, headWaits := 0, ovrNext := out } } := .of_eq rfl rfl
  have reads := noted.trans (pageReads_planesKept _ target fp)
  split
  next v s1 h =>
    rw [h] at reads
    exact reads.trans s1.pageFailed_planesKept
  next s1 h =>
    rw [h] at reads
    generalize List.countP _ target = need
    have evict := reads.trans (pageEvict_planesKept target out need 512 s1)
    split
    next s2 h2 =>
      rw [h2] at evict
      split
      · exact evict.trans s2.pageFailed_planesKept
      · exact .refl s
    next s2 h2 => rwa [h2] at evict
    next k s2 h2 =>
      rw [h2] at evict
      have fill := (evict.trans (.raiseIf s2 (!out.isEmpty) F.TLY_STAT_PIN_OVR)).trans (pageFill_planesKept target _)
      split
      next s3 h3 => rwa [h3] at fill
      next s3 h3 =>
        rw [h3] at fill
        split
        · exact fill.trans s3.pageFailed_planesKept
        · exact fill.trans (s3.pageDone_planesKept out again)

/-- Use gives planes a recency. -/
theorem touch_planesKept (s : State) (fp : List Nat) : PlanesKept s (s.touch fp) := by
  have used : PlanesKept s (s.touchAt s.tly.clock fp) := PlanesKept.foldl (fun s v => by
    split
    · exact .refl s
    · exact .of_eq rfl rfl) fp s
  exact used.trans (.of_eq rfl rfl)

/-! ### Refusals and misses (R238, R239, R284) -/

theorem tlyMiss_planesKept (s : State) (v : Nat) : PlanesKept s (s.tlyMiss v) := by
  have counted : PlanesKept s (s.inc F.TLY_MISS_CNT) := .setFld s _ _
  unfold State.tlyMiss
  dsimp only
  split
  · exact counted
  · exact (counted.trans (.setFld _ F.TLY_MISS_PLANE_PLANE v)).trans (.setFld _ F.TLY_MISS_PLANE_VALID _)

theorem dropHead_planesKept (s : State) : PlanesKept s s.dropHead := by
  have left (s : State) : PlanesKept s s.loadlDrop := by
    unfold State.loadlDrop
    split
    next l _ =>
      obtain ⟨v, hfree, -, -⟩ := loadlFree_frees l.claimed { s with trs := { s.trs with loadl := none } }
      rw [hfree]
      exact .of_eq rfl rfl
    · exact .refl s
  have out : PlanesKept s { s with trs := { s.trs with queue := s.trs.queue.drop 1, head := .fresh, edgeStamp := none } } :=
    .of_eq rfl rfl
  exact (out.trans (left _)).trans (.of_eq rfl rfl)

theorem refuseRecord_planesKept (s : State) (w : MacroWord) (code : Nat) : PlanesKept s (s.refuseRecord w code) := by
  cases h : s.bit F.TRS_ERR_VALID
  · rw [refuseRecord_first h]
    have cause : PlanesKept s (s.refusalCause w code) :=
      ((PlanesKept.setFld s F.TRS_ERR_CODE code).trans (.setFld _ F.TRS_ERR_TASK _)).trans (.setFld _ F.TRS_ERR_VALID _)
    exact ((cause.trans (.setReg _ Reg.TRS_BADOP0 _)).trans (.setReg _ Reg.TRS_BADOP1 _)).trans (.setReg _ Reg.TRS_BADOP2 _)
  · rw [refuseRecord_more h]
    exact .setFld s F.TRS_ERR_MORE _

theorem deliverFail_planesKept (s : State) (w : MacroWord) : PlanesKept s (s.deliverFail w) := by
  have heard := s.deliverFail_heard w
  exact ⟨congrArg Tally.data heard.tly, heard.regs.wf⟩

theorem refuse_planesKept (s : State) (w : MacroWord) (code : Nat) : PlanesKept s (s.refuse w code) := by
  have counted : PlanesKept s s.refusalCounted := (PlanesKept.setFld s F.TRS_REFUSE_CNT _).trans (.setFld _ F.TRS_DONE_CNT _)
  exact (((counted.trans (refuseRecord_planesKept _ w code)).trans (.raiseIf _ _ F.TRS_STICKY_MISS_DET)).trans
    (.raiseIf _ _ F.TRS_STICKY_POISON)).trans (deliverFail_planesKept _ w)

theorem headMiss_planesKept (s : State) (w : MacroWord) (v : Nat) : PlanesKept s (s.headMiss w v) :=
  ((s.tlyMiss_planesKept v).trans (dropHead_planesKept _)).trans (refuse_planesKept _ w 6)

theorem dropHead_refuse_planesKept (s : State) (w : MacroWord) (code : Nat) : PlanesKept s (s.dropHead.refuse w code) :=
  s.dropHead_planesKept.trans (refuse_planesKept _ w code)

/-! ### The head of the queue (R222) -/

theorem headPage_planesKept (s : State) (w : MacroWord) : PlanesKept s (s.headPage w) := by
  have paged := s.pageIn_planesKept (s.headPlanes w) false
  unfold State.headPage
  dsimp only
  split
  · exact s.headMiss_planesKept w _
  split
  next v s' h =>
    rw [h] at paged
    exact paged.trans (s'.headMiss_planesKept w v)
  next s' h =>
    rw [h] at paged
    exact paged.trans (s'.dropHead_refuse_planesKept w 7)
  next s' h =>
    rw [h] at paged
    exact paged.trans (.of_eq rfl rfl)
  next s' h =>
    rw [h] at paged
    split
    · exact paged.trans (s'.dropHead_refuse_planesKept w 7)
    · exact (paged.trans (s'.touch_planesKept _)).trans (.of_eq rfl rfl)

theorem loadlStarve_planesKept (s : State) : PlanesKept s s.loadlStarve := by
  refine ⟨s.loadlStarve_looked.data, fun hwf => ?_⟩
  unfold State.loadlStarve
  split
  next l _ =>
    split
    · exact hwf
    · exact regsWf_setFld _ F.ING_STARVE_CNT _ (regsWf_setFld (s.loadlDone l) F.ING_STAT_STARVED _ hwf)
  · exact hwf

theorem headClaim_planesKept (s : State) (w : MacroWord) : PlanesKept s (s.headClaim w) := by
  have polled (n : Nat) (s : State) : PlanesKept s (s.loadlPoll n) := ⟨(loadlPoll_looked n s).data, (loadlPoll_upkeep n s).regs.wf⟩
  have ends (s : State) : PlanesKept s (if s.fld F.ING_LDWAIT = 0 then s.loadlStarve else s) := by
    split
    · exact s.loadlStarve_planesKept
    · exact .refl s
  have waits (l : Loadl) : PlanesKept s { s with trs := { s.trs with loadl := some l } } := .of_eq rfl rfl
  unfold State.headClaim
  split
  · exact ((waits _).trans (polled 17 _)).trans (ends _)
  · exact .refl s

theorem headFresh_planesKept (s : State) (w : MacroWord) : PlanesKept s (s.headFresh w) := by
  unfold State.headFresh
  split
  next code _ => exact s.dropHead_refuse_planesKept w code
  · dsimp only
    split
    · exact s.headClaim_planesKept w
    · exact (s.headClaim_planesKept w).trans (headPage_planesKept _ w)

theorem lookaheadPlane_planesKept (s : State) (v : Nat) : PlanesKept s (s.lookaheadPlane v) := by
  unfold State.lookaheadPlane
  dsimp only
  split
  · split
    · exact s.farIssue_planesKept v _ false
    · exact .refl s
  · exact .refl s

theorem lookaheads_planesKept (s : State) : PlanesKept s s.lookaheads := by
  refine PlanesKept.foldl (fun s w => ?_) _ s
  split
  · exact PlanesKept.foldl lookaheadPlane_planesKept _ s
  · exact .refl s

theorem trsAdvance_planesKept (n : Nat) (s : State) : PlanesKept s (s.trsAdvance n) := by
  induction n generalizing s with
  | zero => exact .refl s
  | succ n ih =>
    unfold State.trsAdvance
    split
    · exact .refl s
    split
    · exact .refl s
    next w _ _ =>
      split
      · exact (s.headClaim_planesKept w).trans (lookaheads_planesKept _)
      split
      · exact s.lookaheads_planesKept
      · have looked : PlanesKept s (if s.trs.head = .paging then s.headPage w else s.headFresh w) := by
          split
          · exact s.headPage_planesKept w
          · exact s.headFresh_planesKept w
        generalize (if s.trs.head = .paging then s.headPage w else s.headFresh w) = s' at looked
        dsimp only
        split
        · exact looked.trans (ih s')
        · exact looked.trans s'.lookaheads_planesKept

/-- Where the memories are canonical, they still are when a macro-op may start. -/
theorem atStart_wf (h : u.memWf = true) :
    SMap.wf Reg.resetWord (atStart u).regs = true ∧ SMap.wf (fun _ => 0) (atStart u).tly.data = true := by
  have settled : PlanesKept u u.benchSettle := .of_eq rfl rfl
  have kept : PlanesKept u (atStart u) := settled.trans (trsAdvance_planesKept 65 u.benchSettle)
  refine ⟨kept.wf (regsWf_of_memWf h), ?_⟩
  simp only [State.memWf, Bool.and_eq_true] at h
  rw [kept.data]
  exact h.2

end State
end Sys2Proof.Machine
end

section
/-! SUPPORT. Planes and fields of the array (R195, R227): a plane bit by bit, what writing a plane or a field leaves, and the value of a
field after it has been written. -/

namespace Sys2Proof.Machine
open Sys2Proof.Spec

variable {s t : State} {v k : Nat} {mask x : Plane} {g : Nat → Nat}

/-- A bit of a number is a bit of it as the library says it. -/
@[simp] theorem bitOf_eq_testBit (v n : Nat) : bitOf v n = v.testBit n := by
  rw [bitOf, Nat.testBit_eq_decide_div_mod_eq]
  rfl

theorem b2n_testBit_zero (b : Bool) : (b2n b).testBit 0 = b := by cases b <;> rfl

theorem b2n_lt_two (b : Bool) : b2n b < 2 := by cases b <;> decide

/-! ### Planes from bits -/

theorem natOfBits_lt (g : Nat → Bool) (n : Nat) : natOfBits g n < 2 ^ n := by
  induction n with
  | zero => exact Nat.one_pos
  | succ n ih =>
    rw [natOfBits, Nat.pow_succ]
    split <;> omega

theorem natOfBits_testBit (g : Nat → Bool) (n i : Nat) : (natOfBits g n).testBit i = (decide (i < n) && g i) := by
  induction n with
  | zero => simp [natOfBits]
  | succ n ih =>
    have low := natOfBits_lt g n
    rw [natOfBits]
    rcases Nat.lt_trichotomy i n with h | rfl | h
    · have hlt : i < n + 1 := by omega
      split
      · rw [Nat.add_comm, Nat.testBit_two_pow_add_gt h, ih]
        simp [h, hlt]
      · rw [Nat.add_zero, ih]
        simp [h, hlt]
    · split
      next hg => rw [Nat.add_comm, Nat.testBit_two_pow_add_eq, Nat.testBit_lt_two_pow low]; simp [hg]
      next hg => rw [Nat.add_zero, Nat.testBit_lt_two_pow low]; simp [hg]
    · have high : natOfBits g n + (if g n then 2 ^ n else 0) < 2 ^ i := by
        have bound := natOfBits_lt g (n + 1)
        rw [natOfBits] at bound
        exact bound.trans_le (Nat.pow_le_pow_right (by decide) h)
      have hno : ¬i < n + 1 := by omega
      rw [Nat.testBit_lt_two_pow high]
      simp [hno]

theorem Plane.ofFn_getLsbD (g : Nat → Bool) (p : Fin 16384) : (Plane.ofFn g).getLsbD p = g p := by
  rw [Plane.ofFn, BitVec.getLsbD_ofNat, natOfBits_testBit]
  simp [p.isLt]

/-- A bit of a plane that has taken another in the PEs of a mask. -/
theorem merged_getLsbD (x y mask : Plane) (p : Fin 16384) :
    ((x &&& ~~~mask) ||| (y &&& mask)).getLsbD p = if mask.getLsbD p then y.getLsbD p else x.getLsbD p := by
  rw [BitVec.getLsbD_or, BitVec.getLsbD_and, BitVec.getLsbD_and, BitVec.getLsbD_not, decide_eq_true p.isLt]
  cases mask.getLsbD p <;> simp only [Bool.not_false, Bool.not_true, Bool.and_true, Bool.and_false, Bool.or_false, Bool.false_or,
    if_true, Bool.false_eq_true, if_false]

/-! ### What a write of planes leaves -/

namespace State

/-- Writing a plane, or a field, writes plane contents alone. -/
theorem writePlane_data (s : State) (v : Nat) (mask x : Plane) :
    s.writePlane v mask x = { s with tly := { s.tly with data := (s.writePlane v mask x).tly.data } } := rfl

theorem writeField_data (s : State) (v : Nat) (mask : Plane) (g : Nat → Nat) (n : Nat) :
    s.writeField v mask g n = { s with tly := { s.tly with data := (s.writeField v mask g n).tly.data } } := by
  induction n with
  | zero => rfl
  | succ n ih => rw [State.writeField, writePlane_data, ih]

/-- A field of one plane. -/
theorem writeField_one (s : State) (v : Nat) (mask : Plane) (g : Nat → Nat) :
    s.writeField v mask g 1 = s.writePlane v mask (Plane.ofFn fun p => bitOf (g p) 0) := rfl

theorem plane_of_data (h : t.tly.data = s.tly.data) (v : Nat) : t.plane v = s.plane v :=
  congrArg (fun m => SMap.get (fun _ => 0) m v) h

theorem field_of_data (h : t.tly.data = s.tly.data) (v n : Nat) : t.field v n = s.field v n := by
  induction n generalizing v with
  | zero => rfl
  | succ n ih => rw [State.field, State.field, plane_of_data h, ih]

theorem writePlane_plane (hwf : SMap.wf (fun _ => (0 : Plane)) s.tly.data = true) (v : Nat) (mask x : Plane) :
    (s.writePlane v mask x).plane v = (s.plane v &&& ~~~mask) ||| (x &&& mask) := SMap.get_set_same _ _ v _ 0 hwf

theorem writePlane_plane_other {u : Nat} (h : u ≠ v) (s : State) (mask x : Plane) : (s.writePlane v mask x).plane u = s.plane u :=
  SMap.get_set_other _ _ v u _ h

theorem writeField_wf (hwf : SMap.wf (fun _ => (0 : Plane)) s.tly.data = true) (v : Nat) (mask : Plane) (g : Nat → Nat) (n : Nat) :
    SMap.wf (fun _ => (0 : Plane)) (s.writeField v mask g n).tly.data = true := by
  induction n with
  | zero => exact hwf
  | succ n ih => exact SMap.wf_set _ _ _ _ ih

theorem writeField_plane_other (s : State) (mask : Plane) (g : Nat → Nat) {u n : Nat} (h : u < v ∨ v + n ≤ u) :
    (s.writeField v mask g n).plane u = s.plane u := by
  induction n with
  | zero => rfl
  | succ n ih =>
    rw [State.writeField, writePlane_plane_other (by omega)]
    exact ih (by omega)

/-- Every plane of a field that has been written. -/
theorem writeField_plane (hwf : SMap.wf (fun _ => (0 : Plane)) s.tly.data = true) (mask : Plane) (g : Nat → Nat) {n i : Nat}
    (hi : i < n) : (s.writeField v mask g n).plane (v + i) =
      (s.plane (v + i) &&& ~~~mask) ||| ((Plane.ofFn fun p => bitOf (g p) i) &&& mask) := by
  induction n with
  | zero => exact absurd hi (Nat.not_lt_zero i)
  | succ n ih =>
    rw [State.writeField]
    by_cases h : i = n
    · subst h
      rw [writePlane_plane (writeField_wf hwf v mask g i), writeField_plane_other s mask g (.inr (Nat.le_refl _))]
    · rw [writePlane_plane_other (by omega)]
      exact ih (by omega)

end State

/-! ### Values of fields -/

/-- A bit of a PE's value is its bit in that plane. -/
theorem fieldVal_testBit (s : State) (v n p i : Nat) :
    (fieldVal (s.field v n) p).testBit i = (decide (i < n) && (s.plane (v + i)).getLsbD p) := by
  induction n generalizing v i with
  | zero => simp [State.field, fieldVal]
  | succ n ih =>
    rw [State.field, fieldVal]
    cases i with
    | zero =>
      have low := b2n_lt_two ((s.plane v).getLsbD p)
      have bit : (b2n ((s.plane v).getLsbD p) + 2 * fieldVal (s.field (v + 1) n) p) % 2 = b2n ((s.plane v).getLsbD p) := by omega
      rw [Nat.testBit_zero, bit]
      cases (s.plane v).getLsbD p <;> simp [b2n]
    | succ i =>
      have low := b2n_lt_two ((s.plane v).getLsbD p)
      have rest : (b2n ((s.plane v).getLsbD p) + 2 * fieldVal (s.field (v + 1) n) p) / 2 = fieldVal (s.field (v + 1) n) p := by omega
      rw [Nat.testBit_succ, rest, ih, Nat.add_right_comm, Nat.add_assoc]
      simp

/-- A field that has been written holds the values modulo two to its width in the PEs of the mask. -/
theorem State.writeField_fieldVal (hwf : SMap.wf (fun _ => (0 : Plane)) s.tly.data = true) (v : Nat) (mask : Plane) (g : Nat → Nat)
    (k : Nat) (p : Fin 16384) : fieldVal ((s.writeField v mask g k).field v k) p =
      if mask.getLsbD p then g p % 2 ^ k else fieldVal (s.field v k) p := by
  refine Nat.eq_of_testBit_eq fun i => ?_
  rw [fieldVal_testBit]
  by_cases hi : i < k
  · rw [State.writeField_plane hwf mask g hi, merged_getLsbD, Plane.ofFn_getLsbD]
    split <;> simp [hi, fieldVal_testBit]
  · split <;> simp [hi, fieldVal_testBit]

/-- Writing a field in the active PEs. -/
theorem State.writeField_fieldHas (hwf : SMap.wf (fun _ => (0 : Plane)) s.tly.data = true) (d k : Nat) (g : Nat → Nat) :
    fieldHas s (s.writeField d s.active g k) d k g :=
  ⟨State.writeField_fieldVal hwf d s.active g k, fun _ hv => State.writeField_plane_other s s.active g hv⟩

end Sys2Proof.Machine
end

section
/-! SUPPORT. What looking at the head of the queue does to the register file while a macro-op executes (R181, R222, R273): it writes what
the end of LDWAIT shows, and it does not read what a global OR shows. -/

namespace Sys2Proof.Machine
open Sys2Proof.Spec

variable {s t u : State} {w : MacroWord}

namespace State

/-! ### Registers that are written -/

/-- The registers in which the end of LDWAIT shows. -/
def starveRegs : List Nat := [F.ING_STAT_STARVED.addr, F.ING_STARVE_CNT.addr]

theorem WritesRegs.foldl {α : Type} {W : Nat → Prop} {f : State → α → State} (h : ∀ s a, WritesRegs W s (f s a)) (l : List α)
    (s : State) : WritesRegs W s (l.foldl f s) := by
  induction l generalizing s with
  | nil => exact .refl s
  | cons a l ih => exact (h s a).trans (ih _)

/-- The burst that a LOADL at the head asks for, with the frame of its lines. -/
def headBurst (s : State) (b : Nat) (index : Bool) : Loadl :=
  let frame := match s.firstFilled with
    | some k => some (s.slotFrame k)
    | none => s.ing.frames.head?.map (·.num)
  { b := b, index := index, frame := frame, complete := frame.isNone }

/-- A LOADL that has reached the head has claimed what it can. -/
def headPolled (s : State) (l : Loadl) : State := State.loadlPoll { s with trs := { s.trs with loadl := some l } } 17

theorem loadlReach_eq (s : State) (b : Nat) (index : Bool) : s.loadlReach b index =
    if (s.headPolled (s.headBurst b index)).fld F.ING_LDWAIT = 0 then (s.headPolled (s.headBurst b index)).loadlStarve
    else s.headPolled (s.headBurst b index) := rfl

/-- Without registers a poll reads and writes the same. -/
theorem loadlPoll_withRegs (r : List (Nat × Word)) (n : Nat) (s : State) :
    State.loadlPoll { s with regs := r } n = { s.loadlPoll n with regs := r } := by
  induction n generalizing s with
  | zero => rfl
  | succ n ih =>
    have slot (s : State) (k : Nat) (wide : Bool) (x : SlotSt) :
        State.setSlot { s with regs := r } k wide x = { s.setSlot k wide x with regs := r } := by
      simp only [State.setSlot]
      split <;> split <;> try split
      all_goals rfl
    have claim (l : Loadl) :
        State.loadlClaim { s with regs := r } l = ({ (s.loadlClaim l).1 with regs := r }, (s.loadlClaim l).2) := by
      have filled : State.firstFilled { s with regs := r } = s.firstFilled := rfl
      unfold State.loadlClaim
      rw [filled]
      split
      next k _ =>
        have frame : State.slotFrame { s with regs := r } k = s.slotFrame k := rfl
        dsimp only
        rw [frame, slot]
        split <;> rfl
      · rfl
    unfold State.loadlPoll
    dsimp only
    cases s.trs.loadl with
    | none => rfl
    | some l =>
      dsimp only
      rw [claim]
      obtain ⟨s', b⟩ := s.loadlClaim l
      split
      · rfl
      · cases b with
        | true => exact ih s'
        | false =>
          dsimp only
          split
          · split <;> rfl
          · rfl

theorem loadlPoll_regs (n : Nat) (s : State) : (s.loadlPoll n).regs = s.regs := by
  have apart := loadlPoll_withRegs s.regs n s
  have regs := congrArg State.regs apart
  exact regs

theorem loadlStarve_writesRegs (s : State) : WritesRegs (· ∈ starveRegs) s s.loadlStarve := by
  unfold State.loadlStarve
  split
  next l _ =>
    split
    · exact .refl s
    · have shown := (WritesRegs.setFld (W := (· ∈ starveRegs)) (s.loadlDone l) F.ING_STAT_STARVED 1 (by decide)).trans
        (WritesRegs.inc _ F.ING_STARVE_CNT (by decide))
      exact ⟨shown.but, shown.wf⟩
  · exact .refl s

theorem headClaim_writesRegs (s : State) (w : MacroWord) : WritesRegs (· ∈ starveRegs) s (s.headClaim w) := by
  have polled (l : Loadl) : WritesRegs (· ∈ starveRegs) s (s.headPolled l) := .of_regs_eq (loadlPoll_regs 17 _)
  have ends (s : State) : WritesRegs (· ∈ starveRegs) s (if s.fld F.ING_LDWAIT = 0 then s.loadlStarve else s) := by
    split
    · exact s.loadlStarve_writesRegs
    · exact .refl s
  unfold State.headClaim
  split
  · exact (polled _).trans (ends _)
  · exact .refl s

theorem lookaheadPlane_regs (s : State) (v : Nat) : (s.lookaheadPlane v).regs = s.regs := by
  unfold State.lookaheadPlane
  dsimp only
  split
  · split <;> rfl
  · rfl

theorem lookaheads_writesRegs {W : Nat → Prop} (s : State) : WritesRegs W s s.lookaheads := by
  refine WritesRegs.foldl (fun s w => ?_) _ s
  split
  · exact WritesRegs.foldl (fun s v => .of_regs_eq (s.lookaheadPlane_regs v)) _ s
  · exact .refl s

/-- While a macro-op executes, a look at the head writes no register but those. -/
theorem trsAdvance_writesRegs (hx : s.trs.exec ≠ none) (n : Nat) : WritesRegs (· ∈ starveRegs) s (s.trsAdvance n) := by
  cases n with
  | zero => exact .refl s
  | succ n =>
    by_cases hon : s.trsOn = true
    · cases hq : s.trs.queue with
      | nil => rw [trsAdvance_empty hq]; exact .refl s
      | cons w q =>
        rw [trsAdvance_executing hon hx hq]
        exact (s.headClaim_writesRegs w).trans (lookaheads_writesRegs _)
    · rw [trsAdvance_off (Bool.eq_false_iff.mpr hon)]
      exact .refl s

/-! ### Registers that are not read -/

theorem farPage_setEnt (s : State) (v : Nat) (e : PlaneEnt) (v' : Nat) : (s.setEnt v e).farPage v' = s.farPage v' := rfl

/-- Two states agree but for the registers of the global OR and of the end of LDWAIT. -/
structure Alike (s t : State) : Prop where
  frame : t = { s with regs := t.regs }
  regs : regsBut s t (· ∈ Reg.TRS_GOR :: starveRegs)

namespace Alike

theorem fld (h : Alike s t) {f : Fld} (hf : f.addr ∉ Reg.TRS_GOR :: starveRegs) : t.fld f = s.fld f :=
  congrArg (fun w => getBits w f.lo f.w) (h.regs f.addr hf)

/-- An operation that reads no register, and writes at most those. -/
theorem apply {f : State → State} (hframe : ∀ s r, f { s with regs := r } = { f s with regs := (f { s with regs := r }).regs })
    (hregs : ∀ s, WritesRegs (· ∈ starveRegs) s (f s)) (h : Alike s t) : Alike (f s) (f t) where
  frame := by
    have apart := hframe s t.regs
    rwa [← h.frame] at apart
  regs a ha := by
    have kept (s : State) := (hregs s).but a fun hs => ha (List.mem_cons_of_mem _ hs)
    rw [kept, kept, h.regs a ha]

theorem foldl {α : Type} {f : State → α → State} (hf : ∀ s t a, Alike s t → Alike (f s a) (f t a)) (l : List α) (h : Alike s t) :
    Alike (l.foldl f s) (l.foldl f t) := by
  induction l generalizing s t with
  | nil => exact h
  | cons a l ih => exact ih (hf s t a h)

theorem macroFields (h : Alike s t) (w : MacroWord) : t.macroFields w = s.macroFields w := by
  have deep : t.bit F.ING_CFG_DEPTH16 = s.bit F.ING_CFG_DEPTH16 := bit_eq_of_fld_eq (h.fld (by decide))
  have companded : t.bit F.ING_CFG_CMP_EN = s.bit F.ING_CFG_CMP_EN := bit_eq_of_fld_eq (h.fld (by decide))
  rw [State.macroFields, State.loadlW, deep, companded]
  rfl

theorem macroCheck (h : Alike s t) (w : MacroWord) : t.macroCheck w = s.macroCheck w := by
  unfold State.macroCheck
  rw [h.macroFields w]

theorem loadlReach (h : Alike s t) (b : Nat) (index : Bool) : Alike (s.loadlReach b index) (t.loadlReach b index) := by
  have polled (l : Loadl) : Alike (s.headPolled l) (t.headPolled l) :=
    h.apply (f := (·.headPolled l)) (fun s r => by
      rw [headPolled, loadlPoll_regs]
      exact loadlPoll_withRegs r 17 { s with trs := { s.trs with loadl := some l } }) fun s => .of_regs_eq (loadlPoll_regs 17 _)
  have starved {s t : State} (h : Alike s t) : Alike s.loadlStarve t.loadlStarve :=
    h.apply (fun s r => by unfold State.loadlStarve; dsimp only; split <;> [split; skip] <;> rfl) loadlStarve_writesRegs
  have ends {s t : State} (h : Alike s t) : Alike (if s.fld F.ING_LDWAIT = 0 then s.loadlStarve else s)
      (if t.fld F.ING_LDWAIT = 0 then t.loadlStarve else t) := by
    rw [h.fld (f := F.ING_LDWAIT) (by decide)]
    split
    · exact starved h
    · exact h
  have burst : t.headBurst b index = s.headBurst b index := by rw [h.frame]; rfl
  rw [loadlReach_eq, loadlReach_eq, burst]
  exact ends (polled _)

theorem headClaim (h : Alike s t) (w : MacroWord) : Alike (s.headClaim w) (t.headClaim w) := by
  have trs : t.trs = s.trs := by rw [h.frame]
  unfold State.headClaim
  rw [trs, h.macroCheck w]
  split
  · exact h.loadlReach _ _
  · exact h

theorem lookaheadPlane (h : Alike s t) (v : Nat) : Alike (s.lookaheadPlane v) (t.lookaheadPlane v) := by
  have far : t.farOk = s.farOk := by
    unfold State.farOk State.bit
    rw [h.fld (f := F.TLY_CFG_FAR_EN) (by decide), h.fld (f := F.TLY_CFG_MODE) (by decide)]
  have page : t.farPage v = s.farPage v := by
    unfold State.farPage
    rw [h.fld (f := F.TLY_FAR_BASE_BASE) (by decide)]
  have tly : t.tly = s.tly := by rw [h.frame]
  have ent : t.ent v = s.ent v := by rw [State.ent, tly]; rfl
  have used : t.yardUsed = s.yardUsed := by rw [h.frame]; rfl
  have issued (k : Nat) : Alike (s.farIssue v k false) (t.farIssue v k false) := by
    refine ⟨?_, h.regs⟩
    unfold State.farIssue
    dsimp only
    rw [farPage_setEnt, farPage_setEnt, page, h.frame]
    rfl
  unfold State.lookaheadPlane
  rw [far, ent, tly, used]
  dsimp only
  split
  · split
    · exact issued _
    · exact h
  · exact h

theorem lookaheads (h : Alike s t) : Alike s.lookaheads t.lookaheads := by
  have trs : t.trs = s.trs := by rw [h.frame]
  unfold State.lookaheads
  rw [trs, h.fld (f := F.TLY_CFG_LOOKAHEAD) (by decide)]
  refine foldl (fun s t w h => ?_) _ h
  rw [h.macroCheck w, h.macroFields w]
  split
  · exact foldl (fun s t v h => h.lookaheadPlane v) _ h
  · exact h

/-- While a macro-op executes, a look at the head reads none of those registers. -/
theorem trsAdvance (h : Alike s t) (hx : s.trs.exec ≠ none) (n : Nat) : Alike (s.trsAdvance n) (t.trsAdvance n) := by
  cases n with
  | zero => exact h
  | succ n =>
    have trs : t.trs = s.trs := by rw [h.frame]
    have on : t.trsOn = s.trsOn := by rw [h.frame]; rfl
    by_cases hon : s.trsOn = true
    · cases hq : s.trs.queue with
      | nil => rwa [trsAdvance_empty hq, trsAdvance_empty (trs ▸ hq)]
      | cons w q =>
        rw [trsAdvance_executing hon hx hq, trsAdvance_executing (on.trans hon) (trs ▸ hx) (trs ▸ hq)]
        exact (h.headClaim w).lookaheads
    · rwa [trsAdvance_off (Bool.eq_false_iff.mpr hon), trsAdvance_off (on.trans (Bool.eq_false_iff.mpr hon))]

end Alike
end State
end Sys2Proof.Machine
end

section
/-! SUPPORT. The start of a macro-op (R213, R222): the ready head of the operation leaves the queue and runs, and what it wrote stands. -/

namespace Sys2Proof.Machine
open Sys2Proof.Spec

variable {s u : State} {w : MacroWord} {ws : List MacroWord} {op k : Nat} {sub : Nat → Bool}
  {run : MacroWord → State → Exec × State} {x : Exec} {r : Truss} {d : List (Nat × Plane)}

/-- The state in which the head runs: it has left the queue. -/
def State.headTaken (s : State) (ws : List MacroWord) : State := { s with trs := { s.trs with queue := ws, head := .fresh } }

@[simp] theorem State.headTaken_active (s : State) (ws : List MacroWord) : (s.headTaken ws).active = s.active := rfl
@[simp] theorem State.headTaken_field (s : State) (ws : List MacroWord) (v n : Nat) : (s.headTaken ws).field v n = s.field v n :=
  State.field_of_data (t := s.headTaken ws) (s := s) rfl v n

/-! ### A macro-op that has started -/

/-- The started state, before the head that follows is looked at. -/
def startedAt (s : State) (ws : List MacroWord) (x : Exec) (r : Truss) (d : List (Nat × Plane)) : State :=
  { s with trs := { r with queue := ws, head := .fresh, exec := some x, edgeStamp := none }, tly := { s.tly with data := d } }

theorem started_eq (s : State) (ws : List MacroWord) (x : Exec) (r : Truss) (d : List (Nat × Plane)) :
    started s ws x r d = (startedAt s ws x r d).trsAdvance 65 := rfl

theorem started_looked (s : State) (ws : List MacroWord) (x : Exec) (r : Truss) (d : List (Nat × Plane)) :
    State.Looked (startedAt s ws x r d) (started s ws x r d) := State.trsAdvance_looked (by simp [startedAt]) 65

@[simp] theorem started_data (s : State) (ws : List MacroWord) (x : Exec) (r : Truss) (d : List (Nat × Plane)) :
    (started s ws x r d).tly.data = d := (started_looked s ws x r d).data

theorem started_trs (s : State) (ws : List MacroWord) (x : Exec) (r : Truss) (d : List (Nat × Plane)) : (started s ws x r d).trs =
    { r with queue := ws, head := .fresh, exec := some x, edgeStamp := none, loadl := (started s ws x r d).trs.loadl } :=
  congrArg State.trs (started_looked s ws x r d).frame

@[simp] theorem started_exec (s : State) (ws : List MacroWord) (x : Exec) (r : Truss) (d : List (Nat × Plane)) :
    (started s ws x r d).trs.exec = some x := by rw [started_trs]

@[simp] theorem started_a (s : State) (ws : List MacroWord) (x : Exec) (r : Truss) (d : List (Nat × Plane)) :
    (started s ws x r d).trs.a = r.a := by rw [started_trs]

/-! ### The start -/

/-- The head of the queue runs, under its own word. -/
def State.headRun (s : State) (run : MacroWord → State → Exec × State) (w : MacroWord) (ws : List MacroWord) : Exec × State :=
  let r := run w (s.headTaken ws)
  ({ r.1 with word := w }, r.2)

/-- What a run leaves is executing, and then the head that follows is looked at. -/
def State.afterStart (s : State) (x : Exec) : State :=
  State.trsAdvance { s with trs := { s.trs with exec := some x, edgeStamp := none } } 65

/-- A macro-op is ready at the head in s, which follows from u, and the memories that it touches are canonical. -/
structure AtHead (u s : State) (w : MacroWord) (ws : List MacroWord) : Prop where
  follows : atStart u = s
  ready : ready s w ws
  regsWf : SMap.wf Reg.resetWord s.regs = true
  planesWf : SMap.wf (fun _ => (0 : Plane)) s.tly.data = true

theorem AtHead.of_ready (hmem : u.memWf = true) (hready : Spec.ready (atStart u) w ws) : AtHead u (atStart u) w ws :=
  ⟨rfl, hready, (State.atStart_wf hmem).1, (State.atStart_wf hmem).2⟩

/-- What a field holds is read from plane contents. -/
theorem fieldHas_of_data {s' t t' : State} {v : Nat} {g : Nat → Nat} (h : fieldHas s t v k g) (hs : s'.tly.data = s.tly.data)
    (ha : s'.active = s.active) (ht : t'.tly.data = t.tly.data) : fieldHas s' t' v k g := by
  obtain ⟨hval, hother⟩ := h
  refine ⟨fun p => ?_, fun v hv => ?_⟩
  · rw [State.field_of_data ht, State.field_of_data hs, ha]
    exact hval p
  · rw [State.plane_of_data ht, State.plane_of_data hs]
    exact hother v hv

/-- What a run that writes a field in the active PEs leaves, once it has started. -/
theorem started_wrote (hwf : SMap.wf (fun _ => (0 : Plane)) s.tly.data = true) (w : MacroWord) (ws : List MacroWord) (k : Nat)
    (x : Exec) (g : Nat → Nat) :
    wrote s w ws k x g (started s ws x s.trs ((s.headTaken ws).writeField w.d s.active g k).tly.data) := by
  have has := State.writeField_fieldHas (s := s.headTaken ws) hwf w.d k g
  exact ⟨by rw [started_data], fieldHas_of_data has rfl rfl (started_data ..)⟩

/-! ### Commands whose meaning is a run of the head -/

namespace AtHead

section
variable {c : Instr} (h : AtHead u s w ws) (f : State → Host.Outcome State Fault Refusal) (harm : exec c u = f u)
  (hexec : f u = u.arrRun op sub run) (hop : w.op = op) (hsub : sub w.f = true)
include h harm hexec hop hsub

/-- The ready head of the operation runs, and then the head that follows is looked at. -/
theorem runs_head {y : State} (hrun : s.headRun run w ws = (x, y)) : exec c u = .next (y.afterStart x) := by
  obtain ⟨rfl, ⟨hqueue, hstart⟩, -, -⟩ := h
  obtain ⟨rfl, rfl⟩ := Prod.mk.inj hrun
  rw [harm, hexec]
  unfold State.arrRun
  rw [← atStart]
  simp only [hqueue, hstart, hop, hsub, BEq.rfl, Bool.and_self, if_true]
  rfl

/-- A run that changes the Truss and planes is a start. -/
theorem starts (hrun : s.headRun run w ws =
    (x, { s with trs := { r with queue := ws, head := .fresh }, tly := { s.tly with data := d } })) :
    exec c u = .next (started s ws x r d) := h.runs_head f harm hexec hop hsub hrun

/-- A run that writes a field in the active PEs is a start after which the field holds what was written. -/
theorem writes {g : Nat → Nat} (hrun : s.headRun run w ws = (x, (s.headTaken ws).writeField w.d s.active g k)) :
    runs c u (wrote s w ws k x g) := by
  rw [State.writeField_data] at hrun
  exact ⟨_, h.starts f harm hexec hop hsub hrun, started_wrote h.planesWf w ws k x g⟩

end
end AtHead

end Sys2Proof.Machine
end

section
/-! SUPPORT. The arithmetic of one PE as sums and shifts (R195, R250, R252), and the obligation about the macro-ops that write a field. -/

namespace Sys2Proof.Machine
open Sys2Proof.Spec

variable {s u : State} {w : MacroWord} {ws : List MacroWord}

/-- A boolean function bit by bit is the sum of its bits. -/
theorem boolField_eq_sum (f x y n : Nat) : boolField f x y n =
    ((List.range n).map fun i => if f.testBit (2 * (x / 2 ^ i % 2) + y / 2 ^ i % 2) then 2 ^ i else 0).sum := by
  induction n with
  | zero => rfl
  | succ n ih => rw [boolField, ih, List.range_succ, List.map_append, List.sum_append, bitOf_eq_testBit]; simp

/-- The sum of the kept partial-product bits, row by row. -/
theorem mulaField_eq_sum (x y c m : Nat) : mulaField x y c m =
    ((List.range m).map fun j => if y.testBit j then (x >>> (c - j)) <<< (c - j) <<< j else 0).sum := by
  induction m with
  | zero => rfl
  | succ m ih =>
    rw [mulaField, ih, List.range_succ, List.map_append, List.sum_append, bitOf_eq_testBit]
    simp [Nat.shiftLeft_eq, Nat.shiftRight_eq_div_pow]

/-- A comparison, by its condition code. -/
theorem cmpHolds_eq (c n x y : Nat) : cmpHolds c n x y = match c with
    | 0 => decide (x = y) | 1 => decide (x ≠ y) | 2 => decide (x < y) | 3 => decide (y ≤ x)
    | 4 => decide (toSigned n x < toSigned n y) | _ => decide (toSigned n y ≤ toSigned n x) := by
  obtain _ | _ | _ | _ | _ | c := c
  · rfl
  · exact (decide_not).symm
  · rfl
  · rfl
  · rfl
  · simp [cmpHolds]

/-- What NBR writes, from the source field: the value of the neighbour, where it lies in a powered tile. -/
def State.nbrVal (s : State) (w : MacroWord) (f : List Plane) (p : Nat) : Nat :=
  match nbrSource w.opt (s.fld F.TRS_ARR_CFG_CHAIN_LEN) p with
  | .pe q => if s.tileMask.getLsbD q then fieldVal f q else 0
  | .zero => 0

/-- What IDX writes, by its subcode. -/
theorem idx_eq (c p : Nat) : (if c = 0 then peChain p else if c = 1 then peRow p else if c = 2 then peCol p else peTile p) =
    match c with | 0 => peChain p | 1 => peRow p | 2 => peCol p | _ => p / 256 := by
  obtain _ | _ | _ | c := c
  · rfl
  · rfl
  · rfl
  · simp [peTile]

/-- A plane of truth values is the lowest bit of a field of them. -/
theorem writePlane_truth (s : State) (v : Nat) (mask : Plane) (c : Nat → Bool) :
    s.writePlane v mask (Plane.ofFn c) = s.writeField v mask (fun p => b2n (c p)) 1 := by
  simp only [State.writeField_one, bitOf_eq_testBit, b2n_testBit_zero]

/-- Settles O34: each operation is a run that writes its field, whose values are those of the model's arithmetic. -/
theorem macroOpsWriteTheirFields : Obligations.MacroOpsWriteTheirFields := by
  intro u w ws hmem s hready a b bm cc k ks mulCyc at_
  have head : AtHead u s w ws := .of_ready hmem hready
  clear_value s
  refine ⟨fun hop => ?mov, fun hop => ?bool, fun hop => ?setc, fun hop => ?shl, fun hop => ?shr, fun hop => ?sar, fun hop => ?nbr,
    fun hop => ?idx, fun hop => ?add, fun hop => ?sub, fun hop => ?cmp, fun hop => ?mulu, fun hop => ?muls, fun hop => ?mula⟩
  case mov => exact head.writes execArrMov rfl rfl hop rfl (by simp [State.headRun, runField, a])
  case bool => exact head.writes execArrBool rfl rfl hop rfl (by simp [State.headRun, runField, boolField_eq_sum, a, b])
  case setc => exact head.writes execArrSetc rfl rfl hop rfl rfl
  case shl => exact head.writes execArrShl rfl rfl hop rfl (by simp [State.headRun, runField, Nat.shiftLeft_eq, a])
  case shr => exact head.writes execArrShr rfl rfl hop rfl (by simp [State.headRun, runField, Nat.shiftRight_eq_div_pow, a])
  case sar => exact head.writes execArrSar rfl rfl hop rfl (by simp [State.headRun, runField, a])
  case nbr =>
    have read := congrArg (fun f : List Plane => (s.headTaken ws).writeField w.d s.active (s.nbrVal w f) w.n)
      (s.headTaken_field ws w.s1 w.n)
    exact head.writes execArrNbr rfl rfl hop rfl (congrArg (Prod.mk _) read)
  case idx => exact head.writes execArrIdx rfl rfl hop rfl (congrArg (fun g => (_, (s.headTaken ws).writeField w.d s.active g w.n))
    (funext (idx_eq w.f)))
  case add => exact head.writes execArrAdd rfl rfl hop rfl (by simp [State.headRun, a, b])
  case sub => exact head.writes execArrSub rfl rfl hop rfl (by simp [State.headRun, a, b])
  case cmp =>
    have same (x y : Nat) : cmpHolds w.f w.n x y = cc x y := cmpHolds_eq ..
    exact head.writes execArrCmp rfl rfl hop rfl (by simp [State.headRun, writePlane_truth, same, a, b, b2n])
  case mulu => exact head.writes execArrMulu rfl rfl hop rfl (by simp [State.headRun, muluCyc, mulCyc, a, bm, k])
  case muls => exact head.writes execArrMuls rfl rfl hop rfl (by simp [State.headRun, muluCyc, mulCyc, a, bm, ks])
  case mula => exact head.writes execArrMula rfl rfl hop rfl (by simp [State.headRun, muluCyc, mulCyc, mulaField_eq_sum, a, bm, k])

end Sys2Proof.Machine
end

section
/-! SUPPORT. The macro-ops on activity, flags, the global OR, counts and tokens (R196, R197, R205, R207, R231, R232, R262), and the
obligation about them. -/

namespace Sys2Proof.Machine
open Sys2Proof.Spec

variable {s u : State} {w : MacroWord} {ws : List MacroWord}

/-! ### Counts -/

theorem popCount_eq_countP (n v : Nat) : popCount v n = (List.range n).countP v.testBit := by
  induction n generalizing v with
  | zero => rfl
  | succ n ih =>
    have rest : (Nat.testBit v ∘ Nat.succ) = (v / 2).testBit := funext fun i => Nat.testBit_succ ..
    rw [popCount, ih, List.range_succ_eq_map, List.countP_cons, List.countP_map, rest, Nat.testBit_zero, Nat.add_comm]
    congr 1
    rcases Nat.mod_two_eq_zero_or_one v with h | h <;> simp [h]

/-- The ones of a plane, counted PE by PE. -/
theorem popBV_eq_countP (x : Plane) : popBV x = (List.range 16384).countP fun p => x.getLsbD p := popCount_eq_countP ..

/-- A plane is the plane of its bits. -/
theorem Plane.ofFn_self (x : Plane) : Plane.ofFn (fun p => x.getLsbD p) = x :=
  BitVec.eq_of_getLsbD_eq fun p hp => Plane.ofFn_getLsbD _ ⟨p, hp⟩

/-! ### Activity (R197, R231) -/

/-- A in the PEs of powered tiles after it has been written. -/
def State.activityAfter (s : State) (x : Plane) : Plane := (s.trs.a &&& ~~~s.tileMask) ||| (x &&& s.tileMask)

theorem State.activityAfter_getLsbD (s : State) (x : Plane) (p : Fin 16384) : (s.activityAfter x).getLsbD p =
    if s.tileMask.getLsbD p then x.getLsbD p else s.trs.a.getLsbD p := merged_getLsbD ..

/-- A macro-op that has written A has started. -/
def State.activityStarted (s : State) (w : MacroWord) (ws : List MacroWord) (x : Plane) : State :=
  started s ws { word := w, cyc := 3 } { s.trs with a := s.activityAfter x } s.tly.data

theorem AtHead.activity {c : Instr} {sub : Nat → Bool} (h : AtHead u s w ws) (f : State → Host.Outcome State Fault Refusal)
    (harm : exec c u = f u) (x : MacroWord → State → Plane) (hexec : f u = u.arrRun Op.act sub fun w s => runAct (x w s) s)
    (hop : w.op = Op.act) (hsub : sub w.f = true) : exec c u = .next (s.activityStarted w ws (x w (s.headTaken ws))) :=
  h.starts (x := { word := w, cyc := 3 }) (r := { s.trs with a := s.activityAfter (x w (s.headTaken ws)) }) (d := s.tly.data)
    f harm hexec hop hsub rfl

/-- The PEs of a range of tiles. -/
def tileRange (lo hi : Nat) : Plane := Plane.ofFn fun p => decide (lo ≤ peTile p ∧ peTile p ≤ hi)

theorem tileRange_getLsbD (lo hi : Nat) (p : Fin 16384) :
    (tileRange lo hi).getLsbD p = decide (lo ≤ p.val / 256 ∧ p.val / 256 ≤ hi) := Plane.ofFn_getLsbD ..

/-! ### The global OR (R205 to R207) -/

/-- The OR of a plane over each tile. -/
def tileOrs (x : Plane) : BitVec 64 := BitVec.ofNat 64 (natOfBits (fun t => x &&& tilePlane t != 0) 64)

theorem tileOrs_getLsbD (x : Plane) (i : Fin 64) : (tileOrs x).getLsbD i = (x &&& tilePlane i != 0) := by
  rw [tileOrs, BitVec.getLsbD_ofNat, natOfBits_testBit, decide_eq_true i.isLt]
  rfl

/-- What a global OR holds for its completion. -/
def State.gorExec (s : State) (w : MacroWord) : Exec :=
  { word := w, cyc := 12, gor := some (s.plane w.s1 &&& s.active != 0, tileOrs (s.plane w.s1 &&& s.active)) }

/-- The state in which a global OR has started with GOR_OUT at 0, before the head that follows is looked at. -/
def State.gorZeroed (s : State) (w : MacroWord) (ws : List MacroWord) : State :=
  (startedAt s ws (s.gorExec w) { s.trs with gorOut := false } s.tly.data).setFld F.TRS_GOR_OUT 0

/-- Under GOR_RTZ the head that follows is looked at as without it, and of the registers GOR_OUT changes. -/
theorem State.gorZeroed_started (hwf : SMap.wf Reg.resetWord s.regs = true) (w : MacroWord) (ws : List MacroWord) :
    let t := (s.gorZeroed w ws).trsAdvance 65
    t = { started s ws (s.gorExec w) { s.trs with gorOut := false } s.tly.data with regs := t.regs } ∧ t.fld F.TRS_GOR_OUT = 0 ∧
      regsBut s t fun b => b = F.TRS_GOR_OUT.addr ∨ b = F.ING_STAT_STARVED.addr ∨ b = F.ING_STARVE_CNT.addr := by
  have out : State.WritesRegs (· = F.TRS_GOR_OUT.addr) s (s.gorZeroed w ws) := (State.writesRegs_setFld _ F.TRS_GOR_OUT 0).of_start rfl
  have alike : State.Alike (startedAt s ws (s.gorExec w) { s.trs with gorOut := false } s.tly.data) (s.gorZeroed w ws) :=
    ⟨rfl, fun a ha => out.but a fun h => ha (List.mem_cons.mpr (.inl h))⟩
  have looked := State.trsAdvance_writesRegs (s := s.gorZeroed w ws) (by simp [State.gorZeroed, startedAt]) 65
  refine ⟨(alike.trsAdvance (by simp [startedAt]) 65).frame, ?_, fun a ha => ?_⟩
  · have zero : (s.gorZeroed w ws).fld F.TRS_GOR_OUT = 0 :=
      State.fld_setFld (startedAt s ws (s.gorExec w) _ _) F.TRS_GOR_OUT 0 hwf (by decide)
    exact (looked.fld (by decide)).trans zero
  · rw [not_or, not_or] at ha
    obtain ⟨hout, hstarved, hcount⟩ := ha
    exact (looked.but a (by simp [State.starveRegs, hstarved, hcount])).trans (out.but a hout)

/-- Settles O36: activity and flags are runs that change planes of the Truss, the reductions and TOKEN runs that hold a result, and
under GOR_RTZ the look at the next head meets GOR_OUT at 0. -/
theorem activityReductionsAndTokens : Obligations.ActivityReductionsAndTokens := by
  intro u w ws hmem s hready act a s1 ones stk
  have head : AtHead u s w ws := .of_ready hmem hready
  clear_value s
  have active {c : Instr} {x : Plane} (e : Nat → Bool) (hexec : exec c u = .next (s.activityStarted w ws x))
      (hx : ∀ p : Fin 16384, x.getLsbD p = e p) : runs c u (act e) := by
    refine ⟨_, hexec, by rw [State.activityStarted, started_a], fun p => ?_⟩
    rw [State.activityStarted, started_a, State.activityAfter_getLsbD, hx]
  refine ⟨fun hop hf => ?ld, fun hop hf => ?and, fun hop hf => ?or, fun hop hf => ?andn, fun hop hf => ?all, fun hop hf => ?tile,
    fun hop hf => ?st, fun hop hrtz => ?gor, fun hop hrtz => ?rtz, fun hop => ?popc, fun hop => ?token, fun hop hf => ?clear,
    fun hop hf => ?read⟩
  case ld => exact active s1 (head.activity execArrActLd rfl _ rfl hop (beq_iff_eq.mpr hf)) fun p => rfl
  case and =>
    exact active (fun p => a p && s1 p) (head.activity execArrActAnd rfl _ rfl hop (beq_iff_eq.mpr hf)) fun p => BitVec.getLsbD_and
  case or =>
    exact active (fun p => a p || s1 p) (head.activity execArrActOr rfl _ rfl hop (beq_iff_eq.mpr hf)) fun p => BitVec.getLsbD_or
  case andn =>
    refine active (fun p => a p && !s1 p) (head.activity execArrActAndn rfl _ rfl hop (beq_iff_eq.mpr hf)) fun p => ?_
    rw [BitVec.getLsbD_and, BitVec.getLsbD_not, decide_eq_true p.isLt, Bool.true_and]
    rfl
  case all =>
    exact active (fun _ => true) (head.activity execArrActAll rfl _ rfl hop (beq_iff_eq.mpr hf)) fun p =>
      BitVec.getLsbD_allOnes.trans (decide_eq_true p.isLt)
  case tile =>
    refine active (fun p => a p && decide (w.x % 64 ≤ p / 256 ∧ p / 256 ≤ w.x / 256 % 64))
      (head.activity execArrActTile rfl (fun w s => s.trs.a &&& tileRange (w.x % 64) (w.x / 256 % 64)) rfl hop (beq_iff_eq.mpr hf))
      fun p => ?_
    rw [BitVec.getLsbD_and, tileRange_getLsbD]
    rfl
  case st =>
    have data := started_data s ws { word := w, cyc := 3 } s.trs ((s.headTaken ws).writePlane w.d s.tileMask s.trs.a).tly.data
    refine ⟨_, head.starts execArrActSt rfl rfl hop (beq_iff_eq.mpr hf) rfl, by rw [started_data], ?_, fun v hv => ?_⟩
    · exact (State.plane_of_data data w.d).trans (State.writePlane_plane (s := s.headTaken ws) head.planesWf w.d s.tileMask s.trs.a)
    · exact (State.plane_of_data data v).trans (State.writePlane_plane_other hv (s.headTaken ws) s.tileMask s.trs.a)
  case gor =>
    refine ⟨_, head.starts (x := s.gorExec w) (r := s.trs) (d := s.tly.data) execArrGor rfl rfl hop rfl ?_, ?_, ?_, fun i => ?_⟩
    · exact congrArg (Prod.mk _) (if_neg (Bool.eq_false_iff.mp hrtz))
    · rw [started_exec]
      rfl
    · rw [started_exec]
      rfl
    · rw [started_exec]
      exact congrArg some (tileOrs_getLsbD _ i)
  case rtz =>
    obtain ⟨frame, out, regs⟩ := State.gorZeroed_started head.regsWf w ws
    have zeroed : exec .arrGor u = .next ((s.gorZeroed w ws).trsAdvance 65) := head.runs_head execArrGor rfl rfl hop rfl
      (y := State.setFld { s with trs := { s.trs with queue := ws, head := .fresh, gorOut := false } } F.TRS_GOR_OUT 0)
      (congrArg (Prod.mk (s.gorExec w)) (if_pos hrtz))
    have running : ((s.gorZeroed w ws).trsAdvance 65).trs.exec = some (s.gorExec w) :=
      (congrArg (fun t : State => t.trs.exec) frame).trans (started_exec ..)
    refine ⟨_, zeroed, ?_, out, regs⟩
    rw [running]
    exact frame
  case popc =>
    have count : popBV (s.plane w.s1 &&& s.active) = ones := popBV_eq_countP _
    rw [← count]
    exact head.starts execArrPopc rfl rfl hop rfl rfl
  case token =>
    rw [← bitOf_eq_testBit]
    exact head.starts execArrToken rfl rfl hop rfl rfl
  case clear =>
    simp only [stk, ← bitOf_eq_testBit]
    exact head.starts execArrStkClear rfl rfl hop (beq_iff_eq.mpr hf) rfl
  case read =>
    have field (x : Plane) : (s.headTaken ws).writePlane w.d s.active x =
        (s.headTaken ws).writeField w.d s.active (fun p => b2n (x.getLsbD p)) 1 := by
      rw [← writePlane_truth _ _ _ fun p => x.getLsbD p, Plane.ofFn_self]
    exact ⟨_, head.starts (r := s.trs) (x := { word := w, cyc := 3 }) execArrStkRead rfl rfl hop (beq_iff_eq.mpr hf)
      (congrArg (Prod.mk _) (field _)), started_wrote head.planesWf w ws 1 { word := w, cyc := 3 } _⟩

end Sys2Proof.Machine
end

section
/-! SUPPORT. The divisions and the import of binary32 (R253 to R258, R262): what the division of one PE answers, the flags that a macro-op
adds in the active PEs, and the obligation about them. -/

namespace Sys2Proof.Machine
open Sys2Proof.Spec

variable {s t u : State} {w : MacroWord} {ws : List MacroWord} {k op : Nat}

/-! ### One PE's division (R253 to R256) -/

/-- A PE's value fits in its field. -/
theorem fieldVal_lt (s : State) (v n p : Nat) : fieldVal (s.field v n) p < 2 ^ n :=
  Nat.lt_pow_two_of_testBit _ fun i hi => by simp [fieldVal_testBit, Nat.not_lt.mpr hi]

/-- Of the values that fit in a field, 0 alone reads as zero in two's complement. -/
theorem toSigned_eq_zero {m y : Nat} (hy : y < 2 ^ m) : toSigned m y = 0 ↔ y = 0 := by
  have fits : (y : Int) < 2 ^ m := by exact_mod_cast hy
  have pos := Nat.two_pow_pos (m - 1)
  rw [toSigned]
  split <;> omega

/-- The answers of an unsigned division, each by its cases. -/
theorem divUnsigned_eq (n m x y : Nat) : divUnsigned n m x y =
    (if y = 0 then 2 ^ n - 1 else x / y, if y = 0 then x % 2 ^ m else x % y, y == 0, y == 0 && decide (2 ^ m ≤ x)) := by
  by_cases hy : y = 0 <;> simp [divUnsigned, hy]

/-- The most negative dividend over minus one (R255). -/
def leastByMinusOne (n m x y : Nat) : Bool := decide (toSigned n x = -(2 ^ (n - 1)) ∧ toSigned m y = -1)

/-- The answers of a signed division, each by its cases. -/
theorem divSigned_eq {n m x y : Nat} (hfits : y < 2 ^ m) : divSigned n m x y =
    (if y = 0 then (if 0 ≤ toSigned n x then 2 ^ (n - 1) - 1 else 2 ^ (n - 1))
      else if leastByMinusOne n m x y then 2 ^ (n - 1) else ofSigned n ((toSigned n x).tdiv (toSigned m y)),
     if y = 0 then ofSigned m (toSigned n x)
      else if leastByMinusOne n m x y then 0 else ofSigned m ((toSigned n x).tmod (toSigned m y)),
     y == 0, y != 0 && leastByMinusOne n m x y,
     if y = 0 then decide (toSigned n x < -(2 ^ (m - 1)) ∨ (2 ^ (m - 1) : Int) ≤ toSigned n x) else leastByMinusOne n m x y) := by
  have zero := toSigned_eq_zero hfits
  by_cases hy : y = 0
  · subst hy
    simp [divSigned, zero.mpr rfl]
  by_cases hleast : toSigned n x = -(2 ^ (n - 1)) ∧ toSigned m y = -1
  · simp [divSigned, leastByMinusOne, hy, hleast]
  · simp [divSigned, leastByMinusOne, zero, hy, hleast]

/-! ### Flags in the active PEs (R260, R262) -/

/-- The active PEs that meet a condition. -/
def State.flagged (s : State) (c : Nat → Bool) : Plane := Plane.ofFn c &&& s.active

theorem State.flagged_getLsbD (s : State) (c : Nat → Bool) (p : Fin 16384) :
    (s.flagged c).getLsbD p = (s.active.getLsbD p && c p) := by
  rw [State.flagged, BitVec.getLsbD_and, Plane.ofFn_getLsbD, Bool.and_comm]

theorem State.flagged_never (s : State) : s.flagged (fun _ => false) = 0 :=
  BitVec.eq_of_getLsbD_eq fun p hp => by simp [s.flagged_getLsbD (fun _ => false) ⟨p, hp⟩]

/-- The Truss with flags added in the active PEs that meet their conditions. -/
def State.trsFlagged (s : State) (ovf divz inv : Nat → Bool) : Truss :=
  { s.trs with ovf := s.trs.ovf ||| s.flagged ovf, divz := s.trs.divz ||| s.flagged divz, inv := s.trs.inv ||| s.flagged inv }

/-- What a run that writes a field and adds flags in the active PEs leaves, once it has started. -/
theorem started_wroteFlags (hwf : SMap.wf (fun _ => (0 : Plane)) s.tly.data = true) (ws : List MacroWord) (k : Nat) {x : Exec}
    (hx : x.word = w) (g : Nat → Nat) (ovf divz inv : Nat → Bool) : wroteFlags s w ws k g ovf divz inv
      (started s ws x (s.trsFlagged ovf divz inv) ((s.headTaken ws).writeField w.d s.active g k).tly.data) := by
  have has := State.writeField_fieldHas (s := s.headTaken ws) hwf w.d k g
  refine ⟨?_, ?_, fieldHas_of_data has rfl rfl (started_data ..), fun p => ?_⟩
  · rw [started_data, started_exec, started_trs]
    rfl
  · rw [started_exec, Option.map_some, hx]
  · rw [started_trs]
    simp only [State.trsFlagged, BitVec.getLsbD_or, State.flagged_getLsbD, and_self]

/-- A field is known by the values modulo two to its width. -/
theorem fieldHas_congr {v : Nat} {g g' : Nat → Nat} (h : fieldHas s t v k g) (hg : ∀ p, g p % 2 ^ k = g' p % 2 ^ k) :
    fieldHas s t v k g' := by
  obtain ⟨hval, hother⟩ := h
  exact ⟨fun p => hg p ▸ hval p, hother⟩

namespace AtHead

section
variable {c : Instr} {sub : Nat → Bool} {run : MacroWord → State → Exec × State} {g : Nat → Nat} {ovf divz inv : Nat → Bool}
  (h : AtHead u s w ws) (f : State → Host.Outcome State Fault Refusal) (harm : exec c u = f u)
  (hexec : f u = u.arrRun op sub run) (hop : w.op = op) (hsub : sub w.f = true)
include h harm hexec hop hsub

/-- A run that writes a field and adds flags in the active PEs is a start after which both hold what was written. -/
theorem writesFlags (hrun : (run w (s.headTaken ws)).2 =
    ((s.headTaken ws).writeField w.d s.active g k).stick (s.flagged ovf) (s.flagged divz) (s.flagged inv)) :
    runs c u (wroteFlags s w ws k g ovf divz inv) := by
  rw [State.writeField_data] at hrun
  exact ⟨_, h.starts (r := s.trsFlagged ovf divz inv) f harm hexec hop hsub (Prod.ext rfl hrun),
    started_wroteFlags h.planesWf ws k rfl g ovf divz inv⟩

/-- A division whose answers in each PE are the ones given, the result as far as the destination holds it. -/
theorem divides {cyc z : Nat} {r : Nat → Nat × Bool × Bool}
    (hrun : run w (s.headTaken ws) = runDiv w k cyc z r (s.headTaken ws))
    (hr : ∀ p, (r p).1 % 2 ^ k = g p % 2 ^ k ∧ (r p).2.1 = divz p ∧ (r p).2.2 = ovf p) :
    runs c u (wroteFlags s w ws k g ovf divz fun _ => false) := by
  obtain rfl : (fun p => (r p).2.1) = divz := funext fun p => (hr p).2.1
  obtain rfl : (fun p => (r p).2.2) = ovf := funext fun p => (hr p).2.2
  have written := h.writesFlags (g := fun p => (r p).1) (ovf := fun p => (r p).2.2) (divz := fun p => (r p).2.1)
    (inv := fun _ => false) (k := k) f harm hexec hop hsub (by rw [hrun, s.flagged_never]; rfl)
  obtain ⟨t, next, start, word, field, flags⟩ := written
  exact ⟨t, next, start, word, fieldHas_congr field fun p => (hr p).1, flags⟩

end
end AtHead

/-- Settles O35: each operation is a run that writes its field and adds its flags, and what a PE answers is said by the cases of its
division. -/
theorem divisionAndImportSetFlags : Obligations.DivisionAndImportSetFlags := by
  intro u w ws hmem s hready x y a b least cv
  have head : AtHead u s w ws := .of_ready hmem hready
  clear_value s
  have signed (p : Nat) := divSigned_eq (n := w.n) (x := fieldVal (s.field w.s1 w.n) p) (fieldVal_lt s w.s2 w.m p)
  refine ⟨fun hop => ?divu, fun hop => ?remu, fun hop => ?divs, fun hop => ?rems, fun hop => ?cvtf⟩
  case divu =>
    refine head.divides execArrDivu rfl rfl hop rfl rfl fun p => ?_
    simp only [State.headTaken_field, divUnsigned_eq]
    exact ⟨rfl, rfl, trivial⟩
  case remu =>
    refine head.divides execArrRemu rfl rfl hop rfl rfl fun p => ?_
    simp only [State.headTaken_field, divUnsigned_eq]
    refine ⟨?_, rfl, rfl⟩
    dsimp only [x, y]
    split
    · exact Nat.mod_mod ..
    · rfl
  case divs =>
    refine head.divides execArrDivs rfl rfl hop rfl rfl fun p => ?_
    simp only [State.headTaken_field, signed]
    exact ⟨rfl, rfl, rfl⟩
  case rems =>
    refine head.divides execArrRems rfl rfl hop rfl rfl fun p => ?_
    simp only [State.headTaken_field, signed]
    exact ⟨rfl, rfl, rfl⟩
  case cvtf =>
    refine head.writesFlags execArrCvtf rfl rfl hop rfl ?_
    simp only [State.headTaken_field, State.flagged_never]
    rfl

end Sys2Proof.Machine
end

section
/-! SUPPORT. Tally's settings (R267, R268, R282, R283): which writes of TLY_CFG are refused, what the others store, and the registers of
the working set. -/

namespace Sys2Proof.Machine
open Sys2Proof.Spec

variable {s : State} {v : Word}

/-! ### Bits of a masked word -/

/-- One bit of a word, as a field. -/
theorem getBits_one_ne_zero (x : Word) (k : Nat) : (getBits x k 1 != 0) = x.getLsbD k := by
  rw [getBits_one, bitOf_eq_testBit, BitVec.testBit_toNat]
  cases x.getLsbD k <;> rfl

/-- A field all of whose bits a mask keeps. -/
theorem getBits_and_kept (x mask : Word) {lo w : Nat} (h : ∀ k < w, mask.getLsbD (lo + k) = true) :
    getBits (x &&& mask) lo w = getBits x lo w := by
  refine Nat.eq_of_testBit_eq fun k => ?_
  rw [getBits_testBit, getBits_testBit, BitVec.getLsbD_and]
  by_cases hk : k < w
  · rw [h k hk, Bool.and_true]
  · simp [hk]

namespace State

theorem fld_setReg (hwf : SMap.wf Reg.resetWord s.regs = true) (f : Fld) (x : Word) :
    (s.setReg f.addr x).fld f = getBits x f.lo f.w := congrArg (fun y => getBits y f.lo f.w) (s.reg_setReg _ _ hwf)

theorem setReg_writesRegs (s : State) (a : Nat) (x : Word) : WritesRegs (· = a) s (s.setReg a x) :=
  ⟨fun _ hb => s.reg_setReg_other _ _ _ hb, s.regsWf_setReg a x⟩

/-- A field of a register stored through a mask that keeps the field. -/
theorem fld_setReg_masked (hwf : SMap.wf Reg.resetWord s.regs = true) (f : Fld) {x mask : Word}
    (h : ∀ k < f.w, mask.getLsbD (f.lo + k) = true) : (s.setReg f.addr (x &&& mask)).fld f = getBits x f.lo f.w :=
  (fld_setReg hwf f _).trans (getBits_and_kept x mask h)

/-- A one-bit field of a register stored through a mask that keeps the bit. -/
theorem bit_setReg_masked (hwf : SMap.wf Reg.resetWord s.regs = true) (f : Fld) {x mask : Word} (hw : f.w = 1)
    (h : mask.getLsbD f.lo = true) : (s.setReg f.addr (x &&& mask)).bit f = x.getLsbD f.lo := by
  have kept (k : Nat) (hk : k < f.w) : mask.getLsbD (f.lo + k) = true := by
    obtain rfl : k = 0 := by omega
    exact h
  rw [State.bit, fld_setReg_masked hwf f kept, hw, getBits_one_ne_zero]

/-! ### TLY_CFG (R268, R283) -/

/-- The queue of the Truss is empty, and nothing executes or moves. -/
theorem tlyIdle_iff : s.tlyIdle = true ↔ s.trs.queue = [] ∧ s.trs.exec = none ∧ s.tly.moves = [] := by
  simp [State.tlyIdle, and_assoc]

/-- A write of TLY_CFG changes MODE or FAR_EN while something is under way, sets MODE with no working set staged, or clears MODE with
FAR_EN clear. -/
def tlyCfgBad (s : State) (v : Word) : Prop :=
  ((v.getLsbD 0 ≠ s.bit F.TLY_CFG_MODE ∨ v.getLsbD 1 ≠ s.bit F.TLY_CFG_FAR_EN) ∧
      ¬(s.trs.queue = [] ∧ s.trs.exec = none ∧ s.tly.moves = [])) ∨
    (s.bit F.TLY_CFG_MODE = false ∧ v.getLsbD 0 = true ∧ s.tly.staged = false) ∨
    (s.bit F.TLY_CFG_MODE = true ∧ v.getLsbD 0 = false ∧ v.getLsbD 1 = false)

/-- The judgement of MODE and FAR_EN, as the model writes it. -/
theorem tlyCfgBad_iff : s.tlyCfgBad v ↔
    ((bitOf v.toNat 0 != s.bit F.TLY_CFG_MODE || bitOf v.toNat 1 != s.bit F.TLY_CFG_FAR_EN) && !s.tlyIdle ||
      (bitOf v.toNat 0 != s.bit F.TLY_CFG_MODE) && bitOf v.toNat 0 && !s.tly.staged ||
      (bitOf v.toNat 0 != s.bit F.TLY_CFG_MODE) && s.bit F.TLY_CFG_MODE && !bitOf v.toNat 1) = true := by
  rw [tlyCfgBad, ← tlyIdle_iff, bitOf_eq_testBit, bitOf_eq_testBit, BitVec.testBit_toNat, BitVec.testBit_toNat]
  generalize v.getLsbD 0 = mode, v.getLsbD 1 = far, s.bit F.TLY_CFG_MODE = was, s.bit F.TLY_CFG_FAR_EN = farWas, s.tlyIdle = idle,
    s.tly.staged = staged
  revert mode far was farWas idle staged
  decide

theorem writeTlyCfg_range (h : 4 < getBits v 4 3) : s.writeTlyCfg v = s := if_pos h

theorem writeTlyCfg_bad (hrange : getBits v 4 3 ≤ 4) (h : s.tlyCfgBad v) : s.writeTlyCfg v = s.raise F.TLY_ERR_CFG :=
  (if_neg (Nat.not_lt.mpr hrange)).trans (if_pos (tlyCfgBad_iff.mp h))

theorem writeTlyCfg_taken (hrange : getBits v 4 3 ≤ 4) (h : ¬s.tlyCfgBad v) : s.writeTlyCfg v = s.setReg Reg.TLY_CFG (v &&& 0x73) :=
  (if_neg (Nat.not_lt.mpr hrange)).trans (if_neg fun hbad => h (tlyCfgBad_iff.mpr hbad))

/-! ### TLY_FAR_BASE (R267) -/

/-- A write of TLY_FAR_BASE may be taken: SETUP with FAR_EN clear, and the store ends within the capacity. -/
def farBaseFits (s : State) (v : Word) : Prop :=
  s.mode = .setup ∧ s.bit F.TLY_CFG_FAR_EN = false ∧ (getBits v 27 5 + 1) * 2 ^ 27 ≤ s.memcCap

theorem writeTlyFarBase_taken (h : s.farBaseFits v) : s.writeTlyFarBase v = s.setFld F.TLY_FAR_BASE_BASE (getBits v 27 5) := by
  obtain ⟨hmode, hfar, hcap⟩ := h
  exact if_pos ⟨hmode, by rw [hfar]; rfl, hcap⟩

theorem writeTlyFarBase_refused (h : ¬s.farBaseFits v) : s.writeTlyFarBase v = s.raise F.TLY_ERR_FAR_RANGE :=
  if_neg fun ⟨hmode, hfar, hcap⟩ => h ⟨hmode, by simpa using hfar, hcap⟩

/-! ### The working set (R282) -/

/-- A register of the working set is stored, and STAGED is clear. -/
def wsStored (s : State) (a : Nat) (x : Word) : State :=
  State.setFld { s.setReg a x with tly := { s.tly with staged := false } } F.TLY_STAT_STAGED 0

theorem writeTlyWs_start (s : State) (i : Nat) (v : Word) : s.writeTlyWs i false v = s.wsStored (Reg.TLY_WSi_A i) (v &&& 0x8001FFFF) := rfl

theorem writeTlyWs_count (hlo : 1 ≤ getBits v 0 13) (hhi : getBits v 0 13 ≤ 4096) (i : Nat) :
    s.writeTlyWs i true v = s.wsStored (Reg.TLY_WSi_B i) (v &&& 0x1FFF) :=
  if_neg fun ⟨_, h⟩ => by omega

theorem writeTlyWs_range (h : getBits v 0 13 = 0 ∨ 4096 < getBits v 0 13) (i : Nat) : s.writeTlyWs i true v = s := if_pos ⟨rfl, h⟩

theorem wsA_ne_stat (i : Nat) : Reg.TLY_WSi_A i ≠ F.TLY_STAT_STAGED.addr := by
  simp only [Reg.TLY_WSi_A, F.TLY_STAT_STAGED, Reg.TLY_STAT]
  omega

theorem wsB_ne_stat (i : Nat) : Reg.TLY_WSi_B i ≠ F.TLY_STAT_STAGED.addr := by
  simp only [Reg.TLY_WSi_B, F.TLY_STAT_STAGED, Reg.TLY_STAT]
  omega

theorem wsStored_regs (s : State) (a : Nat) (x : Word) :
    regsBut s (s.wsStored a x) fun b => b = a ∨ b = F.TLY_STAT_STAGED.addr := by
  have stored := (s.setReg_writesRegs a x).mono (V := fun b => b = a ∨ b = F.TLY_STAT_STAGED.addr) fun _ => .inl
  have staged := WritesRegs.setFld (W := fun b => b = a ∨ b = F.TLY_STAT_STAGED.addr)
    { s.setReg a x with tly := { s.tly with staged := false } } F.TLY_STAT_STAGED 0 (.inr rfl)
  exact (stored.trans (staged.of_start rfl)).but

section
variable (hwf : SMap.wf Reg.resetWord s.regs = true)
include hwf

theorem wsStored_staged (a : Nat) (x : Word) : (s.wsStored a x).bit F.TLY_STAT_STAGED = false := by
  have cleared : (s.wsStored a x).fld F.TLY_STAT_STAGED = 0 :=
    fld_setFld { s.setReg a x with tly := { s.tly with staged := false } } _ 0 (s.regsWf_setReg a x hwf) (by decide)
  rw [State.bit, cleared]
  rfl

theorem wsStored_fld (x : Word) {f : Fld} {mask : Word} (hf : f.addr ≠ F.TLY_STAT_STAGED.addr)
    (hmask : ∀ k < f.w, mask.getLsbD (f.lo + k) = true) : (s.wsStored f.addr (x &&& mask)).fld f = getBits x f.lo f.w :=
  (fld_setFld_other { s.setReg f.addr (x &&& mask) with tly := { s.tly with staged := false } } _ f 0 hf).trans
    (fld_setReg_masked hwf f hmask)

theorem wsStored_bit (x : Word) {f : Fld} {mask : Word} (hf : f.addr ≠ F.TLY_STAT_STAGED.addr) (hw : f.w = 1)
    (hmask : mask.getLsbD f.lo = true) : (s.wsStored f.addr (x &&& mask)).bit f = x.getLsbD f.lo :=
  (bit_eq_of_fld_eq (fld_setFld_other { s.setReg f.addr (x &&& mask) with tly := { s.tly with staged := false } } _ f 0 hf)).trans
    (bit_setReg_masked hwf f hw hmask)

end

end State

/-- Settles O40: the judgement of TLY_CFG has three outcomes, that of TLY_FAR_BASE two; a register of the working set is stored with
STAGED cleared, but for a COUNT out of range. -/
theorem tallySettings : Obligations.TallySettings := by
  intro s v i hmem hon only idle m f was bad base fits
  have hwf := State.regsWf_of_memWf hmem
  have cfg : exec (.tlyCfgWrite v) s = .next (s.writeTlyCfg v) := if_pos hon
  have farBase : exec (.tlyFarBaseWrite v) s = .next (s.writeTlyFarBase v) := if_pos hon
  have ws (b : Bool) : exec (.tlyWsWrite i b v) s = .next (s.writeTlyWs i b v) := if_pos hon
  refine ⟨fun hrange hok => ⟨_, cfg, ?taken⟩, fun hrange hbad => ⟨_, cfg, ?bad⟩, fun hrange => ?lookahead,
    fun hfits => ⟨_, farBase, ?base⟩, fun hfits => ⟨_, farBase, ?range⟩, ⟨_, ws false, ?start⟩,
    fun hlo hhi => ⟨_, ws true, ?count⟩, fun hcount => ?countRange⟩
  case taken =>
    rw [State.writeTlyCfg_taken hrange hok]
    exact ⟨⟨rfl, (s.setReg_writesRegs _ _).but⟩, State.bit_setReg_masked hwf F.TLY_CFG_MODE rfl (by decide),
      State.bit_setReg_masked hwf F.TLY_CFG_FAR_EN rfl (by decide), State.fld_setReg_masked hwf F.TLY_CFG_LOOKAHEAD (by decide)⟩
  case bad =>
    rw [State.writeTlyCfg_bad hrange hbad]
    exact ⟨⟨rfl, (s.writesRegs_setFld F.TLY_ERR_CFG _).but⟩, s.bit_raise hwf (by decide) (by decide)⟩
  case lookahead => rw [cfg, State.writeTlyCfg_range hrange]
  case base =>
    rw [State.writeTlyFarBase_taken hfits]
    exact ⟨⟨rfl, (s.writesRegs_setFld _ _).but⟩, s.fld_setFld_fits hwf (by decide) (getBits_lt v 27 5)⟩
  case range =>
    rw [State.writeTlyFarBase_refused hfits]
    exact ⟨⟨rfl, (s.writesRegs_setFld F.TLY_ERR_FAR_RANGE _).but⟩, s.bit_raise hwf (by decide) (by decide)⟩
  case start =>
    rw [State.writeTlyWs_start]
    have apart := State.wsA_ne_stat i
    have startKept : ∀ k < 16, (0x8001FFFF : Word).getLsbD (0 + k) = true := by decide
    have enKept : (0x8001FFFF : Word).getLsbD 31 = true := by decide
    have levelKept : (0x8001FFFF : Word).getLsbD 16 = true := by decide
    exact ⟨rfl, State.wsStored_staged hwf _ _, State.wsStored_fld hwf v (f := F.TLY_WSi_A_START i) apart startKept,
      State.wsStored_bit hwf v (f := F.TLY_WSi_A_EN i) apart rfl enKept,
      State.wsStored_bit hwf v (f := F.TLY_WSi_A_LEVEL i) apart rfl levelKept, s.wsStored_regs _ _⟩
  case count =>
    rw [State.writeTlyWs_count hlo hhi]
    have countKept : ∀ k < 13, (0x1FFF : Word).getLsbD (0 + k) = true := by decide
    exact ⟨rfl, State.wsStored_staged hwf _ _, State.wsStored_fld hwf v (f := F.TLY_WSi_B_COUNT i) (State.wsB_ne_stat i) countKept,
      s.wsStored_regs _ _⟩
  case countRange => rw [ws, State.writeTlyWs_range hcount]

end Sys2Proof.Machine
end

section
/-! SUPPORT. Tally's map and planes (R265), the writes of TLY_CMD (R279, R282), and what a command shows when it ends (R280). -/

namespace Sys2Proof.Machine
open Sys2Proof.Spec

variable {s t u : State} {op res done : Nat}

/-- What holds of every entry of a map, and of the default of a key, holds of what is read at the key. -/
theorem SMap.get_of_forall {α : Type} {d : Nat → α} {P : α → Prop} {m : List (Nat × α)} {a : Nat} (hm : ∀ p ∈ m, P p.2)
    (hd : P (d a)) : P (SMap.get d m a) := by
  induction m with
  | nil => exact hd
  | cons p m ih =>
    obtain ⟨hp, hm⟩ := List.forall_mem_cons.mp hm
    rw [SMap.get]
    split
    · exact hp
    · exact ih hm

namespace State

/-! ### The map and the planes (R265) -/

/-- The map and the contents of the planes are in canonical form. -/
structure TlyWf (s : State) : Prop where
  map : SMap.wf zeroEnt s.tly.map = true
  data : SMap.wf (fun _ => (0 : Plane)) s.tly.data = true

theorem tlyWf_of_memWf (h : s.memWf = true) : TlyWf s := by
  simp only [State.memWf, Bool.and_eq_true] at h
  obtain ⟨⟨_, hmap⟩, hdata⟩ := h
  exact ⟨hmap, hdata⟩

theorem ent_of_map (h : t.tly.map = s.tly.map) (v : Nat) : t.ent v = s.ent v := congrArg (fun m => SMap.get zeroEnt m v) h

theorem ent_setEnt_same (hwf : TlyWf s) (v : Nat) (e : PlaneEnt) : (s.setEnt v e).ent v = e := SMap.get_set_same _ _ v e 0 hwf.map

theorem ent_setEnt_other (s : State) {v w : Nat} (e : PlaneEnt) (h : w ≠ v) : (s.setEnt v e).ent w = s.ent w :=
  SMap.get_set_other _ _ v w e h

theorem plane_setPlane_same (hwf : TlyWf s) (v : Nat) (x : Plane) : (s.setPlane v x).plane v = x := SMap.get_set_same _ _ v x 0 hwf.data

theorem plane_setPlane_other (s : State) {v w : Nat} (x : Plane) (h : w ≠ v) : (s.setPlane v x).plane w = s.plane w :=
  SMap.get_set_other _ _ v w x h

theorem TlyWf.setEnt (h : TlyWf s) (v : Nat) (e : PlaneEnt) : TlyWf (s.setEnt v e) := ⟨SMap.wf_set _ _ v e h.map, h.data⟩

theorem TlyWf.setPlane (h : TlyWf s) (v : Nat) (x : Plane) : TlyWf (s.setPlane v x) := ⟨h.map, SMap.wf_set _ _ v x h.data⟩

/-- No plane is in a far move where no entry of the map is. -/
theorem ent_still (h : ∀ p ∈ s.tly.map, p.2.moving = false) (v : Nat) : (s.ent v).moving = false :=
  SMap.get_of_forall (P := fun e : PlaneEnt => e.moving = false) h rfl

/-! ### Writes of TLY_CMD (R279, R282) -/

/-- The command of a write, with START and COUNT as they stand. -/
def tlyArg (s : State) (op : Nat) : TallyCmd := { op := op, start := s.fld F.TLY_CMD_ARG_START, count := s.fld F.TLY_CMD_ARG_COUNTM1 + 1 }

/-- What a write of TLY_CMD leaves: the command is taken where none waits. -/
def tlyWritten (s : State) (op : Nat) (t : State) : Prop :=
  (s.tly.cmd = none → t = { s with regs := t.regs, tly := { s.tly with cmd := some (s.tlyArg op), staged := false } } ∧
    t.bit F.TLY_STAT_CMD_BUSY = true ∧ t.bit F.TLY_STAT_STAGED = false ∧ regsBut s t fun a => a = F.TLY_STAT_CMD_BUSY.addr) ∧
  (s.tly.cmd ≠ none → t = { s with regs := t.regs } ∧ t.bit F.TLY_ERR_CMD_BUSY = true ∧
    regsBut s t fun a => a = F.TLY_ERR_CMD_BUSY.addr)

theorem writeTlyCmd_busy (h : s.tly.cmd ≠ none) (op : Nat) : s.writeTlyCmd op = s.raise F.TLY_ERR_CMD_BUSY :=
  if_pos (Option.isSome_iff_ne_none.mpr h)

theorem writeTlyCmd_free (h : s.tly.cmd = none) (op : Nat) : s.writeTlyCmd op =
    (State.setFld { s with tly := { s.tly with cmd := some (s.tlyArg op), staged := false } } F.TLY_STAT_STAGED 0).raise
      F.TLY_STAT_CMD_BUSY := if_neg (by simp [h])

theorem writeTlyCmd_written (hwf : SMap.wf Reg.resetWord s.regs = true) (op : Nat) : s.tlyWritten op (s.writeTlyCmd op) := by
  refine ⟨fun hfree => ?free, fun hbusy => ?busy⟩
  case free =>
    rw [writeTlyCmd_free hfree]
    have cleared := s.writesRegs_setFld F.TLY_STAT_STAGED 0
    have clear : (s.setFld F.TLY_STAT_STAGED 0).bit F.TLY_STAT_STAGED = false := by rw [State.bit, fld_setFld _ _ _ hwf (by decide)]; rfl
    exact ⟨rfl, bit_raise (s := s.setFld F.TLY_STAT_STAGED 0) (cleared.wf hwf) (by decide) (by decide),
      (bit_setFld_kept (s := s.setFld F.TLY_STAT_STAGED 0) (f := F.TLY_STAT_CMD_BUSY) (by decide) (cleared.wf hwf) 1).trans clear,
      (cleared.trans (writesRegs_setFld _ F.TLY_STAT_CMD_BUSY 1)).but⟩
  case busy =>
    rw [writeTlyCmd_busy hbusy]
    exact ⟨rfl, s.bit_raise hwf (by decide) (by decide), (s.writesRegs_setFld _ _).but⟩

/-- A command register is written while the TALLY domain is ON. -/
theorem tlyCommand_written {k : Instr} (hwf : SMap.wf Reg.resetWord s.regs = true) (hexec : exec k s = .next (s.tlyCommand op)) :
    (s.domOn Dom.tally = true → runs k s (s.tlyWritten op)) ∧ (s.domOn Dom.tally = false → exec k s = .next s) := by
  refine ⟨fun hon => ⟨_, hexec, ?on⟩, fun hoff => ?off⟩
  case on =>
    rw [State.tlyCommand, if_pos hon]
    exact s.writeTlyCmd_written hwf op
  case off => rw [hexec, State.tlyCommand, if_neg (Bool.eq_false_iff.mp hoff)]

/-! ### The end of a command (R280) -/

/-- The result of a command shows, and STAT follows. -/
def resultShown (s : State) (res done staged : Nat) : State :=
  ((((s.setFld F.TLY_CMD_RESULT_RESULT res).setFld F.TLY_CMD_RESULT_DONE_PLANES done).setFld F.TLY_STAT_STAGED staged).setFld
    F.TLY_STAT_CMD_BUSY 0).raise F.TLY_STAT_CMD_DONE

theorem resultShown_stores (s : State) (res done staged : Nat) : Stores
    [F.TLY_CMD_RESULT_RESULT, F.TLY_CMD_RESULT_DONE_PLANES, F.TLY_STAT_STAGED, F.TLY_STAT_CMD_BUSY, F.TLY_STAT_CMD_DONE]
    s (s.resultShown res done staged) :=
  ((((Stores.setFld s _ _).trans (.setFld _ _ _)).trans (.setFld _ _ _)).trans (.setFld _ _ _)).trans (.setFld _ _ _)

theorem resultShown_reads (hwf : SMap.wf Reg.resetWord s.regs = true) (hres : res < 8) (done staged : Nat) :
    (s.resultShown res done staged).fld F.TLY_CMD_RESULT_RESULT = res ∧
    (s.resultShown res done staged).fld F.TLY_CMD_RESULT_DONE_PLANES = done % 2 ^ F.TLY_CMD_RESULT_DONE_PLANES.w ∧
    (s.resultShown res done staged).bit F.TLY_STAT_CMD_BUSY = false ∧ (s.resultShown res done staged).bit F.TLY_STAT_CMD_DONE = true := by
  let s1 := s.setFld F.TLY_CMD_RESULT_RESULT res
  let s2 := s1.setFld F.TLY_CMD_RESULT_DONE_PLANES done
  let s3 := s2.setFld F.TLY_STAT_STAGED staged
  let s4 := s3.setFld F.TLY_STAT_CMD_BUSY 0
  have hwf1 : SMap.wf Reg.resetWord s1.regs = true := s.regsWf_setFld _ _ hwf
  have hwf2 : SMap.wf Reg.resetWord s2.regs = true := s1.regsWf_setFld _ _ hwf1
  have hwf3 : SMap.wf Reg.resetWord s3.regs = true := s2.regsWf_setFld _ _ hwf2
  have hwf4 : SMap.wf Reg.resetWord s4.regs = true := s3.regsWf_setFld _ _ hwf3
  have stat : Stores [F.TLY_STAT_STAGED, F.TLY_STAT_CMD_BUSY, F.TLY_STAT_CMD_DONE] s2 (s4.raise F.TLY_STAT_CMD_DONE) :=
    ((Stores.setFld s2 _ _).trans (.setFld s3 _ _)).trans (.setFld s4 _ _)
  have busy : s4.bit F.TLY_STAT_CMD_BUSY = false := by rw [State.bit, s3.fld_setFld _ _ hwf3 (by decide)]; rfl
  have result : s2.fld F.TLY_CMD_RESULT_RESULT = res :=
    (fld_setFld_kept (s := s1) (by decide) hwf1 _).trans (s.fld_setFld_fits hwf (by decide) hres)
  exact ⟨(stat.kept hwf2 _ (by decide)).trans result, (stat.kept hwf2 _ (by decide)).trans (s1.fld_setFld _ _ hwf1 (by decide)),
    (bit_setFld_kept (s := s4) (f := F.TLY_STAT_CMD_DONE) (by decide) hwf4 1).trans busy, s4.bit_raise hwf4 (by decide) (by decide)⟩

/-- A command has ended with a result and a number of planes processed; where none was, no plane has changed. -/
def tlyEnded (s : State) (op res done : Nat) (t : State) : Prop :=
  t = { s with regs := t.regs, tly := { s.tly with map := t.tly.map, data := t.tly.data, clock := t.tly.clock, cmd := none
                                                   cmdWaits := 0, mv := none } } ∧
  t.fld F.TLY_CMD_RESULT_RESULT = res ∧ t.fld F.TLY_CMD_RESULT_DONE_PLANES = done % 2 ^ F.TLY_CMD_RESULT_DONE_PLANES.w ∧
  t.bit F.TLY_STAT_CMD_BUSY = false ∧ t.bit F.TLY_STAT_CMD_DONE = true ∧
  (regsBut s t fun a => a = F.TLY_CMD_RESULT_RESULT.addr ∨ a = F.TLY_STAT_CMD_BUSY.addr ∨
    (op = 8 ∧ res ≠ 0 ∧ a = F.TLY_ERR_WS.addr)) ∧
  (done = 0 → t.tly.map = s.tly.map ∧ t.tly.data = s.tly.data)

theorem tlyEnd_eq (hstage : ¬(op = 8 ∧ res = 0)) : u.tlyEnd op res done = State.resultShown
    { u with tly := { u.tly with cmd := none, clock := u.tly.clock + 1, cmdWaits := 0, mv := none } } res done (b2n u.tly.staged) := by
  have unstaged : (decide (op = 8) && res == 0) = false := by simpa using hstage
  unfold State.tlyEnd
  rw [unstaged]
  rfl

/-- The end of a command leaves ERR.WS as it was. -/
theorem tlyEnd_errWs (hwf : SMap.wf Reg.resetWord u.regs = true) (hstage : ¬(op = 8 ∧ res = 0)) :
    (u.tlyEnd op res done).bit F.TLY_ERR_WS = u.bit F.TLY_ERR_WS := by
  rw [tlyEnd_eq hstage]
  exact (resultShown_stores { u with tly := { u.tly with cmd := none, clock := u.tly.clock + 1, cmdWaits := 0, mv := none } }
    res done (b2n u.tly.staged)).keptBit hwf (by decide)

/-- A command that is no successful STAGE ends, after it has written nothing but planes, the map and its own state. -/
theorem tlyEnd_ended (hwf : SMap.wf Reg.resetWord s.regs = true)
    (hframe : u = { s with regs := u.regs, tly := { s.tly with map := u.tly.map, data := u.tly.data, cmd := u.tly.cmd
                                                               cmdWaits := u.tly.cmdWaits, mv := u.tly.mv } })
    (hregs : WritesRegs (fun a => op = 8 ∧ res ≠ 0 ∧ a = F.TLY_ERR_WS.addr) s u) (hstage : ¬(op = 8 ∧ res = 0)) (hres : res < 8)
    (hkept : done = 0 → u.tly.map = s.tly.map ∧ u.tly.data = s.tly.data) : s.tlyEnded op res done (u.tlyEnd op res done) := by
  obtain ⟨r, map, data, cmd, waits, mv, rfl⟩ : ∃ r map data cmd waits mv, u = { s with
    regs := r, tly := { s.tly with map := map, data := data, cmd := cmd, cmdWaits := waits, mv := mv } } := ⟨_, _, _, _, _, _, hframe⟩
  rw [tlyEnd_eq hstage]
  let v : State := { s with regs := r, tly := { s.tly with map := map, data := data, clock := s.tly.clock + 1, cmd := none
                                                           cmdWaits := 0, mv := none } }
  have hv : SMap.wf Reg.resetWord v.regs = true := hregs.wf hwf
  change s.tlyEnded op res done (v.resultShown res done (b2n s.tly.staged))
  have stores := v.resultShown_stores res done (b2n s.tly.staged)
  have reads := v.resultShown_reads hv hres done (b2n s.tly.staged)
  generalize v.resultShown res done (b2n s.tly.staged) = t at stores reads
  obtain ⟨result, planes, busy, ended⟩ := reads
  have tly : t.tly = v.tly := by rw [stores.frame]
  refine ⟨by rw [tly, stores.frame], result, planes, busy, ended, ?_, by rw [tly]; exact hkept⟩
  have addr : ∀ f ∈ [F.TLY_CMD_RESULT_RESULT, F.TLY_CMD_RESULT_DONE_PLANES, F.TLY_STAT_STAGED, F.TLY_STAT_CMD_BUSY,
    F.TLY_STAT_CMD_DONE], f.addr = F.TLY_CMD_RESULT_RESULT.addr ∨ f.addr = F.TLY_STAT_CMD_BUSY.addr := by decide
  have shown := stores.regs.mono (V := fun a => a = F.TLY_CMD_RESULT_RESULT.addr ∨ a = F.TLY_STAT_CMD_BUSY.addr ∨
    (op = 8 ∧ res ≠ 0 ∧ a = F.TLY_ERR_WS.addr)) fun _ ⟨f, hf, ha⟩ => ha ▸ (addr f hf).imp_right .inl
  exact ((hregs.mono fun _ h => .inr (.inr h)).trans (shown.of_start rfl)).but

end State
end Sys2Proof.Machine
end

section
/-! SUPPORT. What a Tally command does to its planes where no plane is to be moved (R276, R279, R280, R286), pass by pass and at its
boundary. -/

namespace Sys2Proof.Machine
open Sys2Proof.Spec

variable {s t u : State} {c : TallyCmd} {g : PlaneEnt → PlaneEnt} {wipe : Bool} {vs : List Nat} {op v res done n : Nat}

namespace State

/-! ### Entries that a command changes -/

/-- A plane's entry changes, and with `wipe` its contents go. -/
def tlyMark (s : State) (wipe : Bool) (g : PlaneEnt → PlaneEnt) (v : Nat) : State :=
  (if wipe then s.setPlane v 0 else s).setEnt v (g (s.ent v))

/-- Between two states the entries of some planes have changed, and with `wipe` their contents have gone. -/
structure Marked (wipe : Bool) (g : PlaneEnt → PlaneEnt) (vs : List Nat) (s t : State) : Prop where
  frame : t = { s with tly := { s.tly with map := t.tly.map, data := t.tly.data } }
  wf : TlyWf t
  ent : ∀ v, t.ent v = if v ∈ vs then g (s.ent v) else s.ent v
  plane : ∀ v, t.plane v = if wipe = true ∧ v ∈ vs then 0 else s.plane v
  data : wipe = false → t.tly.data = s.tly.data

theorem tlyMark_ent_other (s : State) (wipe : Bool) (g : PlaneEnt → PlaneEnt) {v w : Nat} (h : w ≠ v) :
    (s.tlyMark wipe g v).ent w = s.ent w := by
  cases wipe
  · exact s.ent_setEnt_other _ h
  · exact (s.setPlane v 0).ent_setEnt_other _ h

theorem tlyMark_marked (hwf : TlyWf s) (wipe : Bool) (g : PlaneEnt → PlaneEnt) (v : Nat) : Marked wipe g [v] s (s.tlyMark wipe g v) := by
  have ent (w : Nat) (hv : (s.tlyMark wipe g v).ent v = g (s.ent v)) :
      (s.tlyMark wipe g v).ent w = if w ∈ [v] then g (s.ent w) else s.ent w := by
    by_cases h : w = v
    · rw [if_pos (List.mem_singleton.mpr h), h, hv]
    · rw [if_neg fun hw => h (List.mem_singleton.mp hw), tlyMark_ent_other s wipe g h]
  cases wipe with
  | false =>
    exact ⟨rfl, hwf.setEnt _ _, fun w => ent w (ent_setEnt_same hwf _ _), fun w => (if_neg fun h => nomatch h.1).symm, fun _ => rfl⟩
  | true =>
    refine ⟨rfl, (hwf.setPlane v 0).setEnt _ _, fun w => ent w (ent_setEnt_same (hwf.setPlane v 0) _ _), fun w => ?_, nofun⟩
    by_cases h : w = v
    · rw [if_pos ⟨rfl, List.mem_singleton.mpr h⟩, h]
      exact plane_setPlane_same hwf v 0
    · rw [if_neg fun hw => h (List.mem_singleton.mp hw.2)]
      exact s.plane_setPlane_other 0 h

theorem Marked.cons (hv : v ∉ vs) (h : Marked wipe g [v] s t) (k : Marked wipe g vs t u) : Marked wipe g (v :: vs) s u where
  frame := by rw [k.frame, h.frame]
  wf := k.wf
  ent w := by
    rw [k.ent, h.ent]
    by_cases hw : w = v
    · simp [hw, hv]
    · simp [hw]
  plane w := by
    rw [k.plane, h.plane]
    by_cases hw : w = v
    · simp only [hw, hv, List.mem_cons, true_or, and_false, if_false]
    · simp only [hw, List.mem_cons, List.not_mem_nil, or_false, false_or, and_false, if_false]
  data hwipe := (k.data hwipe).trans (h.data hwipe)

/-- The entries of a list of planes change, one after the other. -/
def tlyMarks (s : State) (wipe : Bool) (g : PlaneEnt → PlaneEnt) (vs : List Nat) : State := vs.foldl (fun s v => s.tlyMark wipe g v) s

theorem tlyMarks_marked (hwf : TlyWf s) (wipe : Bool) (g : PlaneEnt → PlaneEnt) (hvs : vs.Nodup) :
    Marked wipe g vs s (s.tlyMarks wipe g vs) := by
  induction vs generalizing s with
  | nil => exact ⟨rfl, hwf, fun _ => rfl, fun _ => by simp [tlyMarks], fun _ => rfl⟩
  | cons v vs ih =>
    obtain ⟨hv, hvs⟩ := List.nodup_cons.mp hvs
    have first := tlyMark_marked hwf wipe g v
    exact first.cons hv (ih first.wf hvs)

/-! ### One plane -/

/-- The time of last use that a command other than a pin gives to a plane (R275). -/
def tlyUsed (s : State) (e : PlaneEnt) : Nat := if e.level = .zero then e.used else s.tly.clock

theorem tlyUsed_of_clock (h : u.tly.clock = s.tly.clock) : u.tlyUsed = s.tlyUsed := by
  funext e
  rw [tlyUsed, tlyUsed, h]

section
variable (hstill : (s.ent v).moving = false)
include hstill

theorem tlyPlane_pinB (hlevel : (s.ent v).level = .bench) : s.tlyPlane 1 v =
    (true, true, 0, s.tlyMark false (fun e => { e with pinB := true, used := s.tly.clock }) v) := by
  simp [State.tlyPlane, hstill, hlevel, tlyMark]

theorem tlyPlane_pinY (hlevel : (s.ent v).level ≠ .far) : s.tlyPlane 2 v =
    (true, true, 0, s.tlyMark false (fun e => { e with pinY := true, used := s.tlyUsed e }) v) := by
  simp [State.tlyPlane, hstill, hlevel, tlyMark, tlyUsed]

theorem tlyPlane_unpin : s.tlyPlane 3 v =
    (true, true, 0, s.tlyMark false (fun e => { e with pinB := false, pinY := false, used := s.tlyUsed e }) v) := by
  simp [State.tlyPlane, hstill, tlyMark, tlyUsed]

theorem tlyPlane_prefetch (hlevel : (s.ent v).level ≠ .far) : s.tlyPlane 4 v =
    (true, true, 0, s.tlyMark false (fun e => { e with used := s.tlyUsed e }) v) := by
  simp [State.tlyPlane, hstill, hlevel, tlyMark, tlyUsed]

theorem tlyPlane_spill_none (hlevel : (s.ent v).level = .zero ∨ (s.ent v).level = .far) : s.tlyPlane 5 v =
    (true, true, 0, s.tlyMark false (fun e => { e with pinB := false, pinY := false, used := s.tlyUsed e }) v) := by
  rcases hlevel with h | h <;> simp [State.tlyPlane, hstill, h, tlyMark, tlyUsed]

theorem tlyPlane_adopt (hfar : s.bit F.TLY_CFG_FAR_EN = true) : s.tlyPlane 6 v =
    (true, true, 0, s.tlyMark true (fun _ => { level := .far, used := s.tly.clock }) v) := by
  simp [State.tlyPlane, hstill, hfar, tlyMark, State.dropPlane]

theorem tlyPlane_discard : s.tlyPlane 7 v = (true, true, 0, s.tlyMark true (fun _ => {}) v) := by
  simp [State.tlyPlane, hstill, tlyMark, State.dropPlane]

/-- An ADOPT, and a SPILL of a plane at BENCH or YARD, need the far store. -/
theorem tlyPlane_noFar (hfar : s.bit F.TLY_CFG_FAR_EN = false)
    (hop : op = 6 ∨ op = 5 ∧ ((s.ent v).level = .bench ∨ (s.ent v).level = .yard)) : s.tlyPlane op v = (true, false, 5, s) := by
  rcases hop with rfl | ⟨rfl, hlevel⟩
  · simp [State.tlyPlane, hstill, hfar]
  · simp [State.tlyPlane, hstill, hfar, hlevel]

end

/-! ### One pass -/

/-- A pass in which every plane is finished at once. Each plane is met with its entry, the clock and FAR_EN as they were. -/
theorem tlyPass_marks (hvs : vs.Nodup)
    (h : ∀ u : State, u.tly.clock = s.tly.clock → u.bit F.TLY_CFG_FAR_EN = s.bit F.TLY_CFG_FAR_EN → ∀ v ∈ vs, u.ent v = s.ent v → u.tlyPlane op v = (true, true, 0, u.tlyMark wipe g v)) :
    s.tlyPass op vs = ([], vs.length, 0, s.tlyMarks wipe g vs) := by
  induction vs generalizing s with
  | nil => rfl
  | cons v vs ih =>
    obtain ⟨hv, hvs⟩ := List.nodup_cons.mp hvs
    have clock : (s.tlyMark wipe g v).tly.clock = s.tly.clock := by cases wipe <;> rfl
    have far : (s.tlyMark wipe g v).bit F.TLY_CFG_FAR_EN = s.bit F.TLY_CFG_FAR_EN := by cases wipe <;> rfl
    have rest := ih (s := s.tlyMark wipe g v) hvs fun u hclock hfar w hw hent =>
      h u (hclock.trans clock) (hfar.trans far) w (List.mem_cons_of_mem v hw)
        (hent.trans (tlyMark_ent_other s wipe g fun e => hv (e ▸ hw)))
    simp only [State.tlyPass, h s rfl rfl v List.mem_cons_self rfl, rest]
    rfl

/-- A pass in which every plane is refused with one code. -/
theorem tlyPass_refused (hvs : vs ≠ []) (h : ∀ v ∈ vs, s.tlyPlane op v = (true, false, res, s)) :
    s.tlyPass op vs = ([], 0, res, s) := by
  induction vs with
  | nil => exact absurd rfl hvs
  | cons v vs ih =>
    obtain ⟨hv, hrest⟩ := List.forall_mem_cons.mp h
    cases vs with
    | nil => simp [State.tlyPass, hv, b2n, eq_comm]
    | cons w vs =>
      have rest := ih (List.cons_ne_nil w vs) hrest
      rw [State.tlyPass, hv]
      dsimp only
      rw [rest]
      simp [b2n]

/-! ### The planes of a command -/

theorem mem_planes : v ∈ c.planes ↔ c.start ≤ v ∧ v < c.start + c.count := by
  simp only [TallyCmd.planes, List.mem_map, List.mem_range]
  exact ⟨fun ⟨i, hi, h⟩ => by omega, fun ⟨hlo, hhi⟩ => ⟨v - c.start, by omega, by omega⟩⟩

theorem planes_nodup (c : TallyCmd) : c.planes.Nodup := List.nodup_range.map fun _ _ h => Nat.add_left_cancel h

theorem planes_length (c : TallyCmd) : c.planes.length = c.count := by simp [TallyCmd.planes]

theorem planes_ne_nil (h : 1 ≤ c.count) : c.planes ≠ [] := List.ne_nil_of_length_pos (by rw [planes_length]; exact h)

/-- A condition that as many planes meet as the command has is met by each of them. -/
theorem planes_all {p : PlaneEnt → Bool} (h : c.planes.countP (fun v => p (s.ent v)) = c.count) :
    ∀ v ∈ c.planes, p (s.ent v) = true :=
  List.countP_eq_length.mp (h.trans (planes_length c).symm)

/-! ### The boundary (R276, R280) -/

/-- A command has reached its boundary: nothing executes and no page-in has begun. -/
def onBoundary (s : State) (c : TallyCmd) : Prop :=
  s.trsOn = true ∧ s.trs.queue = [] ∧ s.trs.exec = none ∧ s.trs.head = .fresh ∧ s.tly.cmd = some c ∧ c.acted = false

/-- The command's planes are in range and none of any plane is in a far move; nothing of it is done yet. -/
def tlyStill (s : State) (c : TallyCmd) : Prop :=
  s.bit F.TLY_CFG_MODE = false ∧ c.start + c.count ≤ 65536 ∧ 1 ≤ c.count ∧ c.done = 0 ∧ c.result = 0 ∧
    ∀ p ∈ s.tly.map, p.2.moving = false

/-- No plane that a command meets as it was is in a far move. -/
theorem tlyStill_ent (hstill : s.tlyStill c) {w : Nat} (h : u.ent w = s.ent w) : (u.ent w).moving = false := by
  obtain ⟨_, _, _, _, _, hmap⟩ := hstill
  exact h ▸ ent_still hmap w

/-- At its boundary the command acts, and with no entry queued nothing follows. -/
theorem boundary_runs {p : State → Prop} (hb : s.onBoundary c) (hend : s.tlyEnded op res done (s.benchSettle.tlyAct c))
    (hp : p (s.benchSettle.tlyAct c)) : runs .tlyCmdBoundary s p := by
  obtain ⟨hon, hqueue, hexec, hhead, hcmd, hacted⟩ := hb
  obtain ⟨hframe, _⟩ := hend
  have next : exec .tlyCmdBoundary s = .next ((s.benchSettle.tlyAct c).trsAdvance 65) := by
    change execTlyCmdBoundary s = _
    simp only [execTlyCmdBoundary, hcmd, hon, hexec, hhead, hacted]
    rfl
  have queue : (s.benchSettle.tlyAct c).trs.queue = [] := by rw [hframe]; exact hqueue
  rw [trsAdvance_empty queue] at next
  exact ⟨_, next, hp⟩

/-! ### Commands that are refused whole -/

theorem tlyAct_deterministic (h : s.bit F.TLY_CFG_MODE = true) (c : TallyCmd) : s.tlyAct c = s.tlyEnd c.op 3 0 := if_pos h

section
variable (hmode : s.bit F.TLY_CFG_MODE = false)
include hmode

theorem tlyAct_range (h8 : c.op ≠ 8) (h : c.op = 0 ∨ 8 < c.op ∨ 65536 < c.start + c.count) : s.tlyAct c = s.tlyEnd c.op 4 0 :=
  (if_neg (Bool.eq_false_iff.mp hmode)).trans (if_pos (h.imp_right (.imp_right fun hr => ⟨h8, hr⟩)))

theorem tlyAct_workingSet (h8 : c.op = 8) {i : Fin 16} (hen : s.bit (F.TLY_WSi_A_EN i) = true)
    (hrange : 65536 < s.fld (F.TLY_WSi_A_START i) + s.fld (F.TLY_WSi_B_COUNT i)) :
    s.tlyAct c = (s.raise F.TLY_ERR_WS).tlyEnd c.op 4 0 := by
  have past : (s.wsEntries.any fun e => decide (65536 < e.1 + e.2.1)) = true := by
    refine List.any_eq_true.mpr ⟨_, List.mem_map_of_mem (List.mem_filter.mpr ⟨List.mem_range.mpr i.isLt, hen⟩), ?_⟩
    exact decide_eq_true hrange
  exact (if_neg (Bool.eq_false_iff.mp hmode)).trans ((if_neg (by omega)).trans (if_pos ⟨h8, past⟩))

section
variable (hrange : c.start + c.count ≤ 65536)
include hrange

theorem tlyAct_pins (hop : c.op = 1 ∨ c.op = 2) (hpins : s.pinsFit c.op c.planes = false) : s.tlyAct c = s.tlyEnd c.op 1 0 := by
  have h8 : c.op ≠ 8 := by omega
  refine (if_neg (Bool.eq_false_iff.mp hmode)).trans ((if_neg (by omega)).trans ((if_neg fun h => h8 h.1).trans ?_))
  simp [h8, hop, hpins, State.raiseIf]

theorem tlyAct_acts (hop : 1 ≤ c.op ∧ c.op ≤ 7) (hpins : c.op = 1 ∨ c.op = 2 → s.pinsFit c.op c.planes = true) :
    s.tlyAct c = State.tlyWork { s with tly := { s.tly with cmd := some { c with acted := true, todo := c.planes } } } := by
  have h8 : c.op ≠ 8 := by omega
  refine (if_neg (Bool.eq_false_iff.mp hmode)).trans ((if_neg (by omega)).trans ((if_neg fun h => h8 h.1).trans ?_))
  have fits : ¬((c.op = 1 ∨ c.op = 2) ∧ s.pinsFit c.op c.planes = false) := fun ⟨h, hno⟩ => by simp [hpins h] at hno
  simp [h8, fits]

end
end

/-- A command that all planes of one pass finish has ended. -/
theorem tlyWork_ends (hcmd : s.tly.cmd = some c) (hacted : c.acted = true) (hresult : c.result = 0) (hdone : c.done = 0)
    (hpass : State.tlyPass { s with tly := { s.tly with cmdWaits := 0 } } c.op c.todo = ([], n, res, u)) :
    s.tlyWork = u.tlyEnd c.op res n := by
  unfold State.tlyWork
  split
  next h => exact nomatch hcmd.symm.trans h
  next d h =>
    obtain rfl : c = d := Option.some.inj (hcmd.symm.trans h)
    rw [if_neg (by simp [hacted]), hpass]
    simp [hresult, hdone]

/-- The state in which a command that has reached its boundary passes over its planes. -/
def tlyActing (s : State) (c : TallyCmd) : State :=
  { s with tly := { s.tly with mv := none, cmd := some { c with acted := true, todo := c.planes }, cmdWaits := 0 } }

theorem tlyAct_passes (hstill : s.tlyStill c) (hop : 1 ≤ c.op ∧ c.op ≤ 7)
    (hpins : c.op = 1 ∨ c.op = 2 → s.pinsFit c.op c.planes = true)
    (hpass : (s.tlyActing c).tlyPass c.op c.planes = ([], n, res, u)) : s.benchSettle.tlyAct c = u.tlyEnd c.op res n := by
  obtain ⟨hmode, hrange, _, hdone, hresult, _⟩ := hstill
  rw [tlyAct_acts (s := s.benchSettle) hmode hrange hop hpins]
  exact tlyWork_ends (c := { c with acted := true, todo := c.planes }) rfl rfl hresult hdone hpass

/-- Planes with a PIN_B pin, and without `b` those with a PIN_Y pin too. -/
def tlyPins (s : State) (b : Bool) : Nat := s.tly.map.countP fun p => p.2.pinB || (!b && p.2.pinY)

/-- The pin limits hold after a command that adds pins to its planes: PIN_B pins, with `b`, or PIN_Y (R276). -/
def tlyFits (s : State) (c : TallyCmd) (b : Bool) : Prop :=
  s.tlyPins true + (if b then c.planes.countP fun v => !(s.ent v).pinB else 0) ≤ 224 ∧
    s.tlyPins false + (c.planes.countP fun v => !(s.ent v).pinB && !(s.ent v).pinY) ≤ 4032

theorem pinsFit_iff (hop : c.op = 1 ∨ c.op = 2) : s.pinsFit c.op c.planes = true ↔ s.tlyFits c (c.op == 1) := by
  rw [State.pinsFit, tlyFits]
  dsimp only [State.pinCounts]
  rw [Bool.and_eq_true, decide_eq_true_eq, decide_eq_true_eq]
  rcases hop with h | h <;> simp [h, tlyPins]

/-! ### How commands end -/

/-- A command has ended that processed all its planes: their entries have changed, and no contents. -/
def tlyEnts (s : State) (c : TallyCmd) (g : PlaneEnt → PlaneEnt) (t : State) : Prop :=
  s.tlyEnded c.op 0 c.count t ∧ (∀ v : Fin 65536,
    t.ent v = (if c.start ≤ v ∧ v < c.start + c.count then g (s.ent v) else s.ent v)) ∧ t.tly.data = s.tly.data

/-- A command has ended that processed all its planes: they have one entry, and their contents are gone. -/
def tlyGone (s : State) (c : TallyCmd) (e : PlaneEnt) (t : State) : Prop :=
  s.tlyEnded c.op 0 c.count t ∧ ∀ v : Fin 65536,
    t.ent v = (if c.start ≤ v ∧ v < c.start + c.count then e else s.ent v) ∧
    t.plane v = if c.start ≤ v ∧ v < c.start + c.count then 0 else s.plane v

section
variable (hmem : s.memWf = true) (hb : s.onBoundary c)
include hmem hb

/-- A command refused whole, with nothing written before its result. -/
theorem boundary_refused (hact : s.benchSettle.tlyAct c = s.benchSettle.tlyEnd c.op res 0) (hstage : ¬(c.op = 8 ∧ res = 0))
    (hres : res < 8) : runs .tlyCmdBoundary s (s.tlyEnded c.op res 0) := by
  have ended : s.tlyEnded c.op res 0 (s.benchSettle.tlyAct c) := by
    rw [hact]
    exact tlyEnd_ended (regsWf_of_memWf hmem) rfl (.of_regs_eq rfl) hstage hres fun _ => ⟨rfl, rfl⟩
  exact boundary_runs hb ended ended

/-- A STAGE whose working set passes the last plane. -/
theorem boundary_workingSet (hact : s.benchSettle.tlyAct c = (s.benchSettle.raise F.TLY_ERR_WS).tlyEnd c.op 4 0) (h8 : c.op = 8) :
    runs .tlyCmdBoundary s fun t => s.tlyEnded c.op 4 0 t ∧ t.bit F.TLY_ERR_WS = true := by
  have hwf := regsWf_of_memWf hmem
  have raised : WritesRegs (fun a => c.op = 8 ∧ 4 ≠ 0 ∧ a = F.TLY_ERR_WS.addr) s (s.benchSettle.raise F.TLY_ERR_WS) :=
    (WritesRegs.setFld s.benchSettle F.TLY_ERR_WS 1 ⟨h8, by decide, rfl⟩).of_start rfl
  have ended : s.tlyEnded c.op 4 0 (s.benchSettle.tlyAct c) := by
    rw [hact]
    exact tlyEnd_ended hwf rfl raised (by omega) (by decide) fun _ => ⟨rfl, rfl⟩
  have shown : (s.benchSettle.tlyAct c).bit F.TLY_ERR_WS = true := by
    rw [hact, tlyEnd_errWs (raised.wf hwf) (by omega)]
    exact bit_raise (s := s.benchSettle) hwf (by decide) (by decide)
  exact boundary_runs hb ended ⟨ended, shown⟩

section
variable (hstill : s.tlyStill c) (hop : 1 ≤ c.op ∧ c.op ≤ 7) (hpins : c.op = 1 ∨ c.op = 2 → s.pinsFit c.op c.planes = true)
include hstill hop hpins

/-- A command whose planes are all refused with one code changes none of them. -/
theorem boundary_planesRefused (hres : res < 8)
    (hplane : ∀ v ∈ c.planes, (s.tlyActing c).tlyPlane c.op v = (true, false, res, s.tlyActing c)) :
    runs .tlyCmdBoundary s (s.tlyEnded c.op res 0) := by
  have ⟨_, _, hcount, _⟩ := hstill
  have ended : s.tlyEnded c.op res 0 (s.benchSettle.tlyAct c) := by
    rw [tlyAct_passes hstill hop hpins (tlyPass_refused (planes_ne_nil hcount) hplane)]
    exact tlyEnd_ended (regsWf_of_memWf hmem) rfl (.of_regs_eq rfl) (by omega) hres fun _ => ⟨rfl, rfl⟩
  exact boundary_runs hb ended ended

/-- A command whose planes are all finished at once has changed their entries, and with `wipe` cleared their contents. -/
theorem boundary_marks (hplane : ∀ u : State, u.tly.clock = s.tly.clock → u.bit F.TLY_CFG_FAR_EN = s.bit F.TLY_CFG_FAR_EN →
      ∀ v ∈ c.planes, u.ent v = s.ent v → u.tlyPlane c.op v = (true, true, 0, u.tlyMark wipe g v)) :
    runs .tlyCmdBoundary s fun t => s.tlyEnded c.op 0 c.count t ∧
      (∀ v, t.ent v = if c.start ≤ v ∧ v < c.start + c.count then g (s.ent v) else s.ent v) ∧
      (∀ v, t.plane v = if wipe = true ∧ c.start ≤ v ∧ v < c.start + c.count then 0 else s.plane v) ∧
      (wipe = false → t.tly.data = s.tly.data) := by
  have ⟨_, _, hcount, _⟩ := hstill
  have hwf : TlyWf s := tlyWf_of_memWf hmem
  have marked := tlyMarks_marked (s := s.tlyActing c) ⟨hwf.map, hwf.data⟩ wipe g (planes_nodup c)
  have act := tlyAct_passes hstill hop hpins (tlyPass_marks (planes_nodup c) hplane)
  rw [planes_length] at act
  generalize (s.tlyActing c).tlyMarks wipe g c.planes = u at marked act
  have ended : s.tlyEnded c.op 0 c.count (s.benchSettle.tlyAct c) := by
    rw [act]
    refine tlyEnd_ended (regsWf_of_memWf hmem) ?_ (.of_regs_eq ?_) (by omega) (by decide) (by omega)
    · rw [marked.frame]
      rfl
    · rw [marked.frame]
      rfl
  refine boundary_runs hb ended ⟨ended, ?_⟩
  have map : (u.tlyEnd c.op 0 c.count).tly.map = u.tly.map := rfl
  have data : (u.tlyEnd c.op 0 c.count).tly.data = u.tly.data := rfl
  rw [act]
  simp only [← mem_planes]
  exact ⟨fun v => (ent_of_map map v).trans (marked.ent v), fun v => (plane_of_data data v).trans (marked.plane v),
    fun hwipe => data.trans (marked.data hwipe)⟩

/-- Entries change, and no contents. -/
theorem boundary_ents (hplane : ∀ u : State, u.tly.clock = s.tly.clock → ∀ v ∈ c.planes, u.ent v = s.ent v →
      u.tlyPlane c.op v = (true, true, 0, u.tlyMark false g v)) :
    runs .tlyCmdBoundary s (s.tlyEnts c g) := by
  obtain ⟨t, next, ended, ent, _, data⟩ := boundary_marks hmem hb hstill hop hpins fun u hclock _ => hplane u hclock
  exact ⟨t, next, ended, fun v => ent v, data rfl⟩

/-- Planes get one entry, and their contents go. -/
theorem boundary_gone {e : PlaneEnt} (hplane : ∀ u : State, u.tly.clock = s.tly.clock →
      u.bit F.TLY_CFG_FAR_EN = s.bit F.TLY_CFG_FAR_EN → ∀ v ∈ c.planes, u.ent v = s.ent v →
      u.tlyPlane c.op v = (true, true, 0, u.tlyMark true (fun _ => e) v)) :
    runs .tlyCmdBoundary s (s.tlyGone c e) := by
  obtain ⟨t, next, ended, ent, plane, _⟩ := boundary_marks hmem hb hstill hop hpins hplane
  simp only [true_and] at plane
  exact ⟨t, next, ended, fun v => ⟨ent v, plane v⟩⟩

end

/-- Pins beyond the limits are refused whole (R276). -/
theorem boundary_pinsOver (hstill : s.tlyStill c) (hop : c.op = 1 ∨ c.op = 2) (hover : ¬s.tlyFits c (c.op == 1)) :
    runs .tlyCmdBoundary s (s.tlyEnded c.op 1 0) := by
  obtain ⟨hmode, hrange, _⟩ := hstill
  have refused : s.benchSettle.pinsFit c.op c.planes = false := Bool.eq_false_iff.mpr fun h => hover ((pinsFit_iff hop).mp h)
  exact boundary_refused hmem hb (tlyAct_pins (s := s.benchSettle) hmode hrange hop refused) (by omega) (by decide)

section
variable (hstill : s.tlyStill c)
include hstill

theorem boundary_pinB (hop : c.op = 1) (hfits : s.tlyFits c true) (hlevel : ∀ v ∈ c.planes, (s.ent v).level = .bench) :
    runs .tlyCmdBoundary s (s.tlyEnts c fun e => { e with pinB := true, used := s.tly.clock }) := by
  have fit : s.pinsFit c.op c.planes = true := (pinsFit_iff (.inl hop)).mpr (by rw [hop]; exact hfits)
  refine boundary_ents hmem hb hstill (by omega) (fun _ => fit) fun u hclock v hv hent => ?_
  rw [hop, tlyPlane_pinB (tlyStill_ent hstill hent) (hent ▸ hlevel v hv), hclock]

theorem boundary_pinY (hop : c.op = 2) (hfits : s.tlyFits c false) (hlevel : ∀ v ∈ c.planes, (s.ent v).level ≠ .far) :
    runs .tlyCmdBoundary s (s.tlyEnts c fun e => { e with pinY := true, used := s.tlyUsed e }) := by
  have fit : s.pinsFit c.op c.planes = true := (pinsFit_iff (.inr hop)).mpr (by rw [hop]; exact hfits)
  refine boundary_ents hmem hb hstill (by omega) (fun _ => fit) fun u hclock v hv hent => ?_
  rw [hop, tlyPlane_pinY (tlyStill_ent hstill hent) (hent ▸ hlevel v hv), tlyUsed_of_clock hclock]

theorem boundary_unpin (hop : c.op = 3) :
    runs .tlyCmdBoundary s (s.tlyEnts c fun e => { e with pinB := false, pinY := false, used := s.tlyUsed e }) := by
  refine boundary_ents hmem hb hstill (by omega) (by omega) fun u hclock v hv hent => ?_
  rw [hop, tlyPlane_unpin (tlyStill_ent hstill hent), tlyUsed_of_clock hclock]

theorem boundary_prefetch (hop : c.op = 4) (hlevel : ∀ v ∈ c.planes, (s.ent v).level ≠ .far) :
    runs .tlyCmdBoundary s (s.tlyEnts c fun e => { e with used := s.tlyUsed e }) := by
  refine boundary_ents hmem hb hstill (by omega) (by omega) fun u hclock v hv hent => ?_
  rw [hop, tlyPlane_prefetch (tlyStill_ent hstill hent) (hent ▸ hlevel v hv), tlyUsed_of_clock hclock]

theorem boundary_spill_none (hop : c.op = 5) (hlevel : ∀ v ∈ c.planes, (s.ent v).level = .zero ∨ (s.ent v).level = .far) :
    runs .tlyCmdBoundary s (s.tlyEnts c fun e => { e with pinB := false, pinY := false, used := s.tlyUsed e }) := by
  refine boundary_ents hmem hb hstill (by omega) (by omega) fun u hclock v hv hent => ?_
  rw [hop, tlyPlane_spill_none (tlyStill_ent hstill hent) (hent ▸ hlevel v hv), tlyUsed_of_clock hclock]

theorem boundary_adopt (hop : c.op = 6) (hfar : s.bit F.TLY_CFG_FAR_EN = true) :
    runs .tlyCmdBoundary s (s.tlyGone c { level := .far, used := s.tly.clock }) := by
  refine boundary_gone hmem hb hstill (by omega) (by omega) fun u hclock hfarU v hv hent => ?_
  rw [hop, tlyPlane_adopt (tlyStill_ent hstill hent) (hfarU.trans hfar), hclock]

theorem boundary_discard (hop : c.op = 7) : runs .tlyCmdBoundary s (s.tlyGone c {}) := by
  refine boundary_gone hmem hb hstill (by omega) (by omega) fun u _ _ v hv hent => ?_
  rw [hop, tlyPlane_discard (tlyStill_ent hstill hent)]

/-- Without FAR_EN an ADOPT, and a SPILL of planes at BENCH and YARD, ends with NO_FAR. -/
theorem boundary_noFar (hfar : s.bit F.TLY_CFG_FAR_EN = false)
    (hop : c.op = 6 ∨ c.op = 5 ∧ ∀ v ∈ c.planes, (s.ent v).level = .bench ∨ (s.ent v).level = .yard) :
    runs .tlyCmdBoundary s (s.tlyEnded c.op 5 0) := by
  have still {v : Nat} : ((s.tlyActing c).ent v).moving = false := tlyStill_ent hstill rfl
  refine boundary_planesRefused hmem hb hstill (by omega) (by omega) (by decide) fun v hv => ?_
  exact tlyPlane_noFar still hfar (hop.imp_right (.imp_right fun hlevel => hlevel v hv))

end
end

end State
end Sys2Proof.Machine
end

section
/-! SUPPORT. The end of a far move (R272, R274, R287, R291), and the obligation about Tally's commands and far moves. -/

namespace Sys2Proof.Machine
open Sys2Proof.Spec

variable {s t u : State} {c : TallyCmd} {m : FarMove} {ms : List FarMove} {stall before : Nat}

namespace State

/-! ### The page-in stall (R274) -/

theorem addStall_none (h : s.stalls = false) (n : Nat) : s.addStall n = s := if_neg (Bool.eq_false_iff.mp h)

theorem addStallBefore_none (h : s.stalls = false) (n : Nat) : s.addStallBefore n = s := if_neg (Bool.eq_false_iff.mp h)

theorem addStall_counts (h : s.stalls = true) (n : Nat) :
    s.addStall n = (s.addSat F.TLY_STALL_FRAME n).addSat F.TLY_STALL_TOTAL n := if_pos h

theorem addStallBefore_counts (h : s.stalls = true) (n : Nat) :
    s.addStallBefore n = (s.addSat F.TLY_STALL_LAST n).addSat F.TLY_STALL_TOTAL n := if_pos h

theorem stalls_idle (h : s.trs.exec = none) : s.stalls = !s.trs.queue.isEmpty := by
  unfold State.stalls
  rw [h]

/-- The bench move that was issued last has ended, and the stall met since is counted. -/
def farStalled (s : State) (stall before : Nat) : State := (s.benchSettle.addStallBefore before).addStall stall

theorem farStalled_empty (hexec : s.trs.exec = none) (hqueue : s.trs.queue = []) (stall before : Nat) :
    s.farStalled stall before = s.benchSettle := by
  have none : s.benchSettle.stalls = false := by
    rw [stalls_idle (s := s.benchSettle) hexec]
    exact congrArg (fun q : List MacroWord => !q.isEmpty) hqueue
  rw [farStalled, addStallBefore_none none, addStall_none none]

/-- Where the head waits, the time is counted: before the frame end, in the frame, and in all. -/
structure Stalled (s t : State) (stall before : Nat) : Prop where
  frame : t = { s with regs := t.regs, tly := { s.tly with mv := none } }
  last : t.fld F.TLY_STALL_LAST = min (2 ^ F.TLY_STALL_LAST.w - 1) (s.fld F.TLY_STALL_LAST + before)
  inFrame : t.fld F.TLY_STALL_FRAME = min (2 ^ F.TLY_STALL_FRAME.w - 1) (s.fld F.TLY_STALL_FRAME + stall)
  total : t.fld F.TLY_STALL_TOTAL = min (2 ^ F.TLY_STALL_TOTAL.w - 1) (s.fld F.TLY_STALL_TOTAL + (before + stall))

theorem farStalled_waiting (hwf : SMap.wf Reg.resetWord s.regs = true) (hexec : s.trs.exec = none) (hqueue : s.trs.queue ≠ [])
    (stall before : Nat) : Stalled s (s.farStalled stall before) stall before := by
  have waits (r : State) (h : r.trs = s.trs) : r.stalls = true := by
    rw [stalls_idle (by rw [h]; exact hexec), h]
    simpa using hqueue
  let s1 := s.benchSettle.addSat F.TLY_STALL_LAST before
  let s2 := s1.addSat F.TLY_STALL_TOTAL before
  let s3 := s2.addSat F.TLY_STALL_FRAME stall
  let s4 := s3.addSat F.TLY_STALL_TOTAL stall
  have counted : s.farStalled stall before = s4 := by
    rw [farStalled, addStallBefore_counts (waits s.benchSettle rfl)]
    exact addStall_counts (s := s2) (waits s2 rfl) stall
  have hwf1 : SMap.wf Reg.resetWord s1.regs = true := s.benchSettle.regsWf_setFld _ _ hwf
  have hwf2 : SMap.wf Reg.resetWord s2.regs = true := s1.regsWf_setFld _ _ hwf1
  have hwf3 : SMap.wf Reg.resetWord s3.regs = true := s2.regsWf_setFld _ _ hwf2
  have step1 : Stores [F.TLY_STALL_LAST] s.benchSettle s1 := .setFld _ _ _
  have step2 : Stores [F.TLY_STALL_TOTAL] s1 s2 := .setFld _ _ _
  have step3 : Stores [F.TLY_STALL_FRAME] s2 s3 := .setFld _ _ _
  have step4 : Stores [F.TLY_STALL_TOTAL] s3 s4 := .setFld _ _ _
  have last : s4.fld F.TLY_STALL_LAST = s1.fld F.TLY_STALL_LAST := (step2.trans (step3.trans step4)).kept hwf1 _ (by decide)
  have inFrame : s4.fld F.TLY_STALL_FRAME = s3.fld F.TLY_STALL_FRAME := step4.kept hwf3 _ (by decide)
  have frameWas : s2.fld F.TLY_STALL_FRAME = s.fld F.TLY_STALL_FRAME := (step1.trans step2).kept hwf _ (by decide)
  have total : s3.fld F.TLY_STALL_TOTAL = s2.fld F.TLY_STALL_TOTAL := step3.kept hwf2 _ (by decide)
  have totalWas : s1.fld F.TLY_STALL_TOTAL = s.fld F.TLY_STALL_TOTAL := step1.kept hwf _ (by decide)
  rw [counted]
  refine ⟨(step1.trans (step2.trans (step3.trans step4))).frame, ?_, ?_, ?_⟩
  · rw [last, min_comm]
    exact s.benchSettle.fld_addSat F.TLY_STALL_LAST before hwf (by decide)
  · rw [inFrame, min_comm, ← frameWas]
    exact s2.fld_addSat F.TLY_STALL_FRAME stall hwf2 (by decide)
  · have first : s2.fld F.TLY_STALL_TOTAL = _ := s1.fld_addSat F.TLY_STALL_TOTAL before hwf1 (by decide)
    have second : s4.fld F.TLY_STALL_TOTAL = _ := s3.fld_addSat F.TLY_STALL_TOTAL stall hwf3 (by decide)
    rw [second, total, first, totalWas]
    omega

/-! ### The move's plane (R272, R287, R291) -/

/-- The oldest move has left the list, and its plane has an entry and contents. -/
def farPlaced (s : State) (m : FarMove) (ms : List FarMove) (e : PlaneEnt) (x : Plane) : State :=
  (State.setPlane { s with tly := { s.tly with moves := ms } } m.plane x).setEnt m.plane e

theorem farPlaced_regs (s : State) (m : FarMove) (ms : List FarMove) (e : PlaneEnt) (x : Plane) :
    (s.farPlaced m ms e x).regs = s.regs := rfl

/-- What a move leaves that has ended: its plane is placed, and every other keeps its entry and contents. -/
structure Placed (s t : State) (m : FarMove) (ms : List FarMove) (e : PlaneEnt) (x : Plane) : Prop where
  frame : t = { s with regs := t.regs, tly := { s.tly with moves := ms, map := t.tly.map, data := t.tly.data, mv := none } }
  other : ∀ v, v ≠ m.plane → t.ent v = s.ent v ∧ t.plane v = s.plane v
  ent : t.ent m.plane = e
  plane : t.plane m.plane = x

theorem Placed.of_regs {e : PlaneEnt} {x : Plane} (h : Placed s u m ms e x) (k : t = { u with regs := t.regs }) :
    Placed s t m ms e x := by
  have tly : t.tly = u.tly := by rw [k]
  refine ⟨?_, ?_, ?_, ?_⟩
  · rw [tly, k, h.frame]
  · rw [k]
    exact h.other
  · rw [k]
    exact h.ent
  · rw [k]
    exact h.plane

theorem farPlaced_placed (hwf : TlyWf s) (h : u = { s with regs := u.regs, tly := { s.tly with mv := none } }) (m : FarMove)
    (ms : List FarMove) (e : PlaneEnt) (x : Plane) : Placed s (u.farPlaced m ms e x) m ms e x := by
  obtain ⟨r, rfl⟩ : ∃ r, u = { s with regs := r, tly := { s.tly with mv := none } } := ⟨_, h⟩
  let u : State := { s with regs := r, tly := { s.tly with moves := ms, mv := none } }
  have hu : TlyWf u := ⟨hwf.map, hwf.data⟩
  exact ⟨rfl, fun v hv => ⟨ent_setEnt_other (u.setPlane m.plane x) e hv, u.plane_setPlane_other x hv⟩,
    ent_setEnt_same (hu.setPlane m.plane x) m.plane e, plane_setPlane_same hu m.plane x⟩

section
variable (hmoves : s.tly.moves = m :: ms)
include hmoves

theorem farDone_stored (hok : m.code = .ok) (hto : m.toFar = true) :
    s.farDone = s.farPlaced m ms { s.ent m.plane with level := .far, slot := 0, moving := false } 0 := by
  unfold State.farDone
  rw [hmoves]
  dsimp only
  rw [if_neg (not_not_intro hok), if_pos hto]
  rfl

theorem farDone_fetched (hok : m.code = .ok) (hto : m.toFar = false) :
    s.farDone = s.farPlaced m ms { s.ent m.plane with level := .yard, slot := m.slot, moving := false } (s.farPlane m) := by
  unfold State.farDone
  rw [hmoves]
  dsimp only
  rw [if_neg (not_not_intro hok), if_neg (Bool.eq_false_iff.mp hto)]
  rfl

end

/-- A far move that aborted is counted, and the first is captured. -/
def poisonNoted (s : State) (m : FarMove) : State :=
  let s := s.inc F.TLY_POISON_CNT
  if s.bit F.TLY_POISON_PLANE_VALID then s
  else
    ((s.setFld F.TLY_POISON_PLANE_PLANE m.plane).setFld F.TLY_POISON_PLANE_CAUSE (respCode m.code)).raise F.TLY_POISON_PLANE_VALID

theorem farDone_aborted (hmoves : s.tly.moves = m :: ms) (hcmd : s.tly.cmd = none) (hbad : m.code ≠ .ok) : s.farDone =
    (s.farPlaced m ms { s.ent m.plane with level := .far, slot := 0, moving := false, poison := true } 0).poisonNoted m := by
  have noSpill : State.spillFailed { s with tly := { s.tly with moves := ms } } m.plane =
      { s with tly := { s.tly with moves := ms } } := by
    unfold State.spillFailed
    dsimp only
    rw [hcmd]
  unfold State.farDone
  rw [hmoves]
  dsimp only
  rw [if_pos hbad]
  unfold State.farAbort
  rw [noSpill]
  rfl

/-- What shows after a far move that aborted. -/
structure PoisonNoted (s t : State) (m : FarMove) : Prop where
  count : t.fld F.TLY_POISON_CNT = (s.fld F.TLY_POISON_CNT + 1) % 2 ^ F.TLY_POISON_CNT.w
  valid : t.bit F.TLY_POISON_PLANE_VALID = true
  first : s.bit F.TLY_POISON_PLANE_VALID = false →
    t.fld F.TLY_POISON_PLANE_PLANE = m.plane % 2 ^ F.TLY_POISON_PLANE_PLANE.w ∧ t.fld F.TLY_POISON_PLANE_CAUSE = respCode m.code

theorem respCode_lt (r : RespCode) : respCode r < 8 := by cases r <;> decide

theorem poisonNoted_frame (s : State) (m : FarMove) : s.poisonNoted m = { s with regs := (s.poisonNoted m).regs } := by
  unfold poisonNoted
  dsimp only
  split
  · rfl
  · exact (((Stores.setFld s _ _).trans (.setFld _ _ _)).trans (.setFld _ _ _)).trans (.setFld _ _ _) |>.frame

/-- Only the register file of the first state matters. -/
theorem PoisonNoted.of_start (h : PoisonNoted u t m) (hregs : u.regs = s.regs) : PoisonNoted s t m where
  count := fld_of_regs hregs F.TLY_POISON_CNT ▸ h.count
  valid := h.valid
  first hvalid := h.first ((bit_eq_of_fld_eq (fld_of_regs hregs _)).trans hvalid)

theorem poisonNoted_noted (hwf : SMap.wf Reg.resetWord s.regs = true) (m : FarMove) : PoisonNoted s (s.poisonNoted m) m := by
  let s1 := s.inc F.TLY_POISON_CNT
  have hwf1 : SMap.wf Reg.resetWord s1.regs = true := s.regsWf_setFld _ _ hwf
  have count : s1.fld F.TLY_POISON_CNT = _ := s.fld_inc F.TLY_POISON_CNT hwf (by decide)
  have valid : s1.bit F.TLY_POISON_PLANE_VALID = s.bit F.TLY_POISON_PLANE_VALID := bit_setFld_kept (by decide) hwf _
  by_cases hvalid : s1.bit F.TLY_POISON_PLANE_VALID = true
  · have noted : s.poisonNoted m = s1 := if_pos hvalid
    rw [noted]
    exact ⟨count, hvalid, fun h => absurd (valid.symm.trans hvalid) (Bool.eq_false_iff.mp h)⟩
  · let s2 := s1.setFld F.TLY_POISON_PLANE_PLANE m.plane
    let s3 := s2.setFld F.TLY_POISON_PLANE_CAUSE (respCode m.code)
    have noted : s.poisonNoted m = s3.raise F.TLY_POISON_PLANE_VALID := if_neg hvalid
    have hwf2 : SMap.wf Reg.resetWord s2.regs = true := s1.regsWf_setFld _ _ hwf1
    have hwf3 : SMap.wf Reg.resetWord s3.regs = true := s2.regsWf_setFld _ _ hwf2
    have captured : Stores [F.TLY_POISON_PLANE_PLANE, F.TLY_POISON_PLANE_CAUSE, F.TLY_POISON_PLANE_VALID] s1
      (s3.raise F.TLY_POISON_PLANE_VALID) := ((Stores.setFld s1 _ _).trans (.setFld s2 _ _)).trans (.setFld s3 _ _)
    have plane : s2.fld F.TLY_POISON_PLANE_PLANE = _ := s1.fld_setFld F.TLY_POISON_PLANE_PLANE m.plane hwf1 (by decide)
    have cause : s3.fld F.TLY_POISON_PLANE_CAUSE = _ := s2.fld_setFld_fits hwf2 (by decide) (respCode_lt m.code)
    rw [noted]
    exact ⟨(captured.kept hwf1 _ (by decide)).trans count, s3.bit_raise hwf3 (by decide) (by decide), fun _ =>
      ⟨((fld_setFld_kept (by decide) hwf3 _).trans (fld_setFld_kept (by decide) hwf2 _)).trans plane,
        (fld_setFld_kept (by decide) hwf3 _).trans cause⟩⟩

/-! ### The end of the oldest move -/

/-- The oldest far move has all its answers, while no command waits and nothing executes. -/
def farWaits (s : State) (m : FarMove) (ms : List FarMove) : Prop :=
  s.domOn Dom.tally = true ∧ s.tly.moves = m :: ms ∧ m.left = 0 ∧ s.tly.cmd = none ∧ s.trs.exec = none

theorem tlyWork_none (h : s.tly.cmd = none) : s.tlyWork = s := by
  unfold State.tlyWork
  rw [h]

theorem loadlStep_none (h : s.trs.exec = none) : s.loadlStep = s := by
  unfold State.loadlStep
  rw [h]

/-- The move ends, and neither a command nor the head of the queue goes on. -/
theorem farMoveComplete_runs {e : PlaneEnt} {x : Plane} {p : State → Prop} (hans : s.farWaits m ms)
    (hquiet : s.trs.queue = [] ∨ s.trsOn = false) (hend : (s.farStalled stall before).farDone = t) (hplaced : Placed s t m ms e x)
    (hp : p t) : runs (.farMoveComplete stall before) s p := by
  obtain ⟨hon, hmoves, hleft, hcmd, hexec⟩ := hans
  have answered : s.farAnswered = true := by simp [State.farAnswered, hmoves, hleft]
  have due : (s.domOn Dom.tally && s.farAnswered) = true := by rw [hon, answered]; rfl
  have next : exec (.farMoveComplete stall before) s =
    .next ((((s.farStalled stall before).farDone).tlyWork.loadlStep).trsAdvance 65) := if_pos due
  rw [hend] at next
  have trs : t.trs = s.trs := by rw [hplaced.frame]
  have cmd : t.tly.cmd = none := by rw [hplaced.frame]; exact hcmd
  have on : t.trsOn = s.trsOn := by rw [hplaced.frame]; rfl
  have rest : t.trsAdvance 65 = t := by
    rcases hquiet with h | h
    · exact trsAdvance_empty (trs ▸ h) _
    · exact trsAdvance_off (on.trans h) _
  rw [tlyWork_none cmd, loadlStep_none (trs ▸ hexec), rest] at next
  exact ⟨t, next, hp⟩

section
variable (hmem : s.memWf = true) (hans : s.farWaits m ms)
include hmem hans

section
variable (hqueue : s.trs.queue = [])
include hqueue

/-- A write-back that is answered leaves its plane at FAR. -/
theorem farMove_stored (hok : m.code = .ok) (hto : m.toFar = true) : runs (.farMoveComplete stall before) s fun t =>
    Placed s t m ms { s.ent m.plane with level := .far, slot := 0, moving := false } 0 ∧ t.regs = s.regs := by
  have ⟨_, hmoves, _, _, hexec⟩ := hans
  have placed := farPlaced_placed (tlyWf_of_memWf hmem) (u := s.benchSettle) rfl m ms
    { s.ent m.plane with level := .far, slot := 0, moving := false } 0
  refine farMoveComplete_runs hans (.inl hqueue) ?_ placed ⟨placed, farPlaced_regs s.benchSettle m ms _ _⟩
  rw [farStalled_empty hexec hqueue]
  exact farDone_stored hmoves hok hto

/-- A far read that is answered leaves its plane at YARD with the data read. -/
theorem farMove_fetched (hok : m.code = .ok) (hto : m.toFar = false) : runs (.farMoveComplete stall before) s fun t =>
    Placed s t m ms { s.ent m.plane with level := .yard, slot := m.slot, moving := false } (s.farPlane m) ∧ t.regs = s.regs := by
  have ⟨_, hmoves, _, _, hexec⟩ := hans
  have placed := farPlaced_placed (tlyWf_of_memWf hmem) (u := s.benchSettle) rfl m ms
    { s.ent m.plane with level := .yard, slot := m.slot, moving := false } (s.farPlane m)
  refine farMoveComplete_runs hans (.inl hqueue) ?_ placed ⟨placed, farPlaced_regs s.benchSettle m ms _ _⟩
  rw [farStalled_empty hexec hqueue]
  exact farDone_fetched hmoves hok hto

/-- A far move that aborts leaves its plane poisoned at FAR. -/
theorem farMove_aborted (hbad : m.code ≠ .ok) : runs (.farMoveComplete stall before) s fun t =>
    Placed s t m ms { s.ent m.plane with level := .far, slot := 0, moving := false, poison := true } 0 ∧ PoisonNoted s t m := by
  have ⟨_, hmoves, _, hcmd, hexec⟩ := hans
  have hwf := tlyWf_of_memWf hmem
  let u := s.benchSettle.farPlaced m ms { s.ent m.plane with level := .far, slot := 0, moving := false, poison := true } 0
  have regs : u.regs = s.regs := farPlaced_regs s.benchSettle m ms _ 0
  have placed : Placed s (u.poisonNoted m) m ms _ 0 :=
    (farPlaced_placed hwf (u := s.benchSettle) rfl m ms _ 0).of_regs (u.poisonNoted_frame m)
  have hregs : SMap.wf Reg.resetWord u.regs = true := by rw [regs]; exact regsWf_of_memWf hmem
  have noted : PoisonNoted s (u.poisonNoted m) m := (poisonNoted_noted hregs m).of_start regs
  refine farMoveComplete_runs hans (.inl hqueue) ?_ placed ⟨placed, noted⟩
  rw [farStalled_empty hexec hqueue]
  exact farDone_aborted hmoves hcmd hbad

end

/-- A far move that is answered while the head waits, and cannot go on, counts the stall. -/
theorem farMove_stalled (hqueue : s.trs.queue ≠ []) (hoff : s.trsOn = false) (hok : m.code = .ok) :
    runs (.farMoveComplete stall before) s fun t => ∃ u e x, Placed s t m ms e x ∧ Stalled s u stall before ∧ t.regs = u.regs := by
  have ⟨_, hmoves, _, _, hexec⟩ := hans
  have stalled := farStalled_waiting (regsWf_of_memWf hmem) hexec hqueue stall before
  have moves : (s.farStalled stall before).tly.moves = m :: ms := by rw [stalled.frame]; exact hmoves
  obtain ⟨e, x, done⟩ : ∃ e x, (s.farStalled stall before).farDone = (s.farStalled stall before).farPlaced m ms e x := by
    cases hto : m.toFar with
    | true => exact ⟨_, _, farDone_stored moves hok hto⟩
    | false => exact ⟨_, _, farDone_fetched moves hok hto⟩
  have placed := farPlaced_placed (tlyWf_of_memWf hmem) stalled.frame m ms e x
  exact farMoveComplete_runs hans (.inr hoff) done placed ⟨_, e, x, placed, stalled, farPlaced_regs _ m ms e x⟩

end

end State

/-- Settles O39: a write is taken where no command waits; at its boundary a command is refused whole, is refused at each plane, or
finishes each plane at once; a far move that ends places its plane, poisoned where it aborted. -/
theorem tallyCommandsAreWrittenAndAct : Obligations.TallyCommandsAreWrittenAndAct := by
  intro s c m ms stall before hmem arg write writes ended onBoundary still isIn used ents gone mine pins fits all answered moved more
  have hwf := State.regsWf_of_memWf hmem
  refine ⟨?writes, fun hb hmode => ?deterministic, fun hb hmode h8 hrange => ?range, fun hb hmode h8 hws => ?workingSet,
    fun hb hstill hpins => ?pins, fun hb hstill hop hfits hall => ?pinB, fun hb hstill hop hfits hall => ?pinY,
    fun hb hstill hop => ?unpin, fun hb hstill hop hall => ?prefetch, fun hb hstill hop hall => ?spill, fun hb hstill hop hfar => ?adopt,
    fun hb hstill hfar hop => ?noFar, fun hb hstill hop => ?discard, fun hans hqueue => ⟨fun hok hto => ?stored, fun hok hto => ?fetched,
      fun hbad => ?aborted⟩, fun hans hqueue hoff hok => ?stalled, fun hnone => ?none⟩
  case writes =>
    have written {k : Instr} {op : Nat} (h : exec k s = .next (s.tlyCommand op)) := State.tlyCommand_written hwf h
    exact ⟨written rfl, written rfl, written rfl, written rfl, written rfl, written rfl, written rfl, written rfl⟩
  case deterministic =>
    exact State.boundary_refused hmem hb (State.tlyAct_deterministic (s := s.benchSettle) hmode c) (by omega) (by decide)
  case range =>
    exact State.boundary_refused hmem hb (State.tlyAct_range (s := s.benchSettle) hmode h8 hrange) (by omega) (by decide)
  case workingSet =>
    obtain ⟨i, hen, hpast⟩ := hws
    exact State.boundary_workingSet hmem hb (State.tlyAct_workingSet (s := s.benchSettle) hmode h8 hen hpast) h8
  case pins =>
    have hover : ¬s.tlyFits c (c.op == 1) := by
      rcases hpins with ⟨h, hno⟩ | ⟨h, hno⟩
      · rwa [h]
      · rwa [h]
    exact State.boundary_pinsOver hmem hb hstill (hpins.imp And.left And.left) hover
  case pinB => exact State.boundary_pinB hmem hb hstill hop hfits fun v hv => eq_of_beq (State.planes_all hall v hv)
  case pinY => exact State.boundary_pinY hmem hb hstill hop hfits fun v hv => by simpa using State.planes_all hall v hv
  case unpin => exact State.boundary_unpin hmem hb hstill hop
  case prefetch => exact State.boundary_prefetch hmem hb hstill hop fun v hv => by simpa using State.planes_all hall v hv
  case spill => exact State.boundary_spill_none hmem hb hstill hop fun v hv => by simpa using State.planes_all hall v hv
  case adopt => exact State.boundary_adopt hmem hb hstill hop hfar
  case noFar =>
    exact State.boundary_noFar hmem hb hstill hfar (hop.imp_right (.imp_right fun hall v hv => by simpa using State.planes_all hall v hv))
  case discard => exact State.boundary_discard hmem hb hstill hop
  case stored =>
    obtain ⟨t, next, placed, regs⟩ := State.farMove_stored hmem hans hqueue hok hto
    exact ⟨t, next, ⟨placed.frame, fun v hv => placed.other v hv⟩, regs, placed.ent, placed.plane⟩
  case fetched =>
    obtain ⟨t, next, placed, regs⟩ := State.farMove_fetched hmem hans hqueue hok hto
    exact ⟨t, next, ⟨placed.frame, fun v hv => placed.other v hv⟩, regs, placed.ent, placed.plane⟩
  case aborted =>
    obtain ⟨t, next, placed, noted⟩ := State.farMove_aborted hmem hans hqueue hbad
    exact ⟨t, next, ⟨placed.frame, fun v hv => placed.other v hv⟩, placed.plane, placed.ent, noted.count, noted.valid, noted.first⟩
  case stalled =>
    obtain ⟨t, next, u, e, x, placed, stalled, regs⟩ := State.farMove_stalled hmem hans hqueue hoff hok
    have fld := State.fld_of_regs regs
    exact ⟨t, next, ⟨placed.frame, fun v hv => placed.other v hv⟩, (fld _).trans stalled.inFrame, (fld _).trans stalled.last,
      (fld _).trans stalled.total⟩
  case none =>
    have idle : s.farAnswered = false := by simp [State.farAnswered, hnone]
    exact if_neg (by simp [idle])

end Sys2Proof.Machine
end
